-- ==== Sys2Proof/Word.lean ====
section
/-!
DEFINITION. The word and byte types, and the index types of the parts of the device.

Only types stand here: every bit-field or byte-order helper is in `Machine/Ops.lean`.
-/

namespace Sys2Proof

/-- A 32-bit register word of a berth window or of a Tug. -/
abbrev Word := BitVec 32

/-- One byte of memory or of a payload. -/
abbrev Byte := BitVec 8

/-- A berth, B0–B47 (R17). -/
abbrev BerthId := Fin 48

/-- A quay, Q0–Q5 (R17). -/
abbrev QuayId := Fin 6

/-- A Tug, T0–T51 (R17). -/
abbrev TugId := Fin 52

/-- A register number z0–z15 of a Zoade core (R267). -/
abbrev ZReg := Fin 16

/-- A 10 ns capture stamp (R35, R36, R261). -/
abbrev Stamp := Nat

end Sys2Proof
end

