-- ==== Sys2Proof/Syntax.lean ====
section
/-!
DEFINITION. The commands of the SKV-48 as a block: one constructor of `Instr` per row of the opcode table.

The table gives its rows no operands and no bits.  The operands are the model's (log entry 2): a command names the
part it acts on, carries the 10 ns stamp of an event that the outside world times, and carries what the device
measures or receives there (levels, samples, bytes).  The expiry of a timer carries no stamp: it takes effect at the
timer's own expiry stamp (R36).
-/

namespace Sys2Proof

/-- Who writes a register of a berth window: the berth's Tug or the Harbourmaster (R40, R101). -/
inductive Writer where
  | tug | harbour
  deriving DecidableEq, Repr

/-- The level codes of CC_STATUS and CC_LIVE (Table 2.11), in code order. -/
inductive CcLvl where
  | belowRa | rd | open_ | belowRd | rpDefault | rp15 | rp30 | notMeasured
  deriving DecidableEq, Repr

/-- The SOP kinds of Table 3.3. -/
inductive SopKind where
  | sop | sopP | sopPP
  deriving DecidableEq, Repr

/-- The two Xehus links. -/
inductive LinkId where
  | xla | xlb
  deriving DecidableEq, Repr

/-- The path a host command came by (R301, R327, R328). -/
inductive CmdPath where
  | link (l : LinkId) | tunnel | pilot
  deriving DecidableEq, Repr

/-- The path and the tag of a host command. -/
structure Origin where
  path : CmdPath
  tag  : Nat
  deriving DecidableEq, Repr

/-- A capture sample set as the quay sends it (R340): mV and mA. -/
structure CapSet where
  vbc  : Nat
  vbr  : Nat
  cur  : Int
  imon : Int
  deriving DecidableEq, Repr

/-- The supplies that a detector watches (Table 14.2). -/
inductive Supply where
  | vaon | vcore | vio | vq5 (q : QuayId) | vconnIn (q : QuayId) | vfuse | vbak
  deriving DecidableEq, Repr

/-- Who reads a Hold word (R438). -/
inductive HoldReader where
  | tug (t : TugId) | harbour | scrub
  deriving DecidableEq, Repr

/-- A stretch of time in 10 ns stamps over which a path or a VCONN switch limits its current, with VDS in mV, or does not
(R61, R190). -/
structure LimSeg where
  dur : Nat
  vds : Option Nat
  deriving DecidableEq, Repr

/-- The readings of the gate-drive and sense-offset test (R188): both gate-source voltages in mV, whether the charge pump
reached its regulated level, and the sense offset in units of 10 µV (PATH_TEST.OFFSET). -/
structure GateReadings where
  srcGate : Nat
  snkGate : Nat
  pumpOk  : Bool
  offset  : Int
  deriving DecidableEq, Repr

/-- What the quay measures of one berth over one Tide (R258, Tables 6.11, 7.13, 7.14, 8.10). -/
structure BerthSample where
  /-- mV. -/
  vbc : Nat := 0
  vbr : Nat := 0
  /-- mA. -/
  ipath : Int := 0
  imon : Int := 0
  /-- mV. -/
  cc1 : Nat := 0
  cc2 : Nat := 0
  /-- 0.1 mA. -/
  vconnI : Nat := 0
  /-- mV. -/
  tmon : Nat := 0
  /-- Inputs all of whose samples were blanked (R258). -/
  stale : Byte := 0
  /-- The stretches of the path's and of the VCONN switch's limiting, from the last account of them to the boundary (R61,
  R190). -/
  path : List LimSeg := []
  vconn : List LimSeg := []
  /-- The bytes of header and data that the PHY decoded in the Tide of a message still arriving at its end (R88). -/
  rx : List Byte := []
  /-- IMON in µV about the stage's reference level at the sample of R210, where one was taken in the Tide. -/
  zero : Int := 0
  /-- Switching cycles, their mean frequency in kHz, the longest run at the minimum off-time (Table 7.14). -/
  cycles : Nat := 0
  fsw : Nat := 0
  offMin : Nat := 0
  /-- Light-load operation was seen (R215). -/
  dem : Bool := false
  /-- VREF_NOW in mV where the hold limit has set it, and whether the mean of IMON still exceeds HOLD_ILIM (R227). -/
  hold : Nat := 0
  above : Bool := false
  /-- The capture sample sets of the Tide, in order; none where a set did not arrive (R340). -/
  sets : List (Option CapSet) := []
  deriving DecidableEq, Repr

/-- What a quay measures over one Tide (R256, Table 8.6). -/
structure QuaySample where
  /-- Qq_VINS, mV. -/
  vins : Nat := 0
  /-- Qq_SNKS, mV. -/
  snks : Nat := 0
  /-- Quay die, 0.1 °C. -/
  temp : Int := 0
  deriving DecidableEq, Repr

/-- What the device measures over the Tide that a boundary ends. -/
structure TideInput where
  berths : Vector BerthSample 48
  quays  : Vector QuaySample 6
  /-- Harbour die, 0.1 °C. -/
  temp   : Int
  deriving DecidableEq, Repr

/-- The readings of the pass-transistor test of Table 6.6 (mV). -/
structure PassReadings where
  /-- Step 0 ran and VBR entered 4.75–5.50 V within 1 ms; without step 0 it is not read. -/
  ready : Bool
  /-- The two gate-source voltages of step 1, mV. -/
  srcGate : Nat
  snkGate : Nat
  vbc1 : Nat
  vbr1 : Nat
  snks1 : Nat
  vbc2 : Nat
  vbr2 : Nat
  snks2 : Nat
  deriving DecidableEq, Repr

/-- A fuse bit that does not read good after its first pulse (R423): the pulses of one burn after which it still reads 0 at
tight margin; `dead` when it reads 0 at normal margin as well. -/
structure BurnBit where
  bit  : Fin 32
  weak : Nat
  dead : Bool
  deriving DecidableEq, Repr
/-- What a Xehus receiver finds of something that it does not accept as a frame (R291). -/
inductive Received where
  /-- Header and payload with the CRC that followed them. -/
  | checked (body : List Byte) (crc : Word)
  /-- A code violation or disparity error, in a frame or outside one. -/
  | violation
  /-- Characters between SOF and EOF, with the LENGTH of the header. -/
  | counted (chars length : Nat)
  /-- A good frame by its TYPE. -/
  | typed (type : BitVec 4)
  /-- No EOF after a number of characters since SOF. -/
  | endless (chars : Nat)
  deriving DecidableEq, Repr

/-- What the byte logic of the two-wire target sees on the bus (R368): a START, a STOP, a clock of SCL with the level that the
controller leaves on SDA. -/
inductive BusEvent where
  | start
  | stop
  | clock (sda : Bool)
  deriving DecidableEq, Repr


/-- The commands, one constructor per row of the opcode table, in the table's order. -/
inductive Instr where
  /-- TIDE_BOUNDARY (R21): At every 25 µs Tide boundary the berths latch state, apply accepted commits, TIDE_COUNT and ROUND_PHASE increment, and Tugs start cycle 0. -/
  | tideBoundary (inp : TideInput)
  /-- SNAPSHOT_DELIVERY (R22): A berth's 64-byte latched snapshot arrives over the gangway within 3 µs of the boundary and releases stalled Tug reads. -/
  | snapshotDelivery (b : BerthId)
  /-- TUG_SUSPEND (R24): At Tug cycle 9,000 a Tug that has not moored is suspended and counts as spilled. -/
  | tugSuspend (t : TugId)
  /-- MIRROR_SEAL (R28): The mirror unit flushes the Tug's mirrored region and writes the copy header and SEAL by cycle 9,950. -/
  | mirrorSeal (t : TugId)
  /-- TIDE_OVERRUN (R26): At the fifth consecutive spilled Tide the device raises TIDE_OVERRUN, rebinds the berth to a spare Tug and starts the core test. -/
  | tideOverrun (t : TugId)
  /-- ALLOCATION_ROUND_START (R138): At the boundary where ROUND_PHASE becomes 0 the allocator samples its inputs and posted Requests. -/
  | allocationRoundStart
  /-- GRANT_COMMIT (R143): At the round-end boundary the allocator commits decisions, offers, shares and ceilings with a new GRANT_SEQ. -/
  | grantCommit
  /-- TIDE_IN_PULSE (R33): A follower classifies a TIDE_IN pulse, takes its boundary 40 ns later, repeats it on TIDE_OUT and resets counts on round or epoch pulses. -/
  | tideInPulse (widthNs intervalNs : Nat)
  /-- TIDE_SYNC_LOST (R34): No pulse within 25.025 µs or an interval out of range makes the follower run from its own clock and set TIDE_SYNC_LOST. -/
  | tideSyncLost
  /-- GANGWAY_FRAME_DISCARD (R42): A gangway frame with a bad CRC is discarded, retransmitted and counted, and starts the lane test. -/
  | gangwayFrameDiscard (q : QuayId) (lane : Fin 4) (late : Option BerthId)
  /-- TIDE_STROBE_MISSED (R43): A quay with no valid strobe by 25.1 µs counts a miss and continues its Tide from its own oscillator. -/
  | tideStrobeMissed (q : QuayId)
  /-- HARBOUR_LESS_ENTRY (R44): After 5 consecutive missed strobes the quay enters harbour-less mode and moves every berth to the fallback service. -/
  | harbourLessEntry (q : QuayId) (at_ : Stamp)
  /-- HARBOUR_LESS_RELEASE (R455): After gangway training and lane tests the quay is released at a round boundary, its Tugs enter cold and QUAY_LOST is reported. -/
  | harbourLessRelease (q : QuayId) (at_ : Stamp)
  /-- GANGWAY_RETRAIN_ATTEMPT (R454): Every 10 ms the Harbourmaster attempts to train the gangway of a harbour-less quay. -/
  | gangwayRetrainAttempt (q : QuayId) (trained : Bool)
  /-- CC_LEVEL_CHANGE (R48): A change of CC level starts or stops the CC sequencer's debounces and level-triggered transitions at its stamp. -/
  | ccLevelChange (b : BerthId) (at_ : Stamp) (cc1 cc2 : CcLvl)
  /-- CC_DEBOUNCE_EXPIRY (R48): tCCDebounce expires with the partner still seen, and the berth enters its attached or Try state. -/
  | ccDebounceExpiry (b : BerthId)
  /-- PD_DEBOUNCE_EXPIRY (R71): tPDDebounce expires with the partner gone, and the berth detaches or returns to Unattached. -/
  | pdDebounceExpiry (b : BerthId)
  /-- SINK_DETACH (R72): VBC falling below 3.67 V opens the sink path and ends Attached.SNK unless VBUS removal is expected. -/
  | sinkDetach (b : BerthId) (at_ : Stamp)
  /-- ERROR_RECOVERY_EXPIRY (R48): tErrorRecovery elapses and the berth enters Unattached of its role. -/
  | errorRecoveryExpiry (b : BerthId)
  /-- INSERTION_DELAY_EXPIRY (R57): The insertion delay after an attach as source ends and the source-path close case arises. -/
  | insertionDelayExpiry (b : BerthId)
  /-- DRP_TOGGLE_SWITCH (R58): A DRP berth's toggle schedule switches it between the Rp and Rd phases at a Tide boundary. -/
  | drpToggleSwitch (b : BerthId)
  /-- DRP_TRY_EXPIRY (R53): tDRPTry elapses in a Try state and the berth judges the CC levels seen. -/
  | drpTryExpiry (b : BerthId)
  /-- TRY_DEBOUNCE_EXPIRY (R53): tTryCCDebounce expires in Try or TryWait and the berth attaches or moves to TryWait. -/
  | tryDebounceExpiry (b : BerthId)
  /-- TRY_WAIT_EXPIRY (R53): tDRPTryWait elapses in TryWait.SRC with no Rd and the berth returns to Unattached. -/
  | tryWaitExpiry (b : BerthId)
  /-- TRY_TIMEOUT (R53): tTryTimeout elapses in Try.SRC and the berth moves to TryWait.SNK. -/
  | tryTimeout (b : BerthId)
  /-- ACCESSORY_SEEN (R55): Ra or Rd on both CC wires held for tCCDebounce sets ACC_SEEN and raises an accessory ATTACH event. -/
  | accessorySeen (b : BerthId)
  /-- ACCESSORY_ENDED (R55): The accessory combination unseen for tPDDebounce clears ACC, raises DETACH and restarts toggling. -/
  | accessoryEnded (b : BerthId)
  /-- BACKFEED_CLEAR (R53): VBC below vSafe0V for 100 ms moves a BackFeed berth to Unattached of its role. -/
  | backfeedClear (b : BerthId)
  /-- BACKFEED_DETECT (R68): VBC held at or above 0.80 V for 650 ms with both paths off runs the pass-transistor test, leading to BackFeed or LockedOut. -/
  | backfeedDetect (b : BerthId)
  /-- CC_OVER_VOLTAGE (R74): A CC wire above 6.00 V isolates the front end within 1 µs, opens both paths and enters CcFault. -/
  | ccOverVoltage (b : BerthId) (at_ : Stamp)
  /-- CC_OV_CLEAR (R74): Both CC below 5.50 V for 100 ms ends CcFault to ErrorRecovery, or restores terminations in Held, Disabled or LockedOut. -/
  | ccOvClear (b : BerthId) (since : Stamp)
  /-- VCONN_FAULT_TIMER_EXPIRY (R61): The VCONN fault timer reaches TFLT, the switch opens, VCONN_LATCH is set and a VCONN_OC FAULT is recorded. -/
  | vconnFaultTimerExpiry (b : BerthId) (at_ : Stamp) (segs : List LimSeg)
  /-- VCONN_SWITCHOVER (R62): VCONN_IN below 4.60 V switches the quay's VCONN supply to VQ5 without opening any switch. -/
  | vconnSwitchover (q : QuayId)
  /-- VCONN_SUPPLY_RETURN (R62): VCONN_IN above 4.80 V for 10 ms switches the quay's VCONN supply back to VCONN_IN. -/
  | vconnSupplyReturn (q : QuayId)
  /-- CC_CFG_WRITE (R50): A CC_CFG write is held with CFG_PENDING until a boundary at which the berth is in Held, Disabled, ErrorRecovery or Unattached. -/
  | ccCfgWrite (w : Writer) (b : BerthId) (v : Word)
  /-- CC_TIME_WRITE (R50): A CC_TIME_0–2 write is clamped under R56 and R57 and held until the berth is in a state that takes it. -/
  | ccTimeWrite (w : Writer) (b : BerthId) (i : Fin 3) (v : Word)
  /-- CC_RP_WRITE (R51): A CC_RP lowering applies at the next boundary, a raise only through a GRANT COMMIT, and writes during a contract are held. -/
  | ccRpWrite (w : Writer) (b : BerthId) (v : Word)
  /-- VCONN_CFG_WRITE (R61): A VCONN_CFG write is clamped and applies at the next Tide boundary. -/
  | vconnCfgWrite (w : Writer) (b : BerthId) (v : Word)
  /-- ERROR_RECOVERY (R52): CC_CMD.ERROR_RECOVERY enters ErrorRecovery at the next boundary, except in states that ignore it. -/
  | errorRecovery (w : Writer) (b : BerthId)
  /-- VCONN_OFF (R52): CC_CMD.VCONN_OFF removes VCONN at the next Tide boundary. -/
  | vconnOff (w : Writer) (b : BerthId)
  /-- VCONN_REARM (R52): CC_CMD.VCONN_REARM clears VCONN_LATCH and reapplies VCONN in Attached.SRC with Ra still present. -/
  | vconnRearm (w : Writer) (b : BerthId)
  /-- SWAP_TO_RD (R157): CC_CMD.SWAP_TO_RD changes Rp to Rd and Attached.SRC to Attached.SNK, accepted only in PR_SRC_OFF with VBC_SAFE0. -/
  | swapToRd (w : Writer) (b : BerthId)
  /-- SWAP_TO_RP (R157): CC_CMD.SWAP_TO_RP changes Rd to Rp and Attached.SNK to Attached.SRC, accepted only in PR_SNK_ON or FRS_SOURCING. -/
  | swapToRp (w : Writer) (b : BerthId)
  /-- RELEASE (R65): The Harbourmaster sets CC_GATE.RELEASE and the berth leaves Held for its role, or goes to Disabled. -/
  | release (w : Writer) (b : BerthId)
  /-- SOP_DETECTED (R89): The start of an incoming SOP* ends TOKEN_RX currency, discards an unstarted transmission and reserves FIFO room or marks overflow. -/
  | sopDetected (b : BerthId) (at_ : Stamp) (k : SopKind)
  /-- MESSAGE_END (R79): At a received message's EOP the PHY checks CRC, MessageID and fit, sends GoodCRC and writes the end mark. -/
  | messageEnd (b : BerthId) (at_ : Stamp) (crcOk : Bool) (hdr : BitVec 16) (data : List Byte)
  /-- TRANSMISSION_END (R82): A transmission reaches its EOP and tReceive starts for its GoodCRC. -/
  | transmissionEnd (b : BerthId) (at_ : Stamp)
  /-- GOODCRC_RECEIVED (R82): The partner's GoodCRC with the expected MessageID confirms the transmission, issues TOKEN_TX and starts any named timer. -/
  | goodcrcReceived (b : BerthId) (at_ : Stamp) (id : BitVec 3)
  /-- TRECEIVE_EXPIRY (R82): tReceive elapses without GoodCRC and the PHY retries, or marks the transmission FAILED after the last retry. -/
  | treceiveExpiry (b : BerthId)
  /-- RESPONSE_TIMER_EXPIRY (R84): A response timer of R84 expires and sets TMR_EXPIRED. -/
  | responseTimerExpiry (b : BerthId)
  /-- SOURCE_CAPS_REPEAT_EXPIRY (R84): The Source_Capabilities repeat timer started after a failed Source_Capabilities expires. -/
  | sourceCapsRepeatExpiry (b : BerthId)
  /-- SRC_TRANSITION_EXPIRY (R84): tSrcTransition expires, letting the voltage change proceed or moving PR_SRC_TRANS to PR_SRC_OFF. -/
  | srcTransitionExpiry (b : BerthId)
  /-- SINK_TX_EXPIRY (R85): tSinkTx elapses after SinkTxNG and the held berth-initiated transmission is released. -/
  | sinkTxExpiry (b : BerthId)
  /-- HARD_RESET_SENT (R106): The berth's Hard Reset ordered set ends, the epoch increments and the Hard Reset sequence starts. -/
  | hardResetSent (b : BerthId) (at_ : Stamp)
  /-- HARD_RESET_RECEIVED (R106): A received Hard Reset ordered set ends current messages, writes a HARD_RESET mark and starts the Hard Reset sequence. -/
  | hardResetReceived (b : BerthId) (at_ : Stamp) (data : List Byte)
  /-- PS_HARD_RESET_EXPIRY (R106): tPSHardReset elapses, and the source path opens with the regulator to standby, discharge on and VCONN off. -/
  | psHardResetExpiry (b : BerthId)
  /-- SRC_RECOVER_EXPIRY (R106): tSrcRecover elapses after discharge and the source path closes again without insertion delay. -/
  | srcRecoverExpiry (b : BerthId)
  /-- SINK_HARD_RESET_TIMEOUT (R107): VBC not back by t0 + 1,960 ms after a Hard Reset ends Attached.SNK as detached. -/
  | sinkHardResetTimeout (b : BerthId)
  /-- COMMIT (R95): A COMMIT write is checked against token, outcome, ceilings and masks, and is accepted for the next boundary or refused with a reason. -/
  | commit (w : Writer) (b : BerthId) (v : Word)
  /-- PHY_CFG_WRITE (R114): A PHY_CFG write is held with CFG_PENDING until the boundary of the berth's next accepted COMMIT. -/
  | phyCfgWrite (w : Writer) (b : BerthId) (v : Word)
  /-- PHY_TIME_WRITE (R83): A protocol-timer write is clamped and applies to timers started after its boundary. -/
  | phyTimeWrite (w : Writer) (b : BerthId) (i : Fin 3) (v : Word)
  /-- TX_CTRL_WRITE (R98): A TX_CTRL write arms transmit buffers or disarms them, counting each disarm unsent. -/
  | txCtrlWrite (w : Writer) (b : BerthId) (v : Word)
  /-- RX_DATA_READ (R88): A read of RX_DATA returns and removes the oldest receive-FIFO entry. -/
  | rxDataRead (b : BerthId)
  /-- HARD_RESET (R105): PHY_CMD.HARD_RESET sends a Hard Reset at the next boundary, or is refused at HR_COUNT 3. -/
  | hardReset (w : Writer) (b : BerthId)
  /-- CABLE_RESET (R109): PHY_CMD.CABLE_RESET sends a Cable Reset while the berth is DFP and VCONN source. -/
  | cableReset (w : Writer) (b : BerthId)
  /-- FLUSH_RX (R88): PHY_CMD.FLUSH_RX empties the receive FIFO at once. -/
  | flushRx (w : Writer) (b : BerthId)
  /-- CANCEL_TX (R87): PHY_CMD.CANCEL_TX discards a committed transmission whose preamble has not begun. -/
  | cancelTx (w : Writer) (b : BerthId)
  /-- OVF_CLEAR (R111): Writing 1 to a counter's OVF bit clears it and zeroes the counter. -/
  | ovfClear (w : Writer) (b : BerthId) (off : BitVec 12) (v : Word)
  /-- COMMAND_FIFO_START (R103): A waiting host command starts at the first boundary with AMS_ACTIVE and HR_ACTIVE clear. -/
  | commandFifoStart (b : BerthId)
  /-- COMMAND_FIFO_TIMEOUT (R103): A command waiting 2 s in the berth's FIFO completes with E_TIMEOUT. -/
  | commandFifoTimeout (b : BerthId)
  /-- DECISION_WINDOW_END (R130): A decision window ends undecided and the table default is stored. -/
  | decisionWindowEnd (b : BerthId) (k : BitVec 16)
  /-- DECISION_LAPSE (R130): A stored outcome lapses 2 s after its window ended. -/
  | decisionLapse (b : BerthId) (at_ : Stamp)
  /-- RESERVATION_EXPIRY (R140): A granted raise's reservation of C_b ends after 2 s without a published contract. -/
  | reservationExpiry (b : BerthId)
  /-- OFFER_CHANGE_CAPABILITIES (R145): A berth with OFFER_CHANGED sends new capabilities at the first Tide with no AMS open, after the 100 ms spacing where required. -/
  | offerChangeCapabilities (b : BerthId)
  /-- EPR_KEEPALIVE_TIMEOUT (R134): tSourceEPRKeepAlive expires in EPR mode and the source berth sends Hard Reset. -/
  | eprKeepaliveTimeout (b : BerthId)
  /-- SINK_EPR_KEEPALIVE (R134): tSinkEPRKeepAlive elapses and a sink in EPR mode sends EPR_KeepAlive. -/
  | sinkEprKeepalive (b : BerthId)
  /-- EMERGENCY_GRACE_EXPIRY (R148): The emergency grace ends and a berth above its share sets its hold limit to share ÷ contract voltage. -/
  | emergencyGraceExpiry (b : BerthId)
  /-- EMERGENCY_HOLD_TO_HR (R148): HOLD_TO_HR elapses with the berth still in hold and the emergency persisting, and the berth sends Hard Reset. -/
  | emergencyHoldToHr (b : BerthId)
  /-- PS_SOURCE_OFF_EXPIRY (R161): tPSSourceOff expires in PR_SNK_WAIT or FRS_SOURCING and the berth enters ErrorRecovery. -/
  | psSourceOffExpiry (b : BerthId)
  /-- PS_SOURCE_ON_EXPIRY (R161): tPSSourceOn expires in PR_SRC_WAIT and the berth enters ErrorRecovery. -/
  | psSourceOnExpiry (b : BerthId)
  /-- VCONN_SOURCE_TIMEOUT (R161): tVCONNSourceTimeout expires in a VCONN_Swap phase and the berth sends Hard Reset. -/
  | vconnSourceTimeout (b : BerthId)
  /-- SWAP_SOURCE_START_EXPIRY (R160): tSwapSourceStart elapses after the swap's PS_RDY and Source_Capabilities is committed. -/
  | swapSourceStartExpiry (b : BerthId)
  /-- SWAP_RETRY_AFTER_WAIT (R155): 100 ms after a partner's Wait is confirmed the berth sends its swap again, up to 4 tries. -/
  | swapRetryAfterWait (b : BerthId)
  /-- VCONN_ON (R157): SWAP_CMD.VCONN_ON in VC_ON connects VCONN to the unmonitored CC at the next boundary. -/
  | vconnOn (w : Writer) (b : BerthId)
  /-- FRS_SIGNAL_QUALIFIED (R166): The monitored CC below 0.49 V for 50 µs while armed sets FRS_DETECTED and pulls the sink gate down. -/
  | frsSignalQualified (b : BerthId) (at_ : Stamp)
  /-- FRS_SIGNAL_TOO_LONG (R166): CC still below 0.49 V 150 µs after it fell is treated as a detach. -/
  | frsSignalTooLong (b : BerthId) (at_ : Stamp)
  /-- FRS_SOURCE_TURN_ON (R167): At the later of the signal's end and VBC below 4.75 V the quay closes the source path at full strength, or refuses it under R169. -/
  | frsSourceTurnOn (b : BerthId) (at_ : Stamp) (vbrMv : Nat)
  /-- DISCOVERY_START (R172): In the first Tide with no AMS open after a DFP berth publishes a contract, discovery of identity, SVIDs and modes begins. -/
  | discoveryStart (b : BerthId)
  /-- VDM_RESPONSE_TIMEOUT (R175): A structured VDM request's 27 ms timer expires without a response. -/
  | vdmResponseTimeout (b : BerthId)
  /-- VDM_BUSY_RESEND (R175): 50 ms after a BUSY response the VDM request is sent again, up to 3 times. -/
  | vdmBusyResend (b : BerthId)
  /-- MUX_CFG_WRITE (R178): A MUX_CFG write is held until a boundary at which the outputs are USB-safe. -/
  | muxCfgWrite (w : Writer) (b : BerthId) (v : Word)
  /-- SWAP_TIME_WRITE (R158): A SWAP_TIME write is clamped to its ranges. -/
  | swapTimeWrite (w : Writer) (b : BerthId) (v : Word)
  /-- SOURCE_PATH_CLOSE (R182): A close case waiting in OFF is taken when VIN_OK, VBR_SAFE5 and no crowbar latch all hold. -/
  | sourcePathClose (b : BerthId) (at_ : Stamp) (vbrMv : Nat)
  /-- RAMP_COMPLETE (R184): VBC within 0.25 V of VBR for 50 µs ends the ramp and the path enters SRC_ON. -/
  | rampComplete (b : BerthId) (at_ : Stamp)
  /-- INRUSH_TIMEOUT (R185): INRUSH_TO elapses with the ramp incomplete and the path trips with LIMIT_TIMEOUT. -/
  | inrushTimeout (b : BerthId)
  /-- SINK_REVERSE_CURRENT (R186): Path current above +0.25 A for 20 µs opens the sink path. -/
  | sinkReverseCurrent (b : BerthId) (at_ : Stamp)
  /-- SINK_OVER_VOLTAGE (R186): VBC above the W0 upper threshold for 2 µs opens the sink path. -/
  | sinkOverVoltage (b : BerthId) (at_ : Stamp)
  /-- FAST_TRIP (R187): Path current reaching FAST_THR pulls the source gate down within 1 µs and the path enters TRIPPED. -/
  | fastTrip (b : BerthId) (at_ : Stamp)
  /-- GATE_DRIVE_TEST_DONE (R188): The gate-drive and sense-offset test ends; a pass returns the path to OFF with ErrorRecovery, a fail or third trip locks it. -/
  | gateDriveTestDone (b : BerthId) (at_ : Stamp) (r : GateReadings)
  /-- FAULT_TIMER_EXPIRY (R190): A limiting path's rate-scaled fault timer reaches TFLT and the path trips with LIMIT_TIMEOUT. -/
  | faultTimerExpiry (b : BerthId) (at_ : Stamp) (segs : List LimSeg)
  /-- VIN_UV_FILTER (R196): VIN_BUS below UV for 50 µs aborts every ramp of the quay and restarts its insertion delay. -/
  | vinUvFilter (q : QuayId) (at_ : Stamp)
  /-- VIN_UV_SUSTAINED (R197): VIN_BUS below UV for UV_TIME opens every source path of the quay and records VIN_UV. -/
  | vinUvSustained (q : QuayId) (at_ : Stamp)
  /-- VIN_OV (R198): VIN_BUS above OV for 2 µs opens every source path of the quay and stops its regulators. -/
  | vinOv (q : QuayId) (at_ : Stamp)
  /-- VIN_OK_RESTORED (R195): Qq_VINS inside the window for 10 ms sets VIN_OK again. -/
  | vinOkRestored (q : QuayId) (at_ : Stamp)
  /-- DISCHARGE_COMPLETE (R199): VBC falling below 0.80 V turns discharge off. -/
  | dischargeComplete (b : BerthId) (at_ : Stamp)
  /-- DISCHARGE_TIMEOUT (R199): VBC still at or above 0.80 V 650 ms after discharge began turns DIS off and runs the pass-transistor test. -/
  | dischargeTimeout (b : BerthId)
  /-- PASS_TRANSISTOR_TEST_DONE (R201): The pass-transistor test ends and locks a shorted pair, or returns the path to OFF, or holds BackFeed when inconclusive. -/
  | passTransistorTestDone (b : BerthId) (at_ : Stamp) (r : PassReadings)
  /-- PATH_TEST_RUN (R200): PATH_TEST.RUN starts the pass-transistor test when the path is OFF and the berth is not attached. -/
  | pathTestRun (w : Writer) (b : BerthId)
  /-- SRC_OPEN (R20): PATH_SAFE.SRC_OPEN opens the source path at the next boundary without a token. -/
  | srcOpen (w : Writer) (b : BerthId)
  /-- SNK_OPEN (R20): PATH_SAFE.SNK_OPEN opens the sink path at the next boundary without a token. -/
  | snkOpen (w : Writer) (b : BerthId)
  /-- DIS_ON (R199): PATH_SAFE.DIS_ON turns discharge on at the next boundary when both pairs are off. -/
  | disOn (w : Writer) (b : BerthId)
  /-- LOWER_ILIM (R206): PATH_SAFE.LOWER_ILIM lowers the closed path's current limit to ILIM_NEW, ignoring raises. -/
  | lowerIlim (w : Writer) (b : BerthId) (n : BitVec 10)
  /-- VIN_WIN_WRITE (R207): The Harbourmaster writes a quay's VIN_WIN or VIN_TIME, taking effect at the next boundary. -/
  | vinWinWrite (q : QuayId) (time : Bool) (v : Word)
  /-- SOFTSTART_COMPLETE (R220): VREF_NOW reaches the target in SOFTSTART and the regulator enters REGULATE. -/
  | softstartComplete (b : BerthId) (at_ : Stamp)
  /-- SLEW_COMPLETE (R217): VREF_NOW reaches the committed target and the regulator leaves SLEW. -/
  | slewComplete (b : BerthId) (at_ : Stamp)
  /-- HOLD_ENGAGE (R227): The cycle-mean stage current exceeds HOLD_ILIM and the regulator lowers VREF_NOW into HOLD. -/
  | holdEngage (b : BerthId) (at_ : Stamp)
  /-- HOLD_RELEASE (R227): The mean current falls below HOLD_ILIM and the regulator returns to REGULATE or SLEW. -/
  | holdRelease (b : BerthId) (at_ : Stamp)
  /-- HICCUP_ENTRY (R229): HIC_N consecutive current-limited cycles put the regulator in HICCUP, or in LATCHED after HIC_M retries. -/
  | hiccupEntry (b : BerthId) (at_ : Stamp)
  /-- HICCUP_TIME_EXPIRY (R229): HIC_TIME elapses and the regulator soft-starts toward its committed target. -/
  | hiccupTimeExpiry (b : BerthId)
  /-- HIC_COUNT_CLEAR (R229): HIC_COUNT clears after 1 s with no hiccup entry. -/
  | hicCountClear (b : BerthId)
  /-- INTEGRATOR_SATURATION (R214): TRIM held at a bound for 40 consecutive Tides sets INT_SAT. -/
  | integratorSaturation (b : BerthId)
  /-- SETTLE_TIMEOUT (R225): TSETTLE expires before WIN_COUNT reaches 4 and SETTLE_TIMEOUT is set. -/
  | settleTimeout (b : BerthId)
  /-- CROWBAR_TRIP (R232): VBR above the crowbar threshold for 200 ns latches the crowbar, drives PWM low and opens the source path. -/
  | crowbarTrip (b : BerthId) (at_ : Stamp)
  /-- CROWBAR_CLEAR_CHECK (R233): 10 ms after the regulator check starts, VBR outside the standby window records STAGE_FLT and fails the clear. -/
  | crowbarClearCheck (b : BerthId) (vbrMv : Nat)
  /-- DROPOUT_SET (R234): More than 8 consecutive minimum off-times set DROPOUT and freeze TRIM and k_fll. -/
  | dropoutSet (b : BerthId)
  /-- STAGE_FAULT (R237): FLT_N low for 1 µs stops the stage, opens the source path and records STAGE_FLT. -/
  | stageFault (b : BerthId) (at_ : Stamp)
  /-- STAGE_FAULT_RELEASE (R237): FLT_N high with HIC_TIME elapsed soft-starts the regulator toward standby. -/
  | stageFaultRelease (b : BerthId) (at_ : Stamp)
  /-- THERMAL_STOP (R237): TMON beyond W9's upper threshold for 100 µs stops the stage and records THERMAL. -/
  | thermalStop (b : BerthId) (at_ : Stamp)
  /-- THERMAL_RELEASE (R237): TMON within W9's lower threshold for 1 s soft-starts the regulator toward standby. -/
  | thermalRelease (b : BerthId) (at_ : Stamp)
  /-- REG_CFG_WRITE (R238): A REG_CFG write is held until the regulator is IDLE or at standby. -/
  | regCfgWrite (w : Writer) (b : BerthId) (v : Word)
  /-- REG_WIN_WRITE (R238): A REG_WIN write is clamped and takes effect at the next boundary. -/
  | regWinWrite (w : Writer) (b : BerthId) (v : Word)
  /-- STANDBY (R221): REG_SAFE.STANDBY sets the target to standby, except while IDLE. -/
  | standby (w : Writer) (b : BerthId)
  /-- IDLE (R238): REG_SAFE.IDLE puts the regulator in IDLE when the source path is OFF. -/
  | idle (w : Writer) (b : BerthId)
  /-- LOWER_HOLD (R228): REG_SAFE.LOWER_HOLD lowers HOLD_ILIM to HOLD_NEW, ignoring raises. -/
  | lowerHold (w : Writer) (b : BerthId) (n : BitVec 10)
  /-- COMPARATOR_EDGE (R246): An unblanked comparator output change is stamped, drives its hardware consumers, and updates stamps, counts and events. -/
  | comparatorEdge (b : BerthId) (c : Fin 27) (on : Bool) (at_ : Stamp)
  /-- BLANKING_END (R248): A blanking interval ends and an output that changed meanwhile becomes an edge stamped at the end. -/
  | blankingEnd (b : BerthId) (c : Fin 27) (on : Bool) (at_ : Stamp)
  /-- UNEXPECTED_EDGE (R252): The ADC sample after an edge contradicts it, or a protection trips, and a targeted comparator test is queued. -/
  | unexpectedEdge (b : BerthId) (c : Fin 27) (sample : Nat) (at_ : Stamp)
  /-- AUDIT_PACER (R251): Every 50 ms the quay's pacer selects the next comparator for the rolling audit. -/
  | auditPacer (q : QuayId)
  /-- COMPARATOR_TEST_START (R250): At an AUDIT slot a pending comparator test starts and the stand-in takes the duty. -/
  | comparatorTestStart (q : QuayId)
  /-- COMPARATOR_TEST_DONE (R253): A comparator test ends; a fail fences the comparator and may lock the path. -/
  | comparatorTestDone (q : QuayId) (l : Fin 8) (wide : Bool) (inverts near at20 at80 : Bool)
  /-- MON_TEST_RUN (R252): MON_TEST.RUN queues a targeted test of the selected comparator. -/
  | monTestRun (w : Writer) (b : BerthId) (sel : BitVec 5)
  /-- MON_THRESHOLD_WRITE_IGNORED (R243): A Tug write to a threshold without a Tug source is ignored and counted as discarded. -/
  | monThresholdWriteIgnored (b : BerthId) (n : Fin 10) (low : Bool) (v : Word)
  /-- BERTH_PARK (R254): A berth 10 s in Disabled or Unattached with PARK_EN set is parked and its domain switched off. -/
  | berthPark (b : BerthId)
  /-- BERTH_WAKE (R254): An AttachWait move, VBUS detection, CC over-voltage, BERTH_ENABLE or PARK_EN cleared powers the berth domain again. -/
  | berthWake (b : BerthId) (at_ : Stamp)
  /-- PARK_EN_WRITE (R254): The Harbourmaster writes MON_WAKE.PARK_EN for a berth. -/
  | parkEnWrite (b : BerthId) (en : Bool)
  /-- SEQ_ENTRY_WRITE (R257): The Harbourmaster writes the slot-sequencer table, applied at the next boundary or refused. -/
  | seqEntryWrite (q : QuayId) (table : Vector Word 32)
  /-- GP0_START (R262): GP_CTRL.GP0_START starts or restarts GP0 at the next boundary. -/
  | gp0Start (w : Writer) (b : BerthId)
  /-- GP0_STOP (R262): GP_CTRL.GP0_STOP stops GP0 at the next boundary. -/
  | gp0Stop (w : Writer) (b : BerthId)
  /-- GP1_START (R262): GP_CTRL.GP1_START starts or restarts GP1 at the next boundary. -/
  | gp1Start (w : Writer) (b : BerthId)
  /-- GP1_STOP (R262): GP_CTRL.GP1_STOP stops GP1 at the next boundary. -/
  | gp1Stop (w : Writer) (b : BerthId)
  /-- GP_TIMER_EXPIRY (R262): A general-purpose berth timer expires and sets its TMR_EXP bit. -/
  | gpTimerExpiry (b : BerthId) (gp1 : Bool)
  /-- ADDI (R267): Adds a sign-extended immediate to RA. -/
  | zAddi (t : TugId) (rd ra : ZReg) (imm : BitVec 18)
  /-- ANDI (R267): ANDs RA with a zero-extended immediate. -/
  | zAndi (t : TugId) (rd ra : ZReg) (imm : BitVec 18)
  /-- ORI (R267): ORs RA with a zero-extended immediate. -/
  | zOri (t : TugId) (rd ra : ZReg) (imm : BitVec 18)
  /-- XORI (R267): Exclusive-ORs RA with a zero-extended immediate. -/
  | zXori (t : TugId) (rd ra : ZReg) (imm : BitVec 18)
  /-- CMPI (R267): Compares RA with a sign-extended immediate, setting NZCV. -/
  | zCmpi (t : TugId) (rd ra : ZReg) (imm : BitVec 18)
  /-- MOVI (R267): Loads a sign-extended immediate into RD. -/
  | zMovi (t : TugId) (rd ra : ZReg) (imm : BitVec 18)
  /-- MOVH (R267): Writes a 16-bit immediate into RD's upper half. -/
  | zMovh (t : TugId) (rd : ZReg) (zero : BitVec 6) (imm : BitVec 16)
  /-- LDW (R264): Loads an aligned word from memory. -/
  | zLdw (t : TugId) (rd ra : ZReg) (imm : BitVec 18)
  /-- LDH (R264): Loads a sign-extended halfword. -/
  | zLdh (t : TugId) (rd ra : ZReg) (imm : BitVec 18)
  /-- LDHU (R264): Loads a zero-extended halfword. -/
  | zLdhu (t : TugId) (rd ra : ZReg) (imm : BitVec 18)
  /-- LDB (R264): Loads a sign-extended byte. -/
  | zLdb (t : TugId) (rd ra : ZReg) (imm : BitVec 18)
  /-- LDBU (R264): Loads a zero-extended byte. -/
  | zLdbu (t : TugId) (rd ra : ZReg) (imm : BitVec 18)
  /-- STW (R264): Stores a word to memory. -/
  | zStw (t : TugId) (rd ra : ZReg) (imm : BitVec 18)
  /-- STH (R264): Stores a halfword to memory. -/
  | zSth (t : TugId) (rd ra : ZReg) (imm : BitVec 18)
  /-- STB (R264): Stores a byte to memory. -/
  | zStb (t : TugId) (rd ra : ZReg) (imm : BitVec 18)
  /-- B (R269): Branches by a word offset when its condition holds. -/
  | zB (t : TugId) (cond : BitVec 4) (off : BitVec 22)
  /-- BL (R267): Writes LK and branches by a word offset. -/
  | zBl (t : TugId) (off : BitVec 26)
  /-- ADD (R268): Adds two registers. -/
  | zAdd (t : TugId) (rd ra rb : ZReg) (aux : BitVec 8)
  /-- ADC (R268): Adds two registers and the carry. -/
  | zAdc (t : TugId) (rd ra rb : ZReg) (aux : BitVec 8)
  /-- SUB (R268): Subtracts RB from RA. -/
  | zSub (t : TugId) (rd ra rb : ZReg) (aux : BitVec 8)
  /-- SBC (R268): Subtracts with borrow. -/
  | zSbc (t : TugId) (rd ra rb : ZReg) (aux : BitVec 8)
  /-- AND (R268): Bitwise AND of two registers. -/
  | zAnd (t : TugId) (rd ra rb : ZReg) (aux : BitVec 8)
  /-- OR (R268): Bitwise OR of two registers. -/
  | zOr (t : TugId) (rd ra rb : ZReg) (aux : BitVec 8)
  /-- XOR (R268): Bitwise exclusive-OR of two registers. -/
  | zXor (t : TugId) (rd ra rb : ZReg) (aux : BitVec 8)
  /-- ANDN (R268): ANDs RA with the complement of RB. -/
  | zAndn (t : TugId) (rd ra rb : ZReg) (aux : BitVec 8)
  /-- SHL (R268): Shifts left by RB[4:0]. -/
  | zShl (t : TugId) (rd ra rb : ZReg) (aux : BitVec 8)
  /-- SHR (R268): Shifts right with zero fill by RB[4:0]. -/
  | zShr (t : TugId) (rd ra rb : ZReg) (aux : BitVec 8)
  /-- SAR (R268): Shifts right with sign fill by RB[4:0]. -/
  | zSar (t : TugId) (rd ra rb : ZReg) (aux : BitVec 8)
  /-- ROR (R268): Rotates right by RB[4:0]. -/
  | zRor (t : TugId) (rd ra rb : ZReg) (aux : BitVec 8)
  /-- SHLI (R268): Shifts left by an immediate amount. -/
  | zShli (t : TugId) (rd ra rb : ZReg) (aux : BitVec 8)
  /-- SHRI (R268): Shifts right with zero fill by an immediate amount. -/
  | zShri (t : TugId) (rd ra rb : ZReg) (aux : BitVec 8)
  /-- SARI (R268): Shifts right with sign fill by an immediate amount. -/
  | zSari (t : TugId) (rd ra rb : ZReg) (aux : BitVec 8)
  /-- RORI (R268): Rotates right by an immediate amount. -/
  | zRori (t : TugId) (rd ra rb : ZReg) (aux : BitVec 8)
  /-- CMP (R268): Compares two registers, setting NZCV. -/
  | zCmp (t : TugId) (rd ra rb : ZReg) (aux : BitVec 8)
  /-- TST (R268): ANDs two registers for flags only. -/
  | zTst (t : TugId) (rd ra rb : ZReg) (aux : BitVec 8)
  /-- MOV (R268): Copies RA to RD. -/
  | zMov (t : TugId) (rd ra rb : ZReg) (aux : BitVec 8)
  /-- MUL (R268): Low 32 bits of a product. -/
  | zMul (t : TugId) (rd ra rb : ZReg) (aux : BitVec 8)
  /-- MULHU (R268): High 32 bits of an unsigned product. -/
  | zMulhu (t : TugId) (rd ra rb : ZReg) (aux : BitVec 8)
  /-- MULHS (R268): High 32 bits of a signed product. -/
  | zMulhs (t : TugId) (rd ra rb : ZReg) (aux : BitVec 8)
  /-- DIVU (R268): Unsigned division with a defined result on divide by zero. -/
  | zDivu (t : TugId) (rd ra rb : ZReg) (aux : BitVec 8)
  /-- REMU (R268): Unsigned remainder with a defined result on divide by zero. -/
  | zRemu (t : TugId) (rd ra rb : ZReg) (aux : BitVec 8)
  /-- NOT (R268): Complements RA. -/
  | zNot (t : TugId) (rd ra rb : ZReg) (aux : BitVec 8)
  /-- NEG (R268): Negates RA. -/
  | zNeg (t : TugId) (rd ra rb : ZReg) (aux : BitVec 8)
  /-- SEXTB (R268): Sign-extends the low byte. -/
  | zSextb (t : TugId) (rd ra rb : ZReg) (aux : BitVec 8)
  /-- SEXTH (R268): Sign-extends the low halfword. -/
  | zSexth (t : TugId) (rd ra rb : ZReg) (aux : BitVec 8)
  /-- NOP (R268): Does nothing for one cycle. -/
  | zNop (t : TugId) (rd ra rb : ZReg) (aux : BitVec 8)
  /-- BR (R269): Branches to the address in RA. -/
  | zBr (t : TugId) (rd ra rb : ZReg) (aux : BitVec 8)
  /-- BLR (R269): Writes LK and branches to the address in RA. -/
  | zBlr (t : TugId) (rd ra rb : ZReg) (aux : BitVec 8)
  /-- RET (R269): Branches to LK. -/
  | zRet (t : TugId) (rd ra rb : ZReg) (aux : BitVec 8)
  /-- ERET (R276): Returns from an exception, restoring PCN, FL and the user bank. -/
  | zEret (t : TugId) (rd ra rb : ZReg) (aux : BitVec 8)
  /-- MOOR (R279): Ends the Tug's Tide work, clears SPILL and may declare a mooring point. -/
  | zMoor (t : TugId) (rd ra rb : ZReg) (aux : BitVec 8)
  /-- SVC (R275): Raises the SVC exception with a code. -/
  | zSvc (t : TugId) (rd ra rb : ZReg) (aux : BitVec 8)
  /-- BKPT (R275): Raises the breakpoint exception. -/
  | zBkpt (t : TugId) (rd ra rb : ZReg) (aux : BitVec 8)
  /-- SYNC (R266): Stalls until every earlier store has reached its destination. -/
  | zSync (t : TugId) (rd ra rb : ZReg) (aux : BitVec 8)
  /-- CRCB (R270): Steps the CRC accumulator by one byte. -/
  | zCrcb (t : TugId) (rd ra rb : ZReg) (aux : BitVec 8)
  /-- CRCH (R270): Steps the CRC accumulator by a halfword. -/
  | zCrch (t : TugId) (rd ra rb : ZReg) (aux : BitVec 8)
  /-- CRCW (R270): Steps the CRC accumulator by a word. -/
  | zCrcw (t : TugId) (rd ra rb : ZReg) (aux : BitVec 8)
  /-- PAR (R270): Computes the parity of RA. -/
  | zPar (t : TugId) (rd ra rb : ZReg) (aux : BitVec 8)
  /-- BREV (R270): Reverses the bits of RA's low 8, 16 or 32 bits. -/
  | zBrev (t : TugId) (rd ra rb : ZReg) (aux : BitVec 8)
  /-- ENC5 (R271): Encodes a symbol into its 4b5b line code. -/
  | zEnc5 (t : TugId) (rd ra rb : ZReg) (aux : BitVec 8)
  /-- DEC5 (R271): Decodes a 5-bit line code into its symbol. -/
  | zDec5 (t : TugId) (rd ra rb : ZReg) (aux : BitVec 8)
  /-- SMOV (R272): Copies Z3 elements from Z1 to Z2, interruptibly. -/
  | zSmov (t : TugId) (rd ra rb : ZReg) (aux : BitVec 8)
  /-- SFILL (R272): Fills Z3 elements at Z2 with Z1. -/
  | zSfill (t : TugId) (rd ra rb : ZReg) (aux : BitVec 8)
  /-- SCMP (R272): Compares blocks until the first unequal element. -/
  | zScmp (t : TugId) (rd ra rb : ZReg) (aux : BitVec 8)
  /-- SCRC (R272): Steps the Z4 CRC accumulator over a block. -/
  | zScrc (t : TugId) (rd ra rb : ZReg) (aux : BitVec 8)
  /-- MFS (R274): Reads a special register. -/
  | zMfs (t : TugId) (rd ra : ZReg) (imm : BitVec 18)
  /-- MTS (R274): Writes a special register, effective from the next instruction. -/
  | zMts (t : TugId) (rd ra : ZReg) (imm : BitVec 18)
  /-- INTERRUPT (R277): An enabled pending interrupt is taken between instructions or at cycle 0 while BANK is 0. -/
  | interrupt (t : TugId)
  /-- PROGRAM_LOAD (R284): The Harbourmaster loads a berth program and any state-block copy into a Tug within 20 µs. -/
  | programLoad (t : TugId)
  /-- TUG_ENTRY (R284): At the next boundary the Tug enters its program cold or warm with the entry registers of Table 9.20. -/
  | tugEntry (t : TugId)
  /-- PROGRAM_SWAP_AT_MOORING (R286): At the boundary ending a Tide whose mooring declaration holds, a pending swap or remap stops the Tug and loads the new image. -/
  | programSwapAtMooring (b : BerthId)
  /-- SWAP_DEFER_TIMEOUT (R452): No mooring point within 2 s cancels the swap with E_SWAP_DEFERRED or forces it when FORCE is set. -/
  | swapDeferTimeout (b : BerthId)
  /-- REMAP_FORCE_TIMEOUT (R446): No mooring point within 2 s of SVC_REMAP_TUG forces the remap at the next boundary. -/
  | remapForceTimeout (b : BerthId)
  /-- CMD_FRAME_RECEIVED (R292): An in-sequence CMD frame is accepted at its EOP, acknowledged, and its command checked for a tag and delivered. -/
  | cmdFrameReceived (l : LinkId) (at_ : Stamp) (seq : BitVec 4) (fence : Bool) (tag : BitVec 12) (code : BitVec 16) (payload : List Byte)
  /-- FRAME_ERROR (R291): A frame error or out-of-sequence frame is discarded, draws a NAK, and counts toward retraining. -/
  | frameError (l : LinkId) (what : Received) (at_ : Stamp)
  /-- ACK_FRAME_RECEIVED (R294): An ACK or IDLE count acknowledges held frames, releasing copies, tags and pending link changes. -/
  | ackFrameReceived (l : LinkId) (at_ : Stamp) (count : BitVec 16)
  /-- NAK_RECEIVED (R294): An ACK with NAK makes the sender finish its frame and resend from the count carried. -/
  | nakReceived (l : LinkId) (at_ : Stamp) (count : BitVec 16)
  /-- POLL_RECEIVED (R293): An ACK with POLL is answered with the receive count within 4 µs. -/
  | pollReceived (l : LinkId) (at_ : Stamp) (count : BitVec 16)
  /-- RETRAIN_FRAME_RECEIVED (R296): A RETRAIN frame moves an UP link to RETRAIN, or a READY frame completes training. -/
  | retrainFrameReceived (l : LinkId) (at_ : Stamp) (count : BitVec 16) (ready fresh : Bool)
  /-- ACK_WAIT_TIMEOUT (R294): The oldest unacknowledged frame or an unanswered POLL waits 50 µs and a POLL is sent, retraining after 4. -/
  | ackWaitTimeout (l : LinkId) (at_ : Stamp)
  /-- NAK_REPEAT (R293): A receiving gap still open 50 µs after its NAK repeats the NAK. -/
  | nakRepeat (l : LinkId)
  /-- IDLE_FRAME_TIMER (R293): After 100 µs with no frame sent an IDLE frame carrying the receive count is sent. -/
  | idleFrameTimer (l : LinkId)
  /-- LINK_SILENCE_TIMEOUT (R296): No good frame for 1 ms moves an UP link to RETRAIN. -/
  | linkSilenceTimeout (l : LinkId) (at_ : Stamp)
  /-- TRAINING_LOCK (R297): 64 clean TS sets lock the receiver, correcting inversion, and READY frames start. -/
  | trainingLock (l : LinkId) (at_ : Stamp) (inverted : Bool)
  /-- RETRAIN_TIMEOUT (R296): Training incomplete 2 ms after a retrain began retries, or moves the link to LOST at the third failure. -/
  | retrainTimeout (l : LinkId)
  /-- CREDIT_TIMER (R299): Every 1 ms with fewer than 256 free tags a CREDIT frame is sent. -/
  | creditTimer
  /-- RESPONSE_SEND (R298): A queued response is sent on its link, or rerouted, when a link is UP. -/
  | responseSend (l : LinkId) (at_ : Stamp)
  /-- EVENT_SEND (R305): A queued event is sent on the event link once its SEQ lies within ACK_SEQ + WINDOW. -/
  | eventSend (at_ : Stamp)
  /-- DEV_IDENTIFY (R318): Returns order code, silicon, releases, UID, enabled berths and core. -/
  | devIdentify (o : Origin) (p : List Byte)
  /-- DEV_GET_STATE (R318): Returns bring-up phase, Tide, time, supplies, temperatures and link states, clearing TIDE_SYNC_LOST. -/
  | devGetState (o : Origin) (p : List Byte)
  /-- DEV_SET_TIME (R407): Sets device time at the named boundary and records the RTC offset. -/
  | devSetTime (o : Origin) (p : List Byte)
  /-- DEV_RESET (R387): Resets the device, a quay, a gangway or a link after its confirmation code. -/
  | devReset (o : Origin) (p : List Byte)
  /-- DEV_CONFIG (R319): Applies Tide role, epoch, VIN window, sequencer and park items together at the next boundary. -/
  | devConfig (o : Origin) (p : List Byte)
  /-- BERTH_CONFIG (R318): Writes timer, limit, regulator and monitor register images to a berth set. -/
  | berthConfig (o : Origin) (p : List Byte)
  /-- BERTH_ENABLE (R75): Moves Disabled berths to Unattached of role, checked under R141. -/
  | berthEnable (o : Origin) (p : List Byte)
  /-- BERTH_DISABLE (R75): Moves berths to Disabled at the next boundary. -/
  | berthDisable (o : Origin) (p : List Byte)
  /-- BERTH_RESET (R394): Resets berths through discharge, reset and release, holding a berth after a reset storm. -/
  | berthReset (o : Origin) (p : List Byte)
  /-- BERTH_RESET_DISCHARGE_END (R394): VBC below 0.80 V or 650 ms ends discharge and asserts the berth's reset. -/
  | berthResetDischargeEnd (b : BerthId)
  /-- BERTH_RESET_RELEASE (R394): One Tide after assertion the berth's reset releases into Held. -/
  | berthResetRelease (b : BerthId)
  /-- BERTH_GET_STATE (R318): Returns a berth's latched states, contract, measurements and flags. -/
  | berthGetState (o : Origin) (p : List Byte)
  /-- BERTH_CLEAR_LATCH (R203): Clears crowbar, hiccup, VCONN, path-lock and CcFault latches under their own tests. -/
  | berthClearLatch (o : Origin) (p : List Byte)
  /-- BERTH_FORCE_DETACH (R75): Writes ERROR_RECOVERY for a berth set. -/
  | berthForceDetach (o : Origin) (p : List Byte)
  /-- BERTH_REQUEST_SWAP (R154): Requests a power, data or VCONN role, sending the swap unless held already or refused. -/
  | berthRequestSwap (o : Origin) (p : List Byte)
  /-- BERTH_SEND_MESSAGE (R320): Sends a host-composed PD message, optionally awaiting the partner's response. -/
  | berthSendMessage (o : Origin) (p : List Byte)
  /-- BERTH_ENTER_MODE (R173): Enters an alternate mode and commits its SBU and MUX codes on the ACK. -/
  | berthEnterMode (o : Origin) (p : List Byte)
  /-- BERTH_EXIT_MODE (R176): Exits the active mode, returning outputs to USB-safe first. -/
  | berthExitMode (o : Origin) (p : List Byte)
  /-- POLICY_LOAD (R117): Stores policy table segments and, at the last, checks and makes the table current at the round boundary. -/
  | policyLoad (o : Origin) (p : List Byte)
  /-- POLICY_BIND (R119): Binds a table to a berth set at the next round boundary. -/
  | policyBind (o : Origin) (p : List Byte)
  /-- POLICY_DECIDE (R129): Stores the host's outcome for a deferred decision by its window. -/
  | policyDecide (o : Origin) (p : List Byte)
  /-- POLICY_GET (R318): Returns table bytes or the bindings. -/
  | policyGet (o : Origin) (p : List Byte)
  /-- POWER_SET_BUDGET (R138): Sets budget, overcommit, quay budgets and emergency timing at the next round start. -/
  | powerSetBudget (o : Origin) (p : List Byte)
  /-- POWER_SET_PRIORITY (R119): Overrides a berth's class and GMIN at the next round start. -/
  | powerSetPriority (o : Origin) (p : List Byte)
  /-- POWER_GET_ALLOC (R150): Returns the current grant's allocator values. -/
  | powerGetAlloc (o : Origin) (p : List Byte)
  /-- POWER_EMERGENCY (R146): Sets or clears a host emergency target for the device or named quays. -/
  | powerEmergency (o : Origin) (p : List Byte)
  /-- TEL_READ (R331): Returns Tide or averaged values with peaks, optionally resetting peaks. -/
  | telRead (o : Origin) (p : List Byte)
  /-- TEL_SNAPSHOT (R339): Arms a counter snapshot at a named boundary in one of four banks. -/
  | telSnapshot (o : Origin) (p : List Byte)
  /-- SNAPSHOT_COMPLETE (R338): Once every berth's latch for the named boundary is counted the snapshot is held and the response sent. -/
  | snapshotComplete (n : Fin 4)
  /-- TEL_READ_SNAPSHOT (R318): Returns a held snapshot's counters. -/
  | telReadSnapshot (o : Origin) (p : List Byte)
  /-- TEL_SUBSCRIBE (R322): Sets per-berth event masks at the next boundary. -/
  | telSubscribe (o : Origin) (p : List Byte)
  /-- TEL_CONFIG (R332): Sets the averaging window or resets the filters at the next boundary. -/
  | telConfig (o : Origin) (p : List Byte)
  /-- FILTER_SEGMENT_END (R331): An averaging segment completes and the filter publishes its windowed mean. -/
  | filterSegmentEnd (b : BerthId)
  /-- MAN_READ (R351): Returns bytes of a Manifest slot with its seal state. -/
  | manRead (o : Origin) (p : List Byte)
  /-- MAN_LIST (R318): Lists slots of a Manifest area. -/
  | manList (o : Origin) (p : List Byte)
  /-- MAN_CLEAR (R345): Frees sealed records older than a named Tide. -/
  | manClear (o : Origin) (p : List Byte)
  /-- CAP_ARM (R342): Arms one capture per berth on now, a comparator edge or a FAULT. -/
  | capArm (o : Origin) (p : List Byte)
  /-- CAPTURE_TRIGGER (R342): The armed trigger occurs and its stamp fixes the capture window. -/
  | captureTrigger (b : BerthId) (at_ : Stamp)
  /-- CAPTURE_FREEZE (R342): The window's last set is written, the window freezes and CAP_ARM completes. -/
  | captureFreeze (b : BerthId)
  /-- CAPTURE_TIMEOUT (R342): No trigger within TIMEOUT disarms the capture with E_TIMEOUT. -/
  | captureTimeout (b : BerthId)
  /-- CAP_READ (R343): Returns frozen sample sets and optionally releases the window. -/
  | capRead (o : Origin) (p : List Byte)
  /-- GLAZE_WRITE (R433): Stages Glaze segments and, at the last, checks and seals a new calibration version. -/
  | glazeWrite (o : Origin) (p : List Byte)
  /-- GLAZE_READ (R433): Returns the Glaze image in force. -/
  | glazeRead (o : Origin) (p : List Byte)
  /-- FW_STAGE (R282): Stores image bytes in a staged Harbourmaster or Tug slot. -/
  | fwStage (o : Origin) (p : List Byte)
  /-- FW_VERIFY (R283): Checks a staged image's header, key digest, signature and MIN_HM. -/
  | fwVerify (o : Origin) (p : List Byte)
  /-- FW_COMMIT_HM (R450): Boots the verified Harbourmaster image on the standby and hands over at a round end. -/
  | fwCommitHm (o : Origin) (p : List Byte)
  /-- STANDBY_READY (R448): The standby core has followed the hand-over record for 40 Tides and becomes ready. -/
  | standbyReady
  /-- FW_SWAP_TUG (R451): Copies a verified program into its current slot and sets pending swaps for a berth set. -/
  | fwSwapTug (o : Origin) (p : List Byte)
  /-- FW_GET_INFO (R318): Returns image releases and slot states. -/
  | fwGetInfo (o : Origin) (p : List Byte)
  /-- OTP_READ (R410): Returns Brittle rows as redirected. -/
  | otpRead (o : Origin) (p : List Byte)
  /-- OTP_PROGRAM (R423): Burns a customer row with verification and spare redirection. -/
  | otpProgram (o : Origin) (p : List Byte) (burns : List (List BurnBit)) (cut : Option Nat)
  /-- OTP_MARGIN (R428): Reports each row as matching, weak or redirected. -/
  | otpMargin (o : Origin) (p : List Byte)
  /-- OTP_LOCK (R426): Burns the lock bit of a customer field. -/
  | otpLock (o : Origin) (p : List Byte) (burns : List (List BurnBit)) (cut : Option Nat)
  /-- SVC_SELFTEST (R439): Runs a host-requested test of a comparator, Tug, lane, PHY, Hold bank or path. -/
  | svcSelftest (o : Origin) (p : List Byte) (bad : Option Nat)
  /-- SVC_FENCE (R443): Fences a berth, quay, gangway or Tug. -/
  | svcFence (o : Origin) (p : List Byte)
  /-- SVC_UNFENCE (R443): Tests a fenced part and returns it to service when the test passes. -/
  | svcUnfence (o : Origin) (p : List Byte)
  /-- SVC_REMAP_TUG (R446): Moves a berth to another Tug at a mooring point. -/
  | svcRemapTug (o : Origin) (p : List Byte)
  /-- SVC_HEALTH (R318): Returns spare, fence, fault and ECC counts. -/
  | svcHealth (o : Origin) (p : List Byte)
  /-- LINK_CONFIG (R300): Enables or disables links and names the event link. -/
  | linkConfig (o : Origin) (p : List Byte)
  /-- LINK_STATUS (R318): Returns link states and counters. -/
  | linkStatus (o : Origin) (p : List Byte)
  /-- LINK_EVENT_ACK (R305): Sets ACK_SEQ and WINDOW, freeing acknowledged events. -/
  | linkEventAck (o : Origin) (p : List Byte)
  /-- DBG_PEEK (R40): Reads words from the Harbourmaster address map, marking speculative values. -/
  | dbgPeek (o : Origin) (p : List Byte)
  /-- DBG_POKE (R40): Writes words into the Harbourmaster address map under the commit checks. -/
  | dbgPoke (o : Origin) (p : List Byte)
  /-- FAULT_RECORD_CAPTURE (R349): Within 500 µs of STAMP + 1 ms the fault record's excerpt is copied from the capture ring. -/
  | faultRecordCapture (b : BerthId)
  /-- MANIFEST_RECORD_WRITE (R351): A record is written to its slot in three phases and sealed, retiring the slot at its write limit. -/
  | manifestRecordWrite
  /-- TUNNEL_CMD (R326): A counted-block write carries one tunnel fragment; the last accepts the whole command message. -/
  | tunnelCmd (block : List Byte) (pec : Option Byte) (at_ : Stamp)
  /-- TUNNEL_RSP (R377): A counted-block read returns the next tunnel response fragment, delivered on NACK and STOP. -/
  | tunnelRsp (done : Bool)
  /-- BERTH_SELECT (R371): Writes or reads the two-wire target's selected berth. -/
  | berthSelect (wr : Option Byte) (pec : Option Byte)
  /-- IDENTIFY (R374): Two-wire read of format, berths, silicon, release and order code. -/
  | identify
  /-- STATUS (R374): Two-wire read of the selected berth's status word. -/
  | status
  /-- ALERT_STATUS (R373): Two-wire read of alert causes, clearing the sticky ones. -/
  | alertStatus
  /-- ALERT_MASK (R373): Two-wire write or read of the alert mask. -/
  | alertMask (wr : Option (BitVec 16)) (pec : Option Byte)
  /-- SMB_COUNTS (R375): Two-wire read of the target's counters, clearing overflowed ones. -/
  | smbCounts
  /-- WINDOW (R374): Two-wire write or read of the averaging window, acting as TEL_CONFIG WINDOW. -/
  | window (wr : Option (BitVec 16)) (pec : Option Byte)
  /-- FILTER_RESET (R374): Two-wire send byte that acts as TEL_CONFIG RESET_FILTER. -/
  | filterReset (pec : Option Byte)
  /-- VBUS_AVG (R374): Two-wire read of the selected berth's averaged VBUS. -/
  | vbusAvg
  /-- CURR_AVG (R374): Two-wire read of the selected berth's averaged current. -/
  | currAvg
  /-- POWER_AVG (R374): Two-wire read of the selected berth's averaged power. -/
  | powerAvg
  /-- TEMP_AVG (R374): Two-wire read of the selected berth's averaged temperature. -/
  | tempAvg
  /-- VBUS_PEAK (R333): Two-wire read of the VBUS peak, resetting it. -/
  | vbusPeak
  /-- CURR_PEAK (R333): Two-wire read of the current peak, resetting it. -/
  | currPeak
  /-- POWER_PEAK (R333): Two-wire read of the power peak, resetting it. -/
  | powerPeak
  /-- TEMP_PEAK (R333): Two-wire read of the temperature peak, resetting it. -/
  | tempPeak
  /-- PEAKS (R333): Two-wire read of all four peaks, resetting them. -/
  | peaks
  /-- CONTRACT (R374): Two-wire read of the selected berth's contract voltage and current. -/
  | contract
  /-- VBUS_ALL (R374): Two-wire read of averaged VBUS for every berth. -/
  | vbusAll
  /-- CURR_ALL (R374): Two-wire read of averaged current for every berth. -/
  | currAll
  /-- POWER_ALL (R374): Two-wire read of averaged power for every berth. -/
  | powerAll
  /-- TEMP_ALL (R374): Two-wire read of averaged temperature for every berth. -/
  | tempAll
  /-- VALID_ALL (R374): Two-wire read of the berths whose averages are valid. -/
  | validAll
  /-- DEVICE_POWER (R374): Two-wire read of summed averaged power. -/
  | devicePower
  /-- VIN (R374): Two-wire read of each quay's VIN_BUS Tide average. -/
  | vin
  /-- SMB_TIMING (R370): Two-wire write or read of the timing settings, clamped against the mode's minima. -/
  | smbTiming (wr : Option Word) (pec : Option Byte)
  /-- ALERT_RESPONSE_ADDRESS (R373): A read of address 0x0C while SMBALERT_N is low returns the target's address by arbitration. -/
  | alertResponseAddress (won : Bool)
  /-- SMBUS_TIMEOUT (R367): SCL low for 30 ms resets the target's interface and discards the transaction. -/
  | smbusTimeout (traffic : List BusEvent)
  /-- SUPPLY_VALID (R380): A supply above its rising threshold for its filter becomes valid, releasing its scope's reset. -/
  | supplyValid (k : Supply) (mv heldNs : Nat)
  /-- SUPPLY_INVALID (R380): A supply below its falling threshold for its filter becomes invalid and resets, switches or marks its scope. -/
  | supplyInvalid (k : Supply) (mv heldNs : Nat) (at_ : Stamp)
  /-- POWER_ON_RESET (R387): VAON, VCORE and VIO all valid after any was invalid start a device reset. -/
  | powerOnReset (vioMv : Nat)
  /-- RESET_N_PULSE (R388): A filtered low pulse on RESET_N resets the device. -/
  | resetNPulse (widthNs : Nat) (taken : Bool)
  /-- WATCHDOG_EXPIRY (R449): The active core unserviced for 4 Tides hands over to the standby or resets the device. -/
  | watchdogExpiry (at_ : Stamp)
  /-- KICK (R408): WDOG.KICK services the active core's watchdog. -/
  | kick
  /-- HARBOUR_THERMAL_SHUTDOWN (R387): The harbour die above 140 °C for 100 µs resets the device until below 120 °C. -/
  | harbourThermalShutdown (at_ : Stamp) (peak : Int) (heldUs : Nat)
  /-- QUAY_THERMAL_SHUTDOWN (R387): A quay die above 150 °C for 100 µs resets the quay until below 130 °C and records THERMAL. -/
  | quayThermalShutdown (q : QuayId) (at_ : Stamp) (peak : Int) (heldUs : Nat)
  /-- THERMAL_SHUTDOWN_END (R387): The die cools below its release temperature and the held reset releases. -/
  | thermalShutdownEnd (q : Option QuayId) (temp : Int)
  /-- OSCILLATOR_START (R397): The 25 MHz oscillator starts and the Brittle load begins. -/
  | oscillatorStart (xtal : Bool)
  /-- BRITTLE_LOAD (R412): Brittle rows are read at both margins into the shadow and pin maps and address pins applied. -/
  | brittleLoad (addr : BitVec 4)
  /-- PLL_LOCK (R397): The harbour PLLs lock and the Tide generator starts at TIDE_COUNT 0. -/
  | pllLock (sinceUs : Nat)
  /-- HARBOURMASTER_BOOT (R397): Each core copies and verifies the Harbourmaster image; links and Pilot start. -/
  | harbourmasterBoot (release : Word)
  /-- HOLD_SCRUB (R397): Hold is scrubbed, Manifest slots tested, configuration restored and the checkpoint loaded. -/
  | holdScrub (rtc : Option Nat)
  /-- QUAY_BRINGUP (R397): A quay's gangway trains, trims and tables load, dead-battery and back-feed are checked and comparators tested. -/
  | quayBringup (q : QuayId) (vconnMv : Nat) (vbc : Vector Nat 8) (bad : List (Fin 8 × Fin 27))
  /-- BERTH_RELEASE (R65): At the first round boundary after bring-up, at least 1 ms after the previous release, the quay's berths are released. -/
  | berthRelease (q : QuayId)
  /-- GANGWAY_RETRAIN_COMPLETE (R392): A gangway reset completes its retrain and held Tug accesses complete in order. -/
  | gangwayRetrainComplete (q : QuayId)
  /-- TIME_CORRECTION (R407): Every 1 s boundary device time is corrected toward the RTC by at most 20 µs. -/
  | timeCorrection (rtc : Nat)
  /-- HOLD_ECC_SINGLE (R437): A single-bit Hold error returns corrected data and the word is rewritten and marched. -/
  | holdEccSingle (addr : Nat) (pass : Bool)
  /-- HOLD_ECC_DOUBLE (R438): A double-bit Hold error returns a bus error and marks its row lasting. -/
  | holdEccDouble (addr : Nat) (reader : HoldReader) (at_ : Stamp)
  /-- HOLD_BACKGROUND_SCRUB (R437): The background scrub reads and corrects every Hold word once every 64 s. -/
  | holdBackgroundScrub
  /-- PHY_LOOPBACK_START (R436): After a CRC burst, the loopback starts at the first idle boundary. -/
  | phyLoopbackStart (b : BerthId)
  /-- PHY_LOOPBACK_DONE (R436): The loopback's 4 messages complete and the PHY is classed or fenced. -/
  | phyLoopbackDone (b : BerthId) (good : BitVec 3)
  /-- PHY_LOOPBACK_ABORT (R436): A partner preamble or a TX commit aborts the loopback for retry. -/
  | phyLoopbackAbort (b : BerthId) (at_ : Stamp)
  /-- PHY_LOOPBACK_DEFERRED (R436): A loopback incomplete 500 ms after the burst ends with RESULT deferred. -/
  | phyLoopbackDeferred (b : BerthId)
  /-- ST_PHY_LB_RUN (R458): The Harbourmaster writes ST_PHY_LB.RUN to start a loopback. -/
  | stPhyLbRun (w : Writer) (b : BerthId)
  /-- LANE_TEST_START (R453): After a gangway CRC discard, one lane is removed from traffic for a PRBS test. -/
  | laneTestStart (q : QuayId)
  /-- LANE_TEST_DONE (R453): The 2 ms lane test ends, returning or removing the lane. -/
  | laneTestDone (q : QuayId) (pass : Bool)
  /-- TUG_CORE_TEST_DONE (R444): A Tug's 2 ms core test ends, freeing or fencing the Tug. -/
  | tugCoreTestDone (t : TugId) (pass : Bool)
  /-- CORE_TEST_DONE (R449): A failed Harbourmaster core's test ends, making it standby or fencing it. -/
  | coreTestDone (pass : Bool)
  /-- UART_BREAK (R460): A 20 ms break resets Pilot to 115,200 baud and L0. -/
  | uartBreak
  /-- BAUD_REVERT (R459): No character within 5 s at a new rate returns Pilot to 115,200 baud. -/
  | baudRevert
  /-- SESSION_TIMEOUT (R466): 15 minutes without input drops the Pilot session to L0. -/
  | sessionTimeout
  /-- UNLOCK_BLOCK_END (R464): The 60 s block after three failed unlocks ends. -/
  | unlockBlockEnd
  /-- CHALLENGE_EXPIRY (R464): A challenge becomes invalid 60 s after it was printed. -/
  | challengeExpiry
  /-- LINE_TOO_LONG (R461): An input line over 256 characters is discarded with E_BAD_LENGTH. -/
  | lineTooLong
  /-- PILOT_HELP (R467): Lists the commands allowed at the session's level. -/
  | pilotHelp
  /-- PILOT_ID (R467): Runs DEV_IDENTIFY and prints the result. -/
  | pilotId
  /-- PILOT_BAUD (R459): Selects a new UART rate after its OK line. -/
  | pilotBaud (rate : Nat)
  /-- PILOT_UNLOCK (R463): Raises the session to L1 when the code matches. -/
  | pilotUnlock (code : Word)
  /-- PILOT_CHALLENGE (R464): Prints a random challenge for L2 unlock. -/
  | pilotChallenge
  /-- PILOT_RESPOND (R463): Raises the session to L2 when the response matches. -/
  | pilotRespond (code : Word)
  /-- PILOT_LOCK (R466): Drops the session to L0. -/
  | pilotLock
  /-- PILOT_STATE (R467): Runs DEV_GET_STATE and prints it. -/
  | pilotState
  /-- PILOT_BERTH (R467): Runs BERTH_GET_STATE and prints named fields. -/
  | pilotBerth (b : Nat)
  /-- PILOT_REGS (R467): Prints every register of a berth-window block. -/
  | pilotRegs (b block : Nat)
  /-- PILOT_TUG (R467): Prints a Tug's registers as at its last MOOR or suspension. -/
  | pilotTug (t : Nat)
  /-- PILOT_PEEK (R467): Reads words by DBG_PEEK. -/
  | pilotPeek (addr n : Nat)
  /-- PILOT_POKE (R467): Writes words by DBG_POKE at L2. -/
  | pilotPoke (addr : Nat) (ws : List Word)
  /-- PILOT_ALLOC (R467): Prints POWER_GET_ALLOC rows. -/
  | pilotAlloc (first count : Nat)
  /-- PILOT_HEALTH (R467): Prints SVC_HEALTH. -/
  | pilotHealth
  /-- PILOT_MAN_LIST (R467): Lists Manifest slots one per line. -/
  | pilotManList (area berth : Nat)
  /-- PILOT_MAN_READ (R467): Prints a Manifest record as named fields. -/
  | pilotManRead (slot : Nat)
  /-- PILOT_TRACE (R468): Selects berths and kinds for trace lines, or turns tracing off. -/
  | pilotTrace (set : BitVec 48) (kinds : BitVec 4)
  /-- PILOT_CAP_ARM (R467): Arms a capture by CAP_ARM at L2. -/
  | pilotCapArm (b trigger pre post : Nat)
  /-- PILOT_CAP_DUMP (R469): Prints a frozen capture as text lines, optionally releasing it. -/
  | pilotCapDump (b : Nat) (release : Bool)
  /-- PILOT_MB (R328): Issues any mailbox command by code and prints its response. -/
  | pilotMb (code : BitVec 16) (data : List Byte)
  /-- JTAG_IDCODE (R483): JTAG instruction reading IDCODE 0x1048_0E5F. -/
  | jtagIdcode
  /-- JTAG_BYPASS (R419): JTAG BYPASS instruction. -/
  | jtagBypass
  /-- JTAG_SAMPLE_PRELOAD (R483): JTAG SAMPLE/PRELOAD captures or loads the boundary-scan cells. -/
  | jtagSamplePreload (pins shift : BitVec 222)
  /-- JTAG_EXTEST (R483): JTAG EXTEST drives the boundary-scan cells, never class-S balls. -/
  | jtagExtest
  /-- REGISTER_WRITE (R15): A write to a register with no behaviour of its own stores allowed fields, ignoring reserved ones. -/
  | registerWrite (w : Writer) (b : BerthId) (off : BitVec 12) (v : Word)
  /-- GOODCRC_SENT (R93): The berth's GoodCRC for a good received message ends on the wire, and END_GOOD is written and TOKEN_RX issued. -/
  | goodcrcSent (b : BerthId) (at_ : Stamp)
  /-- CABLE_RESET_SENT (R109): The Cable Reset ordered set ends, setting CR_SENT, clearing SOP′ and SOP″ MessageID state and token currency, and completing a BERTH_SEND_MESSAGE Cable Reset. -/
  | cableResetSent (b : BerthId) (at_ : Stamp)
  /-- LINE_ERROR (R88): A BMC line error inside a message being received aborts it with an END_ABORT mark. -/
  | lineError (b : BerthId) (at_ : Stamp) (data : List Byte)
  /-- DEV_RESET_RESPONSE_TIMEOUT (R318): 10 ms after a device-scope DEV_RESET response was queued without link-level acknowledgement, the device reset starts. -/
  | devResetResponseTimeout
  /-- STANDBY_READY_TIMEOUT (R450): The standby booting a committed Harbourmaster image is not ready within 1 s, so FW_COMMIT_HM completes with E_TIMEOUT and the standby returns to the running image. -/
  | standbyReadyTimeout
  deriving DecidableEq, Repr

end Sys2Proof
end

