-- ==== Sys2Proof/Decode.lean ====
section
/-!
DEFINITION. Decoding. The opcode table gives no row any bits, so `decodeTableWord` spells no command; the words of the
Zoade instructions, whose formats and codes the manual gives (Tables 9.5–9.8, 9.10, 9.12), are decoded and encoded here.
-/

namespace Sys2Proof

/-- The command that a word spells by the table's bits: the table gives no row any bits. -/
def decodeTableWord (_nbits _w : Nat) : Option Instr := none

/-! ### Fields of an instruction word (Table 9.5) -/

/-- A register field of four bits from bit `lo`. -/
def zRegField (w : Word) (lo : Nat) : ZReg := (w.extractLsb' lo 4).toFin

/-- The bits of a register number. -/
def zRegBits (r : ZReg) : BitVec 4 := BitVec.ofFin r

/-- A word of format R. -/
def zWordR (op : BitVec 6) (rd ra rb : ZReg) (aux : BitVec 8) (fn : BitVec 6) : Word :=
  op ++ zRegBits rd ++ zRegBits ra ++ zRegBits rb ++ aux ++ fn

/-- A word of format I. -/
def zWordI (op : BitVec 6) (rd ra : ZReg) (imm : BitVec 18) : Word := op ++ zRegBits rd ++ zRegBits ra ++ imm

/-! ### The groups -/

/-- The ALU group (Table 9.7); none for a reserved function code. -/
def zAlu (t : TugId) (rd ra rb : ZReg) (aux : BitVec 8) (fn : BitVec 6) : Option Instr := match fn.toNat with
  | 0x00 => some (.zAdd t rd ra rb aux)
  | 0x01 => some (.zAdc t rd ra rb aux)
  | 0x02 => some (.zSub t rd ra rb aux)
  | 0x03 => some (.zSbc t rd ra rb aux)
  | 0x04 => some (.zAnd t rd ra rb aux)
  | 0x05 => some (.zOr t rd ra rb aux)
  | 0x06 => some (.zXor t rd ra rb aux)
  | 0x07 => some (.zAndn t rd ra rb aux)
  | 0x08 => some (.zShl t rd ra rb aux)
  | 0x09 => some (.zShr t rd ra rb aux)
  | 0x0A => some (.zSar t rd ra rb aux)
  | 0x0B => some (.zRor t rd ra rb aux)
  | 0x0C => some (.zShli t rd ra rb aux)
  | 0x0D => some (.zShri t rd ra rb aux)
  | 0x0E => some (.zSari t rd ra rb aux)
  | 0x0F => some (.zRori t rd ra rb aux)
  | 0x10 => some (.zCmp t rd ra rb aux)
  | 0x11 => some (.zTst t rd ra rb aux)
  | 0x12 => some (.zMov t rd ra rb aux)
  | 0x13 => some (.zMul t rd ra rb aux)
  | 0x14 => some (.zMulhu t rd ra rb aux)
  | 0x15 => some (.zMulhs t rd ra rb aux)
  | 0x16 => some (.zDivu t rd ra rb aux)
  | 0x17 => some (.zRemu t rd ra rb aux)
  | 0x18 => some (.zNot t rd ra rb aux)
  | 0x19 => some (.zNeg t rd ra rb aux)
  | 0x1A => some (.zSextb t rd ra rb aux)
  | 0x1B => some (.zSexth t rd ra rb aux)
  | _ => none

/-- The character group (Table 9.10); none for a reserved function code. -/
def zChr (t : TugId) (rd ra rb : ZReg) (aux : BitVec 8) (fn : BitVec 6) : Option Instr := match fn.toNat with
  | 0x00 => some (.zCrcb t rd ra rb aux)
  | 0x01 => some (.zCrch t rd ra rb aux)
  | 0x02 => some (.zCrcw t rd ra rb aux)
  | 0x08 => some (.zPar t rd ra rb aux)
  | 0x09 => some (.zBrev t rd ra rb aux)
  | 0x0A => some (.zEnc5 t rd ra rb aux)
  | 0x0B => some (.zDec5 t rd ra rb aux)
  | _ => none

/-- The SYS group (Table 9.8); none for a reserved function code. -/
def zSys (t : TugId) (rd ra rb : ZReg) (aux : BitVec 8) (fn : BitVec 6) : Option Instr := match fn.toNat with
  | 0x00 => some (.zNop t rd ra rb aux)
  | 0x01 => some (.zBr t rd ra rb aux)
  | 0x02 => some (.zBlr t rd ra rb aux)
  | 0x03 => some (.zRet t rd ra rb aux)
  | 0x04 => some (.zEret t rd ra rb aux)
  | 0x05 => some (.zMoor t rd ra rb aux)
  | 0x06 => some (.zSvc t rd ra rb aux)
  | 0x07 => some (.zBkpt t rd ra rb aux)
  | 0x08 => some (.zSync t rd ra rb aux)
  | _ => none

/-- The block group (Table 9.12); none for a reserved function code. -/
def zBlk (t : TugId) (rd ra rb : ZReg) (aux : BitVec 8) (fn : BitVec 6) : Option Instr := match fn.toNat with
  | 0x00 => some (.zSmov t rd ra rb aux)
  | 0x01 => some (.zSfill t rd ra rb aux)
  | 0x02 => some (.zScmp t rd ra rb aux)
  | 0x03 => some (.zScrc t rd ra rb aux)
  | _ => none

/-- The instruction that Tug `t` reads from a word; none for a reserved major opcode or function code (R267). -/
def zDecode (t : TugId) (w : Word) : Option Instr :=
  let rd := zRegField w 22
  let ra := zRegField w 18
  let rb := zRegField w 14
  let aux := w.extractLsb' 6 8
  let fn := w.extractLsb' 0 6
  let imm := w.extractLsb' 0 18
  match (w.extractLsb' 26 6).toNat with
  | 0x00 => zAlu t rd ra rb aux fn
  | 0x01 => some (.zAddi t rd ra imm)
  | 0x02 => some (.zAndi t rd ra imm)
  | 0x03 => some (.zOri t rd ra imm)
  | 0x04 => some (.zXori t rd ra imm)
  | 0x05 => some (.zCmpi t rd ra imm)
  | 0x06 => some (.zMovi t rd ra imm)
  | 0x07 => some (.zMovh t rd (w.extractLsb' 16 6) (w.extractLsb' 0 16))
  | 0x08 => some (.zLdw t rd ra imm)
  | 0x09 => some (.zLdh t rd ra imm)
  | 0x0A => some (.zLdhu t rd ra imm)
  | 0x0B => some (.zLdb t rd ra imm)
  | 0x0C => some (.zLdbu t rd ra imm)
  | 0x0D => some (.zStw t rd ra imm)
  | 0x0E => some (.zSth t rd ra imm)
  | 0x0F => some (.zStb t rd ra imm)
  | 0x10 => some (.zB t (w.extractLsb' 22 4) (w.extractLsb' 0 22))
  | 0x11 => some (.zBl t (w.extractLsb' 0 26))
  | 0x12 => zChr t rd ra rb aux fn
  | 0x13 => zBlk t rd ra rb aux fn
  | 0x14 => zSys t rd ra rb aux fn
  | 0x15 => some (.zMfs t rd ra imm)
  | 0x16 => some (.zMts t rd ra imm)
  | _ => none

/-- The Tug and the word of a Zoade instruction; none for a command that is none. -/
def zEncode (i : Instr) : Option (TugId × Word) := match i with
  | .zAdd t rd ra rb aux => some (t, zWordR 0x00 rd ra rb aux 0x00)
  | .zAdc t rd ra rb aux => some (t, zWordR 0x00 rd ra rb aux 0x01)
  | .zSub t rd ra rb aux => some (t, zWordR 0x00 rd ra rb aux 0x02)
  | .zSbc t rd ra rb aux => some (t, zWordR 0x00 rd ra rb aux 0x03)
  | .zAnd t rd ra rb aux => some (t, zWordR 0x00 rd ra rb aux 0x04)
  | .zOr t rd ra rb aux => some (t, zWordR 0x00 rd ra rb aux 0x05)
  | .zXor t rd ra rb aux => some (t, zWordR 0x00 rd ra rb aux 0x06)
  | .zAndn t rd ra rb aux => some (t, zWordR 0x00 rd ra rb aux 0x07)
  | .zShl t rd ra rb aux => some (t, zWordR 0x00 rd ra rb aux 0x08)
  | .zShr t rd ra rb aux => some (t, zWordR 0x00 rd ra rb aux 0x09)
  | .zSar t rd ra rb aux => some (t, zWordR 0x00 rd ra rb aux 0x0A)
  | .zRor t rd ra rb aux => some (t, zWordR 0x00 rd ra rb aux 0x0B)
  | .zShli t rd ra rb aux => some (t, zWordR 0x00 rd ra rb aux 0x0C)
  | .zShri t rd ra rb aux => some (t, zWordR 0x00 rd ra rb aux 0x0D)
  | .zSari t rd ra rb aux => some (t, zWordR 0x00 rd ra rb aux 0x0E)
  | .zRori t rd ra rb aux => some (t, zWordR 0x00 rd ra rb aux 0x0F)
  | .zCmp t rd ra rb aux => some (t, zWordR 0x00 rd ra rb aux 0x10)
  | .zTst t rd ra rb aux => some (t, zWordR 0x00 rd ra rb aux 0x11)
  | .zMov t rd ra rb aux => some (t, zWordR 0x00 rd ra rb aux 0x12)
  | .zMul t rd ra rb aux => some (t, zWordR 0x00 rd ra rb aux 0x13)
  | .zMulhu t rd ra rb aux => some (t, zWordR 0x00 rd ra rb aux 0x14)
  | .zMulhs t rd ra rb aux => some (t, zWordR 0x00 rd ra rb aux 0x15)
  | .zDivu t rd ra rb aux => some (t, zWordR 0x00 rd ra rb aux 0x16)
  | .zRemu t rd ra rb aux => some (t, zWordR 0x00 rd ra rb aux 0x17)
  | .zNot t rd ra rb aux => some (t, zWordR 0x00 rd ra rb aux 0x18)
  | .zNeg t rd ra rb aux => some (t, zWordR 0x00 rd ra rb aux 0x19)
  | .zSextb t rd ra rb aux => some (t, zWordR 0x00 rd ra rb aux 0x1A)
  | .zSexth t rd ra rb aux => some (t, zWordR 0x00 rd ra rb aux 0x1B)
  | .zAddi t rd ra imm => some (t, zWordI 0x01 rd ra imm)
  | .zAndi t rd ra imm => some (t, zWordI 0x02 rd ra imm)
  | .zOri t rd ra imm => some (t, zWordI 0x03 rd ra imm)
  | .zXori t rd ra imm => some (t, zWordI 0x04 rd ra imm)
  | .zCmpi t rd ra imm => some (t, zWordI 0x05 rd ra imm)
  | .zMovi t rd ra imm => some (t, zWordI 0x06 rd ra imm)
  | .zLdw t rd ra imm => some (t, zWordI 0x08 rd ra imm)
  | .zLdh t rd ra imm => some (t, zWordI 0x09 rd ra imm)
  | .zLdhu t rd ra imm => some (t, zWordI 0x0A rd ra imm)
  | .zLdb t rd ra imm => some (t, zWordI 0x0B rd ra imm)
  | .zLdbu t rd ra imm => some (t, zWordI 0x0C rd ra imm)
  | .zStw t rd ra imm => some (t, zWordI 0x0D rd ra imm)
  | .zSth t rd ra imm => some (t, zWordI 0x0E rd ra imm)
  | .zStb t rd ra imm => some (t, zWordI 0x0F rd ra imm)
  | .zMfs t rd ra imm => some (t, zWordI 0x15 rd ra imm)
  | .zMts t rd ra imm => some (t, zWordI 0x16 rd ra imm)
  | .zMovh t rd zero imm => some (t, (0x07#6 ++ zRegBits rd ++ zero ++ imm : BitVec 32))
  | .zB t cond off => some (t, (0x10#6 ++ cond ++ off : BitVec 32))
  | .zBl t off => some (t, (0x11#6 ++ off : BitVec 32))
  | .zCrcb t rd ra rb aux => some (t, zWordR 0x12 rd ra rb aux 0x00)
  | .zCrch t rd ra rb aux => some (t, zWordR 0x12 rd ra rb aux 0x01)
  | .zCrcw t rd ra rb aux => some (t, zWordR 0x12 rd ra rb aux 0x02)
  | .zPar t rd ra rb aux => some (t, zWordR 0x12 rd ra rb aux 0x08)
  | .zBrev t rd ra rb aux => some (t, zWordR 0x12 rd ra rb aux 0x09)
  | .zEnc5 t rd ra rb aux => some (t, zWordR 0x12 rd ra rb aux 0x0A)
  | .zDec5 t rd ra rb aux => some (t, zWordR 0x12 rd ra rb aux 0x0B)
  | .zSmov t rd ra rb aux => some (t, zWordR 0x13 rd ra rb aux 0x00)
  | .zSfill t rd ra rb aux => some (t, zWordR 0x13 rd ra rb aux 0x01)
  | .zScmp t rd ra rb aux => some (t, zWordR 0x13 rd ra rb aux 0x02)
  | .zScrc t rd ra rb aux => some (t, zWordR 0x13 rd ra rb aux 0x03)
  | .zNop t rd ra rb aux => some (t, zWordR 0x14 rd ra rb aux 0x00)
  | .zBr t rd ra rb aux => some (t, zWordR 0x14 rd ra rb aux 0x01)
  | .zBlr t rd ra rb aux => some (t, zWordR 0x14 rd ra rb aux 0x02)
  | .zRet t rd ra rb aux => some (t, zWordR 0x14 rd ra rb aux 0x03)
  | .zEret t rd ra rb aux => some (t, zWordR 0x14 rd ra rb aux 0x04)
  | .zMoor t rd ra rb aux => some (t, zWordR 0x14 rd ra rb aux 0x05)
  | .zSvc t rd ra rb aux => some (t, zWordR 0x14 rd ra rb aux 0x06)
  | .zBkpt t rd ra rb aux => some (t, zWordR 0x14 rd ra rb aux 0x07)
  | .zSync t rd ra rb aux => some (t, zWordR 0x14 rd ra rb aux 0x08)
  | _ => none

end Sys2Proof
end

