-- ==== Sys2Proof/Config.lean ====
section
/-!
DEFINITION. What the manual leaves open: each is an opaque constant with no body, so that no proof can rest on a
value of it.  Each is named in the assumption log.
-/

namespace Sys2Proof.Config

/-- The draw of the per-berth toggle generator (R58): the manual gives 0–3 with no sequence.
Indexed by the berth and the number of draws made before; `Machine` takes it modulo 4. -/
opaque toggleDraw : Nat → Nat → Nat

/-- The random challenge Pilot prints (R464): the manual gives no sequence. Indexed by the draws made before. -/
opaque pilotChallenge : Nat → BitVec 128

/-- The characters of a Pilot line whose text the manual does not give (R461, R462), by the kind of the line and its values. -/
opaque pilotText : Nat → List Nat → Nat

/-- The address in the Harbourmaster view of the exchange area of a Tug: the manual places the 52 areas inside
the Harbourmaster working memory (R41) and gives no addresses. -/
opaque exchangeArea : Nat → Nat

/-- The unique ID a part's Brittle array carries (R318): each part has its own. -/
opaque uniqueId : BitVec 128

/-- TEMP of a stage whose ADC_TMON_CAL.SLOPE is 0 (Table 8.10 states no result there), from TMON in mV. -/
opaque tempAtZeroSlope : Nat → Int

/-- A contract descriptor that a customer berth program staged for a TEL commit (R97 bit 7): the manual gives its content
no place in the exchange area. Indexed by the free counter; `Machine` reads the fields it publishes from these bits. -/
opaque customerDescriptor : Nat → BitVec 128

/-- The host event, code and body, of a record other than a Request that a customer berth program put into its ring (R97 bit 6): the
manual gives the layout of Request records alone (Table 4.13). -/
opaque customerEvent : List (BitVec 8) → Nat × List (BitVec 8)

/-- The BP 4.0 image of current slot 0 (R282): the manual gives its header's layout and none of its content. -/
opaque bpImage : List Byte

/-- A byte of a firmware-owned region of Hold, retained SRAM or device control whose content the manual does not give.
Indexed by the free counter and the address. -/
opaque firmwareByte : Nat → Nat → BitVec 8

/-- The cost in Tug cycles of an access whose target has a typical and a maximum cost (Table 9.4). Indexed by the free
counter; `Machine` bounds it by the maximum. -/
opaque accessCycles : Nat → Nat

/-- The SHA-256 digest check's vendor key (R283): the public key itself, X then Y, which no rule prints. -/
opaque vendorKey : List Byte

/-- A word of a Tug image that a release of the firmware carries (R282): the manual prints none. Indexed by the image's
release and slot. -/
opaque programWord : BitVec 32 → Nat → BitVec 32

/-- The row, numbered over all of Hold, in which an address lies (R435, R442): the manual gives subarrays of 256 KB and no
row size. -/
opaque holdRow : Nat → Nat

/-- The number of the policy table that lies at an address of the region of policy tables, whose places Table 1.10 does not give
(R41; log entry 6). -/
opaque tableAt : Nat → Nat

/-- What the checks of R283 find of a staged Harbourmaster image, whose layout the manual does not give (Table 11.11): 0 a pass,
1 E_BAD_ARG, 2 E_NOT_PERMITTED, otherwise E_INTEGRITY; and the release, key and length it states. -/
opaque hmCheck : List Byte → Nat
@[inherit_doc hmCheck] opaque hmRelease : List Byte → BitVec 32
@[inherit_doc hmCheck] opaque hmKey : List Byte → Nat
@[inherit_doc hmCheck] opaque hmLength : List Byte → Nat

end Sys2Proof.Config
end

