-- ==== Sys2Proof/Machine/State.lean ====
section
/-!
DEFINITION. The state of the SKV-48 as plain data: the berths with every register block of their window (R40,
Tables 1.8, 2.6, 3.10, 3.18, 5.10, 6.7, 7.8, 8.8–8.12), the quays, the Tugs, the allocator, the links, the mailbox,
the service interfaces, the fuses, the memories, the clock, and the queue of waiting commands.
`State.reset` gives every field its reset value.
-/

namespace Sys2Proof.Machine

/-! ### Names of states -/

/-- The Type-C states of Table 2.3 (R53), in code order. -/
inductive CcState where
  | held | disabled | errorRecovery | unattachedSrc | attachWaitSrc | attachedSrc | trySrc | tryWaitSrc
  | unattachedSnk | attachWaitSnk | attachedSnk | trySnk | tryWaitSnk | backFeed | ccFault | lockedOut
  deriving DecidableEq, Repr

/-- The orientation of R59. -/
inductive Orient where
  | none | normal | flipped
  deriving DecidableEq, Repr

/-- The path states of Table 6.2 (R181), in code order. -/
inductive PathState where
  | off | srcRamp | srcOn | snkOn | discharge | tripped | test | locked
  deriving DecidableEq, Repr

/-- The lock causes of PATH_LOCK (Table 6.13), in code order. -/
inductive LockCause where
  | none | passFetShort | sinkFetShort | tripLimit | testFail | crowbar
  deriving DecidableEq, Repr

/-- The regulator states of Table 7.3 (R219), in code order. -/
inductive RegState where
  | idle | softstart | regulate | slew | hold | hiccup | stopped | crowbar | latched
  deriving DecidableEq, Repr

/-- Why a regulator is STOPPED (ranks 3–5 of Table 7.7). -/
inductive StopCause where
  | stageFault | thermal | vinOv
  deriving DecidableEq, Repr

/-- The modes of REG_VREF.MODE (Table 7.10). -/
inductive RegMode where
  | idle | standby | run
  deriving DecidableEq, Repr

/-- The swap tracker phases of Table 5.2 (R156), in code order. -/
inductive Phase where
  | idle | prSrcTrans | prSrcOff | prSrcWait | prSnkWait | prSnkOn | vcOn | vcWait | frsArmed | frsDetected | frsSourcing
  deriving DecidableEq, Repr

/-- The results of TX_STATUS.RESULT (Table 3.22), in code order. -/
inductive TxResult where
  | idle | inProgress | confirmed | failed | discarded | abortedHr | abortedDetach
  deriving DecidableEq, Repr

/-- The response timers of PHY_STATUS.TMR_RUN (Table 3.21). -/
inductive RespTimer where
  | none | senderResponse | chunkSenderResponse | chunkSenderRequest | srcCapsRepeat
  deriving DecidableEq, Repr

/-- The marks of Table 3.3 that stand in the receive FIFO (R88). -/
inductive RxMark where
  | byte | sop | endGood | endBad | endOvr | endAbort | endDup | hardReset
  deriving DecidableEq, Repr

/-- The cases of Table 6.3 in which the source path closes (R182). -/
inductive CloseCase where
  | attach | hrRecovery | prSwap | frs | inrushRestart
  /-- Supply at 5 V in harbour-less mode, once VBC has reached vSafe0V (R44). -/
  | hless
  deriving DecidableEq, Repr

/-- The status codes of Table 11.2 (R317). -/
inductive Status where
  | ok | unknownCmd | badLength | badArg | notPermitted | busyAms | berthReset | berthAbsent | berthFenced | timeout
  | deferredExpired | superseded | otpConflict | otpLocked | otpWeak | noResource | tagInUse | swapDeferred | integrity
  | linkLost | selftestFail | internal | partnerReject | partnerNoResponse | waitLimit
  deriving DecidableEq, Repr

/-- The fault causes of Table 11.16 (R325), in code order from 1. -/
inductive Cause where
  | fastTrip | limitTimeout | ovCrowbar | hiccupLatch | passFetShort | sinkFetShort | backFeed | vinUv | vinOv | stageFlt
  | thermal | ccOv | vconnOc | tugFault | quayLost | hardResetLimit | tideOverrun | watchdog | dieThermal
  deriving DecidableEq, Repr

/-- The AMS kinds for which decisions and Waits are kept (R128, R131, Table 11.14 DECISION). -/
inductive AmsKind where
  | request | prSwap | drSwap | vconnSwap | modeEntry
  deriving DecidableEq, Repr

/-! ### Events -/

/-- The body of a FAULT event and of a fault record's cause (Table 11.15, R325). -/
structure FaultBody where
  cause : Cause
  lock  : LockCause := .none
  also  : BitVec 16 := 0
  slot  : Nat := 0xFFFF
  quay  : Nat := 0
  stamp : Stamp := 0
  volt  : Nat := 0
  curr  : Nat := 0
  vbc   : Nat := 0
  vbr   : Nat := 0
  ipath : Int := 0
  vin   : Nat := 0
  detail : List Word := []
  deriving DecidableEq, Repr

/-- The bodies of the events of Table 11.14 (R323). -/
inductive EvBody where
  | attach (state : CcState) (orient : Orient) (partner rp vbc : Nat) (vconn deadBatt : Bool)
  | detach (state : CcState) (reason durationMs : Nat)
  | contract (reason : Nat) (status : Status) (flags pos volt curr : Nat) (rdo pdo : Word)
  | decision (id : BitVec 16) (kind : AmsKind) (endTide : Nat) (content : BitVec 64)
  | fault (f : FaultBody)
  | swap (kind : Nat) (status : Status) (by_ roles flags : Nat)
  | mode (subtype sop svid mode count sbu mux : Nat) (data : List Nat)
  | selftest (kind index sel origin : Nat) (status : Status) (cls action : Nat)
  | capacity (enabled fenced hless : BitVec 48) (cause : Nat)
  | link (link old new : Nat) (inverted : Bool) (frameErr : Nat)
  | budget (kind phase : Nat) (quays : BitVec 6) (target delivery : Nat)
  | otpWeak (row kind : Nat) (diff : Word)
  | manifest (subtype area slot next : Nat) (counter : Nat)
  | backfeed (when_ result vbc : Nat)
  | resetReport (cause scope core flags held unsealed boots bringup : Nat)
  | tideOverrun (tug spare spills : Nat) (pcn : Word)
  /-- A host event that a customer program published; the manual gives its record no layout (Table 4.13). -/
  | customer (code : Nat) (data : List Byte)
  deriving DecidableEq, Repr

/-! ### One berth -/

/-- A token of Table 3.13 (R93). -/
structure Token where
  msgId   : BitVec 3 := 0
  sop     : SopKind := .sop
  current : Bool := false
  seq     : BitVec 24 := 0
  deriving DecidableEq, Repr

/-- A transmit buffer of Table 3.27 (R115): word 0 and up to 28 data bytes. -/
structure TxBuf where
  word0 : Word := 0
  data  : Vector Byte 28 := Vector.replicate 28 0
  deriving DecidableEq, Repr

/-- The staged registers a COMMIT applies, as they stand at its acceptance (R97; log entry 12). -/
structure Staged where
  regVref   : Word := 0x000A04E2#32
  regHold   : Word := 0x045000A5#32
  pathCfg   : Word := 0x00780A08#32
  pathLimit : Word := 0x001400A8#32
  snkLimit  : Word := 0x001400A8#32
  pathStage : Word := 0
  frsCfg    : Word := 0
  monThr    : Vector (BitVec 10) 3 := #v[550#10, 486#10, 1023#10]
  monLow    : Vector (BitVec 10) 2 := #v[475#10, 0#10]
  /-- W0's HI threshold is above 10.23 V, so that the quay takes the high range (R240; log entry 14). -/
  w0High    : Bool := false
  regOvp    : Word := 0x68#32
  regProt   : Word := 0x51440#32
  ccRp      : BitVec 2 := 1#2
  muxStage  : Word := 0
  evtIndex  : BitVec 16 := 0
  deriving DecidableEq, Repr

/-- A contract descriptor that a TEL commit publishes (R97 bit 7, Table 11.14 CONTRACT). -/
structure Contract where
  source   : Bool := true
  epr      : Bool := false
  mismatch : Bool := false
  apdo     : Bool := false
  pps      : Bool := false
  pos      : Nat := 0
  /-- 10 mV. -/
  volt     : Nat := 0
  /-- 10 mA. -/
  curr     : Nat := 0
  rdo      : Word := 0
  pdo      : Word := 0
  deriving DecidableEq, Repr

/-- What a TEL commit publishes: a contract, a change of roles, EPR mode (R97, R133, R159–R163). -/
structure TelDesc where
  contract : Option Contract := none
  endContract : Bool := false
  source   : Option Bool := none
  dfp      : Option Bool := none
  vconnSrc : Option Bool := none
  epr      : Option Bool := none
  deriving DecidableEq, Repr

/-- A Request posted to the allocator (Table 4.13). Power in 100 mW. -/
structure ReqRec where
  epr    : Bool := false
  reqSeq : BitVec 16 := 0
  rdo    : Word := 0
  pdo    : Word := 0
  /-- 10 mV. -/
  volt   : Nat := 0
  /-- 10 mA. -/
  curr   : Nat := 0
  power  : Nat := 0
  epoch  : BitVec 16 := 0
  /-- The boundary of its publication, for the posting order of R142. -/
  posted : Nat := 0
  deriving DecidableEq, Repr

/-- The fields of a COMMIT write (Table 3.15). -/
structure CommitWord where
  mask   : BitVec 8
  kind   : BitVec 2
  txBuf  : Fin 4
  outcomeChk : Bool
  outcome  : Bool
  amsOpen  : Bool
  amsInit  : Bool
  amsClose : Bool
  deriving DecidableEq, Repr

/-- An accepted COMMIT waiting for its boundary (R98), with the staged content it applies and what BP 4.0 publishes with it. -/
structure Commit where
  word   : CommitWord
  epoch  : BitVec 16
  staged : Staged
  events : List EvBody := []
  post   : Option ReqRec := none
  tel    : TelDesc := {}
  deriving DecidableEq, Repr

/-- A change that waits for the next Tide boundary, in the order of its write (R20, R21, R52, R105, R157, R262). -/
inductive Pend where
  | commit (c : Commit)
  | srcOpen | snkOpen | disOn
  | lowerIlim (n : BitVec 10)
  | regStandby | regIdle
  | lowerHold (n : BitVec 10)
  | errorRecovery | vconnOff | vconnRearm | swapToRd | swapToRp | vconnOn
  | hardReset | cableReset
  | gpStart (gp1 : Bool) | gpStop (gp1 : Bool)
  | pathTest
  | disable | enable
  | ccFaultClear
  | regCfg (v : Word) | regWin (v : Word) | monBlank (v : Word) | vconnCfg (v : Word) | rpLower
  | usbSafe
  | tmonCal (v : Word)
  | release
  | parkEn (en : Bool)
  | hwErrorRecovery
  | hrStep2
  | frsDisarm
  | cbStart
  | unlocked
  /-- A write to PHY_TIME_i, already clamped (R83). -/
  | phyTime (i : Fin 3) (v : Word)
  deriving DecidableEq, Repr

/-- The named timers of a berth, each the stamp at which it expires (R36, Table 8.11). -/
structure Timers where
  ccDeb : Option Stamp := none
  pdDeb : Option Stamp := none
  tryDeb : Option Stamp := none
  drpTry : Option Stamp := none
  tryWait : Option Stamp := none
  tryTo : Option Stamp := none
  acc : Option Stamp := none
  ins : Option Stamp := none
  err : Option Stamp := none
  clr : Option Stamp := none
  backDet : Option Stamp := none
  tRecv : Option Stamp := none
  resp : Option Stamp := none
  caps : Option Stamp := none
  srcTrans : Option Stamp := none
  psHr : Option Stamp := none
  srcRec : Option Stamp := none
  snkHr : Option Stamp := none
  sinkTx : Option Stamp := none
  swap : Option Stamp := none
  epr : Option Stamp := none
  path : Option Stamp := none
  settle : Option Stamp := none
  hic : Option Stamp := none
  hicClear : Option Stamp := none
  /-- The SBU switch stays open until then on its way between two closed settings (R170). -/
  sbu : Option Stamp := none
  gp0 : Option Stamp := none
  gp1 : Option Stamp := none
  vdm : Option Stamp := none
  vdmBusy : Option Stamp := none
  swapStart : Option Stamp := none
  swapRetry : Option Stamp := none
  capsRetry : Option Stamp := none
  cbCheck : Option Stamp := none
  reserve : Option Stamp := none
  grace : Option Stamp := none
  hold : Option Stamp := none
  capture : Option Stamp := none
  bReset : Option Stamp := none
  deriving DecidableEq, Repr

/-- The identity and status block, offset 0x000 (Table 3.10, R113). -/
structure Ident where
  tug          : Option TugId := none
  pdConnected  : Bool := false
  contract     : Option Contract := none
  partnerRev   : BitVec 2 := 0
  powerSource  : Bool := false
  dataDfp      : Bool := false
  vconnSrc     : Bool := false
  eprMode      : Bool := false
  amsActive    : Bool := false
  amsInit      : Bool := false
  hrActive     : Bool := false
  expectLoss   : Bool := false
  epoch        : BitVec 16 := 0
  tokenRx      : Token := {}
  tokenTx      : Token := {}
  grantSeq     : Word := 0
  /-- The Tide of the boundary that committed the current grant, for its validity of 40 Tides (R94). -/
  grantTide    : Option Nat := none
  grantRec     : Word := 0
  grantCeil    : Word := 0
  commitArg    : Word := 0
  /-- COMMIT_STATUS.LAST, DISCARDED and REASON (Table 3.16). -/
  last         : BitVec 2 := 0
  discarded    : Bool := false
  reason       : BitVec 4 := 0
  evtStage     : BitVec 16 := 0
  evtPublish   : BitVec 16 := 0
  cntRefused   : Word := 0
  cntDiscarded : Word := 0
  cntSpecDrop  : Word := 0
  idOvf        : Word := 0
  /-- Changes waiting for the next boundary, oldest first. -/
  pend         : List Pend := []
  /-- Retransmission on the gangway keeps the commits that wait from this Tide's boundary (R42). -/
  lateCommit   : Bool := false
  /-- AMS_CLOSE of the commit whose transmission is in progress (R102). -/
  closeOnTx    : Bool := false
  /-- Fenced (R443), enabled by the host (R141), domain powered. -/
  fenced       : Bool := false
  /-- A quay protection has acted since the last boundary (R19). -/
  protActed    : Bool := false
  deriving DecidableEq, Repr

/-- The CC block, offset 0x100 (Table 2.6, R76), and the CC sequencer. -/
structure Cc where
  state     : CcState := .held
  orient    : Orient := .none
  lvl1      : CcLvl := .notMeasured
  lvl2      : CcLvl := .notMeasured
  /-- Rd seen behind an insertion or attach: Ra on the unmonitored CC at attach. -/
  partnerRp : BitVec 2 := 0
  /-- Rp presented: 0 default, 1 1.5 A, 2 3.0 A, 3 none (CC_STATUS.RP_NOW). -/
  rpNow     : BitVec 2 := 3
  vconnOn   : Bool := false
  vconnLatch : Bool := false
  /-- VCONN to be applied at the next boundary under R60. -/
  vconnDue  : Bool := false
  dbRd      : Bool := false
  ovActive  : Bool := false
  isolated  : Bool := false
  acc       : BitVec 2 := 0
  accRaised : Bool := false
  cfg       : Word := 0x50
  time0     : Word := 0x19280F96
  time1     : Word := 0x0F64324B
  time2     : Word := 0x503C
  heldCfg   : Option Word := none
  heldTime0 : Option Word := none
  heldTime1 : Option Word := none
  heldTime2 : Option Word := none
  evt       : Word := 0
  ien       : Word := 0
  /-- CC_RP.LEVEL as last written, and the level last applied without a contract (R51). -/
  rp        : BitVec 2 := 1
  rpLevel   : BitVec 2 := 1
  heldRp    : Option (BitVec 2) := none
  vconnCfg  : Word := 0x569
  release   : Bool := false
  dbSel     : Bool := false
  backfeedPwrup : Bool := false
  shadowMismatch : Bool := false
  cntAttach : Word := 0
  cntDetach : Word := 0
  ovf       : Word := 0
  /-- The toggle schedule of R58: the boundary of the next switch, counted from the generator's start, and the draws made. -/
  toggleAt  : Option Nat := none
  draws     : Nat := 0
  /-- The debounce of AttachWait, TryWait.SNK or Try.SNK is complete and only VBC is awaited (Table 2.3). -/
  debDone   : Bool := false
  /-- CC1_LVL and CC2_LVL of the Tide averages, for the hysteresis of R47. -/
  avg1      : CcLvl := .notMeasured
  avg2      : CcLvl := .notMeasured
  /-- The latest stamp at which a wire is known to stand at or above 5.50 V (R74). -/
  ovAt      : Stamp := 0
  /-- The VCONN fault timer: its accumulated value in eighths of a stamp, and the stamp to which it has run (R61). -/
  vflt      : Nat := 0
  vfltAt    : Stamp := 0
  ccFaults  : List Stamp := []
  ccFaultLatched : Bool := false
  attachAt  : Option Stamp := none
  /-- BERTH_CLEAR_LATCH is timing its 100 ms clear (R74). -/
  clearing  : Bool := false
  deriving DecidableEq, Repr

/-- An entry of the receive FIFO (Table 3.3, R88). -/
structure RxEntry where
  mark : RxMark
  data : Byte
  deriving DecidableEq, Repr

/-- A message being received: its kind and whether it is entered whole (R89). -/
structure RxMsg where
  sop  : SopKind
  fits : Bool
  /-- Decoded bytes already in the FIFO (R88). -/
  got  : Nat := 0
  deriving DecidableEq, Repr

/-- A good message whose GoodCRC is on the wire (R79, R93). -/
structure AckDue where
  sop  : SopKind
  hdr  : BitVec 16
  data : List Byte
  dup  : Bool
  /-- False once a Hard Reset or the detach has ended the message: no token. -/
  live : Bool := true
  /-- The header of the GoodCRC that answers it (R79). -/
  reply : BitVec 16 := 0
  deriving DecidableEq, Repr

/-- A transmission: committed, held, on the wire, or waiting for GoodCRC. -/
structure Tx where
  buf   : Fin 4
  word0 : Word
  data  : List Byte
  sop   : SopKind
  msgId : BitVec 3
  /-- The preamble has begun. -/
  begun : Bool := false
  /-- Held under R85 or R86. -/
  heldCa : Bool := false
  attempts : Nat := 0
  /-- EOP of the present attempt reached: tReceive runs. -/
  ended : Bool := false
  deriving DecidableEq, Repr

/-- The PHY block, offset 0x200 (Table 3.18, R114). -/
structure Phy where
  cfg      : Word := 0x160
  heldCfg  : Option Word := none
  time0    : Word := 0x191264
  time1    : Word := 0x1B1B1E
  time2    : Word := 0x96501E
  rxMsg    : Option RxMsg := none
  /-- An incoming SOP* was detected since the last boundary (R87). -/
  sopSeen  : Bool := false
  ackDue   : Option AckDue := none
  tx       : Option Tx := none
  hrPending : Bool := false
  /-- The Hard Reset ordered set of the berth is on the wire (R112). -/
  hrSending : Bool := false
  crSending : Bool := false
  /-- A Hard Reset or a Cable Reset that is to be sent waits for the end of the message being received (R105, R109). -/
  hrWait   : Bool := false
  crWait   : Bool := false
  tmrRun   : RespTimer := .none
  tmrSop   : SopKind := .sop
  hrCount  : BitVec 2 := 0
  capsCount : BitVec 6 := 0
  arm      : BitVec 4 := 0
  txBufNo  : Fin 4 := 0
  txResult : TxResult := .idle
  txAttempts : BitVec 2 := 0
  txMsgId  : BitVec 3 := 0
  txSop    : SopKind := .sop
  fifo     : List RxEntry := []
  /-- Marks of messages that did not fit, waiting for a free entry (R89). -/
  owed     : List RxEntry := []
  /-- End of the berth's own last Hard Reset ordered set, for R112. -/
  hrAt     : Option Stamp := none
  evt      : Word := 0
  ien      : Word := 0
  /-- Transmit counters and stored received MessageIDs per SOP kind (R80, R81). -/
  txId     : Vector (BitVec 3) 3 := Vector.replicate 3 0
  rxId     : Vector (Option (BitVec 3)) 3 := Vector.replicate 3 none
  cnt      : Vector Word 7 := Vector.replicate 7 0
  ovf      : Word := 0
  bufs     : Vector TxBuf 4 := Vector.replicate 4 {}
  /-- The end of the latest transmission on the monitored CC, for the BMC blanking (Table 8.3). -/
  wireEnd  : Stamp := 0
  /-- SinkTxOk presented as source, or seen as sink (BERTH_STATUS.CA_OK). -/
  caOk     : Bool := false
  deriving DecidableEq, Repr

/-- The power-path block, offset 0x300 (Table 6.7, R206). -/
structure Path where
  state     : PathState := .off
  cfg       : Word := 0x00780A08
  limit     : Word := 0x001400A8
  snkLimit  : Word := 0x001400A8
  /-- The committed limits in force; FRS turn-on and harbour-less mode override the source limit (R44, R167). -/
  ilimOver  : Option (BitVec 10) := none
  evt       : Word := 0
  ien       : Word := 0
  lock      : LockCause := .none
  closeCase : Option CloseCase := none
  /-- The insertion delay runs after an inrush abort (R196). -/
  restart   : Bool := false
  trips     : List Stamp := []
  /-- The current trip is the third within 60 s (R194). -/
  thirdTrip : Bool := false
  testKind  : BitVec 2 := 0
  testResult : BitVec 2 := 0
  srcShort  : Bool := false
  snkShort  : Bool := false
  testBusy  : Bool := false
  offset    : Byte := 0
  /-- The CC state in which the pass-transistor test was entered, and whether BERTH_CLEAR_LATCH asked it (R201, R203). -/
  testFrom  : CcState := .held
  testClear : Bool := false
  /-- The test started the regulator from IDLE (step 0 of Table 6.6). -/
  testIdle  : Bool := false
  /-- The start of step 1 of Table 6.6, and whether the regulator could be used when the test began (R200). -/
  testAt    : Option Stamp := none
  testOk    : Bool := false
  /-- The test is that of R68, whose clear result is BackFeed; that of R67 at the release, whose result raises BACKFEED. -/
  testBack  : Bool := false
  testRel   : Bool := false
  /-- The stamp at which a breaker of Table 6.4 last acted on the source path (R193). -/
  brokeAt   : Option Stamp := none
  /-- The fault timer: its accumulated value in 1/32,000 of a stamp, and the stamp to which it has run (R190). -/
  flt       : Nat := 0
  fltAt     : Stamp := 0
  /-- The path limited at the end of the Tide or within it (Table 6.11, LIMITING_SRC and LIMITING_SNK). -/
  limiting  : Bool := false
  cnt       : Vector Word 5 := Vector.replicate 5 0
  ovf       : Word := 0
  deriving DecidableEq, Repr

/-- The regulator block, offset 0x400 (Table 7.8, R238). Voltages in mV. -/
structure Reg where
  state    : RegState := .idle
  stop     : Option StopCause := none
  cfg      : Word := 0x3328
  heldCfg  : Option Word := none
  vref     : Word := 0x000A04E2
  mode     : RegMode := .idle
  hold     : Word := 0x045000A5
  cbThr    : BitVec 10 := 0x68
  cbEff    : BitVec 10 := 0x68
  prot     : Word := 0x51440
  win      : Word := 0x1130A0A
  vrefNow  : Nat := 0
  target   : Nat := 0
  trim     : Int := 0
  satTides : Nat := 0
  winCount : Nat := 0
  slewing  : Bool := false
  holdNow  : Bool := false
  atFloor  : Bool := false
  dropout  : Bool := false
  cbLatch  : Bool := false
  intSat   : Bool := false
  hicCount : Nat := 0
  thermal  : Bool := false
  /-- The repair map records the crowbar latch (R232, R441). -/
  cbRepair : Bool := false
  fltLow   : Bool := false
  /-- VIN_OV stands: VIN_OK has not been set since (R198, Table 7.7 rank 5). -/
  ov       : Bool := false
  /-- k_fll in units of 0.1 % (R213). -/
  kfll     : Nat := 1000
  /-- The sample of IMON taken as zero current since the regulator last left IDLE, in µV about the stage's reference level
  (R210). -/
  imonZero : Int := 0
  /-- A sample is owed: the regulator has left IDLE and the quay has not sampled IMON yet (R210). -/
  zeroDue  : Bool := false
  /-- The stage runs in forced continuous conduction until W1 finds VBR inside the window of the new target (R217). -/
  forced   : Bool := false
  /-- HOLD_ILIM as lowered by REG_SAFE, an emergency or harbour-less mode is held in `hold` itself. -/
  dem      : Bool := false
  evt      : Word := 0
  ien      : Word := 0
  cnt      : Vector Word 4 := Vector.replicate 4 0
  ovf      : Word := 0
  deriving DecidableEq, Repr

/-- One monitor channel, Table 8.8 (R259). -/
structure MonCh where
  cfg     : Word := 0
  thr     : BitVec 10 := 0
  thrEff  : BitVec 10 := 0
  low     : BitVec 10 := 0
  lowEff  : BitVec 10 := 0
  hiNow   : Bool := false
  loNow   : Bool := false
  hiSeen  : Bool := false
  loSeen  : Bool := false
  blanked : Bool := false
  tested  : Bool := false
  hiStamp : Word := 0
  loStamp : Word := 0
  /-- The ends of the DAC settle blanking of the HI and the LO comparator (Table 8.3). -/
  hiSettle : Stamp := 0
  loSettle : Stamp := 0
  cnt     : Word := 0
  deriving DecidableEq, Repr

/-- The monitor block, offset 0x500 (Tables 8.8, 8.9, R259). -/
structure Mon where
  ch    : Vector MonCh 10
  /-- Outputs of the dedicated comparators 20–26 (R241, R259). -/
  ded   : Vector Bool 7 := Vector.replicate 7 false
  evt   : Word := 0
  ien   : Word := 0
  blank : Word := 0x000A0505
  resSel : BitVec 5 := 0
  result : BitVec 2 := 0
  kindTargeted : Bool := false
  busy  : Bool := false
  /-- Targeted tests waiting for an AUDIT slot (R252), with their origin (1 after an error, 2 host). -/
  wanted : List (Fin 27 × Nat) := []
  fence : BitVec 27 := 0
  parkEn : Bool := false
  parked : Bool := false
  /-- Boundaries in a row that found the berth in Disabled, Unattached.SRC or Unattached.SNK (R254). -/
  idleTides : Nat := 0
  /-- MODE of the regulator when the berth was parked, restored at the wake (R254). -/
  parkMode : RegMode := .idle
  cnt   : Vector Word 3 := Vector.replicate 3 0
  ovf   : Word := 0
  deriving DecidableEq, Repr

/-- The ADC block's settings and live values, offset 0x700 (Table 8.10, R260). -/
structure Adc where
  vbc   : Nat := 0
  vbr   : Nat := 0
  ipath : Int := 0
  imon  : Int := 0
  cc1   : Nat := 0
  cc2   : Nat := 0
  vconnI : Nat := 0
  temp  : Int := 0
  stale : Byte := 0
  tmonCal : Word := 0x03200258
  deriving DecidableEq, Repr

/-- The timers block, offset 0x800 (Table 8.12, R262). -/
structure Tmr where
  exp  : BitVec 16 := 0
  ien  : BitVec 16 := 0
  gp0  : BitVec 24 := 0
  gp1  : BitVec 24 := 0
  /-- The berth time base (R261). -/
  tb   : Nat := 0
  deriving DecidableEq, Repr

/-- The SBU, mux and swap block, offset 0x900 (Table 5.10, R178). -/
structure Mux where
  orientMux0 : Bool := true
  heldCfg  : Option Word := none
  sbu      : BitVec 2 := 0
  mux      : BitVec 3 := 0
  modeActive : Bool := false
  phase    : Phase := .idle
  partnerPsRdy : Bool := false
  swapTime : Word := 0x962D55
  frsCfg   : Word := 0
  frsDetected : Bool := false
  signalEnd : Bool := false
  sourceOn : Bool := false
  stamp0   : Word := 0
  stamp1   : Word := 0
  evt      : Word := 0
  ien      : Word := 0
  cnt      : Vector Word 3 := Vector.replicate 3 0
  ovf      : Word := 0
  /-- First message type of the open AMS and who sent it (the tracker's record, R155, R156). -/
  firstType : Option Nat := none
  firstByBerth : Bool := false
  /-- ORIENT as it stood at the latest boundary, for MUX0 (R171). -/
  flipped  : Bool := false
  /-- The connections of the SBU switch: 0 open, 1 straight, 2 crossed; and those it closes to next (R170). -/
  sbuPos   : BitVec 2 := 0
  sbuNext  : BitVec 2 := 0
  deriving DecidableEq, Repr

/-- The self-test block, offset 0xA00 (Table 16.6, R458), and the PHY loopback of R436. -/
structure SelfTest where
  kind      : BitVec 3 := 0
  busy      : Bool := false
  result    : BitVec 2 := 0
  cls       : BitVec 2 := 0
  phyFenced : Bool := false
  /-- Stamps of END_BAD marks, for ST_CRC_BURST.COUNT. -/
  bads      : List Stamp := []
  burst     : Bool := false
  /-- A loopback is wanted: the stamp at which it is given up, its origin (1 after a burst, 2 host). -/
  want      : Option (Option Stamp × Nat) := none
  running   : Bool := false
  sent      : BitVec 3 := 0
  good      : BitVec 3 := 0
  aborted   : Bool := false
  evt       : Word := 0
  cnt       : Vector Word 2 := Vector.replicate 2 0
  ovf       : Word := 0
  deriving DecidableEq, Repr

/-- The registers latched at a Tide boundary (R21, step 1 of Table 1.4), as words. -/
structure Latch where
  berthStatus : Word := 0
  tokenRx     : Word := 0
  tokenTx     : Word := 0
  commitStatus : Word := 0
  ccStatus    : Word := 0x19F80
  phyStatus   : Word := 0
  txStatus    : Word := 0
  pathStatus  : Word := 0x800
  pathTest    : Word := 0
  regStatus   : Word := 0
  regVnow     : Word := 0
  regTrim     : Word := 0
  regFreq     : Word := 0
  monState    : Vector Word 10 := Vector.replicate 10 0
  adcV        : Word := 0
  adcI        : Word := 0
  adcCc       : Word := 0
  adcAux      : Word := 0
  adcFlags    : Word := 0
  tb          : BitVec 64 := 0
  tide        : BitVec 48 := 0
  muxStatus   : Word := 0x40
  swapStatus  : Word := 0
  frsStatus   : Word := 0
  stStatus    : Word := 0
  stBurst     : Word := 0
  capWptr     : Word := 0
  deriving DecidableEq, Repr

/-! ### Policy -/

/-- A template of Table 4.2. Voltages in 10 mV, currents in 50 mA. -/
structure Template where
  kind : Nat
  vlo  : Nat
  vhi  : Nat
  imax : Nat
  imin : Nat
  deriving DecidableEq, Repr

/-- An accept rule of Table 4.4. Powers in 100 mW. -/
structure AcceptRule where
  pos    : BitVec 16
  plo    : Nat
  phi    : Nat
  cond   : Byte
  action : Nat
  deriving DecidableEq, Repr

/-- A swap rule of Table 4.5. -/
structure SwapRule where
  kind   : Nat
  from_  : Byte
  cond   : Byte
  action : Nat
  deriving DecidableEq, Repr

/-- A mode rule of Table 4.5. -/
structure ModeRule where
  svid   : BitVec 16
  mode   : Nat
  action : Nat
  mux    : BitVec 3
  sbu    : BitVec 2
  deriving DecidableEq, Repr

/-- A policy table of Table 4.1 with its five sections (R120). GMIN and PMAX in 100 mW. -/
structure PolicyTable where
  role      : Byte
  flags     : Byte
  cls       : Nat
  decWindow : Nat
  waitLimit : Nat
  gmin      : Nat
  pmax      : Nat
  defaults  : Word
  src  : List Template
  snk  : List Template
  acc  : List AcceptRule
  swp  : List SwapRule
  mode : List ModeRule
  deriving DecidableEq, Repr

/-- Table 0, built into the firmware (R116). -/
def PolicyTable.builtin : PolicyTable :=
  { role := 0x10, flags := 0, cls := 7, decWindow := 80, waitLimit := 5, gmin := 75, pmax := 75
    defaults := 0x00111111, src := [{ kind := 0, vlo := 500, vhi := 500, imax := 30, imin := 0 }]
    snk := [], acc := [], swp := [], mode := [] }

/-- A change of one staging register that a BP 4.0 intention carries (R97). -/
inductive StageOp where
  | vref (v : Word) | hold (v : Word) | pathLimit (v : Word) | snkLimit (v : Word) | pathCfg (v : Word)
  | pathStage (v : Word) | frsCfg (v : Word) | cbThr (v : BitVec 10) | prot (v : Word)
  | w0Hi (mv : Nat) | w4Hi (v : BitVec 10) | w9 (hi lo : BitVec 10) | ccRp (v : BitVec 2) | mux (v : Word)
  deriving DecidableEq, Repr

/-- One COMMIT that BP 4.0 intends to write, with what it stages first (R97, R102, R126–R128). -/
structure Intent where
  tx      : Option (Word × List Byte) := none
  kind    : BitVec 2 := 0
  /-- The token or grant number it must carry; none: the live one when written. -/
  arg     : Option Word := none
  outcome : Option Bool := none
  mask    : BitVec 8 := 0
  stage   : List StageOp := []
  safe    : List Pend := []
  phyCfg  : Option Word := none
  events  : List EvBody := []
  post    : Option ReqRec := none
  tel     : TelDesc := {}
  amsOpen : Bool := false
  amsInit : Bool := false
  amsClose : Bool := false
  /-- It waits for a Tide with no AMS open. -/
  waitAms : Bool := false
  /-- It waits for a latch that shows the sink-close conditions (R186), the PS_RDY window (R224), VBC in vSafe5V. -/
  needSink : Bool := false
  needWin  : Bool := false
  needSafe5 : Bool := false
  needSafe0 : Bool := false
  /-- The earliest stamp at which it is written. -/
  after   : Stamp := 0
  epoch   : BitVec 16 := 0
  deriving DecidableEq, Repr

/-- A decision window open at a berth (R128). -/
structure DecWindow where
  id      : BitVec 16
  kind    : AmsKind
  content : BitVec 64
  ends    : Stamp
  /-- Undecided it ends in a rejection: the default of the table in force when its message was confirmed (R119, R130). -/
  rejects : Bool := false
  deriving DecidableEq, Repr

/-- How a decision window ended (R129): it lapsed, it ended undecided, or it was decided. -/
inductive DecEnd where
  | lapsed
  | ended (w : DecWindow)
  | decided
  deriving DecidableEq, Repr

/-- What BP 4.0 has asked the partner and waits for. -/
inductive Ask where
  | caps | request | softReset | swap (kind : Nat) | sinkCap | eprEnter | eprSucceeded | eprExit | host | cable | vdm
  deriving DecidableEq, Repr

/-- A stored outcome (R129, R130). -/
structure Stored where
  kind    : AmsKind
  content : BitVec 64
  accept  : Bool
  lapses  : Stamp
  deriving DecidableEq, Repr

/-- What a command that needs the berth's transmitter asks (R103). -/
inductive FifoKind where
  | swap (kind target : Nat)
  | message (kind : Nat) (sop : SopKind) (type_ : Nat) (await mux : Bool) (sbu muxc : Nat) (data : List Byte)
  | enterMode (svid : BitVec 16) (mode : Nat)
  | exitMode
  deriving DecidableEq, Repr

/-- A command in the berth's command FIFO (R103). -/
structure FifoCmd where
  origin : Origin
  code   : Nat
  kind   : FifoKind
  due    : Stamp
  tries  : Nat := 0
  /-- A mode was exited for it first (R176). -/
  exited : Bool := false
  deriving DecidableEq, Repr

/-- A completion a berth has reached for a host command: the origin, the outcome and the response body. -/
structure Done where
  origin : Origin
  code   : Nat
  status : Status
  body   : List Byte := []
  /-- The outcome is one byte of a RESULT array (R314). -/
  result : Bool := true
  deriving DecidableEq, Repr

/-- What BP 4.0 has still to publish with an EVT commit: a host response or an event (R93, R101, Table 3.6). -/
inductive Owed where
  | resp (d : Done)
  | ev (e : EvBody)
  deriving DecidableEq, Repr

/-- A chunked message being received: its SOP kind, type and DataSize, and the bytes so far (R91). -/
structure ChunkRx where
  sop  : SopKind
  type_ : Nat
  size : Nat
  data : List Byte
  deriving DecidableEq, Repr

/-- An extended message being sent in chunks: header type, SOP kind, all data, the next chunk, the timer of the last chunk, and
whether the last chunk closes the AMS (R91, R102). -/
structure ChunkTx where
  type_ : Nat
  sop   : SopKind
  data  : List Byte
  due   : Nat
  timer : Nat
  close : Bool
  deriving DecidableEq, Repr

/-- A VDM request that awaits its response, kept for its resend (R175). -/
structure VdmReq where
  sop  : SopKind
  objs : List Word
  deriving DecidableEq, Repr

/-- A BERTH_CLEAR_LATCH running on a berth (R203, R233, Table 11.6): the latches still to clear and the outcome so far. -/
structure ClearJob where
  origin : Origin
  mask   : BitVec 5
  /-- Outcomes by MASK bit. -/
  outcomes : List (Nat × Status) := []
  deriving DecidableEq, Repr

/-- The identity found on a cable (Table 4.5a). -/
structure Cable where
  amps5  : Bool
  epr    : Bool
  /-- Volts. -/
  maxV   : Nat
  active : Bool
  second : Bool := false
  deriving DecidableEq, Repr

/-- The policy and protocol state of a berth that BP 4.0 and the allocator keep. -/
structure Pol where
  table    : Nat := 0
  clsOver  : Option Nat := none
  gminOver : Option Nat := none
  todo     : List Intent := []
  windows  : List DecWindow := []
  stored   : List Stored := []
  /-- Windows that are over, with how they ended (R129); a decision number was taken by the last message. -/
  oldIds   : List (BitVec 16 × DecEnd) := []
  tookId   : Bool := false
  ask      : Option Ask := none
  /-- WAIT_COUNT of Request, PR_Swap, DR_Swap and VCONN_Swap (R131). -/
  waits    : Vector Nat 4 := Vector.replicate 4 0
  /-- PDOs last sent and last confirmed by the partner, with their offer and stamp (R125, R145). -/
  sentCaps : List Word := []
  sentOffer : Nat := 0
  caps     : List Word := []
  capsOffer : Nat := 0
  capsAt   : Stamp := 0
  /-- Capabilities are to be sent, the earliest stamp, and whether they rest on VBC in vSafe5V first (R106, R145). -/
  capsDue  : Bool := false
  capsAfter : Stamp := 0
  /-- The outstanding Request and the contract its Accept would make (R126). -/
  request  : Option ReqRec := none
  want     : Option Contract := none
  /-- A power transition runs towards this contract (R82, R224). -/
  trans    : Option Contract := none
  posted   : Option ReqRec := none
  cable    : Option Cable := none
  cableAsked : Bool := false
  partnerCaps : List Word := []
  /-- Fast role swap current of the partner's Sink_Capabilities, 10 mA; 0 none (R165). -/
  partnerFrs : Nat := 0
  eprEntry : Nat := 0
  eprSrcKa : Nat := 900
  eprSnkKa : Nat := 375
  noEprRounds : Nat := 0
  /-- Discovered SVIDs with their modes, the step of discovery and the active mode (R172–R176). -/
  svids    : List (BitVec 16) := []
  modes    : List (BitVec 16 × Nat) := []
  discStep : Nat := 0
  /-- A published contract or the role DFP calls for discovery (R172). -/
  discDue  : Bool := false
  vdmSent  : Option VdmReq := none
  vdmTries : Nat := 0
  modeNow  : Option (BitVec 16 × Nat) := none
  modeTry  : Option ModeRule := none
  /-- Exit Mode of the active mode is under way (R176). -/
  exiting  : Bool := false
  swapByHost : Bool := false
  fifo     : List FifoCmd := []
  cur      : Option FifoCmd := none
  clear    : Option ClearJob := none
  chunkRx  : Option ChunkRx := none
  chunkTx  : Option ChunkTx := none
  /-- Responses and events not yet published (R101). -/
  owed     : List Owed := []
  /-- The table whose rules an AMS that was open at a binding finishes under (R119). -/
  amsTbl   : Option PolicyTable := none
  /-- Get_Sink_Cap was sent in this contract (R165); FR_Swap was sent in this sequence (R168); EPR entry as sink was tried in this
  connection (R136). -/
  frsAsked : Bool := false
  frsSent  : Bool := false
  eprTried : Bool := false
  /-- An emergency applies to the berth, from its t0 (R146, R148). -/
  emerg    : Bool := false
  /-- Step 2 of Table 4.11 has lowered the hold limit. -/
  lowered  : Bool := false
  alertDue : List Nat := []
  hrDue    : Bool := false
  /-- Allocator terms (R139): C_b, 1 s sums, rounds of history, offers and shares, in 100 mW. -/
  cB       : Nat := 0
  history  : Nat := 0
  avg      : List Nat := []
  counted  : Nat := 0
  offer    : Nat := 0
  share    : Option Nat := none
  vmax     : Nat := 0
  reserved : Option (Nat × Nat × Nat) := none
  withdraw : Bool := false
  /-- R123 added or withdrew a PDO at the latest grant (R145). -/
  pdosMoved : Bool := false
  lastDecision : Nat := 0
  /-- The sequence number of the last Request whose decision BP 4.0 has taken up. -/
  takenSeq : Option (BitVec 16) := none
  /-- The last GRANT_SEQ that BP 4.0 has looked at. -/
  seenGrant : Word := 0
  /-- A transmission that an incoming message discarded before its preamble (R87, Table 5.7). -/
  lost    : Option (Word × List Byte) := none
  dropV    : Option Nat := none
  winPdos  : List Nat := []
  holdDue  : Bool := false
  belowWin : Nat := 0
  deriving DecidableEq, Repr
/-- One berth (R17): its registers, hardware and policy state. -/
structure Berth where
  /-- Enabled by the host: not put in Disabled by BERTH_DISABLE (R141). -/
  enabled : Bool := true
  id    : Ident := {}
  cc    : Cc := {}
  phy   : Phy := {}
  path  : Path := {}
  reg   : Reg := {}
  mon   : Mon
  adc   : Adc := {}
  tmr   : Tmr := {}
  tm    : Timers := {}
  mux   : Mux := {}
  /-- The staging registers as last written (R97). -/
  stg   : Staged := {}
  lat   : Latch := {}
  /-- The copy of the latched registers that the last delivery put on the harbour die (R21 step 5). -/
  shadow : Latch := {}
  /-- The snapshot of the present Tide has been delivered (R22). -/
  delivered : Bool := false
  smp   : BerthSample := {}
  pol   : Pol := {}
  /-- Events staged and not yet published (R101). -/
  evOut : List EvBody := []
  /-- Fault causes of protections, to be recorded (R101, R349). -/
  faults : List FaultBody := []
  done  : List Done := []
  st    : SelfTest := {}
  deriving DecidableEq, Repr

/-- The reset values of the ten channels: thresholds of Table 8.2, masks of Table 8.3. -/
def monReset : Vector MonCh 10 :=
  #v[{ cfg := 0x40, thr := 550, thrEff := 550, low := 475, lowEff := 475 },
     { cfg := 0x50, thr := 525, thrEff := 525, low := 475, lowEff := 475 },
     { thr := 480, thrEff := 480 },
     { cfg := 0x10, thr := 232, thrEff := 232, low := 39, lowEff := 39 },
     { cfg := 0x10, thr := 486, thrEff := 486, low := 256, lowEff := 256 },
     { cfg := 0xA0, thr := 533, thrEff := 533, low := 133, lowEff := 133 },
     { cfg := 0xA0, thr := 533, thrEff := 533, low := 133, lowEff := 133 },
     { cfg := 0x80, thr := 420, thrEff := 420 },
     { thr := 620, thrEff := 620, low := 500, lowEff := 500 },
     { thr := 1023, thrEff := 1023 }]

/-- A berth after a reset of its block. -/
def Berth.reset : Berth := { mon := { ch := monReset } }

/-! ### Tugs -/

/-- Where a Tug stands: no program, loaded and waiting to enter, running, asleep after MOOR, suspended at cycle 9,000,
halted by a double fault, held in reset for its core test. -/
inductive TugMode where
  | empty | loaded | running | moored | suspended | halted | testing
  deriving DecidableEq, Repr

/-- The entry reasons of Table 19's list in R284 (Table 9.19), in code order. -/
inductive Entry where
  | release | berthReset | noCopy | fault | remap | mooring | forced
  deriving DecidableEq, Repr

/-- A Tug (R263, Tables 9.1, 9.13) and its binding. -/
structure Tug where
  /-- Z0–Z11. -/
  z      : Vector Word 12 := Vector.replicate 12 0
  /-- Z12–Z15 and LK of the user bank and of the exception bank. -/
  user   : Vector Word 4 := Vector.replicate 4 0
  exc    : Vector Word 4 := Vector.replicate 4 0
  lkUser : Word := 0
  lkExc  : Word := 0
  pcn    : Word := 0
  /-- B, N, Z, C, V from bit 4 down (Table 9.2). -/
  fl     : BitVec 5 := 0
  crcsel : BitVec 2 := 0
  vbase  : Word := 0
  epc    : Word := 0
  efl    : BitVec 5 := 0
  ecause : Word := 0
  eaddr  : Word := 0
  imask  : BitVec 8 := 0
  /-- IPEND bit 7; bits 0–6 are levels of the bound berth's registers. -/
  grantPend : Bool := false
  mirlen : BitVec 12 := 0
  /-- MIRLEN in force for the mirror of this Tide (R285). -/
  mirNow : BitVec 12 := 0
  spill  : Nat := 0
  bank   : Bool := false
  dfcause : Word := 0
  dfpc   : Word := 0
  /-- Tug cycle within the Tide. -/
  cycle  : Nat := 0
  mode   : TugMode := .empty
  /-- MOOR with M set in this Tide (R286). -/
  mflag  : Bool := false
  berth  : Option BerthId := none
  /-- The Tug whose berth state copy a load restores (R285), and the berth the Tug last left. -/
  from_  : Option TugId := none
  last   : Option BerthId := none
  /-- A mooring condition held at the latest boundary (R286). -/
  moorHeld : Bool := false
  fenced : Bool := false
  /-- The current image slot its program came from, its PROGRAM word and STATE_FORMAT. -/
  slot   : Nat := 0
  program : Word := 0
  format : Word := 0
  /-- RELEASE and SIGNATURE of the loaded image, by which a berth runs a slot's content (R451). -/
  release : Word := 0
  sig : List Byte := []
  /-- What Pilot's `tug` shows: the Tug as it stood at its last MOOR or suspension (Table 17.2). -/
  shown : List Nat := []
  /-- What the next load is for: the reason and whether it enters warm. -/
  entry  : Option (Entry × Bool) := none
  /-- The mirror of this Tide is sealed (R28). -/
  sealed : Bool := false
  /-- A core test in place holds the berth (R444). -/
  inPlace : Bool := false
  /-- Bus errors counted under R38. -/
  busErrs : Word := 0
  deriving DecidableEq, Repr

/-! ### Quays -/

/-- A comparator test running on a quay (R249–R253): its berth by local index, its comparator, whether it is targeted,
its origin. -/
structure CompTest where
  local_   : Fin 8
  /-- It tests W8 or the quay's own stand-in, which no one berth has (R249, R251). -/
  wide     : Bool
  comp     : Fin 27
  targeted : Bool
  origin   : Nat
  deriving DecidableEq, Repr

/-- One quay: its common registers, monitors, gangway and sequencer. -/
structure Quay where
  vinWin  : Word := 0x026C01F4
  vinTime : Word := 0x14
  vinHeld : Option (Word × Word) := none
  uvNow   : Bool := false
  ovNow   : Bool := false
  vinOk   : Bool := false
  /-- Tide averages, mV and 0.1 °C. -/
  vins    : Nat := 0
  snks    : Nat := 0
  temp    : Int := 0
  /-- VCONN is taken from VQ5 (R62). -/
  vconnVq5 : Bool := false
  /-- Brought up, released, in harbour-less mode, since when. -/
  up      : Bool := false
  released : Bool := false
  releasedAt : Nat := 0
  hless   : Bool := false
  hlessAt : Stamp := 0
  missed  : Nat := 0
  /-- The boundary at which a strobe was last missed, counted from the generator's start (R43). -/
  missedAt : Nat := 0
  /-- The gangway is being retrained by a reset; Tides since its start (R392). -/
  retrain : Bool := false
  /-- Posted Tug writes queued during the retrain, in their issue order (R392). -/
  posted  : List (BerthId × Nat × Word) := []
  trained : Bool := false
  fenced  : Bool := false
  gwFenced : Bool := false
  thermal : Bool := false
  /-- Lanes removed: bits 0, 1 downstream, 2, 3 upstream. -/
  removed : BitVec 4 := 0
  laneTest : Option (Fin 4 × Nat) := none
  laneWant : List (Fin 4 × Nat) := []
  crcCount : Word := 0
  gwResets : List Nat := []
  gwBy    : Option Origin := none
  /-- The cause that the quay's RESET_REPORT gives at its release (R387); a thermal shutdown: its stamp and the highest
  temperature (R347). -/
  why     : Option Nat := none
  hotAt   : Option (Stamp × Int) := none
  /-- A DEV_RESET or SVC_UNFENCE of the quay waits for its release. -/
  resetBy : Option (Origin × Nat) := none
  seq     : Vector Word 32 :=
    #v[0x30100#32, 0x30101#32, 0x20102#32, 0x20103#32, 0x20010#32, 0x20011#32, 0x80012#32, 0x20013#32, 0x10014#32, 0x10015#32,
       0x20016#32, 0x2021E#32, 0#32, 0#32, 0#32, 0#32, 0#32, 0#32, 0#32, 0#32, 0#32, 0#32, 0#32, 0#32, 0#32, 0#32, 0#32, 0#32, 0#32,
       0#32, 0#32, 0#32]
  seqHeld : Option (Vector Word 32) := none
  audit   : Nat := 0
  paced   : Bool := false
  /-- The boundary at which a berth of the quay last made a toggle switch, counted from the generator's start (R58). -/
  toggled : Option Nat := none
  test    : List CompTest := []
  /-- The anti-fuse row of dead-battery selections (R64). -/
  row     : Byte := 0
  deriving DecidableEq, Repr

/-! ### Telemetry of a berth -/

/-- One sum with its count for each of VBUS, CURR, POWER, TEMP. -/
abbrev Sums := Vector (Int × Nat) 4

/-- A trigger of CAP_ARM (R342). -/
inductive CapTrig where
  | now | edge (c : Fin 27) (on : Bool) | fault
  deriving DecidableEq, Repr

/-- An armed capture (R342): PRE and POST in 100 µs. -/
structure CapArm where
  origin : Origin
  trig   : CapTrig
  pre    : Nat
  post   : Nat
  at_    : Stamp
  until_ : Option Stamp
  stamp  : Option Stamp := none
  deriving DecidableEq, Repr

/-- A frozen window: FIRST and the end in µs, the first µs written after the freeze and its ring index (R321, R341, R342). -/
structure CapFrozen where
  first : Nat
  stop  : Nat
  from_ : Nat
  slot  : Nat
  deriving DecidableEq, Repr

/-- A message of the fault record's log (Table 12.6). -/
structure MsgLog where
  stamp : Stamp
  rx    : Bool
  sop   : SopKind
  hdr   : BitVec 16
  data  : List Byte
  deriving DecidableEq, Repr

/-- The six harbour counters of one berth (R334, R337): ATTACH, FAULT, HARD_RESET, TRIP, E_OUT and E_IN in pJ, and their OVF
bits in the order of TEL_READ_SNAPSHOT. -/
structure Counts where
  cnt  : Vector Word 4 := Vector.replicate 4 0
  eOut : Nat := 0
  eIn  : Nat := 0
  ovf  : BitVec 6 := 0
  deriving DecidableEq, Repr

/-- The averaged set, peaks, harbour counters, capture and message log of one berth (R330–R349). -/
structure Tele where
  /-- Tide values of the latest boundary; none where STALE. -/
  now     : Vector (Option Int) 4 := Vector.replicate 4 none
  window  : Nat := 1000
  tides   : Nat := 0
  seg     : Sums := Vector.replicate 4 (0, 0)
  /-- Completed segments, newest first, and how many have completed since the restart. -/
  segs    : List Sums := []
  total   : Nat := 0
  /-- The output published at the last segment end or boundary. -/
  out     : Vector Int 4 := Vector.replicate 4 0
  peaks   : Vector (Option Int) 4 := Vector.replicate 4 none
  counts  : Counts := {}
  /-- Berth-window counters at the last latch: CC_CNT_ATTACH, CNT_HR_TX, CNT_HR_RX, CNT_FAST_TRIP, CNT_LIMIT. -/
  prev    : Vector Word 5 := Vector.replicate 5 0
  newFaults : Nat := 0
  /-- TEL_SUBSCRIBE mask (R322). -/
  mask    : BitVec 16 := 0xFFFF
  stale   : Bool := false
  wptr    : Nat := 0
  arm     : Option CapArm := none
  frozen  : Option CapFrozen := none
  /-- The window released last, with the first µs written after its release. -/
  past    : Option (CapFrozen × Nat) := none
  msgs    : List MsgLog := []
  /-- Stamps of berth-scope resets (R395), the hold, and the reset in progress: its origin and its step of Table 14.6. -/
  resets  : List Nat := []
  held    : Bool := false
  reset   : Option (Option Origin × Nat) := none
  /-- Rebinding stamps for Tide overruns (R447). -/
  rebinds : List Nat := []
  /-- A pending program swap: slot, force, deadline in Tides, origin (R452); a pending remap (R446). -/
  swap    : Option (Nat × Bool × Nat × Origin) := none
  remap   : Option (Option TugId × Nat × Option Origin) := none
  /-- The Tug that last ran the berth's program and the slot bound to the berth. -/
  slot    : Nat := 0
  /-- PHY counters, CNT_COMMIT_REFUSED and CNT_COMMIT_DISCARDED as the Pilot trace saw them at the latest boundary (R468). -/
  seen    : Vector Word 9 := Vector.replicate 9 0
  deriving DecidableEq, Repr

/-! ### The host links -/

/-- The states of a Xehus link (Table 10.4), in code order of Table 11.4. -/
inductive LinkState where
  | down | up | retrain | lost | off
  deriving DecidableEq, Repr

/-- The frame types (Table 10.1). -/
inductive FrameType where
  | cmd | rsp | evt | ack | idle | credit | retrain
  deriving DecidableEq, Repr

/-- A frame that the device puts on a line (Table 10.1). -/
structure Frame where
  type    : FrameType
  seq     : BitVec 4 := 0
  flags   : BitVec 8 := 0
  tag     : Nat := 0
  code    : BitVec 16 := 0
  payload : List Byte := []
  deriving DecidableEq, Repr

/-- A sequenced frame held until it is acknowledged (R294): its send count, the frame, the event it carries. -/
structure Held where
  count : BitVec 16
  frame : Frame
  event : Option Nat := none
  deriving DecidableEq, Repr

/-- A response waiting to be sent (R298). -/
structure Response where
  origin : Origin
  code   : Nat
  reject : Bool := false
  payload : List Byte
  deriving DecidableEq, Repr

/-- One Xehus link (R292–R300). -/
structure Link where
  state    : LinkState := .off
  enabled  : Bool := true
  sendCount : BitVec 16 := 0
  rxCount  : BitVec 16 := 0
  unacked  : List Held := []
  /-- A frame not yet acknowledged must be sent again from the oldest. -/
  polls    : Nat := 0
  nakDue   : Bool := false
  locked   : Bool := false
  inverted : Bool := false
  fresh    : Bool := true
  ready    : Bool := false
  fails    : Nat := 0
  errs     : List Stamp := []
  frameErrs : Word := 0
  retrains : Word := 0
  resent   : Word := 0
  badCounts : Word := 0
  /-- Good frames of a type that the device never accepts (R291). -/
  discards : Word := 0
  queue    : List Response := []
  /-- LINK_CONFIG disables it once its response is acknowledged (R300). -/
  closing  : Bool := false
  /-- A link reset by DEV_RESET or by the host waits for the link to return. -/
  resetBy  : Option Origin := none
  /-- The frames the device has put on the line, newest last. -/
  line     : List Frame := []
  deriving DecidableEq, Repr

/-- An entry of the command tag area (R301–R303, R315): a command that has its tag. -/
structure TagEntry where
  origin : Origin
  code   : Nat
  fence  : Bool := false
  started : Bool := false
  /-- The response is queued: the command has completed. -/
  done   : Bool := false
  /-- The order of acceptance. -/
  order  : Nat := 0
  /-- The payload that came with its frame or its tunnel message, and the stamp of its arrival (R129, R302). -/
  payload : Option (List Byte) := none
  at_     : Stamp := 0
  /-- The Pilot session's level at its acceptance (R420). -/
  level   : Nat := 2
  deriving DecidableEq, Repr

/-- A running command over a berth set (R314): the berths still without an outcome, and the outcomes. -/
structure SetJob where
  origin : Origin
  code   : Nat
  left   : BitVec 48
  outs   : List (Nat × Status) := []
  deriving DecidableEq, Repr

/-- A published event in the event queue (Table 10.5, R304–R308). -/
structure EvEntry where
  seq    : Nat
  tide   : Nat
  berth  : Nat
  body   : EvBody
  coalesced : Bool := false
  resync : Bool := false
  held   : Bool := false
  merged : Nat := 0
  /-- Sent on this link; acknowledged at link level. -/
  sent   : Option LinkId := none
  acked  : Bool := false
  deriving DecidableEq, Repr

/-! ### The allocator -/

/-- The kinds of emergency (Table 4.10), in code order of the BUDGET event. -/
inductive EmKind where
  | host | droop | overdraw | quayBudget
  deriving DecidableEq, Repr

/-- An emergency in force (R146): its scope as a bitmap of quays (0 the device), its target in 0.1 W, the detection value,
the boundary t0 of R148 counted in `ticks`, rounds of droop, rounds of the condition that ends it, the boundary t1 of R148 counted in
`ticks`; it has ended and its shares are still to be dropped. -/
structure Emergency where
  kind   : EmKind
  scope  : BitVec 6
  target : Nat
  base   : Nat := 0
  t0     : Nat := 0
  rounds : Nat := 0
  good   : Nat := 0
  t1     : Option Nat := none
  ended  : Bool := false
  deriving DecidableEq, Repr

/-- The power budget settings of POWER_SET_BUDGET (Table 4.8, Table 4.10). B in 0.1 W, QB in W, k in 0.01, T_D in °C,
DROOP_V in 0.1 V, times in 0.1 s. -/
structure Budget where
  b      : Option Nat := none
  k      : Nat := 100
  qb     : Vector Nat 6 := Vector.replicate 6 2000
  tD     : Nat := 100
  droopV : Nat := 530
  grace  : Nat := 10
  holdToHr : Nat := 10
  deriving DecidableEq, Repr

/-- One berth's terms in a round (R139). -/
structure Term where
  cB : Nat := 0
  counted : Nat := 0
  c  : Nat := 0
  d  : Nat := 0
  g  : Nat := 0
  cls : Nat := 7
  t  : Nat := 0
  /-- vmax_b in mV (R123). -/
  vmax : Nat := 0
  /-- The berth has history (R139). -/
  hist : Bool := false
  /-- The berth counted in full at the round's start: it takes part in the round (Table 4.12). -/
  live : Bool := false
  deriving DecidableEq, Repr

/-- The allocator (R138–R150). -/
structure Alloc where
  budget  : Budget := {}
  /-- The terms sampled at the round's start, and those of the current grant. -/
  terms   : Vector Term 48 := Vector.replicate 48 {}
  granted : Vector Term 48 := Vector.replicate 48 {}
  /-- Requests sampled at the round's start. -/
  requests : List (BerthId × ReqRec) := []
  hc : Int := 0
  hd : Int := 0
  hq : Vector Int 6 := Vector.replicate 6 0
  /-- B_eff, k and P_q sampled at the round's start (R138), and those of the current grant (R150). -/
  bEff : Nat := 0
  k    : Nat := 100
  pq  : Vector Nat 6 := Vector.replicate 6 0
  grantEff : Nat := 0
  grantK   : Nat := 100
  grantPq  : Vector Nat 6 := Vector.replicate 6 0
  grantSeq : Word := 0
  grantTide : Nat := 0
  ems : List Emergency := []
  /-- Sums over the round in progress: source power in mW per Tide, Qq_VINS and its lowest average per quay, Tides. -/
  delivery : Nat := 0
  lastDelivery : Nat := 0
  vinSum : Vector Nat 6 := Vector.replicate 6 0
  vinMin : Vector Nat 6 := Vector.replicate 6 0
  vinMean : Vector Nat 6 := Vector.replicate 6 0
  vinLow  : Vector Nat 6 := Vector.replicate 6 0
  lowRounds : Vector Nat 6 := Vector.replicate 6 0
  tides : Nat := 0
  /-- The round's start was sampled, so that its end commits a grant (R449). -/
  sampled : Bool := false
  deriving DecidableEq, Repr

/-! ### Policy tables, configuration, Manifest -/

/-- A policy table's two copies (R116, R117): the current one with its bytes, and the loading copy. -/
structure PolSlot where
  raw     : List Byte := []
  tbl     : Option PolicyTable := none
  loading : List Byte := []
  deriving DecidableEq, Repr

/-- What a Manifest slot holds (Table 12.4). -/
inductive ManItem where
  | free
  | record (berth : Nat) (cause : Nat) (tide : Nat)
  | glaze
  | policy (id : Nat)
  | bindings (tables : List Nat)
  | budget (b : Budget)
  | config (id : Nat) (value : List Byte)
  | repairs
  deriving DecidableEq, Repr

/-- A written Manifest slot (R345, R351, R354); a slot not listed has never been written. -/
structure ManSlot where
  slot   : Nat
  item   : ManItem
  sealed : Bool
  seq    : Nat
  wcount : Word
  retired : Bool := false
  data   : List Byte := []
  /-- All bytes of the slot, where a DBG_POKE has changed one. -/
  raw    : Option (List Byte) := none
  deriving DecidableEq, Repr

/-- A record waiting for its excerpt or to be written (R349, R350). -/
structure PendRec where
  slot  : Nat
  seq   : Nat
  berth : Nat
  cause : Nat
  tide  : Nat
  stamp : Stamp
  head  : List Byte
  /-- The excerpt has been copied. -/
  ready : Bool
  excerpt : List Byte := []
  deriving DecidableEq, Repr

/-- A location of the repair map (R441). -/
inductive Loc where
  | holdRow (row : Nat) | quayStandIn (q : QuayId) | comp (b : BerthId) (c : Fin 27) | path (b : BerthId) | phy (b : BerthId)
  | lane (q : QuayId) (l : Fin 4) | tug (t : TugId) | core (hmb : Bool)
  deriving DecidableEq, Repr

/-- The marks of one location: stamps of its transients in seconds, its lasting mark. -/
structure LocMark where
  loc : Loc
  transients : List Nat := []
  lasting : Bool := false
  deriving DecidableEq, Repr

/-- What the repair map keeps of a berth (R441). -/
structure RepBerth where
  lock    : LockCause := .none
  fence   : BitVec 27 := 0
  crowbar : Bool := false
  phy     : Bool := false
  fenced  : Bool := false
  deriving DecidableEq, Repr

/-- The repair map (R441) and the counts of R437–R442. -/
structure Repair where
  marks   : List LocMark := []
  berths  : Vector RepBerth 48 := Vector.replicate 48 {}
  /-- Retired Manifest slots with their successors (R354). -/
  succ    : List (Nat × Nat) := []
  /-- Spare rows used per 256 KB subarray, marked rows without a spare, fenced banks. -/
  used    : Vector Nat 64 := Vector.replicate 64 0
  replaced : List Nat := []
  marked  : List Nat := []
  banks   : BitVec 8 := 0
  coreFenced : Bool := false
  transients : Word := 0
  lasting : Word := 0
  corrected : Word := 0
  moorMiss : Word := 0
  deriving DecidableEq, Repr

/-- Brittle (R409–R412): logical rows, spares, table rows; which bits are weak at tight margin; the loaded shadow. -/
structure Brittle where
  rows   : Vector Word 256
  spares : Vector Word 16 := Vector.replicate 16 0
  table  : Vector Word 18 := Vector.replicate 18 0
  weak   : Vector Word 256 := Vector.replicate 256 0
  spareWeak : Vector Word 16 := Vector.replicate 16 0
  shadow : Vector Word 256
  loaded : Bool := false
  deriving DecidableEq, Repr

/-- A firmware image slot (R282, R283): its staged content's length, whether it passed FW_VERIFY, release, key; what the
current slot holds. For slot 0, the Harbourmaster image, `current` says that the staged image is the active one (R450). -/
structure FwSlot where
  staged   : Nat := 0
  verified : Bool := false
  release  : Word := 0
  customer : Bool := false
  current  : Bool := false
  curRelease : Word := 0
  curCustomer : Bool := false
  minHm    : Word := 0
  deriving DecidableEq, Repr

/-- The Harbourmaster cores and images (R448–R450). -/
structure Harbour where
  /-- HMB is the active core; the active image is B. -/
  coreB   : Bool := false
  imageB  : Bool := false
  relA    : Word := 0
  relB    : Word := 0
  ready   : Bool := false
  /-- Boundaries the standby has followed; a core test is running; which core. -/
  followed : Nat := 0
  testing : Option Bool := none
  /-- Boundaries since the watchdog was last serviced (Table 14.4). -/
  unkicked : Nat := 0
  /-- FW_COMMIT_HM in progress: its origin, the standby is ready. -/
  commit  : Option (Origin × Bool) := none
  slots   : Vector FwSlot 7 := Vector.replicate 7 {}
  deriving DecidableEq, Repr

/-! ### SMBus, Pilot, JTAG, supplies -/

/-- The byte logic of the two-wire target (R368): what it is doing, with the bits of the current byte already passed. -/
inductive BusPhase where
  /-- It waits for a START. -/
  | idle
  /-- The address byte comes in. -/
  | address (bits : List Bool)
  /-- The ACK slot of a byte that the target acknowledges; then it sends, or receives the command code or a byte after it. -/
  | ack (send code : Bool)
  /-- A byte of a write comes in, the command code or one after it. -/
  | receive (code : Bool) (bits : List Bool)
  /-- A byte of a read goes out. -/
  | send (n : Nat)
  /-- The controller's ACK slot after a byte of a read. -/
  | answer
  deriving DecidableEq, Repr

/-- The two-wire target (R357–R377). -/
structure Smb where
  bus     : BusPhase := .idle
  addr    : BitVec 7 := 0x60
  on      : Bool := false
  select  : Byte := 0
  timing  : Word := 0x0086050F
  sticky  : BitVec 6 := 0
  mask    : BitVec 16 := 0xB
  cnt     : Vector Word 4 := Vector.replicate 4 0
  ovf     : BitVec 4 := 0
  /-- The tunnel message being received: next fragment index and bytes. -/
  part    : Option (Nat × List Byte) := none
  /-- Tunnel responses in order of completion, each the rest of its message, with the index of its next fragment. -/
  rsps    : List (Response × Nat) := []
  /-- The bytes the target has answered the last read with; none when it did not acknowledge. -/
  out     : Option (List Byte) := none
  deriving DecidableEq, Repr

/-- Where Pilot's trace selects records (R468). -/
structure Trace where
  set   : BitVec 48 := 0
  kinds : BitVec 4 := 0
  deriving DecidableEq, Repr

/-- A line that Pilot prints: a final OK or ERR, or an output line of values. -/
inductive PilotOut where
  | ok
  | err (s : Status)
  | banner
  | words (ws : List Nat)
  | bytes (bs : List Byte)
  | spec (ws : List Nat)
  /-- A set of a capture dump by its offset in µs (R469). -/
  | capSet (offset : Nat) (set : Option CapSet)
  | handover
  | prompt (level : Nat)
  /-- A trace line: TIDE_COUNT[31:0], the stamp's low 32 bits, the berth, the kind (0 cc, 1 pd, 2 commit, 3 fault), the content. -/
  | trace (tide stamp berth kind : Nat) (content : List Nat)
  /-- `! LOST n`: trace records that the full buffer dropped (R462). -/
  | lost (n : Nat)
  /-- No text: once all before it has been sent, the frozen window of a berth is released (R469). -/
  | release (b : BerthId)
  /-- No text: once all before it has been sent, a new rate applies (R459). -/
  | rate (baud : Nat)
  deriving DecidableEq, Repr

/-- Pilot (R459–R469). -/
structure Pilot where
  on      : Bool := false
  baud    : Nat := 115200
  revert  : Bool := false
  level   : Nat := 0
  challenge : Option Word := none
  draws   : Nat := 0
  fails   : Nat := 0
  blocked : Bool := false
  trace   : Trace := {}
  /-- The lines that have entered the output buffer, oldest first (R462). -/
  out     : List PilotOut := []
  /-- Characters that have entered the buffer, and that have left it on UART_TX; the part of a character sent since, in
  four-hundred-thousandths. -/
  made    : Nat := 0
  sent    : Nat := 0
  part    : Nat := 0
  /-- Command output that waits for room (R462). -/
  wait    : List PilotOut := []
  /-- Trace records dropped and not yet reported (R462). -/
  lost    : Nat := 0
  /-- What is to be done once `sent` reaches a count. -/
  marks   : List (Nat × PilotOut) := []
  deriving DecidableEq, Repr

/-- The JTAG TAP's instruction and data registers (R483). -/
structure Jtag where
  bypass : Bool := false
  idcode : Word := 0
  scan   : BitVec 222 := 0
  /-- Cells preloaded, and driven on the balls by EXTEST. -/
  preload : BitVec 222 := 0
  driven : Bool := false
  deriving DecidableEq, Repr

/-- The supplies' detectors (Table 14.2, SUPPLY_NOW). -/
structure Supplies where
  vaon  : Bool := true
  vcore : Bool := true
  vio   : Bool := true
  vio18 : Bool := false
  vq5   : BitVec 6 := 0
  vconn : BitVec 6 := 0
  vfuse : Bool := false
  vbak  : Bool := true
  deriving DecidableEq, Repr

/-- A copy of the checkpoint (R337). -/
structure Checkpoint where
  tide   : Nat
  berths : Vector Counts 48
  deriving DecidableEq, Repr

/-- The retained domain: checkpoint copies, held FAULT events, reset history, backup registers, time (R404–R407). -/
structure Retained where
  valid   : Bool := false
  /-- Two copies of the checkpoint: TIDE and the counters of the berths. -/
  check   : Vector (Option Checkpoint) 2 := Vector.replicate 2 none
  held    : List EvEntry := []
  /-- Manifest slots of further held FAULT events, with the SEQ they took (R307). -/
  heldSlots : List (Nat × Nat) := []
  /-- TIDE, CAUSE, SCOPE, CORE, device time; newest last. -/
  history : List (Nat × Nat × Nat × Nat × Nat) := []
  backup  : Vector Word 32 := Vector.replicate 32 0
  /-- Microseconds of the 32.768 kHz counter. -/
  rtc     : Nat := 0
  deriving DecidableEq, Repr

/-- The phases of bring-up (Table 11.4), in code order from 1. -/
inductive Phase7 where
  | brittle | plls | boot | scrub | quays | release | running
  deriving DecidableEq, Repr

/-- A test or a return to service that a host asked and that runs (SVC_SELFTEST, SVC_UNFENCE): the command, and the kind,
index and selection of SVC_SELFTEST. -/
structure HostTest where
  origin : Origin
  code   : Nat
  kind   : Nat
  index  : Nat
  sel    : Nat
  deriving DecidableEq, Repr

/-- A change the Harbourmaster applies at a Tide boundary, or at the boundary its Tide names (R31). -/
inductive Later where
  | setTime (tide : Nat) (time : Nat) (o : Origin)
  | devConfig (items : List (Nat × List Byte)) (o : Origin)
  | telConfig (set : BitVec 48) (window : Nat) (reset : Bool) (o : Option Origin)
  | subscribe (set : BitVec 48) (mask : BitVec 16) (o : Origin)
  | bind (table : Nat) (set : BitVec 48) (persist : Bool) (o : Origin)
  | glaze (image : List Byte) (o : Origin)
  /-- CAP_ARM at the boundary of its delivery (R342). -/
  | capArm (b : BerthId) (arm : CapArm) (disarm : Bool)
  /-- A lasting fault's action and the SELFTEST event that reports it (R440). -/
  | act (loc : Loc) (e : EvBody)
  /-- POWER_EMERGENCY at the boundary of its delivery (Table 4.10). -/
  | emergency (set : Bool) (quays : BitVec 6) (target : Nat) (o : Origin)
  /-- Changes of the allocator's inputs at the next round start. -/
  | budget (b : Budget) (persist : Bool) (o : Origin)
  | priority (b : BerthId) (cls gmin : Nat) (o : Origin)
  | policy (id : Nat) (raw : List Byte) (t : PolicyTable) (o : Origin)
  /-- Berths whose outcome is decided at the next boundary (Table 11.6). -/
  | finish (o : Origin) (m : BitVec 48)
  /-- FW_SWAP_TUG at its delivery boundary (R451, R452), SVC_REMAP_TUG (R446), SVC_FENCE (R443, R20). -/
  | swapTug (set : BitVec 48) (slot : Nat) (force : Bool) (o : Origin)
  | remapTug (b : BerthId) (want : Option TugId) (o : Origin)
  | svcFence (kind index : Nat) (o : Origin)
  deriving DecidableEq, Repr

/-- A snapshot bank (R338, R339): pending until its boundary, then held. -/
structure Snap where
  id     : Nat
  tide   : Nat
  pendingFor : List Origin
  taken  : Bool := false
  vals   : List Counts := []
  deriving DecidableEq, Repr

/-! ### The device -/

/-- Fault reasons. -/
inductive Fault where
  /-- Raised by no command: every command of this block has an effect. Safe. -/
  | none_
  deriving DecidableEq, Repr

/-- Refusal reasons. -/
inductive Refusal where
  /-- Raised by an arm of `exec` that has no meaning yet. Safe: nothing is claimed of such a command. -/
  | notModelled (mnemonic : String)
  deriving DecidableEq, Repr

/-- The device (R17): its 48 berths, 6 quays, 52 Tugs, memories, links and service units, and the waiting commands. -/
structure State where
  pending : List Instr := []
  /-- Tug local memories and Hold in the Harbourmaster view (Table 1.9), canonical. -/
  mem     : List Host.Cell := []
  tideCount : Nat := 0
  roundPhase : Nat := 0
  /-- The Tide generator runs; boundaries since it started. -/
  ticking : Bool := false
  ticks   : Nat := 0
  /-- The time base of R261 at the latest boundary. -/
  tb      : Nat := 0
  follower : Bool := false
  syncLost : Bool := false
  /-- A follower takes its boundaries from TIDE_IN (R34). -/
  tideLocked : Bool := true
  /-- The next boundary is an epoch pulse; it is a round pulse that a follower accepted (R33). -/
  epochDue : Bool := false
  roundDue : Bool := false
  /-- DEV_CONFIG asked for an epoch pulse at the next round boundary (Table 11.5). -/
  epochWant : Bool := false
  /-- The width in ns of the last pulse driven on TIDE_OUT; none before the first. -/
  tideOut : Option Nat := none
  phase   : Phase7 := .brittle
  oscillator : Option Bool := none
  factoryBad : Bool := false
  berths  : Vector Berth 48 := Vector.replicate 48 Berth.reset
  tele    : Vector Tele 48 := Vector.replicate 48 {}
  quays   : Vector Quay 6 := Vector.replicate 6 {}
  tugs    : Vector Tug 52 := Vector.replicate 52 {}
  alloc   : Alloc := {}
  tables  : Vector PolSlot 64 := Vector.replicate 64 {}
  links   : Vector Link 2 := Vector.replicate 2 {}
  eventLink : LinkId := .xla
  tags    : List TagEntry := []
  nextOrder : Nat := 0
  jobs    : List SetJob := []
  later   : List Later := []
  /-- Changes that wait for a round boundary. -/
  rounds  : List Later := []
  tests   : List HostTest := []
  events  : List EvEntry := []
  nextSeq : Nat := 1
  ackSeq  : Nat := 0
  evWindow : Nat := 64
  lastSent : Nat := 0
  attn    : Bool := false
  linksDown : Bool := false
  devOut  : List (EvBody × Nat) := []
  nextId  : BitVec 16 := 1
  man     : List ManSlot := []
  recSeq  : Nat := 0
  records : List PendRec := []
  repair  : Repair := {}
  brittle : Brittle
  glaze   : List Byte := []
  glazeStage : List Byte := []
  harbour : Harbour := {}
  smb     : Smb := {}
  pilot   : Pilot := {}
  jtag    : Jtag := {}
  supplies : Supplies := {}
  retained : Retained := {}
  snaps   : List Snap := []
  nextSnap : Nat := 0
  temp    : Int := 0
  /-- Device time in µs since 1970, and whether it is set (R407). -/
  time    : Nat := 0
  resetCause : BitVec 8 := 1
  wdogCore : Bool := false
  pwrgd   : Bool := false
  /-- A supply or a hot die holds the device in reset; its cause (R379, R387). -/
  porDue  : Option (BitVec 8) := none
  hot     : Bool := false
  diePeak : Int := 0
  /-- Microseconds from t0 to the start of the Tide generator, and from t0 to the first berth release in ms (R397). -/
  startUs : Nat := 0
  bringupMs : Nat := 0
  /-- The boundary, counted in `ticks`, of the latest quay release. -/
  lastRelease : Option Nat := none
  /-- RESET_REPORT has been published (R310). -/
  reported : Bool := false
  /-- RST_STATUS.RET_VALID and BKP_VALID (Table 14.11). -/
  retValid : Bool := false
  bkpValid : Bool := false
  /-- The SMBus pin address's low bits as sampled (DEV_IDENTIFY.ADDR). -/
  addrPins : BitVec 4 := 0
  /-- Pin-map codes in force: harbour class-D balls and the MUX balls of each berth (R403, R418, R420). -/
  pinmap  : Vector (BitVec 3) 20 := Vector.replicate 20 0
  muxmap  : Vector (BitVec 9) 48 := Vector.replicate 48 0
  /-- The pin-map shadow is in force: from the Brittle load, and through device resets that keep VAON valid (R403). -/
  pinsShown : Bool := false
  unsealed : Nat := 0
  /-- A device reset waits for its response (Table 11.3). -/
  resetDue : Option (Origin) := none
  /-- The number of free values drawn. -/
  freeCtr : Nat := 0
  deriving DecidableEq, Repr

/-- The Brittle array of the modelled part after shipment (log entry 30): an SKV-48E with FORMAT 4, every other factory
row unburned, and the FACTORY_CRC of that content. -/
def Brittle.reset : Brittle :=
  { rows := ((Vector.replicate 256 0).set 0 4#32).set 127 0xa7687352#32, shadow := Vector.replicate 256 0 }

/-- The machine right after a power-on reset (R397 step 1): PHASE 0x1, every quay in reset, every berth Held. -/
def State.reset : State := { brittle := Brittle.reset }

end Sys2Proof.Machine
end

