-- ==== Sys2Proof/Machine/Ops.lean ====
section
/-!
DEFINITION. Named operations over registers and berths that the meanings share: bit fields, counters, stamps, events
and fault causes.
-/

namespace Sys2Proof.Machine

/-! ### Bit fields -/

/-- The field of `len` bits from bit `lo` of a word, as a number. -/
def fld {n : Nat} (w : BitVec n) (lo len : Nat) : Nat := (w.toNat >>> lo) % 2 ^ len

/-- A word with the field of `len` bits from bit `lo` replaced. -/
def setFld (w : Word) (lo len v : Nat) : Word :=
  (w &&& ~~~ (BitVec.ofNat 32 ((2 ^ len - 1) <<< lo))) ||| BitVec.ofNat 32 ((v % 2 ^ len) <<< lo)

/-- A word with one bit set. -/
def bitOn (w : Word) (i : Nat) : Word := w ||| BitVec.ofNat 32 (2 ^ i)

/-- Bit `i` of a number built from a flag. -/
def flag (c : Bool) (i : Nat) : Nat := if c then 2 ^ i else 0

/-- A number clamped to `[lo, hi]`. -/
def clampTo (lo hi v : Nat) : Nat := if v < lo then lo else if hi < v then hi else v

/-- A field clamped to its range. -/
def clampFld (w : Word) (lo len mn mx : Nat) : Word := setFld w lo len (clampTo mn mx (fld w lo len))

/-- The clear of a W1C register. -/
def w1c (r v : Word) : Word := r &&& ~~~ v

/-- The quotient rounded up. -/
def ceilDiv (a b : Nat) : Nat := (a + b - 1) / b

/-- Milliseconds, microseconds and Tides in 10 ns stamps (R35). -/
def ms (n : Nat) : Nat := n * 100000
@[inherit_doc ms] def us (n : Nat) : Nat := n * 100
/-- The length of a Tide in stamps, 25 µs. -/
def tideLen : Nat := 2500

/-- The code nearest to a value, the lower on a tie (R239). -/
def nearCode (mv step : Nat) : Nat := (2 * mv + step - 1) / (2 * step)

/-- The little-endian bytes of a number. -/
def leBytes : Nat → Nat → List Byte
  | 0, _ => []
  | n + 1, v => BitVec.ofNat 8 v :: leBytes n (v / 256)

/-- The number that little-endian bytes spell. -/
def leNat : List Byte → Nat
  | [] => 0
  | x :: xs => x.toNat + 256 * leNat xs

/-- Signed value of an integer as the low bits of a field. -/
def sgn (len : Nat) (i : Int) : Nat := (i % (2 ^ len : Int)).toNat

/-! ### Codes -/

/-- CC_STATUS.STATE (Table 2.3). -/
def CcState.code : CcState → Nat
  | .held => 0x0 | .disabled => 0x1 | .errorRecovery => 0x2 | .unattachedSrc => 0x3 | .attachWaitSrc => 0x4
  | .attachedSrc => 0x5 | .trySrc => 0x6 | .tryWaitSrc => 0x7 | .unattachedSnk => 0x8 | .attachWaitSnk => 0x9
  | .attachedSnk => 0xA | .trySnk => 0xB | .tryWaitSnk => 0xC | .backFeed => 0xD | .ccFault => 0xE | .lockedOut => 0xF

/-- CC_STATUS.ORIENT (Table 2.11). -/
def Orient.code : Orient → Nat
  | .none => 0 | .normal => 1 | .flipped => 2

/-- A level code of Table 2.11. -/
def lvlCode : CcLvl → Nat
  | .belowRa => 0 | .rd => 1 | .open_ => 2 | .belowRd => 3 | .rpDefault => 4 | .rp15 => 5 | .rp30 => 6 | .notMeasured => 7

/-- PATH_STATUS.STATE (Table 6.2). -/
def PathState.code : PathState → Nat
  | .off => 0 | .srcRamp => 1 | .srcOn => 2 | .snkOn => 3 | .discharge => 4 | .tripped => 5 | .test => 6 | .locked => 7

/-- PATH_LOCK.CAUSE (Table 6.13). -/
def LockCause.code : LockCause → Nat
  | .none => 0 | .passFetShort => 1 | .sinkFetShort => 2 | .tripLimit => 3 | .testFail => 4 | .crowbar => 5

/-- REG_STATUS.STATE (Table 7.3). -/
def RegState.code : RegState → Nat
  | .idle => 0 | .softstart => 1 | .regulate => 2 | .slew => 3 | .hold => 4 | .hiccup => 5 | .stopped => 6
  | .crowbar => 7 | .latched => 8

/-- SWAP_STATUS.PHASE (Table 5.2). -/
def Phase.code : Phase → Nat
  | .idle => 0 | .prSrcTrans => 1 | .prSrcOff => 2 | .prSrcWait => 3 | .prSnkWait => 4 | .prSnkOn => 5
  | .vcOn => 6 | .vcWait => 7 | .frsArmed => 8 | .frsDetected => 9 | .frsSourcing => 10

/-- TX_STATUS.RESULT (Table 3.22). -/
def TxResult.code : TxResult → Nat
  | .idle => 0 | .inProgress => 1 | .confirmed => 2 | .failed => 3 | .discarded => 4 | .abortedHr => 5 | .abortedDetach => 6

/-- PHY_STATUS.TMR_RUN (Table 3.21). -/
def RespTimer.code : RespTimer → Nat
  | .none => 0 | .senderResponse => 1 | .chunkSenderResponse => 2 | .chunkSenderRequest => 3 | .srcCapsRepeat => 5

/-- RX_DATA.MARK (Table 3.3). -/
def RxMark.code : RxMark → Nat
  | .byte => 0 | .sop => 1 | .endGood => 2 | .endBad => 3 | .endOvr => 4 | .endAbort => 5 | .endDup => 6 | .hardReset => 7

/-- The code of an SOP kind (Table 3.3). -/
def sopCode : SopKind → Nat
  | .sop => 0 | .sopP => 1 | .sopPP => 2

/-- The index of an SOP kind in the MessageID registers (Table 3.25). -/
def sopIdx : SopKind → Fin 3
  | .sop => 0 | .sopP => 1 | .sopPP => 2

/-- Table 11.2. -/
def Status.code : Status → Nat
  | .ok => 0x00 | .unknownCmd => 0x02 | .badLength => 0x03 | .badArg => 0x04 | .notPermitted => 0x05 | .busyAms => 0x06
  | .berthReset => 0x07 | .berthAbsent => 0x08 | .berthFenced => 0x09 | .timeout => 0x0A | .deferredExpired => 0x0B
  | .superseded => 0x0C | .otpConflict => 0x0D | .otpLocked => 0x0E | .otpWeak => 0x0F | .noResource => 0x10
  | .tagInUse => 0x11 | .swapDeferred => 0x12 | .integrity => 0x13 | .linkLost => 0x14 | .selftestFail => 0x15
  | .internal => 0x16 | .partnerReject => 0x17 | .partnerNoResponse => 0x18 | .waitLimit => 0x19

/-- Table 11.16. -/
def Cause.code : Cause → Nat
  | .fastTrip => 1 | .limitTimeout => 2 | .ovCrowbar => 3 | .hiccupLatch => 4 | .passFetShort => 5 | .sinkFetShort => 6
  | .backFeed => 7 | .vinUv => 8 | .vinOv => 9 | .stageFlt => 10 | .thermal => 11 | .ccOv => 12 | .vconnOc => 13
  | .tugFault => 14 | .quayLost => 15 | .hardResetLimit => 16 | .tideOverrun => 17 | .watchdog => 18 | .dieThermal => 19

/-- The order in which causes of one stamp are named (R193, then R237; the rest after them, DESIGN CHOICE, log entry 13). -/
def Cause.rank : Cause → Nat
  | .fastTrip => 0 | .ovCrowbar => 1 | .limitTimeout => 2 | .vinOv => 3 | .vinUv => 4 | .stageFlt => 5 | .thermal => 6
  | .hiccupLatch => 7 | c => 7 + c.code

/-! ### Counters (R111) -/

/-- One more in a saturating counter; true when it saturates by this. -/
def satInc (c : Word) : Word × Bool :=
  if c = 0xFFFFFFFF#32 then (c, false) else (c + 1, c + 1 = 0xFFFFFFFF#32)

/-- One more in counter `i` of a block whose first counter stands at window offset `base`: the counters, their OVF
bits and the event of saturation (R111, R340). -/
def bump {n : Nat} (base : Nat) (cnt : Vector Word n) (ovf : Word) (i : Fin n) : Vector Word n × Word × List EvBody :=
  match satInc cnt[i] with
  | (c, true) => (cnt.set i c, bitOn ovf i, [.manifest 3 0 0xFFFF 0xFFFF (base + 4 * i)])
  | (c, false) => (cnt.set i c, ovf, [])

/-- A write to an OVF register: each bit written 1 clears the flag and zeroes its counter (R111). -/
def clearOvf {n : Nat} (cnt : Vector Word n) (ovf v : Word) : Vector Word n × Word :=
  (Vector.ofFn (fun i : Fin n => if v.getLsbD i then 0 else cnt[i]), w1c ovf v)

/-- An event that the berth's program publishes rather than the hardware or the Harbourmaster (R2). -/
def EvBody.ofProgram : EvBody → Bool
  | .attach .. => true | .detach .. => true | .contract .. => true | .decision .. => true | .swap .. => true | .mode .. => true
  | _ => false

namespace Berth

/-- An event of the berth: one that its program publishes waits for an EVT commit (R101, Table 3.6). -/
def emit (b : Berth) (e : EvBody) : Berth :=
  if e.ofProgram then { b with pol.owed := b.pol.owed ++ [.ev e] } else { b with evOut := b.evOut ++ [e] }

/-- What waited for an EVT commit is published (R97 bit 6, R101). -/
def flushOwed (b : Berth) : Berth :=
  let one (b : Berth) (o : Owed) : Berth := match o with
    | .resp d => { b with done := b.done ++ [d] }
    | .ev e => { b with evOut := b.evOut ++ [e] }
  b.pol.owed.foldl one { b with pol.owed := [] }

/-- A change that waits for the next boundary, after those already waiting. -/
def addPend (b : Berth) (p : Pend) : Berth := { b with id.pend := b.id.pend ++ [p] }

/-- An event bit of CC_EVT (Table 2.13). -/
def ccEvt (b : Berth) (i : Nat) : Berth := { b with cc.evt := bitOn b.cc.evt i }
/-- An event bit of PHY_EVT (Table 3.24). -/
def phyEvt (b : Berth) (i : Nat) : Berth := { b with phy.evt := bitOn b.phy.evt i }
/-- An event bit of PATH_EVT (Table 6.12). -/
def pathEvt (b : Berth) (i : Nat) : Berth := { b with path.evt := bitOn b.path.evt i }
/-- An event bit of REG_EVT (Table 7.15). -/
def regEvt (b : Berth) (i : Nat) : Berth := { b with reg.evt := bitOn b.reg.evt i }
/-- An event bit of MON_EVT (Table 8.9). -/
def monEvt (b : Berth) (i : Nat) : Berth := { b with mon.evt := bitOn b.mon.evt i }
/-- An event bit of SWAP_EVT (Table 5.14). -/
def swapEvt (b : Berth) (i : Nat) : Berth := { b with mux.evt := bitOn b.mux.evt i }
/-- The expired bit of a hardware timer (Table 8.11, TMR_EXP). -/
def expired (b : Berth) (i : Nat) : Berth := { b with tmr.exp := b.tmr.exp ||| BitVec.ofNat 16 (2 ^ i) }

/-- One more in a PHY counter (0x234 + 4i). -/
def cntPhy (b : Berth) (i : Fin 7) : Berth :=
  let r := bump 0x234 b.phy.cnt b.phy.ovf i
  { b with phy.cnt := r.1, phy.ovf := r.2.1, evOut := b.evOut ++ r.2.2 }
/-- One more in a path counter (0x328 + 4i). -/
def cntPath (b : Berth) (i : Fin 5) : Berth :=
  let r := bump 0x328 b.path.cnt b.path.ovf i
  { b with path.cnt := r.1, path.ovf := r.2.1, evOut := b.evOut ++ r.2.2 }
/-- One more in a regulator counter (0x434 + 4i). -/
def cntReg (b : Berth) (i : Fin 4) : Berth :=
  let r := bump 0x434 b.reg.cnt b.reg.ovf i
  { b with reg.cnt := r.1, reg.ovf := r.2.1, evOut := b.evOut ++ r.2.2 }
/-- One more in a swap counter (0x930 + 4i). -/
def cntSwap (b : Berth) (i : Fin 3) : Berth :=
  let r := bump 0x930 b.mux.cnt b.mux.ovf i
  { b with mux.cnt := r.1, mux.ovf := r.2.1, evOut := b.evOut ++ r.2.2 }
/-- One more in a common monitor counter (0x65C + 4i, OVF bits 10–12). -/
def cntMon (b : Berth) (i : Fin 3) : Berth :=
  match satInc b.mon.cnt[i] with
  | (c, true) => { b with mon.cnt := b.mon.cnt.set i c, mon.ovf := bitOn b.mon.ovf (10 + i),
                          evOut := b.evOut ++ [.manifest 3 0 0xFFFF 0xFFFF (0x65C + 4 * i)] }
  | (c, false) => { b with mon.cnt := b.mon.cnt.set i c }
/-- One more in CC_CNT_ATTACH or CC_CNT_DETACH (Table 2.18). -/
def cntAttach (b : Berth) : Berth :=
  match satInc b.cc.cntAttach with
  | (c, true) => { b with cc.cntAttach := c, cc.ovf := bitOn b.cc.ovf 0,
                          evOut := b.evOut ++ [.manifest 3 0 0xFFFF 0xFFFF 0x130] }
  | (c, false) => { b with cc.cntAttach := c }
@[inherit_doc cntAttach]
def cntDetach (b : Berth) : Berth :=
  match satInc b.cc.cntDetach with
  | (c, true) => { b with cc.cntDetach := c, cc.ovf := bitOn b.cc.ovf 1,
                          evOut := b.evOut ++ [.manifest 3 0 0xFFFF 0xFFFF 0x134] }
  | (c, false) => { b with cc.cntDetach := c }
/-- One more in CNT_COMMIT_REFUSED, CNT_COMMIT_DISCARDED or CNT_SPEC_DROP (Table 3.17). -/
def cntId (b : Berth) (i : Fin 3) : Berth :=
  let r := bump 0x030 #v[b.id.cntRefused, b.id.cntDiscarded, b.id.cntSpecDrop] b.id.idOvf i
  { b with id.cntRefused := r.1[0], id.cntDiscarded := r.1[1], id.cntSpecDrop := r.1[2], id.idOvf := r.2.1,
           evOut := b.evOut ++ r.2.2 }
/-- A test of the berth ends with its result and class (Table 16.6). -/
def stEnd (b : Berth) (pass : Bool) (cls : Nat) : Berth :=
  { b with st.busy := false, st.result := if pass then 1 else 2, st.cls := BitVec.ofNat 2 cls
           st.evt := if pass then bitOn b.st.evt 0 else bitOn (bitOn b.st.evt 0) 1 }
/-- A discarded commit (R19, R29, R52, R73, R98, R157, R206, R238). -/
def discardOne (b : Berth) : Berth := b.cntId 1

/-! ### Comparators that hardware reads -/

/-- VBC at or above 0.80 V (comparator 24). -/
def vbcAbove08 (b : Berth) : Bool := b.mon.ded[4]
/-- VBC at or above 3.67 V (comparator 25). -/
def vbcPresent (b : Berth) : Bool := b.mon.ded[5]
/-- VBC below vSafe0V. -/
def vbcSafe0 (b : Berth) : Bool := !b.vbcAbove08
/-- The last Tide average of VBC in vSafe5V. -/
def vbcSafe5 (b : Berth) : Bool := 4750 ≤ b.adc.vbc && b.adc.vbc ≤ 5500

/-- The berth is in one of the attached states. -/
def attached (b : Berth) : Bool := b.cc.state = .attachedSrc || b.cc.state = .attachedSnk

/-- The berth is in an Unattached state. -/
def unattached (b : Berth) : Bool := b.cc.state = .unattachedSrc || b.cc.state = .unattachedSnk

/-! ### Fault causes -/

/-- Record a fault cause at a stamp, with the values latched before it.  Causes of one stamp make one record whose
CAUSE is the first in order and whose ALSO names the others (R193, R237, R325). -/
def fault (b : Berth) (c : Cause) (t : Stamp) (quay : Nat := 0) (vin : Nat := 0) (detail : List Word := []) : Berth :=
  let fresh : FaultBody :=
    { cause := c, lock := b.path.lock, quay := quay, stamp := t, volt := (b.id.contract.map (·.volt)).getD 0
      curr := (b.id.contract.map (·.curr)).getD 0, vbc := fld b.lat.adcV 0 16, vbr := fld b.lat.adcV 16 16
      ipath := (BitVec.ofNat 16 (fld b.lat.adcI 0 16)).toInt, vin := vin, detail := detail }
  let merge (f : FaultBody) : FaultBody :=
    if f.stamp = t && f.cause ≠ c then
      if c.rank < f.cause.rank then
        { f with cause := c, lock := b.path.lock, also := f.also ||| BitVec.ofNat 16 (2 ^ (f.cause.code - 1)) }
      else { f with lock := b.path.lock, also := f.also ||| BitVec.ofNat 16 (2 ^ (c.code - 1)) }
    else f
  if b.faults.any (fun f => f.stamp = t && f.cause ≠ c) then { b with faults := b.faults.map merge }
  else { b with faults := b.faults ++ [fresh] }

end Berth

end Sys2Proof.Machine
end

