-- ==== Sys2Proof/Machine/Hardware.lean ====
section
/-!
DEFINITION. Shared operations of the berth hardware: the regulator's targets and starts (R216–R221), the path's
openings and discharge (R181–R199), the SBU and mux outputs (R171), VCONN (R60), the epoch and what it ends (R94), the
CC terminations and thresholds (R46, R47), attach and detach (R53, R59, R71–R73), trips (R187–R194).
-/

namespace Sys2Proof.Machine

/-- What a berth reads of its surroundings: its number, TIDE_COUNT, the VIN_BUS window of its quay, harbour-less mode,
the quay's VCONN supply, quay voltages, its bound policy table, and whether the member enables EPR. -/
structure Env where
  b     : Nat
  tide  : Nat
  vinOk : Bool
  hless : Bool
  vq5   : Bool
  vins  : Nat
  snks  : Nat
  tbl   : PolicyTable
  epr   : Bool
  /-- The member enables the berth (R4). -/
  member : Bool
  /-- BP 4.0 runs on the Tug bound to the berth (R1, R2). -/
  bp    : Bool
  /-- The next decision number (R128). -/
  nextId : BitVec 16
  /-- The stamp of the latest boundary in the berth time base (R261), and its number from the generator's start. -/
  now    : Stamp
  ticks  : Nat
  deriving DecidableEq, Repr

/-- The local index of the berth on its quay (R17). -/
def Env.local_ (e : Env) : Nat := e.b % 8
/-- The quay of the berth (R17). -/
def Env.quay (e : Env) : Nat := e.b / 8

/-- The first Tide boundary at or after stamp `t`, counted from the generator's start (R58). -/
def Env.anchor (e : Env) (t : Stamp) : Nat := if t ≤ e.now then e.ticks else e.ticks + ceilDiv (t - e.now) tideLen

/-- A waiting command needs the partner: every one but a Cable Reset and a message to the cable (R73, R104; DEDUCED, log entry
86). -/
def FifoCmd.needsPartner (c : FifoCmd) : Bool := match c.kind with
  | .message kind k _ _ _ _ _ _ => kind ≠ 6 && k = .sop
  | _ => true

namespace Berth

/-! ### Regulator -/

/-- The highest target under the effective crowbar threshold: threshold ÷ 1.10, rounded down to a DAC code (R218), in mV. -/
def targetBound (b : Berth) : Nat := b.reg.cbEff.toNat * 625 / 11 / 4 * 4

/-- Load W1 with the window of a target (R223), selecting its range (R240). -/
def loadW1 (b : Berth) (mv : Nat) : Berth :=
  let hi := mv * (200 + fld b.reg.win 8 5) / 200
  let lo := mv * (200 - fld b.reg.win 0 5) / 200
  let high := 10230 < hi
  let step := if high then 60 else 10
  let c := b.mon.ch[1]
  let c' : MonCh :=
    { c with thr := BitVec.ofNat 10 (nearCode hi step), thrEff := BitVec.ofNat 10 (nearCode hi step)
             low := BitVec.ofNat 10 (nearCode lo step), lowEff := BitVec.ofNat 10 (nearCode lo step)
             cfg := setFld c.cfg 8 1 (if high then 1 else 0) }
  { b with mon.ch := b.mon.ch.set 1 c' }

/-- Set the regulator's target in mV from stamp `t`: the crowbar clamp of R218, the transition window and settle time
of R223 and R225, TRIM scaled by the ratio of the targets (R214). -/
def setTarget (b : Berth) (mv : Nat) (t : Stamp) : Berth :=
  let b := if b.targetBound < mv then b.regEvt 9 else b
  let tgt := min mv b.targetBound
  if tgt = b.reg.target then b
  else
    let b := { b with
      reg.trim := if b.reg.target = 0 then b.reg.trim else b.reg.trim * tgt / b.reg.target
      reg.target := tgt, reg.winCount := 0, reg.satTides := 0
      reg.slewing := b.reg.vrefNow ≠ tgt, reg.forced := b.reg.forced || tgt < b.reg.vrefNow
      reg.state := match b.reg.state with
        | .regulate => .slew
        | st => st
      tm.settle := some (t + ms (fld b.reg.win 16 10)) }
    b.loadW1 tgt

/-- The regulator returns to its 5 V standby, a change toward safety (R20, R221); nothing while IDLE. -/
def regStandby (b : Berth) (t : Stamp) : Berth :=
  if b.reg.state = .idle then b
  else { b with reg.mode := RegMode.standby }.setTarget 5000 t

/-- Start of a soft start: VREF_NOW at VBR, or at 0 V below 0.80 V (R220). -/
def softStart (b : Berth) : Berth :=
  { b with reg.state := .softstart, reg.stop := none, reg.slewing := true
           reg.vrefNow := if b.adc.vbr < 800 then 0 else b.adc.vbr, tm.hic := none }

/-- The regulator enters IDLE (Table 7.3); TRIM clears (R214). -/
def regIdle (b : Berth) : Berth :=
  { b with reg.state := .idle, reg.mode := .idle, reg.stop := none, reg.trim := 0, reg.vrefNow := 0, reg.target := 0
           reg.slewing := false, reg.winCount := 0, reg.holdNow := false, reg.atFloor := false, reg.dropout := false
           reg.zeroDue := false, reg.forced := false, tm.settle := none, tm.hic := none }

/-- A regulator that nothing stops any longer soft-starts, or enters IDLE where MODE idle was applied meanwhile; one whose
stage fault, thermal condition or VIN_OV still stands is STOPPED by the highest of them (R237, Table 7.7). -/
def restart (b : Berth) : Berth :=
  if b.reg.fltLow then { b with reg.state := .stopped, reg.stop := some .stageFault, reg.slewing := false }
  else if b.reg.thermal then { b with reg.state := .stopped, reg.stop := some .thermal, reg.slewing := false }
  else if b.reg.ov then { b with reg.state := .stopped, reg.stop := some .vinOv, reg.slewing := false }
  else if b.reg.mode = .idle then b.regIdle
  else b.softStart

/-- MODE and target of a REG commit applied at stamp `t` (R217, R219). A regulator that leaves IDLE owes its zero-current sample
(R210). MODE idle on a regulator that a protection has stopped takes effect at the release of Table 7.7 (R19). -/
def applyMode (b : Berth) (m : RegMode) (vref : Nat) (t : Stamp) : Berth :=
  match m with
  | .idle => match b.reg.state with
    | .crowbar => b
    | .latched => b
    | .stopped => { b with reg.mode := RegMode.idle }
    | _ => b.regIdle
  | _ =>
    let b' := { b with reg.mode := m }.setTarget (if m = RegMode.standby then 5000 else vref) t
    if b.reg.state = .idle then { b' with reg.zeroDue := true }.restart else b'

/-- The on-time in ns of the next switching cycle, from V_INS in mV: VREF_NOW ÷ (V_INS × f_sw × k_fll), at least 60 ns
(R211). -/
def onTime (b : Berth) (vins : Nat) : Nat :=
  max 60 (b.reg.vrefNow * 100000 * 1000 / (vins * fld b.reg.cfg 0 7 * b.reg.kfll))

/-- The shortest off-time in ns (R211). -/
def offMin : Nat := 120

/-- The peak-to-peak amplitude of the emulated ripple in µV (R212). -/
def rippleAmp (b : Berth) : Nat := b.reg.vrefNow * fld b.reg.cfg 8 3 * 5

/-- The level in µV below which VBR plus the emulated ripple starts a new on-time (R212). -/
def valley (b : Berth) : Int := 1000 * ((b.reg.vrefNow : Int) + b.reg.trim)

/-- The stage current in mA from IMON in µV: 5 mV/A about the sample of R210 (R208, R210). -/
def stageCurrent (b : Berth) (imon : Int) : Int := (imon - b.reg.imonZero) / 5

/-- The level of Bnn_PWM (Table 7.1): the control law drives it high and low by turns while the stage switches. -/
inductive Pwm where
  | mid | low | switching
  deriving DecidableEq, Repr

/-- Bnn_PWM and Bnn_EN of a berth (R209, Tables 7.3, 7.7): mid with EN low before the release and in a locked path, low with EN
high under a latched crowbar. `inReset` says that the berth or its quay is in reset. -/
def stageBalls (b : Berth) (inReset : Bool) : Pwm × Bool :=
  if b.reg.state = .crowbar then (.low, true)
  else if inReset || b.path.state = .locked then (.mid, false)
  else match b.reg.state with
    | .idle => (.mid, false)
    | .hiccup => (.mid, true)
    | .stopped => (.mid, b.reg.stop = some .vinOv)
    | .latched => (.mid, false)
    | .crowbar => (.low, true)
    | _ => (if b.reg.zeroDue then .mid else .switching, true)

/-! ### Path -/

/-- Discharge turns on when both pairs are off and VBC is not below 0.80 V (R199). -/
def startDischarge (b : Berth) (t : Stamp) : Berth :=
  if b.path.state = .off && b.vbcAbove08 then
    { b with path.state := .discharge, tm.path := some (t + ms 650) }
  else b

/-- The source path opens; `dis` orders discharge with it (Table 6.2, R199). -/
def openSource (b : Berth) (t : Stamp) (dis : Bool) : Berth :=
  let b := match b.path.state with
    | .srcRamp => { b with path.state := .off, tm.path := none }
    | .srcOn => { b with path.state := .off, tm.path := none }
    | _ => b
  let b := { b with path.closeCase := none, path.ilimOver := none }
  if dis then b.startDischarge t else b

/-- The sink path opens (R186). -/
def openSink (b : Berth) : Berth :=
  if b.path.state = .snkOn then { b with path.state := .off, tm.path := none } else b

/-- Both pairs off, with discharge to vSafe0V when ordered. -/
def openBoth (b : Berth) (t : Stamp) (dis : Bool) : Berth := (b.openSink).openSource t dis

/-- The limit in force on the source path (R167, R189). -/
def srcIlim (b : Berth) : Nat := match b.path.ilimOver with
  | some n => n.toNat
  | none => fld b.path.limit 0 10

/-- W3's HI threshold follows the limit of the closed path, the source limit while both are open (Table 8.2). -/
def loadW3 (b : Berth) : Berth :=
  let lim := if b.path.state = .snkOn then fld b.path.snkLimit 0 10 else b.srcIlim
  let c := b.mon.ch[3]
  { b with mon.ch := b.mon.ch.set 3 { c with thr := BitVec.ofNat 10 (lim + 64), thrEff := BitVec.ofNat 10 (lim + 64) } }

/-- The state TRIPPED is entered at stamp `t` with a cause (R187, R188, R190, R194): the path opens, the trip is
counted in its 60 s window and the gate-drive test starts. -/
def trip (b : Berth) (c : Cause) (t quay vin : Nat) : Berth :=
  let recent := b.path.trips.filter (fun x => decide (t ≤ x + ms 60000 ∧ x < t))
  let b := { b with path.state := .tripped, path.closeCase := none, path.ilimOver := none, tm.path := none
                    path.trips := recent ++ [t], path.thirdTrip := decide (2 ≤ recent.length)
                    path.testKind := 2, path.testBusy := true, path.testResult := 0, id.protActed := true
                    path.brokeAt := some t
                    st.kind := 6, st.busy := true, st.result := 0 }
  b.fault c t quay vin

/-! ### Outputs and VCONN -/

/-- The USB-safe state (R171): SBU open, MUX 000, no mode active. -/
def usbSafe (b : Berth) : Berth :=
  { b with mux.sbu := 0, mux.mux := 0, mux.modeActive := false, mux.sbuPos := 0, tm.sbu := none, pol.modeNow := none }

/-- The connections that the committed SBU code and ORIENT call for: 0 open, 1 straight, 2 crossed (Table 5.9). -/
def sbuWanted (b : Berth) : BitVec 2 :=
  if b.mux.sbu = 3 then (match b.cc.orient with
    | .none => 0
    | .normal => 1
    | .flipped => 2) else b.mux.sbu

/-- The SBU switch and MUX0 at boundary `t`: a change between two closed settings goes through open for 1 µs (R170), and MUX0
follows the orientation latched before (R171). -/
def outputsTide (b : Berth) (t : Stamp) : Berth :=
  let b := { b with mux.flipped := decide (b.cc.orient = .flipped) }
  if b.sbuWanted = b.mux.sbuPos then b
  else if b.mux.sbuPos = 0 || b.sbuWanted = 0 then { b with mux.sbuPos := b.sbuWanted, tm.sbu := none }
  else { b with mux.sbuPos := 0, mux.sbuNext := b.sbuWanted, tm.sbu := some (t + us 1) }

/-- The SBU switch closes to its next setting (R170). -/
def sbuCloses (b : Berth) : Berth := { b with mux.sbuPos := b.mux.sbuNext, tm.sbu := none }

/-- The outputs are USB-safe (R171). -/
def isUsbSafe (b : Berth) : Bool := b.mux.sbu = 0 && b.mux.mux = 0

/-- VCONN off (R60). -/
def vconnOff (b : Berth) : Berth := { b with cc.vconnOn := false, cc.vconnDue := false }

/-- Ra stands on the unmonitored CC (R60). -/
def raSeen (b : Berth) : Bool := match b.cc.orient with
  | .normal => b.cc.lvl2 = .belowRa
  | .flipped => b.cc.lvl1 = .belowRa
  | .none => false

/-- VCONN on the unmonitored CC. -/
def vconnApply (b : Berth) : Berth := if b.cc.vconnLatch then b else { b with cc.vconnOn := true, cc.vconnDue := false }

/-! ### CC terminations (R46, R47) -/

/-- Thresholds of W5 and W6 for what the berth presents (Table 2.2), lower and upper in mV, for the monitored CC and
the other. -/
def ccLevels (b : Berth) : (Nat × Nat) × (Nat × Nat) :=
  match b.cc.rpNow.toNat with
  | 0 => ((200, 1600), (200, 1600))
  | 1 => ((400, 1600), (400, 1600))
  | 2 => ((800, 2600), (800, 2600))
  | _ => if b.cc.state = .attachedSnk then
           ((if b.mux.phase = .frsArmed then 490 else 660, 1230), (200, 660))
         else ((200, 660), (200, 660))

/-- Load W5 and W6 (R47). -/
def loadCc (b : Berth) : Berth :=
  let l := b.ccLevels
  let l1 := if b.cc.orient = .flipped then l.2 else l.1
  let l2 := if b.cc.orient = .flipped then l.1 else l.2
  let set (c : MonCh) (x : Nat × Nat) : MonCh :=
    { c with thr := BitVec.ofNat 10 (nearCode x.2 3), thrEff := BitVec.ofNat 10 (nearCode x.2 3)
             low := BitVec.ofNat 10 (nearCode x.1 3), lowEff := BitVec.ofNat 10 (nearCode x.1 3) }
  { b with mon.ch := (b.mon.ch.set 5 (set b.mon.ch[5] l1)).set 6 (set b.mon.ch[6] l2) }

/-- Present Rp at a level (0 default, 1 1.5 A, 2 3.0 A), or 3 for none. -/
def presentRp (b : Berth) (l : BitVec 2) : Berth := { b with cc.rpNow := l }.loadCc

/-- Take Rp up again at the level without a contract; a held lowering applies at once (R51). -/
def rpWithoutContract (b : Berth) : Berth :=
  match b.cc.heldRp with
  | some l => if l.toNat < b.cc.rpLevel.toNat then
                { b with cc.rpLevel := l, cc.heldRp := none }.presentRp l
              else b.presentRp b.cc.rpLevel
  | none => b.presentRp b.cc.rpLevel

/-- The Rp current of a level in 10 mA (R69). -/
def rpAmps (l : Nat) : Nat := if l = 0 then 90 else if l = 1 then 150 else 300

/-- The source limit without a contract: 1.12 × the Rp current, rounded up to 10 mA (R69, R192). -/
def rpLimit (b : Berth) : Word := setFld b.path.limit 0 10 (ceilDiv (112 * rpAmps b.cc.rpLevel.toNat) 100)

/-- A new Rp level without a contract: presented in Attached.SRC, where the source limit follows it (R51, R69). -/
def takeRpLevel (b : Berth) (l : BitVec 2) : Berth :=
  let b := { b with cc.rpLevel := l, cc.heldRp := none }
  if b.cc.state = .attachedSrc then ({ b with path.limit := b.rpLimit }.presentRp l).loadW3 else b

/-! ### The receive FIFO (R88, R89) -/

/-- Entries free for messages: 512 less the two kept for HARD_RESET marks (R88, R89). -/
def fifoFree (b : Berth) : Nat := 510 - b.phy.fifo.length

/-- The event that writing a mark sets (Table 3.24). -/
def markEvt (b : Berth) : RxMark → Berth
  | .sop => b.phyEvt 0
  | .endGood => b.phyEvt 1
  | .endBad => b.phyEvt 2
  | .endOvr => b.phyEvt 2
  | .endAbort => b.phyEvt 2
  | .endDup => b.phyEvt 3
  | .hardReset => b.phyEvt 7
  | .byte => b

/-- Write a mark at the tail of the FIFO, with its event. -/
def pushMark (b : Berth) (x : RxEntry) : Berth := { b with phy.fifo := b.phy.fifo ++ [x] }.markEvt x.mark

/-- Put a mark of a message that did not fit into the FIFO, now or as soon as an entry is free (R89). -/
def pushOwed (b : Berth) (x : RxEntry) : Berth :=
  if b.phy.owed = [] && 0 < b.fifoFree then b.pushMark x else { b with phy.owed := b.phy.owed ++ [x] }

/-- Owed marks enter while entries are free. -/
def drainOwed (b : Berth) : Berth :=
  let n := min b.fifoFree b.phy.owed.length
  (b.phy.owed.take n).foldl pushMark { b with phy.owed := b.phy.owed.drop n }

/-- Decoded bytes of the message being received enter the FIFO in their order, 2 of the header and 30 of data at most, where it
fits (R88–R90). -/
def takeBytes (b : Berth) (l : List Byte) : Berth := match b.phy.rxMsg with
  | none => b
  | some m =>
    let n := l.take (32 - m.got)
    let b := { b with phy.rxMsg := some { m with got := m.got + n.length } }
    if m.fits then { b with phy.fifo := b.phy.fifo ++ n.map (fun (x : Byte) => ({ mark := .byte, data := x } : RxEntry)) } else b

/-- The message being received is cut short, and so is one whose GoodCRC is not sent in full: each gets its one end mark (R88,
Table 3.3). A cut message that did not fit ends with END_OVR (DESIGN CHOICE, log entry 85: both marks fit it). -/
def cutRx (b : Berth) : Berth :=
  let b := match b.phy.ackDue with
    | some a => if a.live then { b with phy.ackDue := some { a with live := false } }.pushMark { mark := .endAbort, data := 0 } else b
    | none => b
  match b.phy.rxMsg with
  | none => b
  | some m =>
    let b := { b with phy.rxMsg := none }
    if m.fits then b.pushMark { mark := .endAbort, data := 0 } else (b.pushOwed { mark := .endOvr, data := 0 }).cntPhy 5

/-! ### The epoch (R94) and what it ends -/

/-- Every armed buffer is disarmed unsent and counted (R98). -/
def disarmAll (b : Berth) : Berth :=
  let n := (List.finRange 4).countP (fun i => b.phy.arm.getLsbD i)
  (List.replicate n ()).foldl (fun x _ => x.cntId 2) { b with phy.arm := 0 }

/-- The swap tracker enters a phase (R156). -/
def setPhase (b : Berth) (p : Phase) : Berth :=
  if b.mux.phase = p then b
  else
    let b := { b with mux.phase := p, tm.swap := none }.swapEvt 0
    let c := b.mon.ch[0]
    let lo := if p = .frsArmed || p = .frsDetected then BitVec.ofNat 10 (nearCode 4750 (if c.cfg.getLsbD 8 then 60 else 10)) else c.low
    let b := { b with mon.ch := b.mon.ch.set 0 { c with lowEff := lo } }
    if p = .frsArmed || p = .idle then b.loadCc else b

/-- The epoch increments: tokens lose currency, the AMS closes, response timers and tSrcTransition stop, armed buffers
are disarmed, the swap phase returns to IDLE, decisions lapse and WAIT_COUNTs clear (R84, R94, R98, R102, R130, R131,
R140, R156). -/
def newEpoch (b : Berth) : Berth :=
  let b := { b with
    id.epoch := b.id.epoch + 1, id.tokenRx.current := false, id.tokenTx.current := false
    id.amsActive := false, id.amsInit := false, id.closeOnTx := false
    mux.firstType := none, mux.partnerPsRdy := false, mux.frsDetected := false, mux.signalEnd := false
    mux.sourceOn := false
    phy.tmrRun := .none, tm.resp := none, tm.srcTrans := none, tm.caps := none, tm.sinkTx := none
    pol.oldIds := b.pol.oldIds ++ b.pol.windows.map (fun (w : DecWindow) => (w.id, DecEnd.lapsed)), pol.windows := [], pol.stored := [], pol.ask := none
    pol.amsTbl := none, pol.frsSent := false, pol.exiting := false, pol.modeTry := none, pol.discStep := 0
    pol.discDue := b.pol.discDue || (0 < b.pol.discStep && b.pol.discStep < 200)
    pol.waits := Vector.replicate 4 0, pol.request := none, pol.want := none
    pol.trans := none, pol.lost := none, pol.posted := none, pol.reserved := none, tm.reserve := none
    pol.todo := [], pol.vdmSent := none, tm.vdm := none, tm.vdmBusy := none, pol.chunkRx := none, pol.chunkTx := none
    pol.eprEntry := 0, tm.swapRetry := none, tm.swapStart := none }
  (b.disarmAll).setPhase .idle

/-- A host command completes: its response waits for an EVT commit (R101). -/
def answerHost (b : Berth) (c : FifoCmd) (st : Status) (body : List Byte := []) : Berth :=
  { b with pol.owed := b.pol.owed ++ [.resp { origin := c.origin, code := c.code, status := st, body := body, result := false }] }

/-- The command in progress completes (R314). -/
def finishCmd (b : Berth) (st : Status) (body : List Byte := []) : Berth := match b.pol.cur with
  | none => b
  | some c => { b with pol.cur := none, tm.swapRetry := none }.answerHost c st body

/-- The command in progress and the waiting commands that need the partner complete with a status; the others keep their place (R73,
R104). -/
def endCommands (b : Berth) (st : Status) : Berth :=
  let b := b.finishCmd st
  let b := (b.pol.fifo.filter FifoCmd.needsPartner).foldl (fun (b : Berth) (c : FifoCmd) => b.answerHost c st) b
  { b with pol.fifo := b.pol.fifo.filter (fun (c : FifoCmd) => !c.needsPartner) }

/-- Every command of the berth completes with a status, at once: no program is left to publish it (R44, R386). -/
def endEvery (b : Berth) (st : Status) : Berth :=
  let b := b.finishCmd st
  let b := b.pol.fifo.foldl (fun (b : Berth) (c : FifoCmd) => b.answerHost c st) b
  { b with pol.fifo := [] }.flushOwed

/-- The state of one connection that the PHY and BP 4.0 keep, cleared at attach and detach. -/
def clearConnection (b : Berth) : Berth :=
  { b.cutRx with id.pdConnected := false, id.contract := none, id.partnerRev := 0, id.eprMode := false, id.hrActive := false
                 id.expectLoss := false, tm.snkHr := none, tm.psHr := none, tm.srcRec := none, tm.epr := none
                 phy.capsCount := 0, phy.hrPending := false, phy.hrSending := false, phy.crSending := false, phy.hrWait := false
                 phy.crWait := false, phy.caOk := false
                 pol.sentCaps := [], pol.caps := [], pol.capsDue := false, pol.cable := none, pol.cableAsked := false
                 pol.partnerCaps := [], pol.partnerFrs := 0, pol.svids := [], pol.modes := [], pol.discStep := 0, pol.discDue := false
                 pol.frsAsked := false, pol.eprTried := false, pol.eprEntry := 0
                 pol.modeTry := none, pol.hrDue := false, pol.alertDue := [], pol.holdDue := false, pol.lowered := false
                 tm.grace := none, tm.hold := none, tm.capsRetry := none, pol.belowWin := 0
                 pol.cB := 0, pol.history := 0, pol.avg := [] }

/-- MessageID counters and stored received MessageIDs of every kind are cleared (R81). -/
def clearMsgIds (b : Berth) : Berth :=
  { b with phy.txId := Vector.replicate 3 0, phy.rxId := Vector.replicate 3 none }

/-- A transmission in progress ends with a result (R87, R105, Table 3.22). -/
def endTx (b : Berth) (r : TxResult) : Berth :=
  match b.phy.tx with
  | none => b
  | some _ => { b with phy.tx := none, phy.txResult := r, tm.tRecv := none, tm.sinkTx := none, id.closeOnTx := false }

/-- PHY_CFG.REV, CA_EN and NRETRY for a partner revision (R82, R114). -/
def phyRev (cfg : Word) (rev : Nat) : Word := setFld (setFld cfg 4 2 rev) 7 2 (if rev = 1 then 3 else 2)

/-- PHY_CFG set by the CC sequencer at attach: roles of the attached state, Revision 3.x (R114). -/
def phyRoles (b : Berth) (src : Bool) : Berth :=
  let n := if src then 1 else 0
  { b with phy.cfg := phyRev (setFld (setFld b.phy.cfg 2 1 n) 3 1 n) 2 }

/-! ### CC states -/

/-- ROLE and TRY of CC_CFG (Table 2.7). -/
def role (b : Berth) : Nat := fld b.cc.cfg 0 2
/-- RP_INIT of CC_CFG. -/
def rpInit (b : Berth) : BitVec 2 := BitVec.ofNat 2 (fld b.cc.cfg 4 2)
/-- TRY as it is honoured: only on a DRP berth outside harbour-less mode (R54). -/
def tryMode (b : Berth) (e : Env) : Nat := if b.role = 2 && !e.hless then fld b.cc.cfg 2 2 else 0

/-- Stop every CC debounce and Try timer. -/
def stopCcTimers (b : Berth) : Berth :=
  { b with tm.ccDeb := none, tm.pdDeb := none, tm.tryDeb := none, tm.drpTry := none, tm.tryWait := none, tm.tryTo := none
           tm.acc := none, tm.ins := none, tm.err := none, tm.clr := none, tm.backDet := none, cc.debDone := false, path.restart := false }

/-- Unattached of role at stamp `t` (R53): a DRP berth takes a new anchor, the first Tide boundary at or after `t`,
and presents Rd until its first switch 11 × i Tides after it (R58); in harbour-less mode every berth that is not
sink-only presents Rp 1.5 A and does not toggle (R44). The 650 ms of R68 run on from AttachWait. -/
def toUnattached (b : Berth) (e : Env) (t : Stamp) : Berth :=
  let run := if b.unattached || b.cc.state = .attachWaitSrc || b.cc.state = .attachWaitSnk then b.tm.backDet else none
  let b := b.stopCcTimers
  let b := { b with cc.orient := .none, cc.partnerRp := 0, cc.vconnLatch := false, cc.acc := 0, cc.accRaised := false
                    cc.toggleAt := none, cc.isolated := false, cc.clearing := false, cc.attachAt := none
                    tm.backDet := if b.vbcAbove08 then some (run.getD (t + ms 650)) else none }.openBoth t false
  if e.hless && b.role ≠ 1 then { b with cc.state := .unattachedSrc }.presentRp 1
  else match b.role with
    | 0 => { b with cc.state := .unattachedSrc }.presentRp b.rpInit
    | 1 => { b with cc.state := .unattachedSnk }.presentRp 3
    | _ => { b with cc.state := .unattachedSnk, cc.toggleAt := some (e.anchor t + 11 * e.local_) }.presentRp 3

/-- The end of an attached state by detach, ErrorRecovery, Disabled or CcFault at stamp `t` (R71–R73, R102, R104):
paths open, VCONN off, regulator to standby, discharge, outputs USB-safe within a Tide, a new epoch, DETACH raised with
the state left, a reason and the duration, commands that need the partner complete with `st`. -/
def detach (b : Berth) (t reason : Nat) (st : Status) : Berth :=
  if !b.attached then b
  else
    let left := b.cc.state
    let wasSrc := left = .attachedSrc
    let dur := (t - (b.cc.attachAt.getD t)) / 100000
    let b := b.endTx .abortedDetach
    let b := ((b.openSink).openSource t wasSrc).vconnOff
    let b := if b.reg.state = .latched then (b.regIdle.applyMode .standby 5000 t)
             else if wasSrc then b.regStandby t else b
    let b := (b.newEpoch).endCommands st
    let b := { b.clearConnection with id.powerSource := false, id.dataDfp := false, id.vconnSrc := false }
    let b := (((b.addPend .usbSafe).cntDetach).ccEvt 1).emit (.detach left reason dur)
    match b.cc.heldRp with
    | some l => if l.toNat < b.cc.rpLevel.toNat then { b with cc.rpLevel := l, cc.heldRp := none } else b
    | none => b

/-- LOCKED is entered at stamp `t` with a cause (R202): an attachment ends (log entry 81), the stage off, the CC wires Open, VCONN
off, outputs USB-safe. -/
def lock (b : Berth) (l : LockCause) (t : Stamp) : Berth :=
  let b := b.detach t 3 .partnerNoResponse
  let b := { b.stopCcTimers with
    path.state := .locked, path.lock := l, path.closeCase := none, tm.path := none, path.testBusy := false,
    path.thirdTrip := false, cc.state := .lockedOut, cc.vconnOn := false, cc.vconnDue := false, cc.orient := .none,
    mux.sbu := 0, mux.mux := 0, mux.modeActive := false, cc.toggleAt := none }.presentRp 3
  let b := if b.reg.state = .crowbar then b else b.regIdle
  b.pathEvt 11

/-- The orientation from the wire that shows Rd (as source) or Rp (as sink) (R59). -/
def orientOf (b : Berth) (src : Bool) : Orient :=
  let hit (l : CcLvl) : Bool := if src then l = .rd else l = .rpDefault || l = .rp15 || l = .rp30
  if hit b.cc.lvl1 then .normal else if hit b.cc.lvl2 then .flipped else .none

/-- The monitored CC's level (R59). -/
def monLvl (b : Berth) : CcLvl := if b.cc.orient = .flipped then b.cc.lvl2 else b.cc.lvl1

/-- PARTNER_RP code of a level (Table 2.11). -/
def rpCode : CcLvl → BitVec 2
  | .rpDefault => 1 | .rp15 => 2 | .rp30 => 3 | _ => 0

/-- Entry to Attached.SRC or Attached.SNK at stamp `t` (R53, R59, R81, R94, R108, R110, R114): orientation latched, a new
epoch, MessageIDs cleared, ATTACH; as source the insertion delay starts and Rp stands at RP_INIT. -/
def attach (b : Berth) (e : Env) (t : Stamp) (src : Bool) : Berth :=
  let b := (b.stopCcTimers).newEpoch
  let b := (b.clearConnection).clearMsgIds
  let b := { b with cc.state := if src then .attachedSrc else .attachedSnk, cc.orient := b.orientOf src
                    cc.attachAt := some t, cc.toggleAt := none, cc.vconnLatch := false
                    phy.hrCount := 0, id.powerSource := src, id.dataDfp := src, id.vconnSrc := src
                    pol.capsDue := src, pol.capsAfter := 0 }.phyRoles src
  let b := if src then
      let b := { b with cc.rpLevel := if e.hless then 1 else b.rpInit, tm.ins := some (t + ms (fld b.cc.time0 16 8)) }
      b.presentRp b.cc.rpLevel
    else { b with cc.partnerRp := rpCode b.monLvl, phy.caOk := decide (b.monLvl = CcLvl.rp30) }.loadCc
  let b := (b.cntAttach).ccEvt 0
  b.emit (.attach b.cc.state b.cc.orient (if src then 0 else 1)
    (if src then b.cc.rpNow.toNat else b.cc.partnerRp.toNat) b.adc.vbc b.cc.vconnOn b.cc.dbRd)

/-- ErrorRecovery from stamp `t` (Table 2.3): an attached berth detaches with a reason, both paths off, discharge,
VCONN off, CC Open, outputs USB-safe; tErrorRecovery starts. -/
def toErrorRecovery (b : Berth) (t reason : Nat) (st : Status) : Berth :=
  let b := b.detach t reason st
  let b := (((b.stopCcTimers).openBoth t true).vconnOff)
  let b := b.regStandby t
  ({ b with cc.state := .errorRecovery, cc.orient := .none, cc.toggleAt := none, cc.isolated := false, cc.clearing := false
            tm.err := some (t + ms (fld b.cc.time0 24 8)) }.addPend .usbSafe).presentRp 3

/-- Disabled from stamp `t` (Table 2.3, R75). -/
def toDisabled (b : Berth) (t : Stamp) : Berth :=
  if b.cc.state = .lockedOut then { b with enabled := false }
  else
    let b := b.detach t 2 .partnerNoResponse
    let b := (((b.stopCcTimers).openBoth t true).vconnOff).usbSafe
    ({ b with cc.state := .disabled, cc.orient := .none, cc.toggleAt := none, cc.isolated := false, enabled := false
              cc.clearing := false }.regStandby t).presentRp 3

/-- BackFeed is entered at stamp `t` (Table 2.3, R68, R324): paths off, discharge off, BACKFEED raised; where VBC is below
vSafe0V already its 100 ms run from there. -/
def toBackFeed (b : Berth) (t : Stamp) (powerUp : Bool) : Berth :=
  let b := (b.stopCcTimers).openBoth t false
  let b := { b with tm.clr := if b.vbcAbove08 then none else some (t + ms 100) }
  let b := { b with cc.state := .backFeed, cc.toggleAt := none, cc.orient := .none, tm.path := none
                    path.state := if b.path.state = PathState.discharge then PathState.off else b.path.state }
  let b := (b.presentRp 3).ccEvt 5
  b.emit (.backfeed (if powerUp then 0 else 1) b.path.testResult.toNat b.adc.vbc)

/-- The pass-transistor test starts at stamp `t` (R200); from IDLE it starts the regulator itself. -/
def startPassTest (b : Berth) (t : Stamp) (clear : Bool) : Berth :=
  let idle := b.reg.state = .idle
  let b := { b with path.state := .test, path.testKind := 1, path.testBusy := true, path.testResult := 0
                    path.testOk := b.reg.state ≠ .crowbar && b.reg.state ≠ .latched && b.reg.state ≠ .stopped
                    path.testAt := if idle then none else some t, path.testBack := false, path.testRel := false
                    st.kind := 5, st.busy := true, st.result := 0
                    path.testFrom := b.cc.state, path.testClear := clear, path.testIdle := idle, path.closeCase := none
                    tm.path := none }
  if idle then b.applyMode .standby 5000 t else b

/-- A close case of the source path arises (R182, Table 6.3); a sink path still closed refuses it (R180). -/
def sourceCase (b : Berth) (c : CloseCase) : Berth :=
  if b.path.state = .snkOn then (b.pathEvt 6).cntPath 3
  else { b with path.closeCase := some c }

/-- The source path closes with a ramp at stamp `t` (R183, R185): INRUSH_TO runs and VCONN becomes due (R60). -/
def startRamp (b : Berth) (t : Stamp) : Berth :=
  let lim := if b.path.closeCase = some .prSwap then b.path.limit else b.rpLimit
  let b := { b with path.state := .srcRamp, path.flt := 0, path.fltAt := t, path.closeCase := none, path.limit := lim, tm.path := some (t + ms (fld b.path.cfg 8 6)) }
  if b.cc.state = .attachedSrc && b.cc.cfg.getLsbD 6 && b.raSeen && !b.cc.vconnLatch then { b with cc.vconnDue := true } else b

/-- A write of PHY_CMD.HARD_RESET (R105, R108). -/
def requestHardReset (b : Berth) : Berth :=
  if !b.attached then b
  else if b.phy.hrCount = 3 then b.phyEvt 12
  else { b with phy.hrPending := true }.addPend .hardReset

/-- End of a swap phase by R161: ErrorRecovery in a PR_Swap or FR_Swap phase, a Hard Reset due in a VCONN_Swap phase; the sequence is
counted and the command in progress completes with `st`, those waiting as after any detach (R73). -/
def swapFail (b : Berth) (t : Stamp) (st : Status) : Berth :=
  match b.mux.phase with
  | .idle => b
  | .frsArmed => b
  | .vcOn => { (b.cntSwap 2).finishCmd st with pol.hrDue := true }
  | .vcWait => { (b.cntSwap 2).finishCmd st with pol.hrDue := true }
  | p =>
    let kind := if p = .frsDetected || p = .frsSourcing then 3 else 0
    let b := (b.cntSwap 2).finishCmd st
    let b := b.emit (.swap kind st (if kind = 3 then 2 else if b.pol.swapByHost then 1 else 0) 0 2)
    b.toErrorRecovery t 3 .partnerNoResponse

/-- One latch of a running BERTH_CLEAR_LATCH has its outcome; with the last one the berth's RESULT byte is decided:
E_SELFTEST_FAIL when any test failed, else the first outcome other than OK in MASK bit order, else OK (Table 11.6). -/
def finishClear (b : Berth) (bit : Nat) (st : Status) : Berth := match b.pol.clear with
  | none => b
  | some j =>
    if !j.mask.getLsbD bit then b
    else
      let m := j.mask &&& ~~~ (BitVec.ofNat 5 (2 ^ bit))
      let outs := j.outcomes ++ [(bit, st)]
      if m ≠ 0 then { b with pol.clear := some { j with mask := m, outcomes := outs } }
      else
        let firstBad := ((List.range 5).filterMap (fun i => (outs.find? (fun o => o.1 = i && o.2 ≠ .ok)).map (·.2))).head?
        let r := if outs.any (fun o => o.2 = .selftestFail) then Status.selftestFail else firstBad.getD .ok
        { b with pol.clear := none, done := b.done ++ [{ origin := j.origin, code := 0x0206, status := r }] }

/-- A quay protection acts on the berth at stamp `t` (R19, R161). -/
def protect (b : Berth) (t : Stamp) : Berth :=
  { b with id.protActed := true }.swapFail t .superseded

end Berth

end Sys2Proof.Machine
end

