-- ==== Sys2Proof/Machine/Commit.lean ====
section
/-!
DEFINITION. The commit rule: the check of a COMMIT write (R95, R96, R506, Table 3.5), its acceptance, and what an
accepted COMMIT and the changes toward safety do at their Tide boundary (R19, R20, R97, R98, Tables 6.10, 7.12, 2.15).
-/

namespace Sys2Proof.Machine

/-- The fields of a COMMIT write (Table 3.15). -/
def CommitWord.ofWord (v : Word) : CommitWord :=
  { mask := BitVec.ofNat 8 (fld v 0 8), kind := BitVec.ofNat 2 (fld v 8 2), txBuf := ⟨fld v 10 2, Nat.mod_lt _ (by decide)⟩
    outcomeChk := v.getLsbD 12, outcome := v.getLsbD 13, amsOpen := v.getLsbD 14, amsInit := v.getLsbD 15
    amsClose := v.getLsbD 16 }

/-- The word of a token (Table 3.13). -/
def Token.word (k : Token) : Word :=
  BitVec.ofNat 32 (k.msgId.toNat + sopCode k.sop * 8 + flag k.current 5 + k.seq.toNat * 256)

/-- COMMIT_ARG equals a token in bits [4:0] and [31:8] (R95). -/
def Token.matchesArg (k : Token) (arg : Word) : Bool := (k.word ^^^ arg) &&& 0xFFFFFF1F#32 = 0

/-- The staged registers after the clamping of their own ranges (R96, Tables 6.8–6.9, 7.10–7.11, R216, R244). -/
def Staged.clamped (s : Staged) : Staged :=
  { s with
    regVref := clampFld (clampFld s.regVref 0 14 0 14000) 16 5 1 30
    regHold := clampFld (clampFld s.regHold 0 10 10 560) 16 10 60 960
    pathCfg := clampFld (clampFld (clampFld s.pathCfg 0 6 1 40) 8 6 2 50) 16 8 60 200
    pathLimit := clampFld (clampFld s.pathLimit 0 10 10 560) 16 7 1 100
    snkLimit := clampFld (clampFld s.snkLimit 0 10 10 560) 16 7 1 100
    monThr := s.monThr.set 1 (if 896 < s.monThr[1].toNat then 896 else s.monThr[1])
    regOvp := clampFld s.regOvp 0 10 80 896
    regProt := clampFld (clampFld s.regProt 0 8 8 255) 8 8 1 255 }

/-- REG_VREF.MODE, the reserved code read as idle: no write stores it (Table 7.10). -/
def modeOf (v : Word) : RegMode := match fld v 24 2 with
  | 1 => .standby
  | 2 => .run
  | _ => .idle

/-- The reference in mV that a REG commit of these registers would apply. -/
def Staged.reference (s : Staged) : Nat := match modeOf s.regVref with
  | .idle => 0
  | .standby => 5000
  | .run => 4 * fld s.regVref 0 14

/-- The largest current limit, in 10 mA, that the masks would apply (R96); W3 of a MON commit follows the committed
path limits (R244) and so brings none of its own. -/
def Staged.limitOf (s : Staged) (m : BitVec 8) : Nat :=
  max (if m.getLsbD 2 then max (max (fld s.pathLimit 0 10) (fld s.snkLimit 0 10)) (fld s.frsCfg 2 10) else 0)
      (if m.getLsbD 1 then fld s.regHold 0 10 else 0)

/-- A transmit buffer is malformed (R115). -/
def TxBuf.malformed (x : TxBuf) : Bool :=
  let len := fld x.word0 0 5
  len % 4 ≠ 0 || len ≠ 4 * fld x.word0 28 3 || 28 < len || fld x.word0 5 2 = 3 || 4 < fld x.word0 8 3

/-- The SOP kind of a transmit buffer (Table 3.27). -/
def TxBuf.sop (x : TxBuf) : SopKind := match fld x.word0 5 2 with
  | 1 => .sopP
  | 2 => .sopPP
  | _ => .sop

/-- A message header names Source_Capabilities: data message type 1 (R110). -/
def isSourceCaps (hdr : Nat) : Bool := hdr % 32 = 1 && hdr / 2 ^ 12 % 8 ≠ 0 && hdr / 2 ^ 15 = 0

/-- An intention to send a structured VDM request to the partner. -/
def Intent.asksVdm (i : Intent) : Bool := match i.tx with
  | some x => i.waitAms && fld x.1 16 5 = 15 && fld x.1 5 2 = 0
  | none => false

namespace Berth

/-- A TX commit waits for its boundary, or the transmitter is in use (Table 3.8). -/
def txBusy (b : Berth) : Bool :=
  b.phy.tx.isSome || b.id.pend.any (fun p => match p with
    | .commit c => c.word.mask.getLsbD 0
    | _ => false)

/-- The grant is current at Tide `tide` (R94). -/
def grantCurrent (b : Berth) (tide : Nat) : Bool := match b.id.grantTide with
  | some g => g ≤ tide && tide < g + 40
  | none => false

/-- The first check of R506 that a COMMIT write fails, as COMMIT_STATUS.REASON; none when it is accepted. -/
def commitReason (b : Berth) (tide : Nat) (c : CommitWord) : Option (BitVec 4) :=
  let tok := if c.kind = 0 then b.id.tokenRx else b.id.tokenTx
  let st := b.stg.clamped
  let x := b.phy.bufs[c.txBuf]
  if c.kind = 3 then some 0xB
  else if c.kind ≠ 2 && !tok.current then some 0x1
  else if c.kind ≠ 2 && !tok.matchesArg b.id.commitArg then some 0x2
  else if c.kind = 2 && !(b.grantCurrent tide && b.id.grantRec.getLsbD 0) then some 0x3
  else if c.kind = 2 && b.id.commitArg ≠ b.id.grantSeq then some 0x2
  else if c.kind = 2 && c.outcomeChk && !(b.id.grantRec.getLsbD 1 && b.id.grantRec.getLsbD 2 = c.outcome) then some 0x4
  else if (c.mask.getLsbD 1 && 10 * fld b.id.grantCeil 0 16 < st.reference) || fld b.id.grantCeil 16 16 < st.limitOf c.mask
    then some 0x5
  else if (c.mask.getLsbD 4 && c.kind ≠ 2) || (c.mask.getLsbD 5 && c.kind = 2) then some 0x6
  else if c.mask.getLsbD 0 then
    if !b.phy.arm.getLsbD c.txBuf || x.malformed then some 0x7
    else if x.sop ≠ .sop && !b.cc.vconnOn then some 0x8
    else if b.txBusy then some 0x9
    else if x.sop = .sop && isSourceCaps (fld x.word0 16 16) && b.phy.capsCount = 50 then some 0xA
    else none
  else none

/-- A write to COMMIT (R95, R98): accepted for the next boundary with the staged content of this moment, or refused
with a reason and counted. -/
def commitWrite (b : Berth) (tide : Nat) (v : Word) (events : List EvBody := []) (post : Option ReqRec := none)
    (tel : TelDesc := {}) : Berth :=
  let c := CommitWord.ofWord v
  match b.commitReason tide c with
  | some r => { b with id.last := 3, id.discarded := false, id.reason := r }.cntId 0
  | none =>
    { b with id.last := 1, id.discarded := false, id.reason := 0 }.addPend
      (.commit { word := c, epoch := b.id.epoch, staged := b.stg, events := events, post := post, tel := tel })

/-! ### At the boundary -/

/-- Collision avoidance is in force as source: an explicit contract with a Revision 3.x partner and CA_EN (R85). -/
def caSource (b : Berth) : Bool :=
  b.cc.state = .attachedSrc && b.id.contract.isSome && b.id.partnerRev = 2 && b.phy.cfg.getLsbD 6 && fld b.phy.cfg 4 2 ≠ 1

/-- SinkTxOk is presented or seen, or no longer (Table 3.24, CA_CHANGE). -/
def setCa (b : Berth) (on : Bool) : Berth := if b.phy.caOk = on then b else { b with phy.caOk := on }.phyEvt 11

/-- Rp of collision avoidance: 3.0 A while no berth-initiated AMS is open (R85). -/
def caRelax (b : Berth) : Berth :=
  if b.caSource && !(b.id.amsActive && b.id.amsInit) then (b.presentRp 2).setCa true else b

/-- The open AMS closes (R102). -/
def closeAms (b : Berth) : Berth :=
  let b := { b with id.amsActive := false, id.amsInit := false, mux.firstType := none, pol.amsTbl := none }
  b.caRelax

/-- A committed transmission whose preamble has not begun is discarded (R87, CANCEL_TX). -/
def discardTx (b : Berth) : Berth :=
  match b.phy.tx with
  | none => b
  | some x => if x.begun then b else ((b.endTx .discarded).phyEvt 6).cntPhy 6

/-- The PHY transmits on an SOP kind: only while attached, and on SOP′ and SOP″ only while VCONN is on (R77, R78). -/
def mayTransmit (b : Berth) (k : SopKind) : Bool := b.attached && (k = .sop || b.cc.vconnOn)

/-- The preamble of the committed transmission begins: the transmit token loses currency (R94). One that the PHY may not transmit is
discarded (DESIGN CHOICE, log entry 84). -/
def beginTx (b : Berth) : Berth :=
  match b.phy.tx with
  | none => b
  | some x =>
    if !b.mayTransmit x.sop then b.discardTx
    else { b with phy.tx := some { x with begun := true, heldCa := false }, phy.txResult := .inProgress
                  id.tokenTx.current := false }

/-- The header that the PHY sends: MessageID, and the roles and revision of PHY_CFG, in a header's places for them (Table 3.27, R79,
R81; places PRESUMED, log entry 15). -/
def wireHdr (b : Berth) (h : BitVec 16) (id : BitVec 3) : BitVec 16 :=
  let n := h.toNat
  BitVec.ofNat 16 (n % 32 + fld b.phy.cfg 3 1 * 2 ^ 5 + fld b.phy.cfg 4 2 * 2 ^ 6 + fld b.phy.cfg 2 1 * 2 ^ 8 + id.toNat * 2 ^ 9
    + n / 2 ^ 12 * 2 ^ 12)

/-- Transmission of buffer `n` starts at a boundary (R86, R97 bit 0, R115): every other armed buffer is disarmed and counted, the
header takes the MessageID and PHY_CFG, collision avoidance may hold it; an incoming SOP* discards it (R87). `init` says that the
commit initiates an AMS. -/
def startTx (b : Berth) (n : Fin 4) (init : Bool) : Berth :=
  let x := b.phy.bufs[n]
  let len := fld x.word0 0 5
  let b := { b with phy.arm := b.phy.arm &&& ~~~ (BitVec.ofNat 4 (2 ^ n.val)) }.disarmAll
  let id := b.phy.txId[sopIdx x.sop]
  let hdr := b.wireHdr (BitVec.ofNat 16 (fld x.word0 16 16)) id
  let tx : Tx := { buf := n, word0 := setFld x.word0 16 16 hdr.toNat, data := x.data.toList.take len, sop := x.sop, msgId := id }
  let b := { b with phy.tx := some tx, phy.txBufNo := n, phy.txResult := .inProgress, phy.txAttempts := 0
                    phy.txMsgId := tx.msgId, phy.txSop := tx.sop }
  if b.phy.rxMsg.isSome || b.phy.sopSeen then b.discardTx
  else if b.tm.sinkTx.isSome then { b with phy.tx := some { tx with heldCa := true } }
  else if init && b.cc.state = .attachedSnk && b.id.contract.isSome && b.id.partnerRev = 2 && b.monLvl ≠ .rp30 then
    { b with phy.tx := some { tx with heldCa := true } }
  else b.beginTx

/-- A COMMIT with AMS_OPEN opens the AMS at boundary `t` (R102). One the berth initiates as source under collision avoidance changes
Rp to 1.5 A, and its transmission waits tSinkTx (R85). The tracker's record starts anew unless the AMS answers a message (R156). -/
def openAms (b : Berth) (c : CommitWord) (t : Stamp) : Berth :=
  let b := if !b.id.amsActive && c.kind ≠ 0 then { b with mux.firstType := none } else b
  let b := { b with id.amsActive := true, id.amsInit := c.amsInit }
  if c.amsInit && b.caSource then
    ({ b with tm.sinkTx := if c.mask.getLsbD 0 then some (t + ms (fld b.phy.time0 8 8)) else b.tm.sinkTx }.presentRp 1).setCa false
  else b

/-- The REG part of a commit (R217, R219). -/
def applyReg (b : Berth) (s : Staged) (raw : Staged) (t : Stamp) : Berth :=
  let b := if s.regVref = raw.regVref && s.regHold = raw.regHold then b else b.regEvt 13
  { b with reg.vref := s.regVref, reg.hold := s.regHold }.applyMode (modeOf s.regVref) (4 * fld s.regVref 0 14) t

/-- FRS_CFG of a PATH commit: ARM enters FRS_ARMED from IDLE, its clearing leaves it (R165, Table 5.2). -/
def applyFrs (b : Berth) (v : Word) : Berth :=
  let b := { b with mux.frsCfg := v }
  if v.getLsbD 0 && b.mux.phase = .idle then b.setPhase .frsArmed
  else if !v.getLsbD 0 && b.mux.phase = .frsArmed then b.setPhase .idle
  else b

/-- The conditions of a sink close at its boundary (R186), with Qq_SNKS in mV. -/
def sinkCloseOk (b : Berth) (e : Env) : Bool :=
  b.cc.state = .attachedSnk && b.cc.release && !e.hless && b.vbcPresent && e.snks + 200 ≤ b.adc.vbc && b.path.state = .off

/-- The PATH part of a commit (R180, R182, R186, Table 6.10). -/
def applyPath (b : Berth) (e : Env) (s : Staged) (raw : Staged) (t : Stamp) : Berth :=
  let same := s.pathCfg = raw.pathCfg && s.pathLimit = raw.pathLimit && s.snkLimit = raw.snkLimit
  let b := if same then b else b.pathEvt 13
  let b := { b with path.cfg := s.pathCfg, path.limit := s.pathLimit, path.snkLimit := s.snkLimit }
  let c2 := b.mon.ch[2]
  let thr := BitVec.ofNat 10 (4 * fld s.pathCfg 16 8)
  let b := { b with mon.ch := b.mon.ch.set 2 { c2 with thr := thr, thrEff := thr } }
  let b := b.applyFrs s.frsCfg
  let b := match fld s.pathStage 0 2 with
    | 1 => if b.mux.phase = Phase.prSnkOn then b.sourceCase .prSwap else b.discardOne
    | 2 => b.openSource t (s.pathStage.getLsbD 4)
    | _ => b
  let b := match fld s.pathStage 2 2 with
    | 1 =>
      if b.path.closeCase.isSome || b.path.state = PathState.srcRamp || b.path.state = PathState.srcOn then
        ((b.pathEvt 6).cntPath 3).discardOne
      else if b.sinkCloseOk e then { b with path.state := .snkOn, path.flt := 0, path.fltAt := t } else b.discardOne
    | 2 => let b := b.openSink
           if s.pathStage.getLsbD 4 then b.startDischarge t else b
    | _ => b
  b.loadW3

/-- W0's effective LO threshold: 4.75 V while fast role swap is armed or detected, else MON_LOW_0 (Table 8.2). -/
def w0LoEff (b : Berth) (low : BitVec 10) (high : Bool) : BitVec 10 :=
  if b.mux.phase = .frsArmed || b.mux.phase = .frsDetected then BitVec.ofNat 10 (nearCode 4750 (if high then 60 else 10)) else low

/-- The MON part of a commit (R231, R243, R244, Table 7.11). -/
def applyMon (b : Berth) (s : Staged) (raw : Staged) : Berth :=
  let b := if s.monThr = raw.monThr then b else b.monEvt 14
  let b := if s.regOvp = raw.regOvp && s.regProt = raw.regProt then b else b.regEvt 13
  let cb := BitVec.ofNat 10 (fld s.regOvp 0 10)
  let c0 := b.mon.ch[0]
  let c4 := b.mon.ch[4]
  let c9 := b.mon.ch[9]
  let ch := b.mon.ch.set 0 { c0 with thr := s.monThr[0], thrEff := s.monThr[0], low := s.monLow[0], lowEff := b.w0LoEff s.monLow[0] s.w0High
                                     cfg := setFld c0.cfg 8 1 (if s.w0High then 1 else 0) }
  let ch := ch.set 4 { c4 with thr := s.monThr[1], thrEff := s.monThr[1] }
  let ch := ch.set 9 { c9 with thr := s.monThr[2], thrEff := s.monThr[2], low := s.monLow[1], lowEff := s.monLow[1] }
  { b with mon.ch := ch, reg.prot := s.regProt, reg.cbThr := cb
           reg.cbEff := if b.reg.cbEff.toNat < cb.toNat then cb else b.reg.cbEff }

/-- The MUX part of a commit (R170, R174). -/
def applyMux (b : Berth) (v : Word) : Berth :=
  { b with mux.sbu := BitVec.ofNat 2 (fld v 0 2), mux.mux := BitVec.ofNat 3 (fld v 2 3), mux.modeActive := v.getLsbD 5 }

/-- BP 4.0 ends discovery and every mode on a berth that becomes UFP; one that becomes DFP is to discover (R162, R172). -/
def takeDataRole (b : Berth) (dfp : Bool) : Berth :=
  if dfp then { b with pol.discDue := true }
  else { b with pol.discDue := false, pol.discStep := 0, pol.svids := [], pol.modes := [], pol.modeTry := none, pol.modeNow := none
                pol.vdmSent := none, tm.vdm := none, tm.vdmBusy := none, pol.ask := if b.pol.ask = some .vdm then none else b.pol.ask
                pol.todo := b.pol.todo.filter (fun (i : Intent) => !i.asksVdm) }

/-- A swap command in progress whose role the berth now holds completes, with the roles (R154, Table 11.6). -/
def finishSwap (b : Berth) (kind role : Nat) : Berth :=
  let roles := leBytes 1 (flag b.id.powerSource 0 + flag b.id.dataDfp 1 + flag b.id.vconnSrc 2)
  match b.pol.cur with
  | some c => match c.kind with
    | .swap k target => if k = kind && target = role then b.finishCmd .ok roles else b
    | _ => b
  | none => b

/-- What a TEL commit publishes at boundary `t` (R97 bit 7, R108, R134, R140, R154, R159–R163, R172). -/
def applyTel (b : Berth) (d : TelDesc) (t : Stamp) : Berth :=
  let b := { b with id.powerSource := d.source.getD b.id.powerSource, id.dataDfp := d.dfp.getD b.id.dataDfp
                    id.vconnSrc := d.vconnSrc.getD b.id.vconnSrc, id.eprMode := d.epr.getD b.id.eprMode }
  let b := match d.source with
    | some x => b.finishSwap 0 (if x then 1 else 0)
    | none => b
  let b := match d.dfp with
    | some x => (b.takeDataRole x).finishSwap 1 (if x then 1 else 0)
    | none => b
  let b := match d.vconnSrc with
    | some x => b.finishSwap 2 (if x then 1 else 0)
    | none => b
  let b := match d.epr with
    | some x => { b with tm.epr := if !x then none else if b.tm.epr.isSome || b.id.powerSource then b.tm.epr
                                   else some (t + ms b.pol.eprSnkKa) }
    | none => b
  let b := if d.endContract then { b with id.contract := none } else b
  match d.contract with
  | some c => { b with id.contract := some c, phy.hrCount := 0, pol.reserved := none, tm.reserve := none
                       path.ilimOver := none, pol.discDue := b.pol.discDue || b.id.dataDfp, pol.frsAsked := false }.caRelax
  | none => b

/-- A held PHY_CFG write takes effect at the boundary of an accepted COMMIT (R114). -/
def applyHeldPhy (b : Berth) : Berth := match b.phy.heldCfg with
  | some v =>
    let rev := if fld v 4 2 = 1 || fld v 4 2 = 2 then fld v 4 2 else fld b.phy.cfg 4 2
    { b with phy.cfg := phyRev (setFld (setFld b.phy.cfg 0 4 (fld v 0 4)) 6 1 (fld v 6 1)) rev
             phy.heldCfg := none }.phyEvt 14
  | none => b

/-- A commit that R19 discards: a protection stands or has acted, and the commit would close a path, raise the
reference or start a transmission that the isolated CC front end restrains. -/
def restrained (b : Berth) (c : Commit) : Bool :=
  let stands := b.id.protActed || b.path.state = .tripped || b.path.state = .locked || b.reg.state = .crowbar ||
    b.reg.state = .latched || b.reg.state = .stopped || b.cc.isolated
  let closes := c.word.mask.getLsbD 2 && (fld c.staged.pathStage 0 2 = 1 || fld c.staged.pathStage 2 2 = 1)
  let raises := c.word.mask.getLsbD 1 && b.reg.target < c.staged.clamped.reference
  let sends := c.word.mask.getLsbD 0 && b.cc.isolated
  stands && (closes || raises || sends)

/-- An accepted COMMIT at its boundary (R21 step 2, R97, R98). -/
def applyCommit (b : Berth) (e : Env) (c : Commit) (t : Stamp) : Berth :=
  if c.epoch ≠ b.id.epoch || b.restrained c then
    { b with id.last := 0, id.discarded := true }.discardOne
  else
    let m := c.word.mask
    let s := c.staged.clamped
    let b := ({ b with id.last := 2 }).applyHeldPhy
    let b := if m.getLsbD 1 then b.applyReg s c.staged t else b
    let b := if m.getLsbD 2 then b.applyPath e s c.staged t else b
    let b := if m.getLsbD 3 then b.applyMon s c.staged else b
    let b := if m.getLsbD 4 && b.id.contract.isNone then b.takeRpLevel s.ccRp else b
    let b := if m.getLsbD 5 then b.applyMux s.muxStage else b
    let b := if m.getLsbD 6 then { b.flushOwed with id.evtPublish := s.evtIndex
                                                    pol.posted := match c.post with
                                                      | some r => some { r with posted := e.tide }
                                                      | none => b.pol.posted } else b
    let b := if m.getLsbD 6 then { b with evOut := b.evOut ++ c.events } else b
    let b := if m.getLsbD 7 then b.applyTel c.tel t else b
    let b := if c.word.amsOpen then b.openAms c.word t else b
    let b := if m.getLsbD 0 then
        let b := b.startTx c.word.txBuf c.word.amsInit
        { b with id.closeOnTx := c.word.amsClose && b.phy.tx.isSome }
      else if c.word.amsClose then b.closeAms else b
    b

/-- Count a PATH_SAFE action that is not taken (Table 6.10). -/
def safeIgnored (b : Berth) : Berth := (b.pathEvt 12).discardOne

/-- Count a REG_SAFE action that is not taken (Table 7.12). -/
def regIgnored (b : Berth) : Berth := (b.regEvt 12).discardOne

/-- SWAP_TO_RD carried out (R157): Rp to Rd, Attached.SRC to Attached.SNK; VCONN goes with Attached.SRC (R60). -/
def swapToRd (b : Berth) : Berth := { b.vconnOff with cc.state := .attachedSnk, cc.partnerRp := 0 }.presentRp 3

/-- SWAP_TO_RP carried out (R157): Rd to Rp at the level without a contract, Attached.SNK to Attached.SRC. -/
def swapToRp (b : Berth) : Berth := { b with cc.state := .attachedSrc, cc.partnerRp := 0 }.rpWithoutContract

/-- ERROR_RECOVERY is taken (R52). -/
def errRecTaken (b : Berth) : Bool :=
  match b.cc.state with
  | .held => false
  | .disabled => false
  | .backFeed => false
  | .ccFault => false
  | .lockedOut => false
  | _ => true

/-- The release of a berth at boundary `t` (R65–R67, R171): outputs USB-safe; a berth the member does not enable goes
to Disabled; a berth in BackFeed runs the pass-transistor test, whose result decides between BACKFEED and LockedOut; a held
berth takes its role. -/
def doRelease (b : Berth) (e : Env) (t : Stamp) : Berth :=
  let b := { b with cc.release := true, cc.dbRd := false }.usbSafe
  if !e.member || !b.enabled then b.toDisabled t
  else if b.path.state = .locked then { b with cc.state := .lockedOut }.presentRp 3
  else match b.cc.state with
    | .backFeed => { b with tm.clr := if b.vbcAbove08 then none else some (t + ms 100) }.startPassTest t false |> fun (x : Berth) =>
        { x with path.testRel := true }
    | .held => b.toUnattached e t
    | _ => b

/-- A Hard Reset that was requested, at its boundary (R105): the transmission in progress is abandoned. A message being received is
waited for; otherwise the ordered set goes on the wire, and no GoodCRC on its way is finished (log entry 87). -/
def startHardReset (b : Berth) : Berth :=
  if !b.phy.hrPending || b.phy.hrSending || !b.attached then b
  else
    let b := { b.endTx .abortedHr with phy.crSending := false, phy.crWait := false }
    if b.phy.rxMsg.isSome then { b with phy.hrWait := true } else { b.cutRx with phy.hrSending := true }

/-- A Cable Reset that was requested, at its boundary: dropped beside a Hard Reset (Table 3.8), and where the berth is no longer DFP
and VCONN source (R109); otherwise with the ordering of R105. -/
def startCableReset (b : Berth) : Berth :=
  if b.phy.hrPending || !b.attached || !(b.id.dataDfp && b.id.vconnSrc) then b
  else
    let b := b.endTx .abortedHr
    if b.phy.rxMsg.isSome then { b with phy.crWait := true } else { b.cutRx with phy.crSending := true }

/-- A change toward safety or a staged register write at its boundary `t`. DESIGN CHOICE, log entry 85: DIS_ON in DISCHARGE finds
nothing to turn on and is counted as SAFE_IGNORED. -/
def applyPend (b : Berth) (e : Env) (t : Stamp) (p : Pend) : Berth :=
  match p with
  | .commit c => b.applyCommit e c t
  | .srcOpen =>
    if b.path.state = .srcRamp || b.path.state = .srcOn || b.path.closeCase.isSome then (b.openSource t false).loadW3
    else b.safeIgnored
  | .snkOpen => if b.path.state = .snkOn then b.openSink.loadW3 else b.safeIgnored
  | .disOn => if b.path.state = .off then b.startDischarge t else b.safeIgnored
  | .lowerIlim n =>
    if b.path.state = .snkOn then
      if n.toNat ≤ fld b.path.snkLimit 0 10 then
        { b with path.snkLimit := setFld b.path.snkLimit 0 10 (clampTo 10 560 n.toNat) }.loadW3 else b.safeIgnored
    else if n.toNat ≤ b.srcIlim then
      { b with path.limit := setFld b.path.limit 0 10 (clampTo 10 560 n.toNat)
               path.ilimOver := b.path.ilimOver.map (fun _ => n) }.loadW3
    else b.safeIgnored
  | .regStandby => if b.reg.state = .idle then b.regIgnored else b.regStandby t
  | .regIdle =>
    if b.path.state = .off && b.reg.state ≠ .crowbar && b.reg.state ≠ .latched then b.applyMode .idle 0 t else b.regIgnored
  | .lowerHold n =>
    if n.toNat ≤ fld b.reg.hold 0 10 then { b with reg.hold := setFld b.reg.hold 0 10 (clampTo 10 560 n.toNat) }
    else b.regIgnored
  | .errorRecovery =>
    if !b.errRecTaken then b.discardOne
    else if b.cc.state = .errorRecovery then b
    else b.toErrorRecovery t 1 .partnerNoResponse
  | .vconnOff => b.vconnOff
  | .vconnRearm =>
    if b.cc.state = .attachedSrc && b.raSeen then { b with cc.vconnLatch := false, cc.vconnOn := true } else b.discardOne
  | .swapToRd => b.swapToRd
  | .swapToRp => b.swapToRp
  | .vconnOn => b.vconnApply
  | .hardReset => b.startHardReset
  | .cableReset => b.startCableReset
  | .gpStart g =>
    if g then { b with tm.gp1 := some (t + 1000 * b.tmr.gp1.toNat) } else { b with tm.gp0 := some (t + 1000 * b.tmr.gp0.toNat) }
  | .gpStop g => if g then { b with tm.gp1 := none } else { b with tm.gp0 := none }
  | .pathTest => if b.path.state = .off && !b.attached then b.startPassTest t false else b
  | .disable => b.toDisabled t
  | .enable => if b.cc.state = .disabled then { b with enabled := true }.toUnattached e t else { b with enabled := true }
  | .ccFaultClear =>
    if b.cc.ovActive then b.finishClear 4 .notPermitted else { b with cc.clearing := true, tm.clr := some (t + ms 100) }
  | .regCfg v => { b with reg.heldCfg := some v }
  | .regWin v => { b with reg.win := v }
  | .monBlank v => { b with mon.blank := v }
  | .vconnCfg v => { b with cc.vconnCfg := v }
  | .rpLower =>
    if b.id.contract.isSome then b
    else match b.cc.heldRp with
      | some l => if l.toNat < b.cc.rpLevel.toNat then b.takeRpLevel l else b
      | none => b
  | .usbSafe => b.usbSafe
  | .tmonCal v => { b with adc.tmonCal := v }
  | .release => b.doRelease e t
  | .hrStep2 =>
    let dfp := b.id.powerSource
    { b.usbSafe with phy.cfg := setFld b.phy.cfg 3 1 (if dfp then 1 else 0), id.dataDfp := dfp }
  | .frsDisarm => (b.applyFrs (setFld b.mux.frsCfg 0 1 0))
  | .hwErrorRecovery => b.toErrorRecovery t 3 .partnerNoResponse
  | .cbStart => { (b.applyMode .standby 5000 t) with tm.cbCheck := some (t + ms 10) }
  | .unlocked => { b with path.lock := .none, path.state := .off, path.trips := [] }.toErrorRecovery t 3 .partnerNoResponse
  | .parkEn en => { b with mon.parkEn := en }
  | .phyTime i v => match i with
    | 0 => { b with phy.time0 := v }
    | 1 => { b with phy.time1 := v }
    | 2 => { b with phy.time2 := v }

end Berth

end Sys2Proof.Machine
end

