-- ==== Sys2Proof/Machine/Registers.lean ====
section
/-!
DEFINITION. The words of the latched registers (step 1 of Table 1.4) and the read of a berth-window register by its
offset (Tables 2.6, 3.10, 3.18, 5.10, 6.7, 7.8, 8.8–8.12).
-/

namespace Sys2Proof.Machine

namespace Berth

/-- The berth presents Rd: as a sink state, or by its dead-battery selection while held (Table 2.3). -/
def presentsRd (b : Berth) : Bool := match b.cc.state with
  | .unattachedSnk => true
  | .attachWaitSnk => true
  | .attachedSnk => true
  | .trySnk => true
  | .tryWaitSnk => true
  | .held => b.cc.dbRd
  | _ => false

/-- The front end presents neither Rp nor Rd, or is isolated: its wires are not measured (Table 2.11). -/
def ccOpen (b : Berth) : Bool := b.cc.isolated || (b.cc.rpNow = 3 && !b.presentsRd)

/-- The level lies above threshold `th` in mV, from a level that lay above it or did not: a threshold falls 25 mV below where it
rises (R47). -/
def above (mv th : Nat) (was : Bool) : Bool := if was then th ≤ mv + 25 else th ≤ mv

/-- The level code of a CC average in mV against Table 2.2, from the code of the Tide before (R47). -/
def classify (b : Berth) (old : CcLvl) (mv : Nat) : CcLvl :=
  if b.ccOpen then .notMeasured
  else if b.cc.rpNow ≠ 3 then
    let l := b.ccLevels.1
    if above mv l.2 (old = .open_) then .open_
    else if above mv l.1 (old = .rd || old = .open_) then .rd else .belowRa
  else
    if above mv 1230 (old = .rp30) then .rp30
    else if above mv 660 (old = .rp15 || old = .rp30) then .rp15
    else if above mv 200 (old = .rpDefault || old = .rp15 || old = .rp30) then .rpDefault else .belowRd

/-- BERTH_STATUS (Table 3.12). -/
def wBerthStatus (b : Berth) : Word :=
  BitVec.ofNat 32 (flag b.id.pdConnected 0 + flag b.id.contract.isSome 1 + b.id.partnerRev.toNat * 4
    + flag b.id.powerSource 4 + flag b.id.dataDfp 5 + flag b.id.vconnSrc 6 + flag b.id.eprMode 7 + flag b.id.amsActive 8
    + flag b.id.amsInit 9 + flag b.id.hrActive 10
    + flag (b.id.expectLoss || (1 ≤ b.mux.phase.code && b.mux.phase.code ≤ 5) || 9 ≤ b.mux.phase.code) 11
    + flag b.phy.caOk 12 + b.id.epoch.toNat * 65536)

/-- COMMIT_STATUS (Table 3.16). -/
def wCommitStatus (b : Berth) : Word :=
  BitVec.ofNat 32 (b.id.last.toNat + flag b.id.discarded 2 + b.id.reason.toNat * 16)

/-- CC_STATUS (Table 2.11). -/
def wCcStatus (b : Berth) (e : Env) : Word :=
  BitVec.ofNat 32 (b.cc.state.code + b.cc.orient.code * 2 ^ 5 + lvlCode b.cc.avg1 * 2 ^ 7
    + lvlCode b.cc.avg2 * 2 ^ 10 + b.cc.partnerRp.toNat * 2 ^ 13 + b.cc.rpNow.toNat * 2 ^ 15
    + flag b.cc.vconnOn 17 + flag e.vq5 18 + flag b.cc.vconnLatch 19 + flag b.cc.release 20 + flag b.cc.dbRd 21
    + flag b.vbcSafe0 22 + flag b.vbcSafe5 23 + flag b.vbcPresent 24 + b.cc.acc.toNat * 2 ^ 25 + flag b.cc.ovActive 27
    + flag e.hless 28)

/-- PHY_STATUS (Table 3.21). -/
def wPhyStatus (b : Berth) : Word :=
  let held := match b.phy.tx with
    | some x => x.heldCa
    | none => false
  BitVec.ofNat 32 (flag b.phy.rxMsg.isSome 0 + flag (b.phy.tx.isSome && !held) 1 + flag held 2 + flag b.phy.hrPending 3
    + b.phy.tmrRun.code * 16 + flag b.tm.srcTrans.isSome 7 + b.phy.hrCount.toNat * 2 ^ 8 + b.phy.capsCount.toNat * 2 ^ 10)

/-- TX_STATUS (Table 3.22). -/
def wTxStatus (b : Berth) : Word :=
  BitVec.ofNat 32 (b.phy.txBufNo.val + b.phy.txResult.code * 4 + b.phy.txAttempts.toNat * 32 + b.phy.txMsgId.toNat * 128
    + sopCode b.phy.txSop * 1024)

/-- W2 is in service: neither fenced nor under test (Table 6.11). -/
def fastAvail (b : Berth) : Bool := !b.mon.fence.getLsbD 4 && !(b.mon.busy && b.mon.resSel = 4)

/-- VBR in 4.75–5.50 V by its last Tide average (Table 6.11). -/
def vbrSafe5 (b : Berth) : Bool := 4750 ≤ b.adc.vbr && b.adc.vbr ≤ 5500

/-- TFLT of the closed path, the source path's while none is, in units of 100 µs (Table 6.9). -/
def tflt (b : Berth) : Nat := if b.path.state = .snkOn then fld b.path.snkLimit 16 7 else fld b.path.limit 16 7

/-- The value in 1/32,000 of a stamp at which the path's fault timer expires: TFLT (R190). -/
def faultFull (b : Berth) : Nat := 32000 * (10000 * b.tflt)

/-- PATH_STATUS (Table 6.11). -/
def wPathStatus (b : Berth) (e : Env) : Word :=
  let st := b.path.state
  let t := b.tmr.tb
  let acc := if st = .off then 0 else min 255 (255 * b.path.flt / b.faultFull)
  BitVec.ofNat 32 (st.code + flag e.vinOk 4 + flag b.vbrSafe5 5 + flag (st = .srcRamp || st = .srcOn) 6 + flag (st = .snkOn) 7
    + flag (st = .discharge) 8 + flag (b.path.limiting && (st = .srcOn || st = .srcRamp)) 9
    + flag (b.path.limiting && st = .snkOn) 10 + flag b.fastAvail 11 + flag (st = .srcRamp) 12
    + acc * 2 ^ 16
    + min 3 (b.path.trips.countP (fun x => decide (t ≤ x + ms 60000))) * 2 ^ 24)

/-- PATH_TEST (Table 6.13). -/
def wPathTest (b : Berth) : Word :=
  BitVec.ofNat 32 (b.path.testKind.toNat * 2 + b.path.testResult.toNat * 8 + flag b.path.srcShort 5 + flag b.path.snkShort 6
    + flag b.path.testBusy 7 + b.path.offset.toNat * 256)

/-- W1 reads VBR inside the transition window. -/
def w1Inside (b : Berth) : Bool := !b.mon.ch[1].hiNow && !b.mon.ch[1].loNow

/-- REG_STATUS (Table 7.13). -/
def wRegStatus (b : Berth) : Word :=
  BitVec.ofNat 32 (b.reg.state.code + flag b.w1Inside 4 + min 7 b.reg.winCount * 32 + flag b.reg.slewing 8
    + flag b.reg.holdNow 9 + flag b.reg.atFloor 10 + flag b.reg.dropout 11 + flag b.reg.dem 12 + flag b.reg.cbLatch 13
    + flag (b.reg.state = .latched) 14 + flag b.reg.intSat 15 + min 15 b.reg.hicCount * 2 ^ 16 + flag b.reg.fltLow 20
    + flag b.reg.thermal 21)

/-- MON_STATE_n (Table 8.8). -/
def wMonState (c : MonCh) : Word :=
  BitVec.ofNat 32 (flag c.hiNow 0 + flag c.loNow 1 + flag c.hiSeen 2 + flag c.loSeen 3 + flag c.blanked 4 + flag c.tested 5)

/-- The code the MUX balls carry after the orientation replacement (R171). -/
def muxBalls (b : Berth) : Nat :=
  if b.mux.orientMux0 then b.mux.mux.toNat / 2 * 2 + (if b.mux.flipped then 1 else 0) else b.mux.mux.toNat

/-- MUX_STATUS (Table 5.11). -/
def wMuxStatus (b : Berth) : Word :=
  BitVec.ofNat 32 (b.mux.sbu.toNat + b.muxBalls * 4 + flag b.mux.modeActive 5 + flag b.isUsbSafe 6)

/-- SWAP_STATUS (Table 5.12). -/
def wSwapStatus (b : Berth) : Word :=
  BitVec.ofNat 32 (b.mux.phase.code + flag b.tm.swap.isSome 4 + flag b.mux.partnerPsRdy 5)

/-- FRS_STATUS (Table 5.13). -/
def wFrsStatus (b : Berth) : Word :=
  BitVec.ofNat 32 (flag (b.mux.phase = .frsArmed) 0 + flag b.mux.frsDetected 1 + flag b.mux.signalEnd 2 + flag b.mux.sourceOn 3)

/-- TMR_RUN (Tables 8.11, 8.12), live. -/
def wTmrRun (b : Berth) : Word :=
  let t := b.tm
  let on (l : List (Option Stamp)) : Bool := l.any (·.isSome)
  BitVec.ofNat 32 (flag (on [t.ccDeb, t.pdDeb, t.tryDeb, t.drpTry, t.tryWait, t.tryTo, t.acc]) 0
    + flag b.cc.toggleAt.isSome 1 + flag (on [t.ins, t.err, t.clr]) 2 + flag t.tRecv.isSome 3
    + flag (on [t.resp, t.caps]) 4 + flag t.srcTrans.isSome 5 + flag (on [t.psHr, t.backDet, t.srcRec, t.snkHr]) 6
    + flag t.sinkTx.isSome 7 + flag t.swap.isSome 8 + flag t.epr.isSome 9 + flag t.path.isSome 10 + flag t.settle.isSome 11
    + flag t.hic.isSome 12 + flag (b.cc.vconnOn && b.mon.ch[7].hiNow) 13 + flag t.gp0.isSome 14 + flag t.gp1.isSome 15)

/-- The stage temperature in 0.1 °C from TMON in mV (Table 8.10). -/
def stageTemp (b : Berth) (tmon : Nat) : Int :=
  let v25 := fld b.adc.tmonCal 0 12
  let slope := fld b.adc.tmonCal 16 12
  if slope = 0 then Config.tempAtZeroSlope tmon else 250 + ((tmon : Int) - v25) * 1000 / slope

/-- The level codes of the CC averages (R47). -/
def takeLevels (b : Berth) : Berth :=
  { b with cc.avg1 := b.classify b.cc.avg1 b.adc.cc1, cc.avg2 := b.classify b.cc.avg2 b.adc.cc2 }

/-- The Tide block averages taken over from the sample; an input whose samples were all blanked keeps its previous
average and is marked STALE (R258). -/
def takeSample (b : Berth) (s : BerthSample) : Berth :=
  let k (i : Nat) : Bool := s.stale.getLsbD i
  { b with
    smp := s
    adc.vbc := if k 0 then b.adc.vbc else s.vbc
    adc.vbr := if k 1 then b.adc.vbr else s.vbr
    adc.ipath := if k 2 then b.adc.ipath else s.ipath
    adc.imon := if k 3 then b.adc.imon else s.imon
    adc.cc1 := if k 4 then b.adc.cc1 else s.cc1
    adc.cc2 := if k 5 then b.adc.cc2 else s.cc2
    adc.vconnI := if k 6 then b.adc.vconnI else s.vconnI
    adc.temp := if k 7 then b.adc.temp else b.stageTemp s.tmon
    adc.stale := s.stale }

/-- ST_STATUS (Table 16.6). -/
def wStStatus (b : Berth) : Word :=
  BitVec.ofNat 32 (b.st.kind.toNat + flag b.st.busy 3 + b.st.result.toNat * 16 + b.st.cls.toNat * 64 + flag b.st.phyFenced 8)

/-- ST_CRC_BURST at stamp `t` (Table 16.6). -/
def wStBurst (b : Berth) (t : Stamp) : Word :=
  BitVec.ofNat 32 (min 15 (b.st.bads.countP (fun x => decide (t ≤ x + ms 1000))) + flag b.st.burst 4)

/-- ST_PHY_LB (Table 16.6). -/
def wStPhyLb (b : Berth) : Word :=
  BitVec.ofNat 32 (b.st.sent.toNat * 2 ^ 8 + b.st.good.toNat * 2 ^ 11 + flag b.st.aborted 14)

/-- Latch the registers of a berth at a boundary (R21 step 1) and clear what lasts for one Tide. -/
def takeLatch (b : Berth) (e : Env) : Berth :=
  let b := b.takeLevels
  let l : Latch :=
    { berthStatus := b.wBerthStatus, tokenRx := b.id.tokenRx.word, tokenTx := b.id.tokenTx.word
      commitStatus := b.wCommitStatus, ccStatus := b.wCcStatus e, phyStatus := b.wPhyStatus, txStatus := b.wTxStatus
      pathStatus := b.wPathStatus e, pathTest := b.wPathTest, regStatus := b.wRegStatus
      regVnow := BitVec.ofNat 32 (b.reg.vrefNow / 4 + b.reg.target / 4 * 65536)
      regTrim := BitVec.ofNat 32 (sgn 16 b.reg.trim)
      regFreq := BitVec.ofNat 32 (b.smp.fsw % 1024 + b.smp.cycles % 128 * 65536 + min 127 b.smp.offMin * 2 ^ 24)
      monState := b.mon.ch.map wMonState
      adcV := BitVec.ofNat 32 (b.adc.vbc % 65536 + b.adc.vbr % 65536 * 65536)
      adcI := BitVec.ofNat 32 (sgn 16 b.adc.ipath + sgn 16 b.adc.imon * 65536)
      adcCc := BitVec.ofNat 32 (b.adc.cc1 % 65536 + b.adc.cc2 % 65536 * 65536)
      adcAux := BitVec.ofNat 32 (b.adc.vconnI % 65536 + sgn 16 b.adc.temp * 65536)
      adcFlags := BitVec.ofNat 32 b.adc.stale.toNat
      tb := BitVec.ofNat 64 b.tmr.tb, tide := BitVec.ofNat 48 e.tide
      stStatus := b.wStStatus, stBurst := b.wStBurst b.tmr.tb, capWptr := b.lat.capWptr
      muxStatus := b.wMuxStatus, swapStatus := b.wSwapStatus, frsStatus := b.wFrsStatus }
  { b with lat := l, delivered := false, reg.holdNow := b.reg.state = .hold
           mon.ch := b.mon.ch.map (fun c => { c with hiSeen := false, loSeen := false, blanked := false, tested := false }) }

/-- A channel register of the monitor block (Table 8.8), by channel and offset within it. -/
def monRead (b : Berth) (n : Fin 10) (o : Nat) : Word :=
  let c := b.mon.ch[n]
  match o with
  | 0x00 => c.cfg
  | 0x04 => BitVec.ofNat 32 (c.thr.toNat + c.thrEff.toNat * 65536)
  | 0x08 => BitVec.ofNat 32 (c.low.toNat + c.lowEff.toNat * 65536)
  | 0x0C => b.shadow.monState[n]
  | 0x10 => c.hiStamp
  | 0x14 => c.loStamp
  | 0x18 => c.cnt
  | _ => 0

/-- A word of a transmit buffer (R115). -/
def txRead (x : TxBuf) (o : Nat) : Word :=
  if o = 0 then x.word0 else BitVec.ofNat 32 (leNat ((x.data.toList.drop (o - 4)).take 4))

/-- The words of the identity, CC and PHY blocks. -/
def readLow (b : Berth) (e : Env) (o : Nat) : Word :=
  match o with
  | 0x000 => BitVec.ofNat 32 (e.b + e.local_ * 64 + e.quay * 512 + (b.id.tug.map (·.val)).getD e.b * 65536)
  | 0x004 => b.shadow.berthStatus
  | 0x008 => b.shadow.tokenRx
  | 0x00C => b.shadow.tokenTx
  | 0x010 => b.id.grantSeq
  | 0x014 => b.id.grantRec
  | 0x018 => b.id.grantCeil
  | 0x01C => b.id.commitArg
  | 0x024 => b.shadow.commitStatus
  | 0x028 => BitVec.ofNat 32 b.id.evtStage.toNat
  | 0x02C => BitVec.ofNat 32 b.id.evtPublish.toNat
  | 0x030 => b.id.cntRefused
  | 0x034 => b.id.cntDiscarded
  | 0x038 => b.id.cntSpecDrop
  | 0x03C => b.id.idOvf
  | 0x100 => setFld b.cc.cfg 9 1
      (if b.cc.heldCfg.isSome || b.cc.heldTime0.isSome || b.cc.heldTime1.isSome || b.cc.heldTime2.isSome then 1 else 0)
  | 0x104 => b.cc.time0
  | 0x108 => b.cc.time1
  | 0x10C => b.cc.time2
  | 0x110 => b.shadow.ccStatus
  | 0x114 =>
    let l (x : CcLvl) : Nat := lvlCode (if b.ccOpen then .notMeasured else x)
    BitVec.ofNat 32 (l b.cc.lvl1 + l b.cc.lvl2 * 8 + flag b.vbcSafe0 6 + flag b.vbcPresent 7)
  | 0x118 => b.cc.evt
  | 0x11C => b.cc.ien
  | 0x120 => BitVec.ofNat 32 b.cc.rp.toNat
  | 0x128 => b.cc.vconnCfg
  | 0x12C => BitVec.ofNat 32 (flag b.cc.release 0 + flag b.cc.dbSel 1 + flag b.cc.backfeedPwrup 2 + flag b.cc.shadowMismatch 3)
  | 0x130 => b.cc.cntAttach
  | 0x134 => b.cc.cntDetach
  | 0x138 => b.cc.ovf
  | 0x200 => setFld (if fld b.phy.cfg 4 2 = 1 then setFld b.phy.cfg 6 1 0 else b.phy.cfg) 9 1
      (if b.phy.heldCfg.isSome then 1 else 0)
  | 0x204 => b.phy.time0
  | 0x208 => b.phy.time1
  | 0x20C => b.phy.time2
  | 0x210 => b.shadow.phyStatus
  | 0x214 => BitVec.ofNat 32 b.phy.arm.toNat
  | 0x218 => b.shadow.txStatus
  | 0x21C => match b.phy.fifo with
    | x :: _ => BitVec.ofNat 32 (x.data.toNat + x.mark.code * 256)
    | [] => 0xF00
  | 0x220 => BitVec.ofNat 32 b.phy.fifo.length
  | 0x228 => b.phy.evt
  | 0x22C => b.phy.ien
  | 0x230 =>
    let r (i : Fin 3) : Nat := (b.phy.rxId[i].map (·.toNat)).getD 0
    BitVec.ofNat 32 (b.phy.txId[0].toNat + b.phy.txId[1].toNat * 8 + b.phy.txId[2].toNat * 64 + r 0 * 2 ^ 9 + r 1 * 2 ^ 12
      + r 2 * 2 ^ 15 + flag b.phy.rxId[0].isSome 18 + flag b.phy.rxId[1].isSome 19 + flag b.phy.rxId[2].isSome 20)
  | 0x234 => b.phy.cnt[0]
  | 0x238 => b.phy.cnt[1]
  | 0x23C => b.phy.cnt[2]
  | 0x240 => b.phy.cnt[3]
  | 0x244 => b.phy.cnt[4]
  | 0x248 => b.phy.cnt[5]
  | 0x24C => b.phy.cnt[6]
  | 0x250 => b.phy.ovf
  | _ => if h : 0x280 ≤ o ∧ o < 0x300 then txRead b.phy.bufs[(o - 0x280) / 0x20] (o % 0x20) else 0

/-- The words of the path, regulator, monitor, ADC, timer and mux blocks. -/
def readHigh (b : Berth) (o : Nat) : Word :=
  match o with
  | 0x300 => b.stg.pathCfg
  | 0x304 => b.stg.pathLimit
  | 0x308 => b.stg.snkLimit
  | 0x30C => b.stg.pathStage
  | 0x314 => b.shadow.pathStatus
  | 0x318 => b.path.evt
  | 0x31C => b.path.ien
  | 0x320 => b.shadow.pathTest
  | 0x324 => BitVec.ofNat 32 b.path.lock.code
  | 0x328 => b.path.cnt[0]
  | 0x32C => b.path.cnt[1]
  | 0x330 => b.path.cnt[2]
  | 0x334 => b.path.cnt[3]
  | 0x338 => b.path.cnt[4]
  | 0x33C => b.path.ovf
  | 0x400 => setFld b.reg.cfg 14 1 (if b.reg.heldCfg.isSome then 1 else 0)
  | 0x404 => b.stg.regVref
  | 0x408 => b.stg.regHold
  | 0x40C => setFld b.stg.regOvp 16 10 b.reg.cbEff.toNat
  | 0x410 => b.stg.regProt
  | 0x414 => b.reg.win
  | 0x41C => b.shadow.regStatus
  | 0x420 => b.shadow.regVnow
  | 0x424 => b.shadow.regTrim
  | 0x428 => b.shadow.regFreq
  | 0x42C => b.reg.evt
  | 0x430 => b.reg.ien
  | 0x434 => b.reg.cnt[0]
  | 0x438 => b.reg.cnt[1]
  | 0x43C => b.reg.cnt[2]
  | 0x440 => b.reg.cnt[3]
  | 0x444 => b.reg.ovf
  | 0x640 => b.mon.evt
  | 0x644 => b.mon.ien
  | 0x648 => b.mon.blank
  | 0x650 => BitVec.ofNat 32 (b.mon.resSel.toNat + b.mon.result.toNat * 32 + flag b.mon.kindTargeted 7 + flag b.mon.busy 8)
  | 0x654 => BitVec.ofNat 32 b.mon.fence.toNat
  | 0x658 => BitVec.ofNat 32 (flag b.mon.parkEn 0 + flag b.mon.parked 1)
  | 0x65C => b.mon.cnt[0]
  | 0x660 => b.mon.cnt[1]
  | 0x664 => b.mon.cnt[2]
  | 0x668 => b.mon.ovf
  | 0x700 => b.shadow.adcV
  | 0x704 => b.shadow.adcI
  | 0x708 => b.shadow.adcCc
  | 0x70C => b.shadow.adcAux
  | 0x710 => b.adc.tmonCal
  | 0x714 => b.shadow.adcFlags
  | 0x718 => b.shadow.capWptr
  | 0x800 => BitVec.ofNat 32 b.shadow.tb.toNat
  | 0x804 => BitVec.ofNat 32 (b.shadow.tb.toNat / 2 ^ 32)
  | 0x808 => BitVec.ofNat 32 b.shadow.tide.toNat
  | 0x80C => BitVec.ofNat 32 (b.shadow.tide.toNat / 2 ^ 32)
  | 0x810 => b.wTmrRun
  | 0x814 => BitVec.ofNat 32 b.tmr.exp.toNat
  | 0x818 => BitVec.ofNat 32 b.tmr.ien.toNat
  | 0x820 => BitVec.ofNat 32 b.tmr.gp0.toNat
  | 0x824 => BitVec.ofNat 32 b.tmr.gp1.toNat
  | 0x900 => BitVec.ofNat 32 (flag b.mux.orientMux0 0 + flag b.mux.heldCfg.isSome 1)
  | 0x904 => b.stg.muxStage
  | 0x908 => b.shadow.muxStatus
  | 0x90C => b.shadow.swapStatus
  | 0x914 => b.mux.swapTime
  | 0x918 => b.stg.frsCfg
  | 0x91C => b.shadow.frsStatus
  | 0x920 => b.mux.stamp0
  | 0x924 => b.mux.stamp1
  | 0x928 => b.mux.evt
  | 0x92C => b.mux.ien
  | 0x930 => b.mux.cnt[0]
  | 0x934 => b.mux.cnt[1]
  | 0x938 => b.mux.cnt[2]
  | 0x93C => b.mux.ovf
  | 0xA00 => b.shadow.stStatus
  | 0xA04 => b.shadow.stBurst
  | 0xA08 => b.wStPhyLb
  | 0xA0C => b.st.evt
  | 0xA10 => b.st.cnt[0]
  | 0xA14 => b.st.cnt[1]
  | 0xA18 => b.st.ovf
  | _ => if h : 0x500 ≤ o ∧ o < 0x640 then
           b.monRead ⟨(o - 0x500) / 0x20, by omega⟩ (o % 0x20)
         else 0

/-- A word read at offset `o` of the berth window (R40); outside the CC block a parked berth reads reset values (R254). -/
def winRead (b : Berth) (e : Env) (o : Nat) : Word :=
  let x := if b.mon.parked && o ≠ 0x658 && (o < 0x100 || 0x200 ≤ o) then Berth.reset else b
  if o < 0x300 then x.readLow e o else x.readHigh o

/-- A latched register of the window: its read waits for the delivery of the snapshot (R22). -/
def isLatched (o : Nat) : Bool :=
  [0x004, 0x008, 0x00C, 0x024, 0x110, 0x210, 0x218, 0x314, 0x320, 0x41C, 0x420, 0x424, 0x428, 0x700, 0x704, 0x708, 0x70C,
   0x714, 0x718, 0x800, 0x804, 0x808, 0x80C, 0x908, 0x90C, 0x91C, 0xA00, 0xA04].contains o ||
  (0x500 ≤ o && o < 0x640 && o % 0x20 = 0x0C)

end Berth

end Sys2Proof.Machine
end

