-- ==== Sys2Proof/Machine/Attach.lean ====
section
/-!
DEFINITION. The CC sequencer of one berth: what each level, timer and over-voltage does at its stamp (R48, R53–R59,
R61, R65–R68, R71–R74, Table 2.3), and the berth's part of harbour-less mode (R44, R45).
-/

namespace Sys2Proof.Machine

/-- A wire shows Rp. -/
def CcLvl.isRp (l : CcLvl) : Bool := l = .rpDefault || l = .rp15 || l = .rp30

namespace Berth

/-- Wires that show Rd. -/
def rdCount (b : Berth) : Nat := (if b.cc.lvl1 = .rd then 1 else 0) + (if b.cc.lvl2 = .rd then 1 else 0)
/-- Wires that show Rp. -/
def rpCount (b : Berth) : Nat := (if CcLvl.isRp b.cc.lvl1 then 1 else 0) + (if CcLvl.isRp b.cc.lvl2 then 1 else 0)
/-- The accessory combination seen (R55): 1 Ra on both wires, 2 Rd on both, 0 neither. -/
def accSeen (b : Berth) : BitVec 2 :=
  if b.cc.lvl1 = .belowRa && b.cc.lvl2 = .belowRa then 1 else if b.cc.lvl1 = .rd && b.cc.lvl2 = .rd then 2 else 0

/-- Durations of the CC timers in stamps (Table 2.4). -/
def tCcDeb (b : Berth) : Nat := ms (fld b.cc.time0 0 8)
@[inherit_doc tCcDeb] def tPdDeb (b : Berth) : Nat := ms (fld b.cc.time0 8 8)
@[inherit_doc tCcDeb] def tDrpTry (b : Berth) : Nat := ms (fld b.cc.time1 16 8)
@[inherit_doc tCcDeb] def tTryDeb (b : Berth) : Nat := ms (fld b.cc.time1 24 8)
@[inherit_doc tCcDeb] def tTryWait (b : Berth) : Nat := ms (10 * fld b.cc.time2 0 8)
@[inherit_doc tCcDeb] def tTryTo (b : Berth) : Nat := ms (10 * fld b.cc.time2 8 8)

/-- A timer keeps its deadline if it runs, and starts otherwise. -/
def keep (d : Option Stamp) (t : Stamp) : Option Stamp := some (d.getD t)

/-- What the sequencer does in Unattached.SRC with the levels it sees (R53, R55). -/
def seeUnattachedSrc (b : Berth) (t : Stamp) : Berth :=
  if b.accSeen ≠ 0 then
    { b with cc.acc := b.accSeen, cc.toggleAt := none, tm.pdDeb := none
             tm.acc := if b.cc.accRaised then none else if b.cc.acc = b.accSeen then keep b.tm.acc (t + b.tCcDeb)
                       else some (t + b.tCcDeb) }
  else if b.cc.acc ≠ 0 then { b with tm.acc := none, tm.pdDeb := keep b.tm.pdDeb (t + b.tPdDeb) }
  else if b.rdCount = 1 then
    { b with cc.state := .attachWaitSrc, cc.toggleAt := none, tm.ccDeb := some (t + b.tCcDeb), tm.pdDeb := none
             cc.debDone := false }
  else b

/-- AttachWait.SRC: Rd on exactly one wire keeps the debounce of that wire; neither wire at Rd starts tPDDebounce; an
accessory combination returns to Unattached.SRC (R53, R55). `same` says that the same wire as before shows Rd. -/
def seeAttachWaitSrc (b : Berth) (t : Stamp) (same : Bool) : Berth :=
  if b.accSeen ≠ 0 then
    { b with cc.state := .unattachedSrc, tm.ccDeb := none, tm.pdDeb := none, cc.debDone := false }.seeUnattachedSrc t
  else if b.rdCount = 1 then
    { b with tm.pdDeb := none, cc.debDone := same && b.cc.debDone
             tm.ccDeb := if same then (if b.cc.debDone then none else keep b.tm.ccDeb (t + b.tCcDeb)) else some (t + b.tCcDeb) }
  else { b with tm.ccDeb := none, cc.debDone := false, tm.pdDeb := keep b.tm.pdDeb (t + b.tPdDeb) }

/-- AttachWait.SNK and TryWait.SNK: Rp on exactly one wire is debounced, no Rp starts tPDDebounce (R53). -/
def seeWaitSnk (b : Berth) (t : Stamp) (same : Bool) : Berth :=
  if b.rpCount = 1 then
    { b with tm.pdDeb := none, cc.debDone := same && b.cc.debDone
             tm.ccDeb := if same then (if b.cc.debDone then none else keep b.tm.ccDeb (t + b.tCcDeb)) else some (t + b.tCcDeb) }
  else if b.rpCount = 0 then { b with tm.ccDeb := none, cc.debDone := false, tm.pdDeb := keep b.tm.pdDeb (t + b.tPdDeb) }
  else { b with tm.ccDeb := none, tm.pdDeb := none, cc.debDone := false }

/-- Attached.SNK: a changed Rp level is debounced for RP_CHANGE; Rp 3.0 A releases a transmission held under R86; a dip
that ends before it qualified is counted, and the end of a qualified signal is noted (R86, R166, R167). -/
def seeAttachedSnk (b : Berth) (t : Stamp) (old : CcLvl) : Berth :=
  let l := b.monLvl
  let b := if rpCode l = b.cc.partnerRp then { b with tm.pdDeb := none }
           else if CcLvl.isRp l then { b with tm.pdDeb := some (t + b.tPdDeb) } else b
  let ok := l = .rp30
  let b := b.setCa ok
  let b := if ok then (match b.phy.tx with
      | some x => if x.heldCa then b.beginTx else b
      | none => b) else b
  if old = .belowRd && l ≠ .belowRd then
    match b.mux.phase with
    | .frsArmed => b.cntSwap 1
    | .frsDetected => { b with mux.signalEnd := true }
    | _ => b
  else b

/-- Try.SRC and TryWait.SRC: Rd on exactly one wire is debounced for TTRYDEB, afresh when the wire changes (R53). -/
def seeTrySrc (b : Berth) (t : Stamp) (same : Bool) : Option Stamp :=
  if b.rdCount = 1 then some (if same then b.tm.tryDeb.getD (t + b.tTryDeb) else t + b.tTryDeb) else none

/-- Try.SNK after tDRPTry: Rp on exactly one wire, or on none, is debounced for TTRYDEB, afresh when what is seen changes
(R53). -/
def seeTrySnk (b : Berth) (t : Stamp) (same : Bool) : Berth :=
  if same then b
  else { b with cc.debDone := false, tm.tryDeb := if b.rpCount = 2 then none else some (t + b.tTryDeb) }

/-- A change of CC level at stamp `t` (CC_LEVEL_CHANGE; R48, R53). -/
def ccLevelChange (b : Berth) (t : Stamp) (l1 l2 : CcLvl) : Berth :=
  let oldMon := b.monLvl
  let oldRd := b.orientOf true
  let oldRp := b.orientOf false
  let oldRds := b.rdCount
  let oldRps := b.rpCount
  let b := { b with cc.lvl1 := l1, cc.lvl2 := l2 }
  match b.cc.state with
  | .unattachedSrc => b.seeUnattachedSrc t
  | .attachWaitSrc => b.seeAttachWaitSrc t (oldRd = b.orientOf true)
  | .attachedSrc =>
    if b.monLvl = .open_ then { b with tm.pdDeb := keep b.tm.pdDeb (t + b.tPdDeb) } else { b with tm.pdDeb := none }
  | .trySrc => { b with tm.tryDeb := b.seeTrySrc t (oldRds = 1 && oldRd = b.orientOf true) }
  | .tryWaitSrc =>
    { b with tm.tryDeb := b.seeTrySrc t (oldRds = 1 && oldRd = b.orientOf true)
             tm.tryWait := if b.rdCount = 0 then keep b.tm.tryWait (t + b.tTryWait) else none }
  | .unattachedSnk =>
    if b.rpCount = 0 then b
    else { b with cc.state := .attachWaitSnk, cc.toggleAt := none, cc.debDone := false
                  tm.ccDeb := if b.rpCount = 1 then some (t + b.tCcDeb) else none }
  | .attachWaitSnk => b.seeWaitSnk t (oldRp = b.orientOf false)
  | .attachedSnk => b.seeAttachedSnk t oldMon
  | .trySnk => if b.tm.drpTry.isSome then b else b.seeTrySnk t (oldRps = b.rpCount && oldRp = b.orientOf false)
  | .tryWaitSnk => b.seeWaitSnk t (oldRp = b.orientOf false)
  | _ => b

/-- The debounced attach of AttachWait is taken at stamp `t`, VBC being as Table 2.3 requires (R53, R54). -/
def takeAttach (b : Berth) (e : Env) (t : Stamp) : Berth :=
  match b.cc.state with
  | .attachWaitSrc =>
    if b.vbcAbove08 then { b with cc.debDone := true, tm.ccDeb := none }
    else if b.tryMode e = 2 then
      ({ b.stopCcTimers with cc.state := .trySnk, tm.drpTry := some (t + b.tDrpTry) }).presentRp 3
    else b.attach e t true
  | .attachWaitSnk =>
    if !b.vbcPresent then { b with cc.debDone := true, tm.ccDeb := none }
    else if b.tryMode e = 1 then
      ({ b.stopCcTimers with cc.state := .trySrc, tm.drpTry := some (t + b.tDrpTry), tm.tryTo := some (t + b.tTryTo) }).presentRp
        b.rpInit
    else b.attach e t false
  | .tryWaitSnk => if b.vbcPresent then b.attach e t false else { b with cc.debDone := true, tm.ccDeb := none }
  | .trySnk => if b.vbcPresent then b.attach e t false else { b with cc.debDone := true }
  | _ => b

/-- tCCDebounce expires (CC_DEBOUNCE_EXPIRY). -/
def ccDebounceExpiry (b : Berth) (e : Env) : Berth := match b.tm.ccDeb with
  | none => b
  | some d => ({ b with tm.ccDeb := none }.expired 0).takeAttach e d

/-- tPDDebounce expires (PD_DEBOUNCE_EXPIRY; R53, R71, R73, Table 2.13 RP_CHANGE). -/
def pdDebounceExpiry (b : Berth) (e : Env) : Berth := match b.tm.pdDeb with
  | none => b
  | some d =>
    let b := { b with tm.pdDeb := none }.expired 0
    match b.cc.state with
    | .attachWaitSrc => b.toUnattached e d
    | .attachWaitSnk => b.toUnattached e d
    | .tryWaitSnk => b.toUnattached e d
    | .attachedSrc => (b.detach d 0 .partnerNoResponse).toUnattached e d
    | .attachedSnk => { b with cc.partnerRp := rpCode b.monLvl }.ccEvt 2
    | _ => b

/-- VBC falls below 3.67 V at stamp `t` (SINK_DETACH; R72, R186): the sink path opens, and Attached.SNK ends unless
VBUS removal is expected. -/
def sinkDetach (b : Berth) (e : Env) (t : Stamp) : Berth :=
  if b.cc.state ≠ .attachedSnk then b
  else
    let b := b.openSink.loadW3
    if b.wBerthStatus.getLsbD 11 then b else (b.detach t 0 .partnerNoResponse).toUnattached e t

/-- tErrorRecovery elapses (ERROR_RECOVERY_EXPIRY). -/
def errorRecoveryExpiry (b : Berth) (e : Env) : Berth := match b.tm.err with
  | none => b
  | some d => if b.cc.state = .errorRecovery then ({ b with tm.err := none }.expired 2).toUnattached e d else b

/-- The insertion delay ends (INSERTION_DELAY_EXPIRY; R57, R196, Table 6.3). -/
def insertionDelayExpiry (b : Berth) : Berth := match b.tm.ins with
  | none => b
  | some _ =>
    let b := { b with tm.ins := none }.expired 2
    if b.cc.state ≠ .attachedSrc then b
    else if b.path.restart then { b with path.restart := false }.sourceCase .inrushRestart
    else b.sourceCase .attach

/-- Length in Tides of the Rp phase, and of the Rd phase with draw `j` (R58). -/
def rpPhase (b : Berth) : Nat := fld b.cc.time1 8 8 * (40 * fld b.cc.time1 0 8) / 100
@[inherit_doc rpPhase] def rdPhase (b : Berth) (j : Nat) : Nat := 40 * fld b.cc.time1 0 8 - b.rpPhase + j

/-- A toggle switch of a DRP berth that was scheduled at boundary `due` (DRP_TOGGLE_SWITCH; R58). A deferred switch does
not move later ones. -/
def toggle (b : Berth) (e : Env) (due : Nat) : Berth :=
  match b.cc.state with
  | .unattachedSnk => ({ b with cc.state := .unattachedSrc, cc.toggleAt := some (due + b.rpPhase) }.presentRp b.rpInit).expired 1
  | .unattachedSrc =>
    let j := Config.toggleDraw e.b b.cc.draws % 4
    ({ b with cc.state := .unattachedSnk, cc.toggleAt := some (due + b.rdPhase j), cc.draws := b.cc.draws + 1 }.presentRp 3).expired 1
  | _ => b

/-- tDRPTry elapses (DRP_TRY_EXPIRY; R53). -/
def drpTryExpiry (b : Berth) : Berth := match b.tm.drpTry with
  | none => b
  | some d =>
    let b := { b with tm.drpTry := none }.expired 0
    match b.cc.state with
    | .trySrc =>
      if b.rdCount = 0 then { b.stopCcTimers with cc.state := .tryWaitSnk }.presentRp 3 else b
    | .trySnk => { b with tm.tryDeb := if b.rpCount = 2 then none else some (d + b.tTryDeb) }
    | _ => b

/-- tTryCCDebounce expires (TRY_DEBOUNCE_EXPIRY; R53). -/
def tryDebounceExpiry (b : Berth) (e : Env) : Berth := match b.tm.tryDeb with
  | none => b
  | some d =>
    let b := { b with tm.tryDeb := none }.expired 0
    match b.cc.state with
    | .trySrc => if b.rdCount = 1 then b.attach e d true else b
    | .tryWaitSrc => if b.rdCount = 1 then b.attach e d true else b
    | .trySnk =>
      if b.rpCount = 1 then b.takeAttach e d
      else if b.rpCount = 0 then
        ({ b.stopCcTimers with cc.state := .tryWaitSrc, tm.tryWait := some (d + b.tTryWait) }).presentRp b.rpInit
      else b
    | _ => b

/-- tDRPTryWait elapses in TryWait.SRC with no Rd (TRY_WAIT_EXPIRY). -/
def tryWaitExpiry (b : Berth) (e : Env) : Berth := match b.tm.tryWait with
  | none => b
  | some d =>
    let b := { b with tm.tryWait := none }.expired 0
    if b.cc.state = .tryWaitSrc then b.toUnattached e d else b

/-- tTryTimeout elapses in Try.SRC (TRY_TIMEOUT). -/
def tryTimeout (b : Berth) : Berth := match b.tm.tryTo with
  | none => b
  | some _ =>
    let b := { b with tm.tryTo := none }.expired 0
    if b.cc.state = .trySrc then { b.stopCcTimers with cc.state := .tryWaitSnk }.presentRp 3 else b

/-- An accessory combination has been held for tCCDebounce (ACCESSORY_SEEN; R55). -/
def accessorySeen (b : Berth) : Berth := match b.tm.acc with
  | none => b
  | some _ =>
    (({ b with tm.acc := none, cc.accRaised := true }.expired 0).ccEvt 6).emit
      (.attach b.cc.state .none 2 b.cc.rpNow.toNat b.adc.vbc false b.cc.dbRd)

/-- The combination has been unseen for tPDDebounce (ACCESSORY_ENDED; R55): ACC clears, DETACH when ATTACH was raised. A DRP
berth takes the next boundary as a new anchor and presents Rd until its first switch, which is to Rp (R58; log entry 82); any
other judges the levels anew. -/
def accessoryEnded (b : Berth) (e : Env) : Berth := match b.tm.pdDeb with
  | none => b
  | some d =>
    if b.cc.state ≠ .unattachedSrc || b.cc.acc = 0 then b
    else
      let b := { b with tm.pdDeb := none, cc.acc := 0 }.expired 0
      let b := if b.cc.accRaised then { b with cc.accRaised := false }.emit (.detach .unattachedSrc 4 0) else b
      if b.role = 2 && !e.hless then
        { b with cc.state := .unattachedSnk, cc.toggleAt := some (e.anchor d + 11 * e.local_) }.presentRp 3
      else b.seeUnattachedSrc d

/-- VBC has been below vSafe0V for 100 ms in BackFeed (BACKFEED_CLEAR); before its release a berth stays in BackFeed (R66). -/
def backfeedClear (b : Berth) (e : Env) : Berth := match b.tm.clr with
  | none => b
  | some d => if b.cc.state = .backFeed && b.cc.release then ({ b with tm.clr := none }.expired 2).toUnattached e d else b

/-- VBC has stayed at or above 0.80 V for 650 ms with both paths off (BACKFEED_DETECT; R68). -/
def backfeedDetect (b : Berth) : Berth := match b.tm.backDet with
  | none => b
  | some d =>
    let b := { b with tm.backDet := none }.expired 6
    if (b.unattached || b.cc.state = .attachWaitSrc || b.cc.state = .attachWaitSnk) &&
        (b.path.state = .off || b.path.state = .discharge)
    then { b.startPassTest d false with path.testBack := true } else b

/-- A CC wire stands at or above 5.50 V at stamp `t`: the 100 ms clear starts afresh, and a BERTH_CLEAR_LATCH that is timing it
fails (R74). -/
def ccHigh (b : Berth) (t : Stamp) : Berth :=
  let b := { b with cc.ovAt := t }
  if !b.cc.isolated then b
  else
    let b := { b with tm.clr := none }
    if b.cc.clearing then { b with cc.clearing := false }.finishClear 4 .notPermitted else b

/-- A CC wire rises above 6.00 V at stamp `t` (CC_OVER_VOLTAGE; R74): within CcFault it only starts the clear afresh. -/
def ccOverVoltage (b : Berth) (e : Env) (t : Stamp) : Berth :=
  let b := ({ b with cc.ovActive := true }).ccHigh t
  let rec' (b : Berth) : Berth :=
    ({ b with cc.isolated := true, tm.clr := none, cc.lvl1 := .notMeasured, cc.lvl2 := .notMeasured, id.protActed := true }.ccEvt 4).fault
      .ccOv t e.quay (e.vins / 10)
  match b.cc.state with
  | .held => rec' b
  | .disabled => rec' b
  | .lockedOut => rec' b
  | .ccFault => b
  | _ =>
    let recent := b.cc.ccFaults.filter (fun x => decide (t ≤ x + ms 60000))
    let b := rec' b
    let b := ((b.detach t 3 .partnerNoResponse).openBoth t false).vconnOff
    let b := { b.stopCcTimers with cc.state := .ccFault, cc.toggleAt := none, cc.orient := .none
                                   cc.ccFaults := recent ++ [t], cc.ccFaultLatched := decide (2 ≤ recent.length) }
    (b.addPend .usbSafe).presentRp 3

/-- Both wires have stayed below 5.50 V over the 100 ms from stamp `since` (CC_OV_CLEAR; R74, Table 2.3), and none is known to
have stood higher within them. The clear of a BERTH_CLEAR_LATCH runs from its delivery, and fails where the wires came below
5.50 V only later. -/
def ccOvClear (b : Berth) (since : Stamp) : Berth :=
  if !b.cc.isolated || since < b.cc.ovAt || b.cc.ovActive then b
  else
    match b.cc.state with
    | .ccFault =>
      if b.cc.clearing then
        let from_ := (b.tm.clr.getD 0) - ms 100
        if from_ < since then { b with cc.clearing := false, tm.clr := none }.finishClear 4 .notPermitted
        else
          let b := { b with cc.clearing := false, cc.ccFaultLatched := false, cc.ccFaults := [] }.finishClear 4 .ok
          (b.expired 2).toErrorRecovery (from_ + ms 100) 3 .partnerNoResponse
      else if b.cc.ccFaultLatched then { b with tm.clr := none }
      else (b.expired 2).toErrorRecovery (since + ms 100) 3 .partnerNoResponse
    | _ => { b with tm.clr := none, cc.isolated := false }.expired 2

/-- The value in eighths of a stamp at which the VCONN fault timer expires: TFLT (R61). -/
def vconnFull (b : Berth) : Nat := 8 * (10000 * fld b.cc.vconnCfg 8 4)

/-- One stretch of the VCONN fault timer: eighths of a stamp accumulated while the switch limits, one eighth of real time given
back while it does not; the stamp at which TFLT is reached (R61). -/
def vconnSeg (full : Nat) (x : Nat × Stamp × Option Stamp) (g : LimSeg) : Nat × Stamp × Option Stamp :=
  match g.vds with
  | some _ =>
    let hit := if x.2.2.isNone && full ≤ x.1 + 8 * g.dur then some (x.2.1 + ceilDiv (full - x.1) 8) else x.2.2
    (min full (x.1 + 8 * g.dur), x.2.1 + g.dur, hit)
  | none => (x.1 - g.dur, x.2.1 + g.dur, x.2.2)

/-- The VCONN fault timer expires at stamp `t` (R61). -/
def vconnTimeout (b : Berth) (e : Env) (t : Stamp) : Berth :=
  (({ b.vconnOff with cc.vconnLatch := true }.ccEvt 3).expired 13).fault .vconnOc t e.quay (e.vins / 10)

/-- The VCONN fault timer runs over the stretches up to stamp `t`, and expires within them where it reaches TFLT
(VCONN_FAULT_TIMER_EXPIRY; R61); time that no stretch covers is without limiting. -/
def vconnFault (b : Berth) (e : Env) (t : Stamp) (segs : List LimSeg) : Berth :=
  if !b.cc.vconnOn then { b with cc.vflt := b.cc.vflt - (t - b.cc.vfltAt), cc.vfltAt := t }
  else
    let x := segs.foldl (vconnSeg b.vconnFull) (b.cc.vflt, b.cc.vfltAt, none)
    let b := { b with cc.vflt := x.1 - (t - x.2.1), cc.vfltAt := t }
    match x.2.2 with
    | some d => b.vconnTimeout e d
    | none => b

/-! ### Boundary work of the sequencer -/

/-- Held CC_CFG and CC_TIME writes take effect in Held, Disabled, ErrorRecovery and the Unattached states (R50); an
Unattached berth whose ROLE changes then takes the state of its role. -/
def applyHeldCc (b : Berth) (e : Env) (t : Stamp) : Berth :=
  let c := b.cc
  let some_ := c.heldCfg.isSome || c.heldTime0.isSome || c.heldTime1.isSome || c.heldTime2.isSome
  let free := c.state = .held || c.state = .disabled || c.state = .errorRecovery || b.unattached
  if some_ && free then
    let oldRole := b.role
    let b := { b with cc.cfg := c.heldCfg.getD c.cfg, cc.time0 := c.heldTime0.getD c.time0, cc.time1 := c.heldTime1.getD c.time1
                      cc.time2 := c.heldTime2.getD c.time2, cc.heldCfg := none, cc.heldTime0 := none, cc.heldTime1 := none
                      cc.heldTime2 := none }.ccEvt 8
    if b.unattached && b.role ≠ oldRole then b.toUnattached e t
    else if b.cc.state = .unattachedSrc && !e.hless then b.presentRp b.rpInit
    else b
  else b

/-- VCONN due under R60 is applied at the boundary. -/
def applyVconnDue (b : Berth) : Berth :=
  if b.cc.vconnDue && b.cc.state = .attachedSrc then b.vconnApply else { b with cc.vconnDue := false }

/-! ### Harbour-less mode -/

/-- What a berth does when its quay enters harbour-less mode at stamp `t` (R44, R222): fallback settings loaded, contracts
above 5 V taken to vSafe0V, sink paths opened, Rp 1.5 A, no PD, toggling stopped, outputs USB-safe. `e.hless` is set. -/
def hlessEnter (b : Berth) (e : Env) (t : Stamp) : Berth :=
  let above := match b.id.contract with
    | some c => c.source && 500 < c.volt
    | none => false
  let b := { b.openSink with
    reg.hold := setFld (setFld (setFld b.reg.hold 0 10 165) 16 10 80) 26 1 1, reg.prot := 0x51440, reg.cbThr := 104 }
  let b := (b.regStandby t).usbSafe
  let b := { b with reg.cbEff := if b.reg.cbEff.toNat < 104 then 104 else b.reg.cbEff }
  let b := (b.endTx .discarded).setPhase .idle
  match b.cc.state with
  | .attachedSrc =>
    let b := { b with id.contract := none, id.amsActive := false, id.hrActive := false, id.expectLoss := false, cc.rpLevel := 1
                      phy.hrPending := false, phy.hrSending := false, tm.psHr := none, tm.srcRec := none }
    let open_ := b.path.state = .off || b.path.state = .discharge
    let b := if above || (open_ && b.path.closeCase.isNone && b.tm.ins.isNone) then
        { (b.openSource t true) with path.ilimOver := some 168, path.closeCase := some .hless }
      else { b with path.ilimOver := some 168 }
    (b.presentRp 1).loadW3
  | .attachedSnk => { b with id.contract := none, id.amsActive := false }.vconnOff
  | .held => b
  | .disabled => b
  | .errorRecovery => b
  | .backFeed => b
  | .ccFault => b
  | .lockedOut => b
  | .unattachedSnk => if b.role = 1 then b.vconnOff else (b.vconnOff).toUnattached e t
  | .attachWaitSnk => if b.role = 1 then b.vconnOff else (b.vconnOff).toUnattached e t
  | _ => (b.vconnOff).toUnattached e t

/-- What a berth does when its quay is released at boundary `t` (R45): an Unattached DRP berth toggles from a new
anchor, an Unattached.SRC berth presents RP_INIT again; an attached berth sends Soft_Reset, which BP 4.0 does at its cold entry
(TUG_ENTRY). -/
def hlessLeave (b : Berth) (e : Env) (t : Stamp) : Berth :=
  let b := { b with path.ilimOver := none }.loadW3
  if b.unattached && b.role = 2 then b.toUnattached e t
  else if b.cc.state = .unattachedSrc then b.presentRp b.rpInit
  else b

end Berth

end Sys2Proof.Machine
end

