-- ==== Sys2Proof/Machine/PathOps.lean ====
section
/-!
DEFINITION. The power path of one berth at the stamp of each of its triggers (R181–R203).
-/

namespace Sys2Proof.Machine

namespace Berth

/-- The conditions on the case itself still hold (Table 6.3). -/
def caseHolds (b : Berth) (c : CloseCase) : Bool := match c with
  | .attach => b.cc.state = .attachedSrc && b.vbcSafe0
  | .hrRecovery => b.cc.state = .attachedSrc
  | .hless => b.cc.state = .attachedSrc && b.vbcSafe0
  | .prSwap => b.attached
  | .frs => false
  | .inrushRestart => b.cc.state = .attachedSrc

/-- A close case waiting in OFF is taken at stamp `t` when VIN_OK, VBR_SAFE5 and no crowbar latch all hold
(SOURCE_PATH_CLOSE; R182). -/
def sourcePathClose (b : Berth) (e : Env) (t vbrMv : Nat) : Berth := match b.path.closeCase with
  | none => b
  | some c =>
    if b.path.state = .off && b.caseHolds c && e.vinOk && 4750 ≤ vbrMv && vbrMv ≤ 5500 && !b.reg.cbLatch
    then (b.startRamp t).loadW3 else b

/-- The ramp is complete (RAMP_COMPLETE; R184). -/
def rampComplete (b : Berth) : Berth :=
  if b.path.state = .srcRamp then { b with path.state := .srcOn, tm.path := none } else b

/-- INRUSH_TO elapses with the ramp incomplete (INRUSH_TIMEOUT; R185). -/
def inrushTimeout (b : Berth) (e : Env) : Berth := match b.tm.path with
  | none => b
  | some d =>
    if b.path.state = .srcRamp then
      ((((b.expired 10).pathEvt 3).cntPath 1).trip .limitTimeout d e.quay (e.vins / 10)).protect d
    else b

/-- Path current above +0.25 A for 20 µs with the sink path closed (SINK_REVERSE_CURRENT; R186). -/
def sinkReverse (b : Berth) : Berth :=
  if b.path.state = .snkOn then { ((b.openSink.pathEvt 9).cntPath 4).loadW3 with pol.hrDue := true, id.protActed := true } else b

/-- VBC above W0's upper threshold for 2 µs with the sink path closed (SINK_OVER_VOLTAGE; R186). -/
def sinkOv (b : Berth) : Berth :=
  if b.path.state = .snkOn then { (b.openSink.pathEvt 10).loadW3 with pol.hrDue := true, id.protActed := true } else b

/-- A breaker has opened the source path at this very stamp: what acts with it is recorded with it (R193). -/
def brokeNow (b : Berth) (t : Stamp) : Bool := b.path.brokeAt = some t

/-- Path current reaches FAST_THR at stamp `t` (FAST_TRIP; R187): only with the source gate on and W2 in service. -/
def fastTrip (b : Berth) (e : Env) (t : Stamp) : Berth :=
  if (b.path.state = .srcRamp || b.path.state = .srcOn || (b.brokeNow t && b.path.state ≠ .tripped)) && b.fastAvail then
    (((((b.pathEvt 0).cntPath 0).trip .fastTrip t e.quay (e.vins / 10)).regStandby t).loadW3).protect t
  else if b.brokeNow t && b.fastAvail then ((b.pathEvt 0).cntPath 0).fault .fastTrip t e.quay (e.vins / 10)
  else b

/-- One stretch of the fault timer in 1/32,000 of a stamp: the rate r = max(1, VDS ÷ 4 V), capped at TFLT ÷ 50 µs, while the path
limits; one eighth of real time given back while it does not; the stamp at which TFLT is reached (R190). -/
def faultSeg (tflt : Nat) (x : Nat × Stamp × Option Stamp) (g : LimSeg) : Nat × Stamp × Option Stamp :=
  let full := 32000 * (10000 * tflt)
  match g.vds with
  | some v =>
    let r := 8 * min (max 4000 v) (8000 * tflt)
    let hit := if x.2.2.isNone && full ≤ x.1 + r * g.dur then some (x.2.1 + ceilDiv (full - x.1) r) else x.2.2
    (min full (x.1 + r * g.dur), x.2.1 + g.dur, hit)
  | none => (x.1 - 4000 * g.dur, x.2.1 + g.dur, x.2.2)

/-- The fault timer expires at stamp `t` (R190). -/
def limitTimeout (b : Berth) (e : Env) (t : Stamp) : Berth :=
  ((((b.pathEvt 1).cntPath 1).trip .limitTimeout t e.quay (e.vins / 10)).loadW3).protect t

/-- The fault timer of a closed path runs over the stretches up to stamp `t`, and expires within them where it reaches TFLT
(FAULT_TIMER_EXPIRY; R190, R191); time that no stretch covers, and all time with the path not closed, is without limiting. -/
def faultTimer (b : Berth) (e : Env) (t : Stamp) (segs : List LimSeg) : Berth :=
  if b.path.state = .srcOn || b.path.state = .snkOn then
    let x := segs.foldl (faultSeg b.tflt) (b.path.flt, b.path.fltAt, none)
    let b := { b with path.flt := x.1 - 4000 * (t - x.2.1), path.fltAt := t
                      path.limiting := b.path.limiting || segs.any (fun (g : LimSeg) => g.vds.isSome) }
    match x.2.2 with
    | some d => b.limitTimeout e d
    | none => b
  else if b.brokeNow t then b.fault .limitTimeout t e.quay (e.vins / 10)
  else { b with path.flt := b.path.flt - 4000 * (t - b.path.fltAt), path.fltAt := t
                path.limiting := b.path.limiting || segs.any (fun (g : LimSeg) => g.vds.isSome) }

/-- The gate-drive and sense-offset test passes: both gates below 1.0 V, the charge pump at its level, the offset within ±0.5 mV
(R188). -/
def gatePass (r : GateReadings) : Bool :=
  r.srcGate < 1000 && r.snkGate < 1000 && r.pumpOk && decide (-50 ≤ r.offset ∧ r.offset ≤ 50)

/-- The gate-drive and sense-offset test ends at stamp `t` (GATE_DRIVE_TEST_DONE; R188, R194, R203, R439): the third trip within
60 s locks for the trip limit whatever it finds. -/
def gateTestDone (b : Berth) (e : Env) (t : Stamp) (r : GateReadings) : Berth :=
  if !b.path.testBusy || b.path.testKind ≠ 2 then b
  else
    let pass := gatePass r
    let b := { b with path.testBusy := false, path.testResult := if pass then 1 else 2
                      path.offset := BitVec.ofInt 8 r.offset }.pathEvt 8
    let ev (cls action : Nat) (st : Status) : EvBody := .selftest 6 e.b 0 (if b.path.testClear then 2 else 1) st cls action
    if b.path.state = .locked then
      let b := { b with path.testClear := false }
      if pass then ((b.addPend .unlocked).finishClear 3 .ok).emit (ev 0 0 .ok)
      else (b.finishClear 3 .selftestFail).emit (ev 2 3 .selftestFail)
    else if b.path.state = .tripped then
      if b.path.thirdTrip then
        (b.lock .tripLimit t).emit (if pass then ev 0 3 .ok else ev 2 3 .selftestFail)
      else if !pass then (b.lock .testFail t).emit (ev 2 3 .selftestFail)
      else ({ b with path.state := .off }.addPend .hwErrorRecovery).emit (ev 0 0 .ok)
    else if pass then b.emit (.selftest 6 e.b 0 2 .ok 0 0)
    else (b.lock .testFail t).emit (.selftest 6 e.b 0 2 .selftestFail 2 3)

/-- VIN_BUS below UV for 50 µs: a ramp aborts at stamp `t` and its insertion delay restarts (VIN_UV_FILTER; R196). -/
def vinUvFilter (b : Berth) (t : Stamp) : Berth :=
  if b.path.state = .srcRamp then
    (({ b with path.state := .off, path.closeCase := none, path.restart := true, cc.vconnDue := false
               tm.path := none, tm.ins := some (t + ms (fld b.cc.time0 16 8)) }.pathEvt 2).cntPath 2).loadW3
  else b

/-- The source path is closed or in ramp. -/
def sourcing (b : Berth) : Bool := b.path.state = .srcRamp || b.path.state = .srcOn

/-- VIN_BUS below UV for UV_TIME: the source path opens with a FAULT (VIN_UV_SUSTAINED; R197). -/
def vinUvSustained (b : Berth) (e : Env) (t : Stamp) : Berth :=
  if b.sourcing then
    let b := (((b.openSource t false).pathEvt 4).loadW3).fault .vinUv t e.quay (e.vins / 10)
    ({ b with pol.hrDue := true, path.brokeAt := some t }).protect t
  else if b.brokeNow t then (b.pathEvt 4).fault .vinUv t e.quay (e.vins / 10)
  else b

/-- The highest condition of Table 7.7 that stands keeps the regulator's stop cause. -/
def stopBy (b : Berth) (c : StopCause) (t : Stamp) : Berth :=
  match b.reg.state with
  | .idle => b
  | .crowbar => b
  | .latched => b
  | _ =>
    let keepIt := match b.reg.stop, c with
      | some .stageFault, _ => true
      | some .thermal, .vinOv => true
      | _, _ => false
    let b := b.regStandby t
    { b with reg.state := .stopped, reg.stop := if keepIt then b.reg.stop else some c, reg.slewing := false
             id.protActed := true }

/-- VIN_BUS above OV for 2 µs: the source path opens and the regulator stops (VIN_OV; R198, Table 7.7 rank 5). -/
def vinOv (b : Berth) (e : Env) (t : Stamp) : Berth :=
  let was := b.sourcing
  let b := { b with reg.ov := true }.stopBy .vinOv t
  if was then
    let b := (((b.openSource t false).pathEvt 5).loadW3).fault .vinOv t e.quay (e.vins / 10)
    ({ b with pol.hrDue := true, path.brokeAt := some t }).protect t
  else if b.brokeNow t then (b.pathEvt 5).fault .vinOv t e.quay (e.vins / 10)
  else b

/-- VIN_OK is set again: a regulator that VIN_OV stopped soft-starts toward standby (Table 7.7). -/
def vinOkBack (b : Berth) : Berth :=
  let b := { b with reg.ov := false }
  if b.reg.state = .stopped && b.reg.stop = some .vinOv then b.restart else b

/-- VBC falls below 0.80 V during discharge at stamp `t` (DISCHARGE_COMPLETE; R199, Table 3.7 step 4). -/
def dischargeComplete (b : Berth) (t : Stamp) : Berth :=
  if b.path.state = .discharge then
    let b := { b with path.state := .off, tm.path := none, mon.ded := b.mon.ded.set 4 false }
    if b.id.hrActive && b.cc.state = .attachedSrc && b.tm.psHr.isNone && b.tm.srcRec.isNone then
      { b with tm.srcRec := some (t + ms (10 * fld b.phy.time2 8 8)) }
    else b
  else b

/-- VBC still at or above 0.80 V 650 ms after discharge began (DISCHARGE_TIMEOUT; R199). -/
def dischargeTimeout (b : Berth) : Berth := match b.tm.path with
  | none => b
  | some d =>
    if b.path.state = .discharge then ((b.expired 10).pathEvt 7).startPassTest d false else b

/-- What the pass-transistor test finds (Table 6.6). -/
inductive PassResult where
  | clear | srcShort | snkShort | inconclusive
  deriving DecidableEq, Repr

/-- Two voltages within 200 mV. -/
def near (a b : Nat) : Bool := a ≤ b + 200 && b ≤ a + 200

/-- The judgement of Table 6.6 on its readings: `usable` says that the regulator was neither CROWBAR, LATCHED nor STOPPED at the
start, `idle` that step 0 ran (R200). -/
def judgePass (usable idle : Bool) (r : PassReadings) : PassResult :=
  if !usable || (idle && !r.ready) then .inconclusive
  else if 1000 ≤ r.srcGate then .srcShort
  else if 1000 ≤ r.snkGate then .snkShort
  else if r.vbr2 < 4180 || 4620 < r.vbr2 then .inconclusive
  else if near r.vbc1 r.vbr1 && near r.vbc2 r.vbr2 then .srcShort
  else if near r.vbc1 r.snks1 && near r.vbc2 r.snks2 && 800 ≤ r.snks1 && 800 ≤ r.snks2 then .snkShort
  else .clear

/-- The pass-transistor test ends at stamp `t` (PASS_TRANSISTOR_TEST_DONE; R200, R201, R203). -/
def passTestDone (b : Berth) (e : Env) (t : Stamp) (r : PassReadings) : Berth :=
  if b.path.state ≠ .test then b
  else
    let res := judgePass b.path.testOk b.path.testIdle r
    let code : BitVec 2 := match res with
      | .clear => 1
      | .inconclusive => 3
      | _ => 2
    let b := { b with path.testBusy := false, path.testResult := code, path.srcShort := res = PassResult.srcShort
                      path.snkShort := res = PassResult.snkShort, path.testAt := none
                      reg.vrefNow := if b.path.testOk then b.reg.target else b.reg.vrefNow }.pathEvt 8
    let b := if b.path.testIdle then { b with path.testIdle := false }.regIdle else b
    let rel := b.path.testRel
    let stay (b : Berth) : Berth := b.emit (.backfeed 0 code.toNat b.adc.vbc)
    let clear := b.path.testClear
    let b := { b with path.testClear := false, path.state := .off }
    match res with
    | .srcShort =>
      if clear then (b.lock .passFetShort t).finishClear 3 .selftestFail
      else (b.lock .passFetShort t).fault .passFetShort t e.quay (e.vins / 10)
    | .snkShort =>
      if clear then (b.lock .sinkFetShort t).finishClear 3 .selftestFail
      else (b.lock .sinkFetShort t).fault .sinkFetShort t e.quay (e.vins / 10)
    | .inconclusive =>
      if clear then { b with path.state := .locked }.finishClear 3 .selftestFail
      else if rel then stay (b.fault .stageFlt t e.quay (e.vins / 10))
      else (b.fault .stageFlt t e.quay (e.vins / 10)).toBackFeed t false
    | .clear =>
      if clear then ({ b with path.state := .locked }.addPend .unlocked).finishClear 3 .ok
      else if rel then stay b
      else if b.path.testFrom = CcState.backFeed then b
      else if b.path.testBack || b.vbcAbove08 then (b.fault .backFeed t e.quay (e.vins / 10)).toBackFeed t false
      else b

end Berth

end Sys2Proof.Machine
end

