-- ==== Sys2Proof/Machine/RegOps.lean ====
section
/-!
DEFINITION. The regulator of one berth at the stamp of each of its triggers and at each Tide boundary (R213–R237).
-/

namespace Sys2Proof.Machine

namespace Berth

/-- The regulator switches. -/
def switching (b : Berth) : Bool := match b.reg.state with
  | .softstart => true
  | .regulate => true
  | .slew => true
  | .hold => true
  | _ => false

/-- VREF_NOW reaches the target in SOFTSTART (SOFTSTART_COMPLETE; R220). -/
def softstartComplete (b : Berth) : Berth :=
  if b.reg.state = .softstart then
    { b with reg.state := .regulate, reg.vrefNow := b.reg.target, reg.slewing := false }.regEvt 1
  else b

/-- VREF_NOW reaches the target in SLEW (SLEW_COMPLETE; R217). -/
def slewComplete (b : Berth) : Berth :=
  if b.reg.state = .slew then
    { b with reg.state := .regulate, reg.vrefNow := b.reg.target, reg.slewing := false }.regEvt 1
  else b

/-- The mean stage current exceeds HOLD_ILIM (HOLD_ENGAGE; R227). -/
def holdEngage (b : Berth) : Berth :=
  if b.switching && b.reg.state ≠ .hold then { b with reg.state := .hold, reg.holdNow := true }.regEvt 2 else b

/-- The mean stage current falls below HOLD_ILIM (HOLD_RELEASE; R227, Table 7.3). -/
def holdRelease (b : Berth) : Berth :=
  if b.reg.state ≠ .hold then b
  else if b.reg.slewing then { b with reg.state := .slew, reg.atFloor := false }
  else { b with reg.state := .regulate, reg.vrefNow := b.reg.target, reg.atFloor := false }

/-- LATCHED is entered at stamp `t` (R229): the source path opens with discharge and HICCUP_LATCH is recorded. -/
def regLatch (b : Berth) (e : Env) (t : Stamp) : Berth :=
  let b := { b with reg.state := .latched, reg.stop := none, tm.hic := none, reg.slewing := false
                    id.protActed := true, path.brokeAt := some t }.regEvt 4
  ((b.openSource t true).loadW3.fault .hiccupLatch t e.quay (e.vins / 10)).protect t

/-- A hiccup entry is counted (R229). -/
def countHiccup (b : Berth) (t : Stamp) : Berth :=
  { b with reg.hicCount := b.reg.hicCount + 1, tm.hicClear := some (t + ms 1000)
           tm.hic := some (t + ms (fld b.reg.prot 8 8)) }.cntReg 0

/-- HIC_COUNT already equals a nonzero HIC_M (R229). -/
def hicExhausted (b : Berth) : Bool := fld b.reg.prot 16 4 ≠ 0 && b.reg.hicCount = fld b.reg.prot 16 4

/-- HIC_N consecutive current-limited cycles (HICCUP_ENTRY; R229, R230). -/
def hiccupEntry (b : Berth) (e : Env) (t : Stamp) : Berth :=
  if !b.switching then b
  else if b.hicExhausted then b.regLatch e t
  else
    let b := ({ b with reg.state := .hiccup, reg.slewing := false }.countHiccup t).regEvt 3
    if b.reg.hicCount = 1 then { b with pol.alertDue := b.pol.alertDue ++ [0] } else b

/-- HIC_TIME elapses (HICCUP_TIME_EXPIRY; R229, Table 7.7 rank 3). -/
def hiccupTimeExpiry (b : Berth) : Berth := match b.tm.hic with
  | none => b
  | some _ =>
    let b := { b with tm.hic := none }.expired 12
    if b.reg.state = .hiccup then b.softStart
    else if b.reg.state = .stopped && b.reg.stop = some .stageFault && !b.reg.fltLow then b.restart
    else b

/-- A second without a hiccup entry (HIC_COUNT_CLEAR; R229). -/
def hicCountClear (b : Berth) : Berth := match b.tm.hicClear with
  | none => b
  | some _ => { b with tm.hicClear := none, reg.hicCount := 0 }

/-- TRIM has sat at a bound for 40 consecutive Tides (INTEGRATOR_SATURATION; R214). -/
def integratorSaturation (b : Berth) : Berth := if 40 ≤ b.reg.satTides then b.regEvt 11 else b

/-- TSETTLE expires (SETTLE_TIMEOUT; R225): PS_RDY is withheld and BP 4.0 sends Hard Reset. -/
def settleTimeout (b : Berth) : Berth := match b.tm.settle with
  | none => b
  | some _ =>
    let b := ({ b with tm.settle := none }.expired 11).regEvt 10
    if b.pol.trans.isSome then { b with pol.trans := none, pol.hrDue := true } else b

/-- VBR above the effective crowbar threshold for 200 ns at stamp `t` (CROWBAR_TRIP; R232). -/
def crowbarTrip (b : Berth) (e : Env) (t : Stamp) : Berth :=
  match b.reg.state with
  | .idle => b
  | .crowbar => b
  | .latched => b
  | _ =>
    let b := b.regStandby t
    let b := ({ b with reg.state := .crowbar, reg.cbLatch := true, reg.cbRepair := true, reg.stop := none, tm.hic := none
                       reg.slewing := false, id.protActed := true
                       pol.alertDue := b.pol.alertDue ++ [2] }.regEvt 5).cntReg 1
    let b := ((b.openSource t true).loadW3).fault .ovCrowbar t e.quay (e.vins / 10)
    ({ b with path.brokeAt := some t }).protect t

/-- 10 ms after the regulator check began (CROWBAR_CLEAR_CHECK; R203, R233), with VBR as it stands. -/
def crowbarCheck (b : Berth) (e : Env) (vbrMv : Nat) : Berth := match b.tm.cbCheck with
  | none => b
  | some d =>
    let b := { b with tm.cbCheck := none }
    if 4750 ≤ vbrMv && vbrMv ≤ 5500 then
      let b := { b with reg.cbRepair := false }
      if b.path.state = .locked && b.path.lock = .crowbar then
        (((b.addPend .unlocked).finishClear 0 .ok).finishClear 3 .ok)
      else b.finishClear 0 .ok
    else
      (((b.regIdle).fault .stageFlt d e.quay (e.vins / 10)).finishClear 0 .selftestFail).finishClear 3 .selftestFail

/-- More than 8 consecutive minimum off-times (DROPOUT_SET; R234). -/
def dropoutSet (b : Berth) : Berth :=
  if b.reg.dropout || !b.switching then b else ({ b with reg.dropout := true }.regEvt 6).cntReg 2

/-- FLT_N low for 1 µs at stamp `t` (STAGE_FAULT; Table 7.7 rank 3): under a higher condition that arose at the same stamp it is
recorded, and no more (R237). -/
def stageFault (b : Berth) (e : Env) (t : Stamp) : Berth :=
  let b := { b with reg.fltLow := true }
  let also := if b.brokeNow t then b.fault .stageFlt t e.quay (e.vins / 10) else b
  match b.reg.state with
  | .idle => b
  | .crowbar => also
  | .latched => also
  | _ =>
    if b.hicExhausted then (b.fault .stageFlt t e.quay (e.vins / 10)).regLatch e t
    else
      let b := { b with path.brokeAt := some t }
      let b := ((({ b.regStandby t with reg.stop := none }.stopBy .stageFault t).countHiccup t).regEvt 7).cntReg 3
      (((b.openSource t false).loadW3).fault .stageFlt t e.quay (e.vins / 10)).protect t

/-- FLT_N high again (STAGE_FAULT_RELEASE; Table 7.7): with HIC_TIME elapsed the regulator soft-starts toward standby. -/
def stageFaultRelease (b : Berth) : Berth :=
  let b := { b with reg.fltLow := false }
  if b.reg.state = .stopped && b.reg.stop = some .stageFault && b.tm.hic.isNone then b.restart else b

/-- TMON beyond W9's upper threshold for 100 µs at stamp `t` (THERMAL_STOP; Table 7.7 rank 4): BP 4.0 then sends an Alert
and a Hard Reset. -/
def thermalStop (b : Berth) (e : Env) (t : Stamp) : Berth :=
  if b.reg.thermal then b
  else
    let b := { b with reg.thermal := true }
    let also := if b.brokeNow t then b.fault .thermal t e.quay (e.vins / 10) else b
    match b.reg.state with
    | .idle => b
    | .crowbar => also
    | .latched => also
    | _ =>
      let b := { b with path.brokeAt := some t }
      let b := (b.stopBy .thermal t).regEvt 8
      let b := ((b.openSource t false).loadW3).fault .thermal t e.quay (e.vins / 10)
      let b := if b.attached then { b with pol.alertDue := b.pol.alertDue ++ [1], pol.hrDue := true } else b
      b.protect t

/-- TMON within W9's lower threshold for 1 s (THERMAL_RELEASE; Table 7.7). -/
def thermalRelease (b : Berth) : Berth :=
  let b := { b with reg.thermal := false }
  if b.reg.state = .stopped && b.reg.stop = some .thermal then b.restart else b

/-! ### Each Tide -/

/-- VREF_NOW moves toward the target by SLEW for one Tide (R217, R220). -/
def slewTide (b : Berth) : Berth :=
  if b.reg.state = .slew || b.reg.state = .softstart then
    let d := 25 * fld b.reg.vref 16 5
    let v := if b.reg.vrefNow < b.reg.target then min b.reg.target (b.reg.vrefNow + d)
             else max b.reg.target (b.reg.vrefNow - d)
    let b := { b with reg.vrefNow := v }
    if v = b.reg.target then { b with reg.state := .regulate, reg.slewing := false }.regEvt 1 else b
  else b

/-- WIN_COUNT at a latch (R223, R225). -/
def winTide (b : Berth) : Berth :=
  if b.reg.state = .idle then b
  else
    let c := b.mon.ch[1]
    let b := if b.w1Inside && b.reg.vrefNow = b.reg.target then { b with reg.forced := false } else b
    if b.w1Inside && !c.hiSeen && !c.loSeen then
      let n := min 7 (b.reg.winCount + 1)
      if n = 4 then { b with reg.winCount := n, tm.settle := none }.regEvt 0 else { b with reg.winCount := n }
    else { b with reg.winCount := 0 }

/-- The bound of TRIM: 3 % of VREF and at least 50 mV (R214). -/
def trimBound (b : Berth) : Int := max 50 (3 * b.reg.target / 100 : Nat)

/-- The integrator at a boundary (R214): DESIGN CHOICE, log entry 85, the eighth of the error is rounded down to the 1 mV step of
TRIM, for which the manual gives no rounding. -/
def trimTide (b : Berth) : Berth :=
  if b.reg.state = .regulate && !b.reg.dropout && !b.reg.dem then
    let v := b.reg.trim + ((b.reg.target : Int) - b.smp.vbr) / 8
    let v := max (-b.trimBound) (min b.trimBound v)
    let sat := v = b.trimBound || v = -b.trimBound
    { b with reg.trim := v, reg.intSat := sat, reg.satTides := if sat then b.reg.satTides + 1 else 0 }
  else b

/-- k_fll at a boundary, in units of 0.1 % (R213): DESIGN CHOICE, log entry 85, it goes at once for k_fll × f_sw ÷ the measured
frequency, rounded down, as far as the bounds of R213 let it; the manual gives the bounds and no law of approach. -/
def fllTide (b : Berth) : Berth :=
  if !b.reg.cfg.getLsbD 13 then { b with reg.kfll := 1000 }
  else if (b.reg.state = .regulate || b.reg.state = .slew) && !b.reg.dem && !b.reg.dropout && b.smp.fsw ≠ 0 then
    let want := b.reg.kfll * (10 * fld b.reg.cfg 0 7) / b.smp.fsw
    { b with reg.kfll := clampTo 900 1100 (clampTo (b.reg.kfll - b.reg.kfll / 100) (b.reg.kfll + b.reg.kfll / 100) want) }
  else b

/-- DROPOUT clears after a whole Tide with no minimum off-time (R234). -/
def dropoutTide (b : Berth) : Berth := if b.reg.dropout && b.smp.offMin = 0 then { b with reg.dropout := false } else b

/-- A lowering of the crowbar threshold applies with SLEWING clear and W1 inside its window (R231). -/
def crowbarTide (b : Berth) : Berth :=
  if b.reg.cbThr.toNat < b.reg.cbEff.toNat && !b.reg.slewing && b.w1Inside then { b with reg.cbEff := b.reg.cbThr } else b

/-- A held REG_CFG write applies in IDLE or at standby (R238). -/
def regCfgTide (b : Berth) : Berth := match b.reg.heldCfg with
  | none => b
  | some v =>
    if b.reg.state = .idle || (b.reg.state = .regulate && b.reg.target = 5000) then
      let w := clampFld (clampFld (v &&& 0x377F#32) 0 7 20 80) 8 3 1 7
      let b := { b with reg.cfg := w, reg.heldCfg := none }.regEvt 14
      if w = v &&& 0x377F#32 then b else b.regEvt 13
    else b

/-- The zero-current sample of IMON that a regulator owes since it left IDLE (R210). -/
def zeroTide (b : Berth) : Berth :=
  if b.reg.zeroDue then { b with reg.imonZero := b.smp.zero, reg.zeroDue := false } else b

/-- Steps 0 and 3 of the pass-transistor test as a latch shows them: step 1 starts in the Tide whose average finds VBR in
4.75–5.50 V, and the reference stands at 4.40 V from 64 µs to 2.128 ms of the test (Table 6.6). -/
def passTide (b : Berth) (t : Stamp) : Berth :=
  if b.path.state ≠ .test then b
  else
    let b := if b.path.testAt.isNone && 4750 ≤ b.smp.vbr && b.smp.vbr ≤ 5500 then { b with path.testAt := some t } else b
    match b.path.testAt with
    | some x => if b.path.testOk && x + us 64 ≤ t && t < x + 212800 then { b with reg.vrefNow := 4400 } else b
    | none => b

/-- HOLD_VMIN, 50 mV per LSB. -/
def holdFloor (b : Berth) : Nat := 50 * fld b.reg.hold 16 10

/-- VREF_NOW as the hold limit has set it, never below HOLD_VMIN nor above the target, and AT_FLOOR (R227). -/
def holdTide (b : Berth) : Berth :=
  if b.reg.state = .hold then
    let v := min b.reg.target (max b.holdFloor b.smp.hold)
    { b with reg.vrefNow := v, reg.atFloor := decide (v ≤ b.holdFloor) && b.smp.above }
  else { b with reg.atFloor := false }

/-- REG_STATUS.DEM of the Tide (R215, R217, R220): light-load operation needs LIGHT set and a reference that does not fall; in soft
start it is always enabled. -/
def demTide (b : Berth) : Berth :=
  { b with reg.dem := b.smp.dem && b.switching && (b.reg.state = .softstart || (b.reg.cfg.getLsbD 12 && !b.reg.forced)) }

/-- The comparators whose thresholds follow another setting: W4 LO at 0 A, or at −3.0 A without LIGHT or while the reference falls, and
W7 HI at VCONN_CFG.ILIM (Table 8.2). -/
def loadFollow (b : Berth) : Berth :=
  let c4 := b.mon.ch[4]
  let lo : BitVec 10 := if b.reg.cfg.getLsbD 12 && b.reg.vrefNow ≤ b.reg.target then 256 else 16
  let c7 := b.mon.ch[7]
  let hi := BitVec.ofNat 10 (4 * fld b.cc.vconnCfg 0 8)
  { b with mon.ch := (b.mon.ch.set 4 { c4 with low := lo, lowEff := lo }).set 7 { c7 with thr := hi, thrEff := hi } }

/-- W8 follows VIN_WIN (Table 8.2). -/
def loadW8 (b : Berth) (w : Word) : Berth :=
  let c := b.mon.ch[8]
  let hi := BitVec.ofNat 10 (fld w 16 10)
  let lo := BitVec.ofNat 10 (fld w 0 10)
  { b with mon.ch := b.mon.ch.set 8 { c with thr := hi, thrEff := hi, low := lo, lowEff := lo } }

/-- The regulator's work in the Tide that the boundary at stamp `t` ends, before the latch (R21). -/
def regTide (b : Berth) (t : Stamp) : Berth :=
  let b := ((b.zeroTide.demTide).slewTide).passTide t
  b.holdTide.winTide.trimTide.fllTide.dropoutTide.crowbarTide

end Berth

end Sys2Proof.Machine
end

