-- ==== Sys2Proof/Machine/Phy.lean ====
section
/-!
DEFINITION. The PHY of one berth: reception into the FIFO (R88–R90), GoodCRC, MessageIDs and retries (R79–R82), the
tokens (R93, R94), protocol timers (R84–R87), Hard Reset and Cable Reset (R105–R109), the coincidences of R112, and the
swap tracker's phases (R156).
-/

namespace Sys2Proof.Machine

/-- Message types of the USB PD standard (R10; PRESUMED, log entry 15): control messages. -/
def ctlAccept : Nat := 3
@[inherit_doc ctlAccept] def ctlReject : Nat := 4
@[inherit_doc ctlAccept] def ctlPsRdy : Nat := 6
@[inherit_doc ctlAccept] def ctlGetSourceCap : Nat := 7
@[inherit_doc ctlAccept] def ctlGetSinkCap : Nat := 8
@[inherit_doc ctlAccept] def ctlDrSwap : Nat := 9
@[inherit_doc ctlAccept] def ctlPrSwap : Nat := 10
@[inherit_doc ctlAccept] def ctlVconnSwap : Nat := 11
@[inherit_doc ctlAccept] def ctlWait : Nat := 12
@[inherit_doc ctlAccept] def ctlSoftReset : Nat := 13
@[inherit_doc ctlAccept] def ctlNotSupported : Nat := 16
@[inherit_doc ctlAccept] def ctlFrSwap : Nat := 19
@[inherit_doc ctlAccept] def ctlGetPpsStatus : Nat := 20

/-- A message header: type, number of data objects, extended bit. -/
def hdrType (h : BitVec 16) : Nat := fld h 0 5
@[inherit_doc hdrType] def hdrNdo (h : BitVec 16) : Nat := fld h 12 3
@[inherit_doc hdrType] def hdrExt (h : BitVec 16) : Bool := h.getLsbD 15
@[inherit_doc hdrType] def hdrId (h : BitVec 16) : BitVec 3 := BitVec.ofNat 3 (fld h 9 3)
/-- A control message of a type. -/
def isCtl (h : BitVec 16) (t : Nat) : Bool := hdrType h = t && hdrNdo h = 0 && !hdrExt h

/-- The header of a transmission as it stood in its buffer. -/
def Tx.hdr (x : Tx) : BitVec 16 := BitVec.ofNat 16 (fld x.word0 16 16)

namespace Berth

/-! ### The receive FIFO -/

/-- A read of RX_DATA removes the oldest entry (RX_DATA_READ; Table 3.23). -/
def rxDataRead (b : Berth) : Berth := { b with phy.fifo := b.phy.fifo.drop 1 }.drainOwed

/-- FLUSH_RX empties the FIFO at once (Table 3.23). -/
def flushRx (b : Berth) : Berth := { b with phy.fifo := [] }.drainOwed

/-- An SOP kind is received (R78). -/
def sopEnabled (b : Berth) (k : SopKind) : Bool := match k with
  | .sop => true
  | .sopP => b.phy.cfg.getLsbD 0
  | .sopPP => b.phy.cfg.getLsbD 1

/-- The start of an incoming SOP* at stamp `t` (SOP_DETECTED; R77, R78, R87, R89, R94). -/
def sopDetected (b : Berth) (e : Env) (k : SopKind) : Berth :=
  if !b.attached || e.hless || b.cc.isolated then b
  else
    let b := { b with id.tokenRx.current := false, phy.sopSeen := true }.discardTx
    if !b.sopEnabled k then { b with phy.rxMsg := none }
    else
      let fits := b.phy.owed = [] && 34 ≤ b.fifoFree
      let mark : RxEntry := { mark := .sop, data := BitVec.ofNat 8 (sopCode k) }
      let b := { b with phy.rxMsg := some { sop := k, fits := fits } }
      if fits then b.pushMark mark else b.pushOwed mark

/-- A Hard Reset or Cable Reset that waited for the end of a message goes on the wire (R105, R109). -/
def sendWaiting (b : Berth) : Berth :=
  if b.phy.hrWait then { b with phy.hrWait := false, phy.hrSending := true }
  else if b.phy.crWait then { b with phy.crWait := false, phy.crSending := true }
  else b

/-- A received message's EOP (MESSAGE_END; R79, R80, R88–R90, R105): the bytes not yet in the FIFO, then an end mark, or a GoodCRC
when the CRC is good, the message fitted and no Hard Reset or Cable Reset waits for this end. -/
def messageEnd (b : Berth) (crcOk : Bool) (hdr : BitVec 16) (data : List Byte) : Berth := match b.phy.rxMsg with
  | none => b
  | some m =>
    let b := b.takeBytes ((leBytes 2 hdr.toNat ++ data).drop m.got)
    if b.phy.hrWait || b.phy.crWait then b.cutRx.sendWaiting
    else
      let b := { b with phy.rxMsg := none }
      if !m.fits then (b.pushOwed { mark := .endOvr, data := 0 }).cntPhy 5
      else if !crcOk then (b.pushMark { mark := .endBad, data := 0 }).cntPhy 0
      else
        let dup := b.phy.rxId[sopIdx m.sop] = some (hdrId hdr) && !isCtl hdr ctlSoftReset
        { b with phy.ackDue := some { sop := m.sop, hdr := hdr, data := data, dup := dup, reply := b.wireHdr 1 (hdrId hdr) } }

/-- A BMC line error aborts the message being received, after the bytes decoded of it since the last boundary (LINE_ERROR; Table
3.3, R105). -/
def lineError (b : Berth) (data : List Byte) : Berth := match b.phy.rxMsg with
  | none => b
  | some _ => (b.takeBytes data).cutRx.sendWaiting

/-! ### The swap tracker (R156) -/

/-- Durations of the swap timers in stamps (Table 5.3). -/
def tSourceOff (b : Berth) : Nat := ms (10 * fld b.mux.swapTime 0 8)
@[inherit_doc tSourceOff] def tSourceOn (b : Berth) : Nat := ms (10 * fld b.mux.swapTime 8 8)
@[inherit_doc tSourceOff] def tVconnTo (b : Berth) : Nat := ms (fld b.mux.swapTime 16 8)

/-- Record the first message of an AMS: while none is open, each message may begin one (R156). -/
def noteFirst (b : Berth) (ty : Nat) (mine : Bool) : Berth :=
  if b.mux.firstType.isNone || !b.id.amsActive then { b with mux.firstType := some ty, mux.firstByBerth := mine } else b

/-- An Accept is confirmed at stamp `t`, in either direction. -/
def trackAccept (b : Berth) (t : Stamp) : Berth :=
  if b.mux.phase = .frsSourcing || b.mux.phase = .frsDetected then { b with tm.swap := some (t + b.tSourceOff) }
  else if b.mux.phase ≠ .idle && b.mux.phase ≠ .frsArmed then b
  else if b.mux.firstType = some ctlPrSwap then
    if b.cc.state = .attachedSrc then
      { ({ b with mux.partnerPsRdy := false }.setPhase .prSrcTrans) with tm.srcTrans := some (t + ms (fld b.phy.time0 16 8)) }
    else { ({ b with mux.partnerPsRdy := false }.setPhase .prSnkWait) with tm.swap := some (t + b.tSourceOff) }
  else if b.mux.firstType = some ctlVconnSwap then
    { ({ b with mux.partnerPsRdy := false }.setPhase (if b.id.vconnSrc then .vcWait else .vcOn)) with
      tm.swap := some (t + b.tVconnTo) }
  else b

/-- The partner's PS_RDY is confirmed; it counts for a sequence that runs (Table 5.12). -/
def trackPsRdyRx (b : Berth) : Berth :=
  let b := { b with mux.partnerPsRdy := b.mux.partnerPsRdy || (b.mux.phase ≠ Phase.idle && b.mux.phase ≠ Phase.frsArmed) }
  match b.mux.phase with
  | .prSrcWait => { b.setPhase .idle with id.expectLoss := !b.vbcPresent }
  | .prSnkWait => b.setPhase .prSnkOn
  | .vcWait => b.setPhase .idle
  | _ => b

/-- The berth's PS_RDY is confirmed at stamp `t`. -/
def trackPsRdyTx (b : Berth) (t : Stamp) : Berth := match b.mux.phase with
  | .prSrcOff => { b.setPhase .prSrcWait with tm.swap := some (t + b.tSourceOn) }
  | .prSnkOn => { b.setPhase .idle with id.expectLoss := false }
  | .vcOn => b.setPhase .idle
  | .frsSourcing => { b.setPhase .idle with id.expectLoss := false }
  | _ => b

/-- A confirmed message moves the tracker; `mine` for the berth's own. Only control messages on SOP concern it. -/
def track (b : Berth) (k : SopKind) (hdr : BitVec 16) (t : Stamp) (mine : Bool) : Berth :=
  if k ≠ .sop then b
  else
    let b := b.noteFirst (if hdrNdo hdr = 0 && !hdrExt hdr then hdrType hdr else 0) mine
    if isCtl hdr ctlAccept then b.trackAccept t
    else if isCtl hdr ctlPsRdy then (if mine then b.trackPsRdyTx t else b.trackPsRdyRx)
    else b

/-! ### Confirmations -/

/-- A Soft_Reset is confirmed: on SOP the epoch changes first, Rp of collision avoidance returns (R85) and the command in progress is
lost (R164; log entry 86); the MessageIDs of the kind are cleared (R81, R94). -/
def softReset (b : Berth) (k : SopKind) : Berth :=
  let b := if k = .sop then (b.newEpoch.finishCmd .superseded).caRelax else b
  { b with phy.txId := b.phy.txId.set (sopIdx k) 0, phy.rxId := b.phy.rxId.set (sopIdx k) none }

/-- The berth's GoodCRC has ended (GOODCRC_SENT; R79, R80, R84, R88, R93, R134): END_GOOD and TOKEN_RX, or END_DUP. A received
Soft_Reset clears the stored MessageIDs and then stores its own, and REV is that of the first SOP message confirmed (DESIGN CHOICE, log
entry 85). -/
def goodcrcSent (b : Berth) (t : Stamp) (a : AckDue) : Berth :=
  let id := hdrId a.hdr
  let b := { b with phy.ackDue := none, phy.wireEnd := t }
  if !a.live then b
  else if a.dup then (b.pushMark { mark := .endDup, data := BitVec.ofNat 8 id.toNat }).cntPhy 2
  else
    let b := b.pushMark { mark := .endGood, data := BitVec.ofNat 8 id.toNat }
    let b := if isCtl a.hdr ctlSoftReset then b.softReset a.sop else b
    let rev := fld a.hdr 6 2
    let b := { b with
      phy.rxId := b.phy.rxId.set (sopIdx a.sop) (some id)
      id.pdConnected := b.id.pdConnected || a.sop = SopKind.sop
      id.partnerRev := if a.sop = SopKind.sop && b.id.partnerRev = 0 then (if rev = 1 then 1 else 2) else b.id.partnerRev
      id.tokenRx := { msgId := id, sop := a.sop, current := true, seq := b.id.tokenRx.seq + 1 } }
    let b := if b.phy.tmrSop = a.sop then { b with phy.tmrRun := .none, tm.resp := none, tm.caps := none } else b
    let b := if b.id.eprMode && b.id.powerSource && a.sop = .sop then { b with tm.epr := some (t + ms b.pol.eprSrcKa) } else b
    b.track a.sop a.hdr t false

/-- Start the timer that a confirmed buffer names (R84, Table 3.27). -/
def startNamed (b : Berth) (x : Tx) (t : Stamp) : Berth :=
  match fld x.word0 8 3 with
  | 1 => { b with phy.tmrRun := .senderResponse, phy.tmrSop := x.sop, tm.resp := some (t + ms (fld b.phy.time1 0 8)) }
  | 2 => { b with phy.tmrRun := .chunkSenderResponse, phy.tmrSop := x.sop, tm.resp := some (t + ms (fld b.phy.time1 8 8)) }
  | 3 => { b with phy.tmrRun := .chunkSenderRequest, phy.tmrSop := x.sop, tm.resp := some (t + ms (fld b.phy.time1 16 8)) }
  | 4 => { b with tm.srcTrans := some (t + ms (fld b.phy.time0 16 8)) }
  | _ => b

/-- A transmission is confirmed at stamp `t` (R81, R82, R84, R93, R94, R102, R110). A Soft_Reset sent counts up before it clears the
counter (DESIGN CHOICE, log entry 85). -/
def confirmTx (b : Berth) (x : Tx) (t : Stamp) : Berth :=
  let close := b.id.closeOnTx
  let b := { b with phy.tx := none, phy.txResult := .confirmed, tm.tRecv := none, id.closeOnTx := false
                    phy.txId := b.phy.txId.set (sopIdx x.sop) (b.phy.txId[sopIdx x.sop] + 1)
                    phy.capsCount := if x.sop = SopKind.sop then 0 else b.phy.capsCount, id.pdConnected := b.id.pdConnected || x.sop = SopKind.sop }.phyEvt 4
  let b := if isCtl x.hdr ctlSoftReset then b.softReset x.sop else b
  let b := { b with id.tokenTx := { msgId := x.msgId, sop := x.sop, current := true, seq := b.id.tokenTx.seq + 1 } }
  let b := (b.startNamed x t).track x.sop x.hdr t true
  if close then b.closeAms else b

/-- A GoodCRC is received at stamp `t` (GOODCRC_RECEIVED; R82, R88): only the expected MessageID confirms. -/
def goodcrcReceived (b : Berth) (t : Stamp) (id : BitVec 3) : Option (Tx × Berth) := match b.phy.tx with
  | none => none
  | some x => if x.begun && x.ended && x.msgId = id then some (x, b.confirmTx x t) else none

/-- A transmission reaches its EOP at stamp `t` (TRANSMISSION_END; R82). -/
def transmissionEnd (b : Berth) (t : Stamp) : Berth := match b.phy.tx with
  | none => b
  | some x =>
    if x.begun && !x.ended then
      { b with phy.tx := some { x with ended := true }, phy.wireEnd := t, tm.tRecv := some (t + 1000 * fld b.phy.time0 0 8) }
    else b

/-- nRetryCount (R82, R114). -/
def nRetry (b : Berth) : Nat := fld b.phy.cfg 7 2

/-- tReceive elapses (TRECEIVE_EXPIRY; R81, R82, R84, R110): the retry begins, or the transmission has failed; the
failed transmission is returned. A retry that the PHY may not send is none (log entry 84), and the repeat timer of a failed
Source_Capabilities starts here, at the end of its last tReceive (DESIGN CHOICE, log entry 85). -/
def treceiveExpiry (b : Berth) : Option Tx × Berth := match b.tm.tRecv, b.phy.tx with
  | some d, some x =>
    let b := { b with tm.tRecv := none }.expired 3
    if x.attempts < b.nRetry && b.mayTransmit x.sop then
      (none, { b with phy.tx := some { x with attempts := x.attempts + 1, ended := false }
                      phy.txAttempts := BitVec.ofNat 2 (x.attempts + 1) })
    else
      let b := { b with phy.txId := b.phy.txId.set (sopIdx x.sop) (b.phy.txId[sopIdx x.sop] + 1) }
      let b := ((b.endTx .failed).phyEvt 5).cntPhy 1
      let caps := x.sop = .sop && isSourceCaps x.hdr.toNat
      (some x, if caps then { b with phy.capsCount := if b.phy.capsCount.toNat < 50 then b.phy.capsCount + 1 else b.phy.capsCount
                                     phy.tmrRun := .srcCapsRepeat, phy.tmrSop := .sop
                                     tm.caps := some (d + ms (fld b.phy.time2 16 8)) } else b)
  | _, _ => (none, b)

/-- tSinkTx elapses: the held transmission is released (SINK_TX_EXPIRY; R85). -/
def sinkTxExpiry (b : Berth) : Berth := match b.tm.sinkTx with
  | none => b
  | some _ => ({ b with tm.sinkTx := none }.expired 7).beginTx

/-- A Cable Reset ordered set ends at stamp `t` (CABLE_RESET_SENT; R81, R94, R109). -/
def cableResetSent (b : Berth) (t : Stamp) : Berth :=
  if !b.phy.crSending then b
  else
    { b with phy.crSending := false, phy.wireEnd := t
             phy.txId := (b.phy.txId.set 1 0).set 2 0, phy.rxId := (b.phy.rxId.set 1 none).set 2 none
             id.tokenRx.current := b.id.tokenRx.current && b.id.tokenRx.sop = SopKind.sop
             id.tokenTx.current := b.id.tokenTx.current && b.id.tokenTx.sop = SopKind.sop }.phyEvt 9

/-! ### Hard Reset (R105–R108) -/

/-- Steps 1 and 2 of Table 3.7 at t0, for a source and a sink (R106, R107); in a PR_Swap or FR_Swap phase the berth goes
to ErrorRecovery instead (R161). -/
def hardResetSequence (b : Berth) (t : Stamp) : Berth :=
  if !b.attached then b
  else if b.mux.phase ≠ .idle && b.mux.phase ≠ .frsArmed && b.mux.phase ≠ .vcOn && b.mux.phase ≠ .vcWait then
    b.swapFail t .superseded
  else
    let src := b.cc.state = .attachedSrc
    let vcFail := b.mux.phase = .vcOn || b.mux.phase = .vcWait
    let b := if vcFail then b.cntSwap 2 else b
    let b := match b.id.contract with
      | some c => b.emit (.contract 3 .ok (flag src 0) c.pos c.volt c.curr c.rdo c.pdo)
      | none => b
    let b := ((b.cutRx.newEpoch).clearMsgIds).endCommands .superseded
    let b := { b with id.hrActive := true, id.expectLoss := true, id.contract := none, id.eprMode := false, tm.epr := none
                      phy.caOk := b.phy.caOk && !decide src, pol.caps := [], pol.capsDue := false, pol.hrDue := false, tm.settle := none
                      pol.modeTry := none, pol.discStep := 0, pol.svids := [], pol.modes := [], phy.capsCount := 0, pol.history := 0
                      pol.eprTried := false, pol.frsAsked := false, pol.discDue := false }
    let b := b.addPend .hrStep2
    if src then { b with tm.psHr := some (t + ms (fld b.phy.time2 0 8)), tm.srcRec := none }.rpWithoutContract
    else
      let b := if b.id.vconnSrc then b.vconnOff else b
      { b with tm.snkHr := some (t + ms 1960) }

/-- The berth's Hard Reset ordered set ends at stamp `t` (HARD_RESET_SENT; R106, R108, R112). -/
def hardResetSent (b : Berth) (t : Stamp) : Berth :=
  if !b.phy.hrSending then b
  else
    let b := ({ b with phy.hrSending := false, phy.hrPending := false, phy.hrAt := some t, phy.wireEnd := t
                       phy.hrCount := if b.phy.hrCount = 3 then 3 else b.phy.hrCount + 1 }.phyEvt 8).cntPhy 3
    b.hardResetSequence t

/-- A Hard Reset ordered set is received at stamp `t`, after the bytes decoded since the last boundary of a message it cuts short
(HARD_RESET_RECEIVED; R88, R105, R106, R112). -/
def hardResetReceived (b : Berth) (t : Stamp) (data : List Byte) : Berth :=
  if !b.attached then b
  else
    let b := (b.takeBytes data).cutRx
    let b := if b.phy.fifo.length < 512 then b.pushMark { mark := .hardReset, data := 0 } else b
    let b := (b.phyEvt 7).cntPhy 4
    if b.phy.hrSending then b
    else
      let own := match b.phy.hrAt with
        | some a => b.id.hrActive && decide (t < a + us 280)
        | none => false
      if own then
        { b with tm.psHr := b.tm.psHr.map (fun _ => t + ms (fld b.phy.time2 0 8)), tm.snkHr := b.tm.snkHr.map (fun _ => t + ms 1960) }
      else ({ b with phy.hrPending := false, phy.hrWait := false, phy.crSending := false, phy.crWait := false }.endTx .abortedHr).hardResetSequence t

/-- tPSHardReset elapses (PS_HARD_RESET_EXPIRY; Table 3.7 step 3). -/
def psHardResetExpiry (b : Berth) : Berth := match b.tm.psHr with
  | none => b
  | some d =>
    let b := { b with tm.psHr := none }.expired 6
    let b := ((b.openSource d true).loadW3.regStandby d).vconnOff
    if b.path.state = .discharge then b else { b with tm.srcRec := some (d + ms (10 * fld b.phy.time2 8 8)) }

/-- tSrcRecover elapses (SRC_RECOVER_EXPIRY; Table 3.7 step 5). -/
def srcRecoverExpiry (b : Berth) : Berth := match b.tm.srcRec with
  | none => b
  | some _ => ({ b with tm.srcRec := none }.expired 6).sourceCase .hrRecovery

/-- VBC not back by t0 + 1,960 ms (SINK_HARD_RESET_TIMEOUT; R107); HR_ACTIVE of a sink clears there too (DESIGN CHOICE, log entry
85). -/
def sinkHardResetTimeout (b : Berth) (e : Env) : Berth := match b.tm.snkHr with
  | none => b
  | some d =>
    let b := { b with tm.snkHr := none, id.expectLoss := false, id.hrActive := false }
    if b.cc.state = .attachedSnk then (b.detach d 0 .partnerNoResponse).toUnattached e d else b

/-- A write of PHY_CMD.CABLE_RESET: only while DFP and VCONN source, otherwise refused with reason 0x8 (R109). -/
def requestCableReset (b : Berth) : Berth :=
  if b.id.dataDfp && b.id.vconnSrc then b.addPend .cableReset
  else { b with id.last := 3, id.discarded := false, id.reason := 0x8 }.cntId 0

/-- HR_ACTIVE and VBUS_EXPECT_LOSS of a source clear at the boundary after VBC is back in vSafe5V, and its capabilities are due
(Table 3.7, step 6). -/
def hrRecovered (b : Berth) : Berth :=
  if b.id.hrActive && b.cc.state = .attachedSrc && b.tm.psHr.isNone && b.tm.srcRec.isNone && b.path.state = .srcOn && b.vbcSafe5
  then { b with id.hrActive := false, id.expectLoss := false, pol.capsDue := true } else b

end Berth

end Sys2Proof.Machine
end

