-- ==== Sys2Proof/Machine/Policy.lean ====
section
/-!
DEFINITION. Policy tables at work: the cable's limits (Table 4.5a), the PDOs a berth advertises (R122–R124), the
judgement of a Request (R125), the matching of accept, swap and mode rules (R125, R152, R173), stored decisions
(R128–R131), and the sink's choice of a PDO (R119, R136).  The places of the bits in PDOs and RDOs are those of the USB
PD standard (R10; PRESUMED, log entry 15).
-/

namespace Sys2Proof.Machine

/-- What a cable allows: highest current in 10 mA, highest voltage in 10 mV, EPR (Table 4.5a). -/
structure CableLimit where
  amps : Nat
  volt : Nat
  epr  : Bool
  deriving DecidableEq, Repr

/-- The row of Table 4.5a that an identity fits. -/
def Cable.limit (c : Cable) : CableLimit :=
  if c.amps5 then
    if c.epr && c.maxV = 50 then { amps := 500, volt := 4800, epr := true }
    else { amps := 500, volt := 100 * min c.maxV 20, epr := false }
  else { amps := 300, volt := 100 * min c.maxV 20, epr := false }

/-- A template is of an EPR kind (Table 4.3). -/
def Template.isEpr (x : Template) : Bool := x.kind = 3 || x.kind = 4

/-- A Fixed Supply PDO: voltage in 10 mV, current in 10 mA. -/
def pdoFixed (v i : Nat) : Word := BitVec.ofNat 32 (i % 1024 + v / 5 % 1024 * 2 ^ 10)
/-- A PPS APDO: bounds in 10 mV, current in 50 mA. -/
def pdoPps (lo hi i : Nat) : Word :=
  BitVec.ofNat 32 (i % 128 + lo / 10 % 256 * 2 ^ 8 + hi / 10 % 256 * 2 ^ 17 + 3 * 2 ^ 30)
/-- An SPR AVS APDO: currents in 10 mA up to 15 V and up to 20 V. -/
def pdoSprAvs (i15 i20 : Nat) : Word := BitVec.ofNat 32 (i20 % 1024 + i15 % 1024 * 2 ^ 10 + 2 * 2 ^ 28 + 3 * 2 ^ 30)
/-- An EPR AVS APDO: bounds in 10 mV, PDP in W. -/
def pdoEprAvs (lo hi pdp : Nat) : Word :=
  BitVec.ofNat 32 (pdp % 256 + lo / 10 % 256 * 2 ^ 8 + hi / 10 % 512 * 2 ^ 17 + 2 ^ 28 + 3 * 2 ^ 30)

/-- The kinds of a PDO, as the template kinds of Table 4.3 name them: 0 fixed, 1 PPS, 2 SPR AVS, 4 EPR AVS, 5 other. -/
def pdoKind (p : Word) : Nat :=
  if fld p 30 2 = 0 then 0
  else if fld p 30 2 = 3 then (if fld p 28 2 = 0 then 1 else if fld p 28 2 = 1 then 4 else if fld p 28 2 = 2 then 2 else 5)
  else 5

/-- Lowest and highest voltage of a PDO in 10 mV. -/
def pdoRange (p : Word) : Nat × Nat := match pdoKind p with
  | 0 => (5 * fld p 10 10, 5 * fld p 10 10)
  | 1 => (10 * fld p 8 8, 10 * fld p 17 8)
  | 2 => (900, if fld p 0 10 = 0 then 1500 else 2000)
  | 4 => (10 * fld p 8 8, 10 * fld p 17 9)
  | _ => (0, 0)

/-- The highest current of a PDO at a voltage: 10 mA for 10 mV. -/
def pdoAmps (p : Word) (v : Nat) : Nat := match pdoKind p with
  | 0 => fld p 0 10
  | 1 => 5 * fld p 0 7
  | 2 => if v ≤ 1500 then fld p 10 10 else fld p 0 10
  | 4 => if v = 0 then 0 else min 500 (fld p 0 8 * 10000 / v)
  | _ => 0

/-- Object position of an RDO, its voltage (10 mV), its operating current and largest current (10 mA) for a PDO. -/
def rdoPos (r : Word) : Nat := fld r 28 4
@[inherit_doc rdoPos] def rdoVolt (p r : Word) : Nat := match pdoKind p with
  | 0 => (pdoRange p).1
  | 1 => 2 * fld r 9 12
  | _ => fld r 9 12 * 5 / 2
@[inherit_doc rdoPos] def rdoAmps (p r : Word) : Nat := if pdoKind p = 0 then fld r 10 10 else 5 * fld r 0 7
/-- An RDO asks a voltage of an APDO on its request step: 20 mV for PPS, 100 mV for AVS (Table 4.3, R125). -/
def rdoOnStep (p r : Word) : Bool := match pdoKind p with
  | 2 => fld r 9 12 % 4 = 0
  | 4 => fld r 9 12 % 4 = 0
  | _ => true

/-- A power in 100 mW from 10 mV and 10 mA, rounded up. -/
def powerOf (v i : Nat) : Nat := ceilDiv (v * i) 1000

/-- The rules in force for a berth: an AMS that was open at a binding finishes under those of its first message (R119). -/
def Env.under (e : Env) (b : Berth) : Env := match b.pol.amsTbl with
  | none => e
  | some t => { e with tbl := { e.tbl with acc := t.acc, swp := t.swp, mode := t.mode, defaults := t.defaults
                                           waitLimit := t.waitLimit, decWindow := t.decWindow } }

namespace Berth

/-- The limits of the cable in the receptacle (R122). -/
def cableLimit (b : Berth) : CableLimit := match b.pol.cable with
  | some c => if b.cc.vconnOn && !b.cc.vconnLatch then c.limit else { amps := 300, volt := 2000, epr := false }
  | none => { amps := 300, volt := 2000, epr := false }

/-- EPR is allowed by the table, the member and the cable (R124). -/
def eprAllowed (b : Berth) (e : Env) : Bool := e.tbl.flags.getLsbD 0 && e.epr && b.cableLimit.epr

/-- The upper bound of an APDO under vmax (R123), in 10 mV. -/
def apdoTop (b : Berth) (x : Template) : Nat := min x.vhi (b.pol.vmax / 100 * 10)

/-- R123 withdraws the PDO of template number `n`. -/
def withdrawn (b : Berth) (n : Nat) (x : Template) : Bool :=
  if x.kind = 0 || x.kind = 3 then b.pol.winPdos.contains n
  else if x.kind = 2 then b.pol.vmax < 15000
  else b.apdoTop x < x.vlo

/-- The PDO of source template number `n` under the present offer (R124); none where it is omitted. -/
def pdoOf (b : Berth) (e : Env) (n : Nat) (x : Template) : Option Word :=
  let lim := b.cableLimit
  let cur (v : Nat) : Nat := if v = 0 then 0 else min (min (5 * x.imax) lim.amps) (1000 * b.pol.offer / v)
  if n = 0 then
    let drp := b.role = 2
    some (pdoFixed 500 (cur 500) ||| BitVec.ofNat 32 (flag drp 29 + flag (e.tbl.flags.getLsbD 2) 27
      + flag (b.eprAllowed e && b.id.partnerRev ≠ 1) 23))
  else if b.withdrawn n x then none
  else if x.isEpr && !(b.id.eprMode && lim.epr && e.epr) then none
  else if b.id.partnerRev = 1 && x.kind ≠ 0 then none
  else match x.kind with
    | 1 =>
      let i := cur x.vhi / 5
      if i < x.imin || lim.volt < b.apdoTop x then none else some (pdoPps x.vlo (b.apdoTop x) i)
    | 2 =>
      let i15 := min (cur 1500) 666
      let i20 := if x.vhi = 1500 || b.pol.vmax < 20000 then 0 else min (cur 2000) 500
      if i15 < 5 * x.imin then none else some (pdoSprAvs i15 i20)
    | 4 => some (pdoEprAvs x.vlo (b.apdoTop x) (min e.tbl.pmax b.pol.offer / 10))
    | _ => if lim.volt < x.vlo || cur x.vlo < 5 * x.imin then none else some (pdoFixed x.vlo (cur x.vlo))

/-- The templates of a table with their numbers. -/
def numbered (l : List Template) : List (Nat × Template) := (List.range l.length).zip l

/-- The capabilities of the berth: SPR PDOs at positions 1–7, EPR PDOs from position 8 (R124, R135). -/
def capabilities (b : Berth) (e : Env) : List Word :=
  let spr := ((numbered e.tbl.src).filter (fun x => !x.2.isEpr)).filterMap (fun x => b.pdoOf e x.1 x.2)
  let epr := ((numbered e.tbl.src).filter (fun x => x.2.isEpr)).filterMap (fun x => b.pdoOf e x.1 x.2)
  if b.id.eprMode then spr ++ List.replicate (7 - spr.length) 0 ++ epr else spr

/-- The highest voltage (10 mV) and current (10 mA) that the berth's PDOs may carry under R122–R124 (R143). -/
def capsTop (b : Berth) (e : Env) : Nat × Nat :=
  (b.capabilities e).foldl (fun m p => (max m.1 (pdoRange p).2, max m.2 (max (pdoAmps p (pdoRange p).1) (pdoAmps p (pdoRange p).2)))) (0, 0)

/-- The PDO that an RDO names in the capabilities the partner last confirmed. -/
def pdoAt (b : Berth) (r : Word) : Option Word :=
  if rdoPos r = 0 then none
  else match b.pol.caps[rdoPos r - 1]? with
    | some p => if p = 0 then none else some p
    | none => none

/-- A Request is valid (R125); `copy` is the PDO copy of an EPR_Request. -/
def requestValid (b : Berth) (r : Word) (copy : Option Word) : Bool := match b.pdoAt r with
  | none => false
  | some p =>
    let v := rdoVolt p r
    rdoAmps p r ≤ pdoAmps p v && (pdoRange p).1 ≤ v && v ≤ (pdoRange p).2 && rdoOnStep p r &&
      (match copy with
       | some c => b.id.eprMode && c = p
       | none => true)

/-- The Request record of a valid Request (Table 4.13). -/
def requestRecord (b : Berth) (p r : Word) (epr : Bool) : ReqRec :=
  { epr := epr, reqSeq := BitVec.ofNat 16 b.id.tokenRx.seq.toNat, rdo := r, pdo := p, volt := rdoVolt p r
    curr := rdoAmps p r, power := powerOf (rdoVolt p r) (rdoAmps p r), epoch := b.id.epoch }

/-- The contract that accepting an RDO against a PDO makes. -/
def contractOf (b : Berth) (p r : Word) (src : Bool) : Contract :=
  { source := src, epr := b.id.eprMode, mismatch := r.getLsbD 26, apdo := pdoKind p ≠ 0, pps := pdoKind p = 1
    pos := rdoPos r, volt := rdoVolt p r, curr := rdoAmps p r, rdo := r, pdo := p }

/-- The first accept rule that matches a Request of a position and power (Table 4.4), here in 0.1 mW: the product of 10 mV and 10 mA
steps (R125). -/
def acceptRule (b : Berth) (e : Env) (pos power : Nat) : Option AcceptRule :=
  e.tbl.acc.find? (fun r =>
    r.pos.getLsbD (pos - 1) && 1000 * r.plo ≤ power && (r.phi = 0 || power < 1000 * r.phi) &&
    (!r.cond.getLsbD 0 || b.id.partnerRev = 2) && (!r.cond.getLsbD 1 || b.id.eprMode) &&
    (!r.cond.getLsbD 2 || b.pol.emerg) && (!r.cond.getLsbD 3 || b.pol.history < 1000))

/-- COND of a swap rule holds (Table 4.5). -/
def swapCond (b : Berth) (c : Byte) : Bool :=
  (!c.getLsbD 0 || b.id.powerSource) && (!c.getLsbD 1 || !b.id.powerSource) && (!c.getLsbD 2 || b.id.dataDfp) &&
  (!c.getLsbD 3 || !b.id.dataDfp)

/-- The first swap rule of a kind, asked by the partner (0) or the host (1) (R152, R154). -/
def swapRule (b : Berth) (e : Env) (kind by_ : Nat) : Option SwapRule :=
  e.tbl.swp.find? (fun r => r.kind = kind && r.from_.getLsbD by_ && b.swapCond r.cond)

/-- DEFAULTS of an AMS kind: true when it rejects (Table 4.1): 0 Request, 1 PR_Swap, 2 DR_Swap, 3 VCONN_Swap, 4 FR_Swap,
5 mode entry. -/
def defaultRejects (e : Env) (k : Nat) : Bool := fld e.tbl.defaults (4 * k) 4 ≠ 0

/-- GMIN of a berth under its table or POWER_SET_PRIORITY (R119). -/
def gmin (b : Berth) (e : Env) : Nat := b.pol.gminOver.getD e.tbl.gmin
/-- The priority class of a berth (R119). -/
def cls (b : Berth) (e : Env) : Nat := b.pol.clsOver.getD e.tbl.cls

/-! ### Stored decisions (R128–R130) -/

/-- The content of a Request in a decision: RDO then PDO (Table 11.14). -/
def reqContent (r p : Word) : BitVec 64 := BitVec.ofNat 64 (r.toNat + p.toNat * 2 ^ 32)

/-- A message of a kind with other content ends the kind's open window and stored outcome (R130). -/
def lapseOther (b : Berth) (k : AmsKind) (c : BitVec 64) : Berth :=
  let gone := b.pol.windows.filter (fun w => w.kind = k && w.content ≠ c)
  { b with pol.oldIds := b.pol.oldIds ++ gone.map (fun w => (w.id, DecEnd.lapsed))
           pol.windows := b.pol.windows.filter (fun w => !(w.kind = k && w.content ≠ c))
           pol.stored := b.pol.stored.filter (fun s => !(s.kind = k && s.content ≠ c)) }

/-- The outcome stored for a message of a kind and content (R130). -/
def storedFor (b : Berth) (k : AmsKind) (c : BitVec 64) (t : Stamp) : Option Bool :=
  (b.pol.stored.find? (fun s => s.kind = k && s.content = c && t < s.lapses)).map (·.accept)

/-- A decision window open for a message of a kind and content. -/
def windowFor (b : Berth) (k : AmsKind) (c : BitVec 64) : Option DecWindow :=
  b.pol.windows.find? (fun w => w.kind = k && w.content = c)

/-- Store the outcome of a window (R129, R130): it lapses 2 s after the window's end. -/
def storeOutcome (b : Berth) (w : DecWindow) (accept : Bool) (how : DecEnd) : Berth :=
  { b with pol.windows := b.pol.windows.filter (fun x => x.id ≠ w.id)
           pol.oldIds := b.pol.oldIds ++ [(w.id, how)]
           pol.stored := b.pol.stored ++ [{ kind := w.kind, content := w.content, accept := accept, lapses := w.ends + ms 2000 }] }

/-- Number of an AMS kind, as DECISION counts them (Table 11.14). -/
def kindNo : AmsKind → Nat
  | .request => 0 | .prSwap => 1 | .drSwap => 2 | .vconnSwap => 3 | .modeEntry => 4

/-- DEFAULTS rejects a message of a kind that a window leaves undecided (Table 4.1, R130). -/
def undecidedRejects (e : Env) (k : AmsKind) : Bool := defaultRejects e (if k = .modeEntry then 5 else kindNo k)

/-- A window ends undecided: the default of its rules is stored at that instant (R119, R130; DECISION_WINDOW_END). -/
def windowEnd (b : Berth) (k : BitVec 16) : Berth := match b.pol.windows.find? (fun w => w.id = k) with
  | none => b
  | some w => b.storeOutcome w (!w.rejects) (.ended w)

/-- Stored outcomes past their 2 s lapse (R130; DECISION_LAPSE). -/
def decisionLapse (b : Berth) (t : Stamp) : Berth :=
  { b with pol.stored := b.pol.stored.filter (fun s => t < s.lapses) }

/-! ### The sink's choice (R119, R136) -/

/-- A partner PDO meets a sink template: the voltage to ask for, or none. -/
def meets (x : Template) (p : Word) : Option Nat :=
  let r := pdoRange p
  if x.kind = 0 || x.kind = 3 then (if pdoKind p = 0 && r.1 = x.vlo then some x.vlo else none)
  else if pdoKind p = (if x.kind = 4 then 4 else x.kind) && max x.vlo r.1 ≤ min x.vhi r.2 then some (min x.vhi r.2) else none

/-- The current a sink asks of a PDO at a voltage: within the PDO, the template and PMAX. -/
def sinkAmps (pmax : Nat) (x : Template) (p : Word) (v : Nat) : Nat :=
  if v = 0 then 0 else min (min (pdoAmps p v) (5 * x.imax)) (1000 * pmax / v)

/-- The candidates of a sink berth: position, PDO, voltage, current. -/
def sinkChoices (b : Berth) (e : Env) (caps : List Word) : List (Nat × Word × Nat × Nat) :=
  let ts := e.tbl.snk.filter (fun x => !x.isEpr || b.id.eprMode)
  ((List.range caps.length).zip caps).flatMap (fun (n, p) =>
    ts.filterMap (fun x => match meets x p with
      | some v =>
        let i := sinkAmps e.tbl.pmax x p v
        if 5 * x.imin ≤ i && 0 < i then some (n + 1, p, v, i) else none
      | none => none))

/-- The RDO for a position, PDO, voltage and current, with Capability Mismatch and EPR Mode Capable as flags. -/
def makeRdo (pos : Nat) (p : Word) (v i : Nat) (mismatch epr : Bool) : Word :=
  let body := if pdoKind p = 0 then i % 1024 + i % 1024 * 2 ^ 10
              else if pdoKind p = 1 then i / 5 % 128 + v / 2 % 4096 * 2 ^ 9
              else i / 5 % 128 + v * 2 / 5 / 4 * 4 % 4096 * 2 ^ 9
  BitVec.ofNat 32 (body + flag mismatch 26 + flag epr 22 + pos % 16 * 2 ^ 28)

/-- The Request of a sink berth: the highest-power PDO that meets its templates within PMAX, else the 5 V PDO with
Capability Mismatch (R119, R136). -/
def sinkRequest (b : Berth) (e : Env) (caps : List Word) : Word × Word :=
  let epr := e.tbl.flags.getLsbD 1 && e.epr && e.tbl.snk.any (·.isEpr)
  let best := (b.sinkChoices e caps).foldl (fun (m : Option (Nat × Word × Nat × Nat)) c => match m with
    | none => some c
    | some x => if x.2.2.1 * x.2.2.2 < c.2.2.1 * c.2.2.2 then some c else m) none
  match best with
  | some (pos, p, v, i) => (makeRdo pos p v i false epr, p)
  | none =>
    let p := caps.headD 0
    (makeRdo 1 p 500 (min (pdoAmps p 500) (1000 * e.tbl.pmax / 500)) true epr, p)

end Berth

end Sys2Proof.Machine
end

