-- ==== Sys2Proof/Machine/Bp.lean ====
section
/-!
DEFINITION. What BP 4.0 intends: the messages it composes, the settings it stages for a contract (R192, R228, R231,
Tables 7.5 and 7.6), its answers to Requests and swaps (R125–R131, R152–R155), and the steps of EPR entry, discovery and
modes (R132–R137, R172–R177).  An intention waits in `pol.todo` until BP 4.0 writes it as a COMMIT in a Tide
(`BerthProgram.lean`).
-/

namespace Sys2Proof.Machine

@[inherit_doc ctlAccept] def extPpsStatus : Nat := 12
@[inherit_doc ctlAccept] def extControl : Nat := 16
@[inherit_doc ctlAccept] def extSourceCaps : Nat := 17
@[inherit_doc ctlAccept] def extSinkCaps : Nat := 18
@[inherit_doc ctlAccept] def dataSourceCaps : Nat := 1
@[inherit_doc ctlAccept] def dataRequest : Nat := 2
@[inherit_doc ctlAccept] def dataSinkCaps : Nat := 4
@[inherit_doc ctlAccept] def dataAlert : Nat := 6
@[inherit_doc ctlAccept] def dataEprRequest : Nat := 9
@[inherit_doc ctlAccept] def dataEprMode : Nat := 10
@[inherit_doc ctlAccept] def dataVdm : Nat := 15

/-- The bytes of data objects, in transmission order. -/
def wordBytes (l : List Word) : List Byte := l.flatMap (fun w => leBytes 4 w.toNat)

/-- The data objects that bytes spell. -/
def bytesWords : List Byte → List Word
  | a :: b :: c :: d :: rest => BitVec.ofNat 32 (leNat [a, b, c, d]) :: bytesWords rest
  | _ => []

/-- Word 0 of a transmit buffer (Table 3.27). -/
def txWord0 (k : SopKind) (timer hdr len : Nat) : Word :=
  BitVec.ofNat 32 (len % 32 + sopCode k * 2 ^ 5 + timer % 8 * 2 ^ 8 + hdr % 2 ^ 16 * 2 ^ 16)

/-- A control or data message as a transmit buffer. -/
def mkTx (k : SopKind) (timer ty : Nat) (objs : List Word) : Word × List Byte :=
  (txWord0 k timer (ty + objs.length * 2 ^ 12) (4 * objs.length), wordBytes objs)

/-- Chunk `n` of an extended message of `all` (R91), or the request for it. -/
def mkChunk (k : SopKind) (timer ty n size : Nat) (req : Bool) (part : List Byte) : Word × List Byte :=
  let body := leBytes 2 (size % 512 + flag req 10 + n % 16 * 2 ^ 11 + 2 ^ 15) ++ part
  let objs := ceilDiv body.length 4
  (txWord0 k timer (ty + objs * 2 ^ 12 + 2 ^ 15) (4 * objs), body ++ List.replicate (4 * objs - body.length) 0)

/-- The timer codes of Table 3.27. -/
def tmrSender : Nat := 1
@[inherit_doc tmrSender] def tmrChunkResponse : Nat := 2
@[inherit_doc tmrSender] def tmrChunkRequest : Nat := 3
@[inherit_doc tmrSender] def tmrTransition : Nat := 4

/-- Intent kinds: the kinds of Table 3.15, and 3 for whichever token is current when it is written. -/
def kRx : BitVec 2 := 0
@[inherit_doc kRx] def kTx : BitVec 2 := 1
@[inherit_doc kRx] def kGrant : BitVec 2 := 2
@[inherit_doc kRx] def kLive : BitVec 2 := 3

/-- FLAGS of a CONTRACT event (Table 11.14). -/
def contractFlags (c : Contract) (rev3 : Bool) : Nat :=
  flag c.source 0 + flag c.epr 1 + flag c.mismatch 2 + flag c.apdo 3 + flag rev3 4

namespace Berth

/-- An intention, in the present epoch, after those waiting. -/
def will (b : Berth) (i : Intent) : Berth := { b with pol.todo := b.pol.todo ++ [{ i with epoch := b.id.epoch }] }

/-- The partner speaks Revision 3.x (R12). -/
def rev3 (b : Berth) : Bool := b.id.partnerRev = 2

/-- A control message that answers the message just confirmed, with its TOKEN_RX (R127); `last` closes the AMS. -/
def answer (b : Berth) (ty : Nat) (last : Bool) (evs : List EvBody := []) : Berth :=
  b.will { tx := some (mkTx .sop 0 ty []), kind := kRx, arg := some b.id.tokenRx.word, amsOpen := true, amsClose := last
           mask := if evs = [] then 1 else 0x41, events := evs }

/-- Not_Supported, or Reject to a Revision 2.0 partner (R11, R12). -/
def notSupported (b : Berth) : Berth := b.answer (if b.id.partnerRev = 1 then ctlReject else ctlNotSupported) true

/-- The open AMS is to close with no message (R102). -/
def closeIt (b : Berth) : Berth :=
  if b.id.amsActive || b.pol.todo.any (·.amsOpen) then b.will { kind := kLive, amsClose := true } else b

/-- A message that BP 4.0 begins itself: an AMS of its own with the current grant, when no AMS is open. -/
def begin_ (b : Berth) (x : Word × List Byte) (last : Bool := false) : Berth :=
  b.will { tx := some x, kind := kGrant, mask := 1, amsOpen := true, amsInit := true, amsClose := last, waitAms := true }

/-- Soft_Reset on an SOP kind (R82). -/
def softResetOn (b : Berth) (k : SopKind) : Berth :=
  b.will { tx := some (mkTx k tmrSender ctlSoftReset []), kind := kGrant, mask := 1, amsOpen := true }

/-- Soft_Reset on SOP, in place of what was intended (R82, R92, R164). -/
def softResetDue (b : Berth) : Berth := { b with pol.todo := [] }.softResetOn .sop

/-- The berth is in a swap phase, where errors end as R161 says. -/
def inSwap (b : Berth) : Bool := b.mux.phase ≠ .idle && b.mux.phase ≠ .frsArmed

/-- A protocol error: R161 in a swap phase, Hard Reset in a power transition, else Soft_Reset (R14, R82, R161). -/
def protocolError (b : Berth) (t : Stamp) : Berth :=
  if b.inSwap then b.swapFail t .superseded
  else if b.pol.trans.isSome then { b with pol.hrDue := true }
  else b.softResetDue

/-! ### Settings -/

/-- The partner's Rp current in 10 mA (R69). -/
def partnerAmps (b : Berth) : Nat := rpAmps (b.cc.partnerRp.toNat - 1)

/-- SRC_ILIM or SNK_ILIM of a current: 1.12 times, rounded up to 10 mA, within the register (R192). -/
def limitFor (i : Nat) : Nat := min 560 (ceilDiv (112 * i) 100)

/-- CB_THR of a voltage in 10 mV (R231, Table 7.6). -/
def crowbarFor (v : Nat) : BitVec 10 := BitVec.ofNat 10 (min 896 (ceilDiv ((12 * v + 500) * 2) 125))

/-- HOLD_ILIM and HOLD_VMIN with FLOOR_CNT set (Table 7.11 layout). -/
def holdWord (ilim vmin : Nat) : Word := BitVec.ofNat 32 (ilim % 1024 + vmin % 1024 * 2 ^ 16 + 2 ^ 26)

/-- W4's threshold for a current: 1.25 I + 1.0 A, at most 8.0 A (Table 7.5). -/
def valleyFor (i : Nat) : BitVec 10 := BitVec.ofNat 10 (min 896 (i + 336))

/-- W0's upper threshold on a sink berth, in mV (R186). -/
def sinkOvFor (v : Nat) : Nat := min 58000 (12 * v + 500)

/-- The settings of standby without a contract at an Rp level, the regulator in a mode (R69, R192, Table 7.5). -/
def restSettings (b : Berth) (m : Nat) (amps : Nat) : List StageOp :=
  [.vref (setFld b.stg.regVref 24 2 m), .hold (holdWord (11 * amps / 10) 80),
   .pathLimit (setFld b.stg.pathLimit 0 10 (limitFor amps)), .cbThr (crowbarFor 500), .w4Hi (valleyFor amps), .pathStage 0]

/-- The settings of a source contract (R192, R228, R231). 1.10 × the current and 0.90 × the voltage are rounded down to the steps of
HOLD_ILIM and HOLD_VMIN, and down to 50 mV (DESIGN CHOICE, log entry 85). -/
def sourceSettings (b : Berth) (c : Contract) : List StageOp :=
  let top := if c.apdo then pdoAmps c.pdo c.volt else c.curr
  let hold := if c.pps then holdWord c.curr ((pdoRange c.pdo).1 / 5) else holdWord (11 * c.curr / 10) (9 * c.volt / 50)
  [.vref (BitVec.ofNat 32 (c.volt * 10 / 4) ||| (b.stg.regVref &&& 0x1F0000#32) ||| 0x2000000#32), .hold hold,
   .pathLimit (setFld b.stg.pathLimit 0 10 (limitFor top)), .cbThr (crowbarFor c.volt), .w4Hi (valleyFor top), .pathStage 0]

/-- The settings of a sink contract: the limit of the operating current and the path closed (R186, R192). -/
def sinkSettings (b : Berth) (amps ov : Nat) (close : Bool) : List StageOp :=
  [.snkLimit (setFld b.stg.snkLimit 0 10 (limitFor amps)), .pathStage (if close then 4 else 0), .w0Hi ov]

/-- The role byte of a SWAP event and of BERTH_REQUEST_SWAP's response (Table 11.14). -/
def roleByte (src dfp vc : Bool) : Nat := flag src 0 + flag dfp 1 + flag vc 2

/-- The SWAP event of a sequence that ended with the roles given. -/
def swapEvent (b : Berth) (kind : Nat) (src dfp vc : Bool) : EvBody :=
  .swap kind .ok (if kind = 3 then 2 else if b.pol.swapByHost then 1 else 0) (roleByte src dfp vc) 0

/-! ### Waits and decisions (R128–R131) -/

/-- The index of a WAIT_COUNT (R131). -/
def waitIdx : AmsKind → Option (Fin 4)
  | .request => some 0 | .prSwap => some 1 | .drSwap => some 2 | .vconnSwap => some 3 | .modeEntry => none

/-- WAIT_COUNT of a kind clears when Accept or Reject is sent for it. -/
def clearWaits (b : Berth) (k : AmsKind) : Berth := match waitIdx k with
  | some i => { b with pol.waits := b.pol.waits.set i 0 }
  | none => b

/-- The event of a kind with status E_WAIT_LIMIT (R131). -/
def waitLimitEvent (b : Berth) (k : AmsKind) : EvBody := match k with
  | .request => match b.pol.want with
    | some c => .contract 2 .waitLimit (contractFlags c b.rev3) c.pos c.volt c.curr c.rdo c.pdo
    | none => .contract 2 .waitLimit (flag b.rev3 4 + 1) 0 0 0 0 0
  | _ => .swap (kindNo k - 1) .waitLimit 0 (roleByte b.id.powerSource b.id.dataDfp b.id.vconnSrc) 0

/-- Wait for a kind is the outcome: Wait while WAIT_COUNT is below WAIT_LIMIT, else Reject with the event (R131). -/
def waitOr (b : Berth) (e : Env) (k : AmsKind) (evs : List EvBody) : Nat × List EvBody × Berth := match waitIdx k with
  | none => (ctlWait, evs, b)
  | some i =>
    if b.pol.waits[i] = e.tbl.waitLimit then (ctlReject, evs ++ [b.waitLimitEvent k], b.clearWaits k)
    else (ctlWait, evs, { b with pol.waits := b.pol.waits.set i (b.pol.waits[i] + 1) })

/-- Open a decision window for a message confirmed at stamp `t` (R128). -/
def openWindow (b : Berth) (e : Env) (k : AmsKind) (c : BitVec 64) (t : Stamp) : EvBody × Berth :=
  let ends := t + ms e.tbl.decWindow
  (.decision e.nextId k (ceilDiv ends tideLen) c,
   { b with pol.windows := b.pol.windows ++ [{ id := e.nextId, kind := k, content := c, ends := ends, rejects := undecidedRejects e k }]
            pol.oldIds := b.pol.oldIds.filter (fun x => x.1 ≠ e.nextId), pol.tookId := true })

/-- Answer a message whose action is defer: Wait and, when no window for it is open, a DECISION event (R128, R130). -/
def defer (b : Berth) (e : Env) (k : AmsKind) (c : BitVec 64) (t : Stamp) : Berth :=
  let r := if (b.windowFor k c).isSome then ([], b) else let w := b.openWindow e k c t; ([w.1], w.2)
  let w := r.2.waitOr e k r.1
  if w.1 = ctlWait then w.2.2.answer ctlWait true w.2.1
  else { w.2.2 with pol.windows := b.pol.windows, pol.tookId := false }.answer ctlReject true [b.waitLimitEvent k]

/-! ### Requests (R125–R127) -/

/-- A Request or EPR_Request is confirmed at stamp `t` on a source berth (R125). -/
def judgeRequest (b : Berth) (e : Env) (t : Stamp) (r : Word) (copy : Option Word) : Berth :=
  let b := { b with pol.ask := none }
  if !b.requestValid r copy then
    ((b.lapseOther .request (reqContent r 0)).clearWaits .request).answer ctlReject true
      [.contract 1 .ok (flag b.rev3 4 + 1) (rdoPos r) 0 0 r 0]
  else
    let p := (b.pdoAt r).getD 0
    let c := reqContent r p
    let want := b.contractOf p r true
    let rec_ := b.requestRecord p r copy.isSome
    let b := { b.lapseOther .request c with pol.want := some want }
    let action : Nat := match b.storedFor .request c t with
      | some true => 0
      | some false => 1
      | none => match b.acceptRule e (rdoPos r) (rec_.volt * rec_.curr) with
        | some x => x.action
        | none => 0
    let action := if (b.windowFor .request c).isSome && (b.storedFor .request c t).isNone then 2 else action
    if action = 1 then
      { (b.clearWaits .request) with pol.want := none }.answer ctlReject true
        [.contract 1 .ok (contractFlags want b.rev3) want.pos want.volt want.curr r p]
    else if action = 2 then b.defer e .request c t
    else
      { b with pol.request := some rec_ }.will
        { kind := kRx, arg := some b.id.tokenRx.word, mask := 0x40, post := some rec_, amsOpen := true }

/-- The grant has decided the outstanding Request (R126, R131): Accept with the outcome check, or Wait. The Accept of an APDO Request
starts no tSrcTransition (R84, R224). -/
def decided (b : Berth) (e : Env) (granted : Bool) : Berth :=
  let b := { b with pol.request := none, pol.takenSeq := some (BitVec.ofNat 16 (fld b.id.grantRec 16 16)) }
  if granted then
    (b.clearWaits .request).will
      { tx := some (mkTx .sop (if b.pol.want.any (fun (c : Contract) => c.apdo) then 0 else tmrTransition) ctlAccept []), kind := kGrant
        outcome := some true, mask := 1 }
  else
    let w := b.waitOr e .request []
    w.2.2.will { tx := some (mkTx .sop 0 w.1 []), kind := kGrant, outcome := some false
                 mask := if w.2.1 = [] then 1 else 0x41, events := w.2.1, amsClose := true }

/-- The commit of the new voltage of an accepted source contract, with the Accept's TOKEN_TX, and PS_RDY once WIN_COUNT
has reached 4 (R224). -/
def startTransition (b : Berth) (c : Contract) : Berth :=
  (b.will { kind := kTx, arg := some b.id.tokenTx.word, mask := 0x0E, stage := b.sourceSettings c }).will
    { tx := some (mkTx .sop 0 ctlPsRdy []), kind := kTx, mask := 1, amsClose := true, needWin := true }

/-- The berth publishes a contract (R97 bit 7): TEL and the CONTRACT event, with a token kind. -/
def publish (b : Berth) (c : Contract) (k : BitVec 2) (close : Bool) (mask : BitVec 8 := 0) (st : List StageOp := []) : Berth :=
  b.will { kind := k, mask := 0xC0 ||| mask, stage := st, tel := { contract := some c }
           events := [.contract 0 .ok (contractFlags c b.rev3) c.pos c.volt c.curr c.rdo c.pdo], amsClose := close }

/-! ### Extended messages (R91, R92, R135) -/

/-- Send an extended message: its first chunk; later chunks follow each Chunk Request (R91). -/
def sendExtended (b : Berth) (k : SopKind) (ty : Nat) (data : List Byte) (i : Intent) (timer : Nat) : Berth :=
  let more := 26 < data.length
  let job : ChunkTx := { type_ := ty, sop := k, data := data, due := 1, timer := timer, close := i.amsClose }
  let b := { b with pol.chunkTx := if more then some job else none }
  b.will { i with tx := some (mkChunk k (if more then tmrChunkRequest else timer) ty 0 data.length false (data.take 26))
                  mask := i.mask ||| 1, amsClose := i.amsClose && !more }

/-- The chunk that the partner's Chunk Request asks for; the last one closes the AMS where the message does (R91, R102). -/
def nextChunk (b : Berth) : Berth := match b.pol.chunkTx with
  | none => b
  | some c =>
    let part := (c.data.drop (26 * c.due)).take 26
    let more := 26 * (c.due + 1) < c.data.length
    let b := { b with pol.chunkTx := if more then some { c with due := c.due + 1 } else none }
    b.will { tx := some (mkChunk c.sop (if more then tmrChunkRequest else c.timer) c.type_ c.due c.data.length false part)
             kind := kRx, arg := some b.id.tokenRx.word, mask := 1, amsClose := c.close && !more }

/-- Capabilities are written with a token kind: Source_Capabilities, or EPR_Source_Capabilities in EPR mode (R135). -/
def sendCaps (b : Berth) (e : Env) (k : BitVec 2) (init : Bool) : Berth :=
  let caps := b.capabilities e
  let b := { b with pol.sentCaps := caps, pol.sentOffer := b.pol.offer, pol.capsDue := false }
  let i : Intent := { kind := k, mask := 1, amsOpen := true, amsInit := init, waitAms := init }
  if b.id.eprMode then b.sendExtended .sop extSourceCaps (wordBytes caps) i tmrSender
  else b.will { i with tx := some (mkTx .sop tmrSender dataSourceCaps (caps.take 7)) }

/-- The Sink_Capabilities PDOs of the sink templates (R136); fixed ones only for a Revision 2.0 partner (R12). -/
def sinkCaps (b : Berth) (e : Env) (epr : Bool) : List Word :=
  let one (x : Template) : Word := match x.kind with
    | 1 => pdoPps x.vlo x.vhi x.imax
    | 2 => pdoSprAvs (5 * x.imax) (if x.vhi = 1500 then 0 else 5 * x.imax)
    | 4 => pdoEprAvs x.vlo x.vhi (min 240 (e.tbl.pmax / 10))
    | _ => pdoFixed x.vlo (5 * x.imax)
  let spr := (e.tbl.snk.filter (fun x => !x.isEpr && (b.id.partnerRev ≠ 1 || x.kind = 0))).map one
  if epr then spr ++ List.replicate (7 - spr.length) 0 ++ (e.tbl.snk.filter (·.isEpr)).map one else spr

/-- The answer to Get_Sink_Cap (R136). A table with no SPR sink template answers Not_Supported (DESIGN CHOICE, log entry 85). -/
def answerSinkCap (b : Berth) (e : Env) : Berth :=
  let l := b.sinkCaps e false
  if l = [] then b.notSupported
  else b.will { tx := some (mkTx .sop 0 dataSinkCaps (l.take 7)), kind := kRx, arg := some b.id.tokenRx.word, mask := 1
                amsOpen := true, amsClose := true }

/-- PPS_Status (R224, Table 7.4): output voltage, output current, and current-limit operation while HOLD is latched. -/
def answerPpsStatus (b : Berth) : Berth := match b.id.contract with
  | some c =>
    if c.source && c.pps then
      let data := leBytes 2 (b.adc.vbr / 20) ++ leBytes 1 ((BitVec.ofInt 16 b.adc.ipath).toNat % 32768 / 50)
        ++ leBytes 1 (flag (b.lat.regStatus.getLsbD 9) 3)
      b.sendExtended .sop extPpsStatus data
        { kind := kRx, arg := some b.id.tokenRx.word, amsOpen := true, amsClose := true } 0
    else b.notSupported
  | none => b.notSupported

/-! ### Swaps (R152–R163) -/

/-- The AMS kind of a swap kind of Table 4.5. -/
def swapAms (kind : Nat) : AmsKind := if kind = 0 then .prSwap else if kind = 1 then .drSwap else .vconnSwap

/-- The message type of a swap kind. -/
def swapType (kind : Nat) : Nat :=
  if kind = 0 then ctlPrSwap else if kind = 1 then ctlDrSwap else if kind = 2 then ctlVconnSwap else ctlFrSwap

/-- The rows of Table 5.1 for a kind: not permitted. -/
def swapBarred (b : Berth) (e : Env) (kind : Nat) : Bool :=
  match kind with
  | 0 => b.role ≠ 2 || b.id.eprMode ||
      (!b.id.powerSource && b.gmin e < ceilDiv (5 * rpAmps b.cc.rp.toNat) 10)
  | 1 => b.mux.modeActive
  | _ => !b.id.vconnSrc && b.cc.vconnLatch

/-- The cable in the receptacle is active (R122). -/
def activeCable (b : Berth) : Bool := b.pol.cable.any (fun (c : Cable) => c.active)

/-- A swap of a kind would remove VCONN from an active cable while a mode is active (R176). -/
def swapNeedsExit (b : Berth) (kind : Nat) : Bool :=
  b.pol.modeNow.isSome && b.activeCable && ((kind = 0 && b.id.powerSource && b.cc.vconnOn) || (kind = 2 && b.id.vconnSrc))

/-- Send a structured VDM request (R172, R175); it is kept for a resend. To a Revision 2.0 partner it carries version 1.0 (R12). -/
def sendVdm (b : Berth) (k : SopKind) (h : Word) (extra : List Word := []) (i : Intent := {}) : Berth :=
  let h := if k = .sop && b.id.partnerRev = 1 then setFld h 13 2 0 else h
  { b with pol.vdmSent := some { sop := k, objs := h :: extra } }.will
    { i with tx := some (mkTx k 0 dataVdm (h :: extra)), kind := kGrant, mask := i.mask ||| 1, amsOpen := true, amsInit := true
             waitAms := true }

/-- A structured VDM header (R10; PRESUMED, log entry 15): SVID, object position, command type, command. -/
def vdmHdr (svid : BitVec 16) (pos ty cmd : Nat) : Word :=
  BitVec.ofNat 32 (svid.toNat * 2 ^ 16 + 2 ^ 15 + 2 ^ 13 + pos % 8 * 2 ^ 8 + ty % 4 * 2 ^ 6 + cmd % 32)

/-- Exit the active mode (R176): USB-safe at the boundary of the Exit Mode commit. -/
def exitMode (b : Berth) : Berth := match b.pol.modeNow with
  | none => b
  | some (svid, pos) =>
    if b.pol.exiting then b else { b with pol.exiting := true }.sendVdm .sop (vdmHdr svid pos 0 5) [] { safe := [.usbSafe] }

/-- A partner's swap that R176 puts off: Wait, and the mode is exited (DESIGN CHOICE, log entry 86). -/
def putOff (b : Berth) (e : Env) (k : AmsKind) : Berth :=
  let w := b.waitOr e k []
  let b := w.2.2.answer w.1 true w.2.1
  if w.1 = ctlWait then b.exitMode else b

/-- A swap message is confirmed at stamp `t` (R152, R153). One that crosses the berth's own swap is unexpected: Soft_Reset, and the
berth's command is superseded (R164). -/
def judgeSwap (b : Berth) (e : Env) (t : Stamp) (kind : Nat) (phase : Phase) : Berth :=
  let k := swapAms kind
  let crosses := match b.pol.ask with
    | some (.swap _) => true
    | _ => false
  if b.id.contract.isNone then b
  else if phase ≠ .idle then (b.clearWaits k).answer ctlReject true
  else if crosses then ({ b with pol.ask := none }.finishCmd .superseded).softResetDue
  else if kind = 1 && b.mux.modeActive then { b with pol.hrDue := true }
  else if b.swapBarred e kind then (b.clearWaits k).answer ctlReject true
  else
    let byRule := match b.swapRule e kind 0 with
      | some r => r.action
      | none => if defaultRejects e (kind + 1) then 1 else 0
    let action : Nat := match b.storedFor k 0 t with
      | some true => 0
      | some false => 1
      | none => if (b.windowFor k 0).isSome then 2 else byRule
    let b := { b with pol.swapByHost := false }
    if action = 0 then (if b.swapNeedsExit kind then b.putOff e k else (b.clearWaits k).answer ctlAccept false)
    else if action = 2 then b.defer e k 0 t
    else if action = 3 then (if b.id.partnerRev = 1 then b.clearWaits k else b).notSupported
    else (b.clearWaits k).answer ctlReject true

/-- A DR_Swap's Accept is confirmed: the new data role with TEL and the token (R162). -/
def drSwapDone (b : Berth) (k : BitVec 2) : Berth :=
  let dfp := !b.id.dataDfp
  b.will { kind := k, mask := 0xC0, tel := { dfp := some dfp }, phyCfg := some (setFld b.phy.cfg 3 1 (if dfp then 1 else 0))
           events := [b.swapEvent 1 b.id.powerSource dfp b.id.vconnSrc], amsClose := true }

/-- tSrcTransition of a PR_Swap has elapsed (Table 5.4, steps 2 and 3). -/
def prSourceOff (b : Berth) : Berth :=
  (b.will { safe := [.srcOpen, .regStandby, .disOn] }).will
    { tx := some (mkTx .sop 0 ctlPsRdy []), kind := kLive, mask := 1, safe := [.swapToRd]
      phyCfg := some (setFld b.phy.cfg 2 1 0), needSafe0 := true }

/-- The partner's PS_RDY ends a PR_Swap that made the berth sink (Table 5.4, step 5): the sink path closes with its TOKEN_RX under
policy, then TEL publishes the role. -/
def prNowSink (b : Berth) (e : Env) : Berth :=
  let amps := if e.tbl.snk = [] then 0 else b.partnerAmps
  let b := if amps = 0 then b else
    b.will { kind := kRx, arg := some b.id.tokenRx.word, mask := 0x0C, stage := b.sinkSettings amps (sinkOvFor 500) true }
  b.will { kind := kLive, mask := 0xC0, tel := { source := some false, endContract := true }
           events := [b.swapEvent 0 false b.id.dataDfp b.id.vconnSrc], amsClose := true }

/-- The Accept of a PR_Swap is confirmed on a sink berth (Table 5.5, step 2): the sink path opens, and a REG commit with the Accept's
token brings the regulator to standby. -/
def prSinkOff (b : Berth) (k : BitVec 2) : Berth :=
  let st := b.restSettings 1 (rpAmps b.cc.rpLevel.toNat)
  (b.will { safe := [.snkOpen], kind := k, mask := 0x02, stage := st
            arg := some (if k = kTx then b.id.tokenTx.word else b.id.tokenRx.word) }).will { kind := kLive, mask := 0x08, stage := st }

/-- The partner's PS_RDY of a PR_Swap is confirmed on a sink berth (Table 5.5, steps 3 and 4). -/
def prSourceOn (b : Berth) : Berth :=
  (b.will { kind := kRx, arg := some b.id.tokenRx.word, mask := 0x04, safe := [.swapToRp]
            stage := [.pathLimit (setFld b.stg.pathLimit 0 10 (limitFor (rpAmps b.cc.rpLevel.toNat))), .pathStage 1]
            phyCfg := some (setFld b.phy.cfg 2 1 1) }).will
    { tx := some (mkTx .sop 0 ctlPsRdy []), kind := kLive, mask := 1, needSafe5 := true }

/-- A swap that made the berth source has ended at stamp `t` (Table 5.5 steps 5 and 6, R168): the role with TEL, and
Source_Capabilities after tSwapSourceStart. -/
def nowSource (b : Berth) (t : Stamp) (kind : Nat) : Berth :=
  { b.will { kind := kTx, arg := some b.id.tokenTx.word, mask := 0xC0, tel := { source := some true, endContract := true }
             events := [b.swapEvent kind true b.id.dataDfp b.id.vconnSrc], amsClose := true } with
    tm.swapStart := some (t + ms 25) }

/-- The Accept of a VCONN_Swap is confirmed on a berth that is not VCONN source (Table 5.6, steps 2a and 3a). -/
def vconnTake (b : Berth) : Berth :=
  (b.will { safe := [.vconnOn] }).will { tx := some (mkTx .sop 0 ctlPsRdy []), kind := kLive, mask := 1 }

/-- VCONN_SRC is published (Table 5.6, steps 3a and 2b). -/
def vconnDone (b : Berth) (mine : Bool) : Berth :=
  let cfg := if mine then b.phy.cfg else setFld b.phy.cfg 0 2 0
  let b := b.will { kind := kLive, mask := 0xC0, tel := { vconnSrc := some mine }, safe := if mine then [] else [.vconnOff]
                    phyCfg := some cfg, events := [b.swapEvent 2 b.id.powerSource b.id.dataDfp mine], amsClose := true }
  b

/-! ### EPR (R132–R137) -/

/-- An EPR_Mode message: action and data. -/
def eprMode (timer action data : Nat) : Word × List Byte :=
  mkTx .sop timer dataEprMode [BitVec.ofNat 32 (data * 2 ^ 16 + action * 2 ^ 24)]

/-- The reason EPR_Mode (Enter) fails (R132), in the codes of the PD standard; none when all conditions hold. -/
def eprRefusal (b : Berth) (e : Env) : Option Nat :=
  let rdoEpr := match b.id.contract with
    | some c => c.rdo.getLsbD 22
    | none => false
  if !(e.tbl.flags.getLsbD 0 && e.epr) then some 5
  else if !rdoEpr then some 3
  else if !b.id.vconnSrc then some 2
  else if !(e.tbl.src.any (·.isEpr) && 28300 ≤ b.pol.vmax) then some 4
  else none

/-- Discover Identity to the cable (R122, R133), with a token kind. -/
def askCable (b : Berth) (k : BitVec 2) (open_ : Bool) : Berth :=
  b.will
    { tx := some (mkTx .sopP 0 dataVdm [0xFF00A001#32]), kind := k, mask := 1, amsOpen := open_, amsInit := open_
      waitAms := open_, phyCfg := some (setFld b.phy.cfg 0 1 1) }

/-- The berth leaves EPR mode with EPR_Mode (Exit) (R137). -/
def eprExit (b : Berth) : Berth :=
  if b.id.eprMode then
    b.will { tx := some (eprMode 0 5 0), kind := kGrant, mask := 0x81, tel := { epr := some false }, amsOpen := true
             amsInit := true, amsClose := true, waitAms := true }
  else b

/-- A sink berth may enter EPR mode (R7, R136): SINK_EPR_EN, the member, and a sink template of an EPR kind. -/
def sinkEprAllowed (e : Env) : Bool := e.tbl.flags.getLsbD 1 && e.epr && e.tbl.snk.any (fun (x : Template) => x.isEpr)

/-- EPR_Mode is received at stamp `t` (R132, R133, R136, R137): action, on a source or a sink berth. An answer that was not asked for
is a protocol error (R14). -/
def judgeEprMode (b : Berth) (e : Env) (t : Stamp) (o : Word) : Berth := match fld o 24 8 with
  | 1 =>
    if !b.id.powerSource then b.protocolError t
    else match b.eprRefusal e with
    | some why => b.will { tx := some (eprMode 0 4 why), kind := kRx, arg := some b.id.tokenRx.word, mask := 1
                           amsOpen := true, amsClose := true }
    | none => { b with pol.eprEntry := 1 }.will { tx := some (eprMode 0 2 0), kind := kRx, arg := some b.id.tokenRx.word
                                                  mask := 1, amsOpen := true }
  | 2 => if b.pol.ask = some .eprEnter then { b with pol.ask := some .eprSucceeded } else b.protocolError t
  | 3 =>
    if b.pol.ask = some .eprSucceeded && sinkEprAllowed e then
      { b with pol.ask := none }.will { kind := kRx, arg := some b.id.tokenRx.word, mask := 0x80, tel := { epr := some true }, amsClose := true }
    else b.protocolError t
  | 4 =>
    if b.pol.ask = some .eprEnter || b.pol.ask = some .eprSucceeded then { b with pol.ask := none }.closeIt else b.protocolError t
  | 5 =>
    let b := b.will { kind := kRx, arg := some b.id.tokenRx.word, mask := 0x80, tel := { epr := some false } }
    { b with pol.capsDue := b.pol.capsDue || b.id.powerSource }
  | _ => b

/-- Enter Succeeded is confirmed: EPR_MODE with TEL, and EPR_Source_Capabilities in the AMS that is open (R133, Table 4.7 step 7). -/
def eprEntered (b : Berth) (e : Env) : Berth :=
  let caps := { b with id.eprMode := true }.capabilities e
  { b with pol.eprEntry := 0, pol.sentCaps := caps, pol.sentOffer := b.pol.offer, pol.capsDue := false }.sendExtended .sop extSourceCaps
    (wordBytes caps) { kind := kTx, arg := some b.id.tokenTx.word, mask := 0x81, tel := { epr := some true } } tmrSender

/-! ### Structured VDMs (R172–R177) -/

/-- SVIDs that some mode rule names with an action other than 0x4 (R172). -/
def wantedSvids (b : Berth) (e : Env) : List (BitVec 16) :=
  b.pol.svids.filter (fun s => e.tbl.mode.any (fun r => r.svid = s && r.action ≠ 4))

/-- Discovery starts, after a contract was published or the berth became DFP: Discover Identity on SOP (R172). -/
def discover (b : Berth) (e : Env) : Berth :=
  if b.pol.discDue && b.id.dataDfp && e.tbl.mode ≠ [] && b.id.contract.isSome && (b.pol.discStep = 0 || b.pol.discStep = 200) then
    { b with pol.discDue := false, pol.discStep := 1, pol.svids := [], pol.modes := [] }.sendVdm .sop (vdmHdr 0xFF00#16 0 0 1)
  else b

/-- The rule that R173 selects among what was discovered. The modes of an SVID that only rules of action 0x4 name are not asked for
(R172), so such a rule with MODE 0 goes by the SVID. -/
def modeChoice (b : Berth) (e : Env) (f : ModeRule → Bool) : Option ModeRule :=
  e.tbl.mode.find? (fun r => f r && (if r.mode ≠ 0 then b.pol.modes.contains (r.svid, r.mode)
                                     else if r.action = 4 then b.pol.svids.contains r.svid
                                     else b.pol.modes.any (fun m => m.1 = r.svid)))

/-- The rule that governs a mode of a table: the first that names it (R173, R176). -/
def ruleFor (e : Env) (svid : BitVec 16) (pos : Nat) : Option ModeRule :=
  e.tbl.mode.find? (fun r => r.svid = svid && (r.mode = 0 || r.mode = pos))

/-- Send Enter Mode of a rule, with its output codes staged (R173, R174); an active cable is entered first. -/
def enterMode (b : Berth) (r : ModeRule) : Berth :=
  let pos := if r.mode = 0 then 1 else r.mode
  let st : List StageOp := [.mux (BitVec.ofNat 32 (r.sbu.toNat + r.mux.toNat * 4 + 32))]
  let b := { b with pol.modeTry := some { r with mode := pos }, pol.vdmTries := 0 }
  b.sendVdm (if b.activeCable then .sopP else .sop) (vdmHdr r.svid pos 0 4) [] { stage := st }

/-- Discovery is complete: the MODE event, and the entry the first rule calls for (R172, R173). -/
def discovered (b : Berth) (e : Env) (t : Stamp) : Berth :=
  let n := max 1 (ceilDiv b.pol.svids.length 64)
  let evs : List EvBody := (List.range n).map (fun (i : Nat) =>
    let l := (b.pol.svids.drop (64 * i)).take 64
    .mode 0 0 0 0 l.length 0 0 (l.map (·.toNat)))
  let b := { b with pol.discStep := 200 }.will { kind := kLive, mask := 0x40, events := evs, amsClose := true }
  match b.modeChoice e (fun _ => true) with
  | none => b
  | some r =>
    if b.mux.modeActive || !b.id.dataDfp then b
    else if r.action = 1 then b.enterMode r
    else if r.action = 3 then
      let c : BitVec 64 := BitVec.ofNat 64 (r.svid.toNat + (if r.mode = 0 then 1 else r.mode) * 2 ^ 16)
      let w := (b.lapseOther .modeEntry c).openWindow e .modeEntry c t
      w.2.will { kind := kLive, mask := 0x40, events := [w.1] }
    else b

/-- The next step of discovery (R172): step 1 identity, 2 SVIDs, then one per SVID that a rule names. -/
def nextDiscovery (b : Berth) (e : Env) (t : Stamp) : Berth :=
  if !b.id.dataDfp then { b with pol.discStep := 0 }
  else if b.pol.discStep = 1 then { b with pol.discStep := 2 }.sendVdm .sop (vdmHdr 0xFF00#16 0 0 2)
  else match (b.wantedSvids e)[b.pol.discStep - 2]? with
    | some s => { b with pol.discStep := b.pol.discStep + 1 }.sendVdm .sop (vdmHdr s 0 0 3)
    | none => b.discovered e t

/-- The SVIDs that the VDOs of a Discover SVIDs ACK list. -/
def svidsOf (l : List Word) : List (BitVec 16) :=
  (l.flatMap (fun w => [BitVec.ofNat 16 (fld w 16 16), BitVec.ofNat 16 (fld w 0 16)])).filter (· ≠ 0)

/-- The identity on a cable's ACK (Table 4.5a); the places of the bits are those of the PD standard (log entry 15). -/
def cableOf (objs : List Word) : Option Cable := match objs[1]?, objs[4]? with
  | some ih, some v =>
    if fld ih 27 3 = 3 || fld ih 27 3 = 4 then
      some { amps5 := fld v 5 2 = 2, epr := v.getLsbD 17, active := fld ih 27 3 = 4, second := fld ih 27 3 = 4 && v.getLsbD 3
             maxV := match fld v 9 2 with
               | 0 => 20
               | 1 => 30
               | 2 => 40
               | _ => 50 }
    else none
  | _, _ => none

/-- Enter Mode is acknowledged: the outputs with the ACK's TOKEN_RX, MODE_ACTIVE and the MODE event (R174). -/
def modeEntered (b : Berth) (r : ModeRule) : Berth :=
  let st : List StageOp := [.mux (BitVec.ofNat 32 (r.sbu.toNat + r.mux.toNat * 4 + 32))]
  let b := b.will { kind := kRx, arg := some b.id.tokenRx.word, mask := 0x60, stage := st, amsClose := true
                    events := [.mode 1 0 r.svid.toNat r.mode 0 r.sbu.toNat r.mux.toNat []] }
  { b with pol.modeNow := some (r.svid, r.mode), pol.modeTry := none }

end Berth

end Sys2Proof.Machine
end

