-- ==== Sys2Proof/Machine/BerthProgram.lean ====
section
/-!
DEFINITION. BP 4.0 at work on one berth: what it does at each confirmed message, at each confirmation or failure of its
own transmissions, at the timers it runs, and in each Tide, where it writes the next intention as a COMMIT (R82, R91,
R92, R102, R122–R137, R145, R148, R152–R177, R186, R221, R224, R230, R236).
-/

namespace Sys2Proof.Machine

namespace Berth

/-! ### Host messages (R320) -/

/-- The response body of BERTH_SEND_MESSAGE (Table 11.9). -/
def answerBody (hdr : BitVec 16) (data : List Byte) : List Byte := leBytes 2 hdr.toNat ++ leBytes 2 data.length ++ data

/-- The command in progress is a host message that awaits a response. -/
def hostAwaits (b : Berth) : Bool := b.pol.ask = some .host

/-- The partner's response completes a host message (Table 11.9). -/
def hostAnswer (b : Berth) (st : Status) (hdr : BitVec 16) (data : List Byte) : Berth :=
  { b with pol.ask := none }.finishCmd st (answerBody hdr data)

/-! ### Control messages on SOP -/

/-- Accept is confirmed on a berth that had asked for something. -/
def onAccept (b : Berth) (t : Stamp) (phase : Phase) : Berth := match b.pol.ask with
  | some .softReset => { b with pol.ask := none, pol.capsDue := b.pol.capsDue || b.id.powerSource }
  | some .request =>
    let top := max (match b.id.contract with
      | some c => (pdoRange c.pdo).2
      | none => 500) (match b.pol.want with
      | some c => (pdoRange c.pdo).2
      | none => 500)
    { b with pol.ask := none, pol.trans := b.pol.want, pol.want := none }.will
      { kind := kRx, arg := some b.id.tokenRx.word, mask := 0x08, stage := [.w0Hi (sinkOvFor top)] }
  | some (.swap 1) => { b with pol.ask := none }.drSwapDone kRx
  | some (.swap k) =>
    let b := { b with pol.ask := none }
    if phase = .frsSourcing || phase = .frsDetected then b
    else if k = 0 then (if b.mux.phase = .prSnkWait then b.prSinkOff kRx else b)
    else if b.mux.phase = .vcOn then b.vconnTake else b
  | _ => b.protocolError t

/-- A VDM request of BP 4.0 ends without ACK (R172, R175, R176): an exit and an entry that failed raise MODE; discovery goes on. -/
def vdmEnded (b : Berth) (e : Env) (t : Stamp) (st : Status) (sop : Nat := 0) : Berth :=
  let b := { b with pol.ask := none, pol.vdmSent := none, tm.vdm := none, tm.vdmBusy := none, pol.vdmTries := 0 }
  if b.pol.exiting then
    let m := b.pol.modeNow.getD (0, 0)
    ({ b with pol.modeNow := none, pol.exiting := false }.finishCmd st).will
      { kind := kLive, mask := 0x40, amsClose := true, events := [.mode 3 0 m.1.toNat m.2 0 0 0 []] }
  else match b.pol.modeTry with
    | some r => ({ b with pol.modeTry := none }.finishCmd st).will
        { kind := kLive, mask := 0x40, amsClose := true, events := [.mode 5 sop r.svid.toNat r.mode 0 0 0 []] }
    | none =>
      let b := b.closeIt
      if b.pol.discStep = 0 || 100 ≤ b.pol.discStep then b
      else if b.pol.discStep = 2 then b.discovered e t else b.nextDiscovery e t

/-- Reject or Not_Supported is confirmed. An unasked Reject is unexpected (R14); an unasked Not_Supported is ignored, as the PD standard
has it (log entry 85). -/
def onRefusal (b : Berth) (e : Env) (t : Stamp) (hdr : BitVec 16) : Berth := match b.pol.ask with
  | some .host => (b.hostAnswer .partnerReject hdr []).closeIt
  | some (.swap 3) => b.swapFail t .superseded
  | some (.swap _) => ({ b with pol.ask := none }.finishCmd .partnerReject).closeIt
  | some .request => { b with pol.ask := none, pol.want := none }.closeIt
  | some .sinkCap => { b with pol.ask := none, pol.partnerFrs := 0 }.closeIt
  | some .vdm => b.vdmEnded e t .partnerReject
  | some _ => { b with pol.ask := none }.closeIt
  | none => if isCtl hdr ctlReject then b.protocolError t else b

/-- Wait is confirmed at stamp `t` (R155 for a swap; the sink asks again after tSinkRequest, 100 ms). -/
def onWait (b : Berth) (t : Stamp) (hdr : BitVec 16) : Berth := match b.pol.ask with
  | some (.swap k) =>
    let tries := match b.pol.cur with
      | some c => c.tries + 1
      | none => 1
    let b := { b with pol.ask := none }.closeIt
    if 4 ≤ tries then
      (b.finishCmd .partnerReject).will { kind := kLive, mask := 0x40,
                                          events := [.swap k .partnerReject 1 (roleByte b.id.powerSource b.id.dataDfp b.id.vconnSrc) 1] }
    else { b with pol.cur := b.pol.cur.map (fun (c : FifoCmd) => { c with tries := tries }), tm.swapRetry := some (t + ms 100) }
  | some .request =>
    let b := { b with pol.ask := none }.closeIt
    match b.pol.want with
    | some c => b.will { tx := some (if b.id.eprMode then mkTx .sop tmrSender dataEprRequest [c.rdo, c.pdo]
                                     else mkTx .sop tmrSender dataRequest [c.rdo])
                         kind := kGrant, mask := 1, amsOpen := true, amsInit := true, waitAms := true, after := t + ms 100 }
    | none => b
  | some .host => (b.hostAnswer .partnerReject hdr []).closeIt
  | some _ => { b with pol.ask := none }.closeIt
  | none => b.protocolError t

/-- PS_RDY is confirmed; `phase` is the phase before it. -/
def onPsRdy (b : Berth) (e : Env) (t : Stamp) (phase : Phase) : Berth := match phase with
  | .prSrcWait => b.prNowSink e
  | .prSnkWait => b.prSourceOn
  | .vcWait =>
    let b := b.vconnDone false
    if b.id.eprMode && b.id.powerSource then b.eprExit else b
  | .frsSourcing =>
    b.will { tx := some (mkTx .sop 0 ctlPsRdy []), kind := kRx, arg := some b.id.tokenRx.word, mask := 1, safe := [.swapToRp]
             phyCfg := some (setFld b.phy.cfg 2 1 1), amsClose := true }
  | _ => match b.pol.trans with
    | some c =>
      if c.source then b.protocolError t
      else { b with pol.trans := none }.publish c kRx true 0x0C (b.sinkSettings c.curr (sinkOvFor (pdoRange c.pdo).2) false)
    | none => b.protocolError t

/-- A control message is confirmed on SOP at stamp `t`. -/
def onControl (b : Berth) (e : Env) (t : Stamp) (phase : Phase) (hdr : BitVec 16) : Berth := match hdrType hdr with
  | 1 => b
  | 2 => b
  | 3 => b.onAccept t phase
  | 4 => b.onRefusal e t hdr
  | 5 => b
  | 6 => b.onPsRdy e t phase
  | 7 => if b.role = 1 then b.notSupported else b.sendCaps e kRx false
  | 8 => b.answerSinkCap e
  | 9 => b.judgeSwap e t 1 phase
  | 10 => b.judgeSwap e t 0 phase
  | 11 => b.judgeSwap e t 2 phase
  | 12 => b.onWait t hdr
  | 13 => { b.answer ctlAccept true with pol.capsDue := b.pol.capsDue || b.id.powerSource }
  | 16 => b.onRefusal e t hdr
  | 19 => b.protocolError t
  | 20 => b.answerPpsStatus
  | _ => b.notSupported

/-! ### Data messages on SOP -/

/-- Source_Capabilities are confirmed on a sink berth: its Request (R119, R136). -/
def onPartnerCaps (b : Berth) (e : Env) (caps : List Word) (epr : Bool) : Berth :=
  let r := b.sinkRequest e caps
  let b := { b with pol.partnerCaps := caps, pol.want := some (b.contractOf r.2 r.1 false), pol.ask := none }
  let tx := if epr then mkTx .sop tmrSender dataEprRequest [r.1, r.2] else mkTx .sop tmrSender dataRequest [r.1]
  b.will { tx := some tx, kind := kRx, arg := some b.id.tokenRx.word, mask := 1, amsOpen := true }

/-- Fast Role Swap current of Sink_Capabilities, bits [24:23] of the first PDO, in 10 mA (R165; log entry 15). -/
def frsAmps (o : Word) : Nat := match fld o 23 2 with
  | 1 => 90
  | 2 => 150
  | 3 => 300
  | _ => 0

/-- A BERTH_EXIT_MODE in progress completes when Exit Mode is acknowledged (R176); a swap that waits for it does not. -/
def exitAnswered (b : Berth) : Berth := match b.pol.cur with
  | some c => if c.kind = .exitMode then b.finishCmd .ok else b
  | none => b

/-- The response of the partner to a structured VDM request (R172–R176). -/
def onVdmResponse (b : Berth) (e : Env) (t : Stamp) (h : Word) (hdr : BitVec 16) (objs : List Word) : Berth :=
  let svid : BitVec 16 := BitVec.ofNat 16 (fld h 16 16)
  let cmd := fld h 0 5
  let ty := fld h 6 2
  let sent := b.pol.vdmSent
  let same := sent.any (fun (r : VdmReq) => r.sop = .sop && fld (r.objs.headD 0) 16 16 = svid.toNat && fld (r.objs.headD 0) 0 5 = cmd)
  if !same || b.pol.ask.isNone then b
  else
    let b := { b with tm.vdm := none }
    if ty = 3 then
      if b.pol.vdmTries < 3 then { b with tm.vdmBusy := some (t + ms 50), pol.vdmTries := b.pol.vdmTries + 1 }.closeIt
      else if b.hostAwaits then
        ({ b with pol.ask := none, pol.vdmSent := none, pol.vdmTries := 0 }.finishCmd .partnerReject (answerBody hdr (wordBytes (h :: objs)))).closeIt
      else b.vdmEnded e t .partnerReject
    else if ty = 2 && !b.hostAwaits then b.vdmEnded e t .partnerReject
    else
      let host := b.hostAwaits
      let b := { b with pol.ask := none, pol.vdmSent := none, pol.vdmTries := 0 }
      if host then
        let mux : List Intent := match b.pol.cur with
          | some c => match c.kind with
            | .message _ _ _ _ true sbu muxc _ =>
              [{ kind := kRx, arg := some b.id.tokenRx.word, mask := 0x20, stage := [.mux (BitVec.ofNat 32 (sbu % 4 + muxc % 8 * 4 + flag b.mux.modeActive 5))] }]
            | _ => []
          | none => []
        let b := if ty = 1 then mux.foldl will b else b
        (b.finishCmd (if ty = 1 then .ok else .partnerReject) (answerBody hdr (wordBytes (h :: objs)))).closeIt
      else if cmd = 1 then (b.closeIt).nextDiscovery e t
      else if cmd = 2 then
        let l := svidsOf objs
        let b := { b with pol.svids := b.pol.svids ++ l }.closeIt
        if 12 ≤ l.length then b.sendVdm .sop (vdmHdr 0xFF00#16 0 0 2) else b.nextDiscovery e t
      else if cmd = 3 then
        ({ b with pol.modes := b.pol.modes ++ (List.range objs.length).map (fun i => (svid, i + 1)) }.closeIt).nextDiscovery e t
      else if cmd = 4 then match b.pol.modeTry with
        | none => b.closeIt
        | some r => b.modeEntered r
      else if cmd = 5 then
        ({ b with pol.modeNow := none, pol.exiting := false }.exitAnswered).will
          { kind := kLive, mask := 0x40, amsClose := true, events := [.mode 2 0 svid.toNat (fld h 8 3) 0 0 0 []] }
      else b.closeIt

/-- A Vendor Defined Message is confirmed on SOP (R172–R177). -/
def onVdm (b : Berth) (e : Env) (t : Stamp) (hdr : BitVec 16) (objs : List Word) : Berth := match objs with
  | [] => b.notSupported
  | h :: rest =>
    if !h.getLsbD 15 then b.notSupported
    else if fld h 6 2 = 0 then
      if fld h 0 5 = 6 && b.id.dataDfp then
          b.will { kind := kRx, arg := some b.id.tokenRx.word, mask := 0x40,
                   events := [.mode 4 0 (fld h 16 16) (fld h 8 3) rest.length 0 0 (rest.map (·.toNat))] }
      else b.will { tx := some (mkTx .sop 0 dataVdm [setFld h 6 2 2]), kind := kRx, arg := some b.id.tokenRx.word, mask := 1
                    amsOpen := true, amsClose := true }
    else b.onVdmResponse e t h hdr rest

/-- A data message is confirmed on SOP at stamp `t`. -/
def onData (b : Berth) (e : Env) (t : Stamp) (hdr : BitVec 16) (data : List Byte) : Berth :=
  let objs := bytesWords data
  if b.hostAwaits && hdrType hdr ≠ dataVdm then
    let b := (b.hostAnswer .ok hdr data).closeIt
    let b := if hdrType hdr = dataSinkCaps then { b with pol.partnerFrs := frsAmps (objs.headD 0) } else b
    if hdrType hdr = dataSourceCaps && !b.id.powerSource then b.onPartnerCaps e objs false else b
  else match hdrType hdr with
    | 1 => if b.id.powerSource then b.protocolError t else b.onPartnerCaps e objs false
    | 2 => if b.id.powerSource then b.judgeRequest e t (objs.headD 0) none else b.protocolError t
    | 4 => if b.pol.ask = some .sinkCap then { b with pol.ask := none, pol.partnerFrs := frsAmps (objs.headD 0) }.closeIt else b.protocolError t
    | 6 => b
    | 9 => if b.id.powerSource then b.judgeRequest e t (objs.headD 0) (some ((objs.drop 1).headD 0)) else b.protocolError t
    | 10 => b.judgeEprMode e t (objs.headD 0)
    | 15 => b.onVdm e t hdr objs
    | _ => b.notSupported

/-! ### Extended messages -/

/-- A whole extended message is confirmed; on SOP′ and SOP″ only the answer to a host message is expected. EPR_Get_Sink_Cap without an
EPR sink template gets Not_Supported (DESIGN CHOICE, log entry 85). -/
def onExtended (b : Berth) (e : Env) (t : Stamp) (k : SopKind) (hdr : BitVec 16) (data : List Byte) : Berth :=
  let rx : Intent := { kind := kRx, arg := some b.id.tokenRx.word, mask := 1, amsOpen := true, amsClose := true }
  let ctl (n : Nat) : Berth :=
    b.will { rx with tx := some (mkChunk .sop 0 extControl 0 2 false (leBytes 1 n ++ leBytes 1 0)) }
  if b.hostAwaits then (b.hostAnswer .ok hdr data).closeIt
  else if k ≠ .sop then b
  else if hdrType hdr = extControl then match (data.headD 0).toNat with
    | 1 => if e.tbl.flags.getLsbD 0 && e.epr then b.sendExtended .sop extSourceCaps (wordBytes (b.capabilities e)) rx 0
           else b.notSupported
    | 2 => if e.tbl.snk.any (·.isEpr) then b.sendExtended .sop extSinkCaps (wordBytes (b.sinkCaps e true)) rx 0 else b.notSupported
    | 3 => if b.id.eprMode then ctl 4 else b.notSupported
    | 4 => b.closeIt
    | _ => b.notSupported
  else if hdrType hdr = extSourceCaps then
    (if b.id.powerSource then b.protocolError t else b.onPartnerCaps e (bytesWords data) true)
  else b.notSupported

/-- An extended header asks for a chunk (R91). -/
def asksChunk (data : List Byte) : Bool := leNat (data.take 2) / 2 ^ 10 % 2 = 1

/-- A chunked message that a message breaks is abandoned, with the AMS closed and the host message it was for (R92, log entry 86). -/
def abandonChunks (b : Berth) (a : AckDue) : Berth :=
  let ext := hdrExt a.hdr
  let goesOn := ext && !asksChunk a.data && b.pol.chunkRx.any (fun (c : ChunkRx) => c.sop = a.sop && c.type_ = hdrType a.hdr)
  let asks := ext && asksChunk a.data && b.pol.chunkTx.any (fun (c : ChunkTx) => c.sop = a.sop)
  if (b.pol.chunkRx.isNone || goesOn) && (b.pol.chunkTx.isNone || asks) then b
  else if b.pol.chunkTx.isSome && !asks then ({ b with pol.chunkRx := none, pol.chunkTx := none }.finishCmd .superseded).closeIt
  else { b with pol.chunkRx := none }.closeIt

/-- A chunk or Chunk Request is confirmed (R91, R92, R11); one out of sequence discards the partial data and is unexpected. -/
def onChunk (b : Berth) (e : Env) (t : Stamp) (k : SopKind) (hdr : BitVec 16) (data : List Byte) : Berth :=
  let x := leNat (data.take 2)
  let size := x % 512
  let n := x / 2 ^ 11 % 16
  let body := data.drop 2
  let wrong := { b with pol.chunkRx := none, pol.chunkTx := none }
  if x / 2 ^ 15 % 2 = 0 || 260 < size then (if k = .sop then { b with pol.chunkRx := none }.notSupported else { b with pol.chunkRx := none })
  else if asksChunk data then
    if b.pol.chunkTx.any (fun (c : ChunkTx) => c.sop = k && c.due = n) then b.nextChunk
    else if k = .sop then wrong.protocolError t else wrong.closeIt
  else
    let had := match b.pol.chunkRx with
      | some c => if c.sop = k && c.type_ = hdrType hdr && n * 26 = c.data.length && 0 < n then c.data else []
      | none => []
    if 0 < n && had = [] then (if k = .sop then wrong.protocolError t else wrong.closeIt)
    else
      let all := had ++ body.take (min 26 (size - had.length))
      if size ≤ all.length then { b with pol.chunkRx := none }.onExtended e t k hdr all
      else
        { b with pol.chunkRx := some { sop := k, type_ := hdrType hdr, size := size, data := all } }.will
          { tx := some (mkChunk k tmrChunkResponse (hdrType hdr) (n + 1) size true []), kind := kRx
            arg := some b.id.tokenRx.word, mask := 1, amsOpen := true }

/-! ### The cable (R122, R133, R173) -/

/-- The cable has answered, or has not: its identity, and what EPR entry makes of it (R122, R133). -/
def cableKnown (b : Berth) (c : Option Cable) (k : BitVec 2) : Berth :=
  let before := b.cableLimit
  let b := { b with pol.cable := c, pol.ask := none, pol.vdmSent := none, tm.vdm := none }
  let after := b.cableLimit
  if b.pol.eprEntry = 1 then
    if after.epr then { b with pol.eprEntry := 2 }.will { tx := some (eprMode 0 3 0), kind := k, mask := 1 }
    else { b with pol.eprEntry := 0 }.will { tx := some (eprMode 0 4 1), kind := k, mask := 1, amsClose := true }
  else
    let b := b.closeIt
    if before.amps < after.amps || before.volt < after.volt || (!before.epr && after.epr) then
      { b with pol.capsDue := b.pol.capsDue || b.id.powerSource } else b

/-- A message from the cable is confirmed on SOP′ or SOP″ at stamp `t` (R122, R173, R175). -/
def onCable (b : Berth) (e : Env) (t : Stamp) (k : SopKind) (hdr : BitVec 16) (data : List Byte) : Berth :=
  let objs := bytesWords data
  let h := objs.headD 0
  let busy := hdrType hdr = dataVdm && hdrNdo hdr ≠ 0 && h.getLsbD 15 && fld h 6 2 = 3 && b.pol.vdmSent.isSome
  if b.pol.ask = some .softReset then { b with pol.ask := none }.closeIt
  else if b.pol.ask.isSome && busy && b.pol.vdmTries < 3 then
    { b with tm.vdm := none, tm.vdmBusy := some (t + ms 50), pol.vdmTries := b.pol.vdmTries + 1 }.closeIt
  else if b.hostAwaits then
    ({ b with pol.vdmSent := none, tm.vdm := none, pol.vdmTries := 0 }.hostAnswer
      (if fld h 6 2 = 1 || hdrNdo hdr ≠ 0 && hdrType hdr ≠ dataVdm then .ok else .partnerReject) hdr data).closeIt
  else if b.pol.ask = some .cable then
    b.cableKnown (if hdrType hdr = dataVdm && fld h 6 2 = 1 && fld h 0 5 = 1 then cableOf objs else none) kRx
  else match b.pol.modeTry with
    | none => b
    | some r =>
      if b.pol.ask ≠ some .vdm || fld h 0 5 ≠ 4 then b
      else if fld h 6 2 = 1 then
        let second := b.pol.cable.any (fun (c : Cable) => c.second)
        let b := { b with pol.ask := none, tm.vdm := none, pol.vdmTries := 0 }.closeIt
        b.sendVdm (if k = .sopP && second then .sopPP else .sop) (vdmHdr r.svid r.mode 0 4)
          [] { stage := [.mux (BitVec.ofNat 32 (r.sbu.toNat + r.mux.toNat * 4 + 32))] }
      else b.vdmEnded e t .partnerReject (sopCode k)

/-! ### Confirmations -/

/-- What became of a discarded transmission when the partner's message is confirmed (Table 5.7). -/
def settleLost (b : Berth) (hdr : BitVec 16) : Berth := match b.pol.lost with
  | none => b
  | some x =>
    let b := { b with pol.lost := none }
    let h : BitVec 16 := BitVec.ofNat 16 (fld x.1 16 16)
    let swap := isCtl h ctlPrSwap || isCtl h ctlDrSwap || isCtl h ctlVconnSwap
    if swap && (!b.id.powerSource || isCtl hdr (hdrType h)) then b.finishCmd .superseded
    else if isSourceCaps h.toNat then { b with pol.capsDue := true }
    else b.begin_ x

/-- BP 4.0 at the END_GOOD of a message, with the tracker phase before it. -/
def received (b : Berth) (e : Env) (t : Stamp) (phase : Phase) (a : AckDue) : Berth :=
  if !e.bp || e.hless then b
  else
    let e := e.under b
    let b := b.abandonChunks a
    if a.sop ≠ .sop then (if hdrExt a.hdr then b.onChunk e t a.sop a.hdr a.data else b.onCable e t a.sop a.hdr a.data)
    else
    let b := if hdrExt a.hdr then b.onChunk e t .sop a.hdr a.data
             else if hdrNdo a.hdr = 0 then b.onControl e t phase a.hdr else b.onData e t a.hdr a.data
    b.settleLost a.hdr

/-- The stamp at which the 27 ms timer of a VDM request starts: the Tide in which its TOKEN_TX is latched (R175). -/
def vdmStart (t : Stamp) : Stamp := (t / tideLen + 1) * tideLen

/-- The header of a transmission names a VDM request: command and structured bit. -/
def vdmOf (x : Tx) : Option Word :=
  if hdrType x.hdr = dataVdm && hdrNdo x.hdr ≠ 0 && !hdrExt x.hdr then some ((bytesWords x.data).headD 0) else none

/-- The partner has confirmed the capabilities sent last (R125, R145). -/
def capsConfirmed (b : Berth) (t : Stamp) : Berth :=
  { b with pol.ask := some .caps, pol.caps := b.pol.sentCaps, pol.capsOffer := b.pol.sentOffer, pol.capsAt := t, pol.pdosMoved := false }

/-- BP 4.0 at the confirmation of its own transmission, with the tracker phase before it. -/
def confirmed (b : Berth) (e : Env) (t : Stamp) (phase : Phase) (x : Tx) : Berth :=
  if !e.bp || e.hless then b
  else
    let host := match b.pol.cur with
      | some c => match c.kind with
        | .message _ _ ty aw _ _ _ _ => some (ty, aw)
        | _ => none
      | none => none
    let mine := match host with
      | some (ty, _) => (hdrType x.hdr = ty || hdrType x.hdr = dataVdm) && b.pol.chunkTx.isNone
      | none => false
    match vdmOf x with
    | some h =>
      if fld h 6 2 ≠ 0 && h.getLsbD 15 then b
      else
        let b := { b with tm.vdm := if h.getLsbD 15 then some (vdmStart t + ms 27) else none }
        let req : VdmReq := { sop := x.sop, objs := bytesWords x.data }
        match host with
        | some (_, true) => { b with pol.ask := some .host, pol.vdmSent := some req }
        | some (_, false) => ({ b with tm.vdm := none }.finishCmd .ok).closeIt
        | none => { b with pol.ask := some (if x.sop = .sopP && fld h 0 5 = 1 then .cable else .vdm), pol.vdmSent := some req }
    | none =>
      if mine then match host with
        | some (_, true) => { b with pol.ask := some .host }
        | _ => (b.finishCmd .ok).closeIt
      else if hdrExt x.hdr then
        if hdrType x.hdr = extSourceCaps && b.pol.chunkTx.isNone then
          b.capsConfirmed t
        else b
      else if hdrNdo x.hdr ≠ 0 then match hdrType x.hdr with
        | 1 => b.capsConfirmed t
        | 2 => { b with pol.ask := some .request }
        | 9 => { b with pol.ask := some .request }
        | 10 => match fld ((bytesWords x.data).headD 0) 24 8 with
          | 1 => { b with pol.ask := some .eprEnter }
          | 2 => b.askCable kTx false
          | 3 => b.eprEntered e
          | 5 => { b with tm.epr := none, pol.capsDue := b.pol.capsDue || b.id.powerSource }
          | _ => b
        | _ => b
      else match hdrType x.hdr with
        | 3 => match b.pol.want with
          | some c =>
            if b.id.powerSource && b.pol.request.isNone && b.mux.firstType ≠ some ctlDrSwap && b.mux.phase = .idle then
              let b := { b with pol.trans := some c, pol.want := none }
              if c.apdo then b.startTransition c else b
            else b
          | none =>
            if b.mux.firstType = some ctlDrSwap then b.drSwapDone kTx
            else if b.mux.phase = .prSnkWait && phase ≠ .prSnkWait then b.prSinkOff kTx
            else if b.mux.phase = .vcOn && phase ≠ .vcOn then b.vconnTake
            else b
        | 4 => { b with pol.want := none }
        | 6 => match phase with
          | .prSnkOn => b.nowSource t 0
          | .frsSourcing => b.nowSource t 3
          | .vcOn => b.vconnDone true
          | _ => match b.pol.trans with
            | some c => if c.source then { b with pol.trans := none }.publish c kTx false else b
            | none => b
        | 8 => { b with pol.ask := some .sinkCap }
        | 9 => { b with pol.ask := some (.swap 1) }
        | 10 => { b with pol.ask := some (.swap 0) }
        | 11 => { b with pol.ask := some (.swap 2) }
        | 12 => { b with pol.want := none }
        | 13 => { b with pol.ask := some .softReset }
        | 19 => { b with pol.ask := some (.swap 3) }
        | _ => b

/-- BP 4.0 when a transmission has failed after its last retry at stamp `t` (R82, R122, R133, R161). -/
def failed (b : Berth) (e : Env) (t : Stamp) (x : Tx) : Berth :=
  if !e.bp || e.hless then b
  else if isCtl x.hdr ctlSoftReset then { b with pol.hrDue := true }
  else if x.sop ≠ .sop then
    if b.pol.cur.isNone && x.sop = .sopP && (vdmOf x).any (fun (h : Word) => fld h 0 5 = 1) then b.cableKnown none kLive
    else
      let b := { b with pol.chunkTx := none, pol.ask := if b.pol.ask = some Ask.host then none else b.pol.ask }.finishCmd .partnerNoResponse
      let b := if b.pol.modeTry.isSome then b.vdmEnded e t .partnerNoResponse (sopCode x.sop) else b
      b.softResetOn x.sop
  else if b.inSwap then b.swapFail t .partnerNoResponse
  else if b.pol.trans.isSome then { b with pol.hrDue := true }
  else if isSourceCaps x.hdr.toNat && b.id.contract.isNone then b
  else (b.finishCmd .partnerNoResponse).softResetDue

/-- A response timer expires at its stamp (RESPONSE_TIMER_EXPIRY; R84, R137, R154). -/
def responseExpiry (b : Berth) (e : Env) : Berth := match b.tm.resp with
  | none => b
  | some d =>
    let chunk := b.phy.tmrRun ≠ .senderResponse
    let b := ({ b with tm.resp := none, phy.tmrRun := .none }.expired 4).phyEvt 10
    if !e.bp then b
    else if chunk then
      let lost := b.pol.chunkTx.isSome || b.hostAwaits
      let b := { b with pol.chunkRx := none, pol.chunkTx := none }
      (if lost then { b with pol.ask := none }.finishCmd .partnerNoResponse else b).closeIt
    else if b.inSwap then b.swapFail d .partnerNoResponse
    else match b.pol.ask with
      | some (.swap _) => ({ b with pol.ask := none }.finishCmd .partnerNoResponse).closeIt
      | some .host => ({ b with pol.ask := none }.finishCmd .partnerNoResponse).closeIt
      | some .sinkCap => { b with pol.ask := none, pol.partnerFrs := 0 }.closeIt
      | some .caps => { b with pol.ask := none, pol.hrDue := true }
      | some .request => { b with pol.ask := none, pol.hrDue := true }
      | some .softReset => { b with pol.ask := none, pol.hrDue := true }
      | _ => { b with pol.ask := none }.closeIt

/-- tTypeCSendSourceCap elapses: Source_Capabilities are due again (SOURCE_CAPS_REPEAT_EXPIRY; R69, R84, R110). -/
def capsRepeat (b : Berth) : Berth := match b.tm.caps with
  | none => b
  | some _ => ({ b with tm.caps := none, phy.tmrRun := .none, pol.capsDue := true }.expired 4).phyEvt 10

/-- tSrcTransition elapses (SRC_TRANSITION_EXPIRY; R84, R224, Table 5.2). -/
def srcTransition (b : Berth) (e : Env) : Berth := match b.tm.srcTrans with
  | none => b
  | some _ =>
    let b := ({ b with tm.srcTrans := none }.expired 5).phyEvt 10
    if b.mux.phase = .prSrcTrans then
      let b := b.setPhase .prSrcOff
      if e.bp then b.prSourceOff else b
    else match b.pol.trans with
      | some c => if e.bp && c.source then b.startTransition c else b
      | none => b

/-! ### Timers of BP 4.0 -/

/-- tSourceEPRKeepAlive expires in quay hardware on a source in EPR mode: Hard Reset, by the berth program where BP 4.0 runs and else by
the hardware (R134). -/
def keepAliveTimeout (b : Berth) (e : Env) : Berth := match b.tm.epr with
  | none => b
  | some _ =>
    if b.id.eprMode && b.id.powerSource then
      let b := { b with tm.epr := none }.expired 9
      if e.bp then { b with pol.hrDue := true } else b.requestHardReset
    else b

/-- tSinkEPRKeepAlive elapses on a sink in EPR mode: EPR_KeepAlive (R134). -/
def sinkKeepAlive (b : Berth) : Berth := match b.tm.epr with
  | none => b
  | some d =>
    if b.id.eprMode && !b.id.powerSource then
      ({ b with tm.epr := some (d + ms b.pol.eprSnkKa) }.expired 9).begin_ (mkChunk .sop tmrSender extControl 0 2 false (leBytes 2 3))
    else b

/-- tSwapSourceStart elapses: Source_Capabilities (R160, R168). -/
def swapSourceStart (b : Berth) : Berth := match b.tm.swapStart with
  | none => b
  | some _ => { b with tm.swapStart := none, pol.capsDue := true }

/-- 100 ms after the partner's Wait the berth sends its swap again (R155). -/
def swapRetry (b : Berth) : Berth := match b.tm.swapRetry, b.pol.cur with
  | some _, some c => match c.kind with
    | .swap k _ => { b with tm.swapRetry := none }.begin_ (mkTx .sop tmrSender (swapType k) [])
    | _ => { b with tm.swapRetry := none }
  | _, _ => b

/-- A tracker timer expires (PS_SOURCE_OFF_EXPIRY, PS_SOURCE_ON_EXPIRY, VCONN_SOURCE_TIMEOUT; R161). -/
def trackerExpiry (b : Berth) (ok : Phase → Bool) : Berth := match b.tm.swap with
  | none => b
  | some d => if ok b.mux.phase then (({ b with tm.swap := none }.expired 8).swapEvt 4).swapFail d .partnerNoResponse else b

/-- The 27 ms timer of a VDM request expires (R175, R176). -/
def vdmTimeout (b : Berth) (e : Env) (t : Stamp) : Berth := match b.tm.vdm with
  | none => b
  | some _ =>
    let b := { b with tm.vdm := none }
    match b.pol.ask with
    | some .cable => b.cableKnown none kLive
    | some .host => ({ b with pol.ask := none, pol.vdmSent := none, pol.vdmTries := 0 }.finishCmd .partnerNoResponse).closeIt
    | some .vdm => b.vdmEnded e t .partnerNoResponse
    | _ => b

/-- 50 ms after a BUSY response the VDM request is sent again, whole and on its SOP kind (R175). -/
def vdmResend (b : Berth) : Berth := match b.tm.vdmBusy, b.pol.vdmSent with
  | some _, some r => { b with tm.vdmBusy := none }.begin_ (mkTx r.sop 0 dataVdm r.objs)
  | _, _ => { b with tm.vdmBusy := none }

/-! ### Emergencies (R148) -/

/-- Step 2 of Table 4.11: the hold limit falls to the larger of 1.10 × the present current plus 0.10 A and GMIN over the
contract voltage. -/
def emergencyDrop (b : Berth) (e : Env) : Berth :=
  if b.cc.state ≠ .attachedSrc then b
  else
    let v := match b.id.contract with
      | some c => c.volt
      | none => 500
    let now := b.adc.ipath.toNat / 10
    let n := max (11 * now / 10 + 10) (ceilDiv (1000 * b.gmin e) (max v 1))
    { b with pol.lowered := true }.addPend (.lowerHold (BitVec.ofNat 10 (min n (fld b.reg.hold 0 10))))

/-- C_b of the berth in 100 mW (R139). -/
def contractMax (b : Berth) : Nat := match b.id.contract with
  | some c => if c.source then powerOf c.volt c.curr else 0
  | none => if b.cc.state = .attachedSrc then ceilDiv (5 * rpAmps b.cc.rpNow.toNat) 10 else 0

/-- Step 5 of Table 4.11 (EMERGENCY_GRACE_EXPIRY): a berth above its share holds at share over contract voltage with
FLOOR_CNT clear and HOLD_VMIN 3.00 V (Table 7.5), and HOLD_TO_HR starts. -/
def graceExpiry (b : Berth) (holdMs : Nat) : Berth := match b.tm.grace with
  | none => b
  | some d =>
    let b := { b with tm.grace := none }
    match b.pol.share, b.id.contract with
    | some s, some c =>
      if c.source && s < b.contractMax then
        let n := min (1000 * s / max c.volt 1) (fld b.reg.hold 0 10)
        { b with pol.holdDue := true, tm.hold := some (d + ms holdMs) }.will
          { kind := kGrant, mask := 0x02, stage := [.vref b.reg.vref, .hold (BitVec.ofNat 32 (clampTo 10 560 n + 60 * 2 ^ 16))] }
      else b
    | _, _ => b

/-- Step 6 of Table 4.11 (EMERGENCY_HOLD_TO_HR): a berth still above its share sends Hard Reset. -/
def holdToHr (b : Berth) : Berth := match b.tm.hold with
  | none => b
  | some _ =>
    let b := { b with tm.hold := none }
    match b.pol.share with
    | some s => if s < b.contractMax then { b with pol.hrDue := true, pol.holdDue := false } else { b with pol.holdDue := false }
    | none => { b with pol.holdDue := false }

/-! ### The command FIFO (R103, R154) -/

/-- The role a swap kind decides, as BERTH_REQUEST_SWAP's TARGET spells it. -/
def roleOf (b : Berth) (kind : Nat) : Nat :=
  if kind = 0 then (if b.id.powerSource then 1 else 0) else if kind = 1 then (if b.id.dataDfp then 1 else 0)
  else (if b.id.vconnSrc then 1 else 0)

/-- The head of the FIFO completes at once with a status. -/
def headDone (b : Berth) (c : FifoCmd) (st : Status) (body : List Byte := []) : Berth :=
  { b with pol.fifo := b.pol.fifo.drop 1 }.answerHost c st body

/-- The head of the FIFO becomes the command in progress. -/
def takeHead (b : Berth) (c : FifoCmd) : Berth := { b with pol.fifo := b.pol.fifo.drop 1, pol.cur := some c }

/-- A swap command at the head of the FIFO (R103, R153, R154, Table 5.7). One that would remove VCONN from an active cable exits the
active mode first (R176). -/
def startSwap (b : Berth) (e : Env) (c : FifoCmd) (k target : Nat) : Berth :=
  let roles := leBytes 1 (roleByte b.id.powerSource b.id.dataDfp b.id.vconnSrc)
  let busy := b.id.amsActive || b.id.hrActive
  if k = 3 then b.headDone c .badArg
  else if b.roleOf k = target then b.headDone c .ok roles
  else if c.exited && (b.pol.exiting || busy) then b
  else if busy then b.headDone c .busyAms
  else if b.pol.cur.isSome then b
  else if b.id.contract.isNone then b.headDone c .notPermitted
  else if b.mux.phase ≠ .idle then b.headDone c .busyAms
  else if b.swapBarred e k then b.headDone c .notPermitted
  else
    let refuse := match b.swapRule e k 1 with
      | some r => r.action = 1 || r.action = 3
      | none => false
    if refuse then b.headDone c .notPermitted
    else if b.swapNeedsExit k then
      { b with pol.fifo := { c with exited := true } :: b.pol.fifo.drop 1 }.exitMode
    else { b.takeHead c with pol.swapByHost := true }.begin_ (mkTx .sop tmrSender (swapType k) [])

/-- A host message at the head of the FIFO (R320). -/
def startMessage (b : Berth) (c : FifoCmd) (kind : Nat) (k : SopKind) (ty : Nat) (data : List Byte) : Berth :=
  if kind = 6 then
    (if b.id.dataDfp && b.id.vconnSrc then (b.takeHead c).addPend .cableReset else b.headDone c .notPermitted)
  else if (kind = 3 && !b.id.dataDfp) || (k ≠ .sop && !b.cc.vconnOn) then b.headDone c .notPermitted
  else if kind = 2 then
    (b.takeHead c).sendExtended k ty data { kind := kGrant, mask := 1, amsOpen := true, amsInit := true, waitAms := true } tmrSender
  else
    let ty := if kind = 3 || kind = 4 then dataVdm else ty
    let timer := if kind = 3 then 0 else tmrSender
    (b.takeHead c).begin_ (txWord0 k timer (ty + data.length / 4 * 2 ^ 12) data.length, data)

/-- A BERTH_SEND_MESSAGE of a Hard Reset. -/
def FifoCmd.isHardReset (c : FifoCmd) : Bool := match c.kind with
  | .message kind _ _ _ _ _ _ _ => kind = 5
  | _ => false

/-- A Hard Reset that the host asks for pre-empts an open AMS, the command in progress and the FIFO (R104); at HR_COUNT 3 it is not
permitted (R108). -/
def hostHardReset (b : Berth) (c : FifoCmd) : Berth :=
  let b := { b with pol.fifo := b.pol.fifo.filter (fun (x : FifoCmd) => decide (x ≠ c)) }
  if b.phy.hrCount = 3 then b.answerHost c .notPermitted
  else { b.finishCmd .superseded with pol.cur := some c, pol.hrDue := true }

/-- The head of the command FIFO starts when no command is in progress (COMMAND_FIFO_START; R103): a swap command even while an AMS is
open (R154), every other only with AMS_ACTIVE and HR_ACTIVE clear. A Hard Reset does not wait (R104). -/
def fifoStart (b : Berth) (e : Env) : Berth := match b.pol.fifo.find? FifoCmd.isHardReset, b.pol.fifo with
  | some c, _ => b.hostHardReset c
  | none, [] => b
  | none, c :: _ =>
    let wait := b.pol.cur.isSome || b.id.amsActive || b.id.hrActive
    match c.kind with
    | .swap k target => b.startSwap e c k target
    | .message kind k ty _ _ _ _ data => if wait then b else b.startMessage c kind k ty data
    | .enterMode svid mode =>
      if wait then b
      else if b.pol.modeNow = some (svid, mode) then b.headDone c .ok (leBytes 1 b.mux.sbu.toNat ++ leBytes 1 b.mux.mux.toNat)
      else match b.modeChoice e (fun r => r.svid = svid && (r.mode = 0 || r.mode = mode)) with
        | none => b.headDone c .notPermitted
        | some r =>
          if b.mux.modeActive || !b.id.dataDfp || r.action = 0 || r.action = 4 then b.headDone c .notPermitted
          else (b.takeHead c).enterMode { r with mode := mode }
    | .exitMode =>
      if wait then b
      else if b.pol.modeNow.isNone then b.headDone c .ok
      else (b.takeHead c).exitMode

/-- Commands that have waited 2 s complete with E_TIMEOUT (COMMAND_FIFO_TIMEOUT; R103). -/
def fifoTimeout (b : Berth) (t : Stamp) : Berth :=
  let late := b.pol.fifo.filter (fun c => decide (c.due ≤ t))
  late.foldl (fun (b : Berth) (c : FifoCmd) => b.answerHost c .timeout)
    { b with pol.fifo := b.pol.fifo.filter (fun c => !decide (c.due ≤ t)) }

/-! ### Capabilities (R106, R145) -/

/-- OFFER_CHANGED in the current grant, or a PDO added or withdrawn since the capabilities confirmed last: new capabilities when no AMS is
open, 100 ms after the last where nothing but a raised offer calls for them (OFFER_CHANGE_CAPABILITIES; R145). -/
def offerChange (b : Berth) (t : Stamp) : Berth :=
  let less := b.pol.offer < b.pol.capsOffer || b.pol.pdosMoved || b.pol.withdraw
  if (b.id.grantRec.getLsbD 3 || b.pol.pdosMoved) && !b.id.amsActive && !b.id.hrActive && b.id.powerSource && b.cc.state = .attachedSrc &&
      b.pol.caps ≠ [] && (less || b.pol.capsAt + ms 100 ≤ t) then { b with pol.capsDue := true } else b

/-- Discovery starts in a Tide with no AMS open (DISCOVERY_START; R172); a berth with no mode rules discovers only the
cable (R122). -/
def discoveryStart (b : Berth) (e : Env) : Berth :=
  if b.id.amsActive || b.id.hrActive || !e.bp || b.id.contract.isNone then b
  else if !b.pol.cableAsked && b.id.powerSource && b.cc.vconnOn &&
      (e.tbl.flags.getLsbD 0 || e.tbl.src.any (fun x => 60 < x.imax)) then
    { b with pol.cableAsked := true }.askCable kGrant true
  else b.discover e

/-! ### One Tide of BP 4.0 -/

/-- The latched conditions an intention waits for. -/
def ready (b : Berth) (e : Env) (t : Stamp) (i : Intent) : Bool :=
  let vbc := fld b.lat.adcV 0 16
  i.after ≤ t && (!i.waitAms || (!b.id.amsActive && !b.id.hrActive)) &&
  (!i.needSink || b.sinkCloseOk e) &&
  (!i.needWin || (4 ≤ fld b.lat.regStatus 5 3 && !b.lat.regStatus.getLsbD 11)) &&
  (!i.needSafe5 || (4750 ≤ vbc && vbc ≤ 5500)) && (!i.needSafe0 || b.lat.ccStatus.getLsbD 22) &&
  !(i.tx.isSome && b.txBusy)

/-- One staging register as BP 4.0 writes it. -/
def stageOne (b : Berth) (o : StageOp) : Berth := match o with
  | .vref v => { b with stg.regVref := v }
  | .hold v => { b with stg.regHold := v }
  | .pathLimit v => { b with stg.pathLimit := v }
  | .snkLimit v => { b with stg.snkLimit := v }
  | .pathCfg v => { b with stg.pathCfg := v }
  | .pathStage v => { b with stg.pathStage := v }
  | .frsCfg v => { b with stg.frsCfg := v }
  | .cbThr v => { b with stg.regOvp := setFld b.stg.regOvp 0 10 v.toNat }
  | .prot v => { b with stg.regProt := v }
  | .w0Hi mv => { b with stg.monThr := b.stg.monThr.set 0 (BitVec.ofNat 10 (nearCode mv (if 10230 < mv then 60 else 10)))
                         stg.w0High := decide (10230 < mv) }
  | .w4Hi v => { b with stg.monThr := b.stg.monThr.set 1 v }
  | .w9 hi lo => { b with stg.monThr := b.stg.monThr.set 2 hi, stg.monLow := b.stg.monLow.set 1 lo }
  | .ccRp v => { b with stg.ccRp := v }
  | .mux v => { b with stg.muxStage := v }

/-- A message put into a transmit buffer and armed. -/
def fillBuffer (b : Berth) (n : Fin 4) (x : Word × List Byte) : Berth :=
  { b with phy.bufs := b.phy.bufs.set n { word0 := x.1, data := Vector.ofFn (fun i : Fin 28 => x.2[i.val]?.getD 0) }
           phy.arm := b.phy.arm ||| BitVec.ofNat 4 (2 ^ n.val) }

/-- Write the COMMIT of an intention, with what it stages and the buffers it arms (R95, R97, R102). An Accept or Wait
that rests on a grant's outcome has the other armed beside it (Table 3.9, step 2). Each response, event and Request that an EVT commit
publishes is one staged record, a Request the last (R97, R151). -/
def writeIntent (b : Berth) (e : Env) (i : Intent) : Berth :=
  let b := match i.phyCfg with
    | some v => { b with phy.heldCfg := some (if b.id.partnerRev = 1 then setFld v 4 2 1 else v) }
    | none => b
  let b := i.stage.foldl stageOne (i.safe.foldl addPend b)
  if i.mask = 0 && !i.amsClose && i.tx.isNone then b
  else
    let kind : BitVec 2 := if i.kind ≠ kLive then i.kind
      else if b.id.tokenRx.current then kRx else if b.id.tokenTx.current then kTx else kGrant
    let arg := i.arg.getD (if kind = kRx then b.id.tokenRx.word else if kind = kTx then b.id.tokenTx.word else b.id.grantSeq)
    let b := match i.tx with
      | some x => b.fillBuffer 0 x
      | none => b
    let b := match i.outcome with
      | some o => b.fillBuffer 1 (mkTx .sop 0 (if o then ctlWait else ctlAccept) [])
      | none => b
    let n : BitVec 16 := b.id.evtStage + BitVec.ofNat 16 (b.pol.owed.length + i.events.length + (if i.post.isSome then 1 else 0))
    let b := if i.mask.getLsbD 6 then { b with id.evtStage := n, stg.evtIndex := n } else b
    let b := { b with id.commitArg := arg }
    b.commitWrite e.tide
      (BitVec.ofNat 32 (i.mask.toNat + kind.toNat * 2 ^ 8 + flag i.outcome.isSome 12 + flag (i.outcome = some true) 13
        + flag i.amsOpen 14 + flag i.amsInit 15 + flag i.amsClose 16)) i.events i.post i.tel

/-- The front intention is written when its conditions hold; one of another epoch is dropped. -/
def writeFront (b : Berth) (e : Env) (t : Stamp) : Berth := match b.pol.todo with
  | [] => b
  | i :: rest =>
    if i.epoch ≠ b.id.epoch then { b with pol.todo := rest }
    else if b.ready e t i then { b with pol.todo := rest }.writeIntent e i else b

/-- A new grant: the decision of the outstanding Request is taken up (R126). -/
def seeGrant (b : Berth) (e : Env) : Berth :=
  if b.id.grantSeq = b.pol.seenGrant then b
  else
    let b := { b with pol.seenGrant := b.id.grantSeq }
    match b.pol.request with
    | none => b
    | some r =>
      if b.id.grantRec.getLsbD 1 && fld b.id.grantRec 16 16 = r.reqSeq.toNat then b.decided (e.under b) (b.id.grantRec.getLsbD 2) else b

/-- Hard Reset due: it is requested, or at HR_COUNT 3 the FAULT and the action of R108 follow (R105, R108, R161). -/
def doHardReset (b : Berth) (e : Env) (t : Stamp) : Berth :=
  if !b.pol.hrDue || !b.attached || b.phy.hrPending then b
  else
    let b := { b with pol.hrDue := false }
    if b.inSwap && b.mux.phase ≠ .vcOn && b.mux.phase ≠ .vcWait then b
    else if b.phy.hrCount = 3 then
      let keep := b.cc.state = .attachedSrc && !b.id.pdConnected
      let b := (b.phyEvt 12).fault .hardResetLimit t e.quay (e.vins / 10) [if keep then 1 else 0]
      if keep then b else b.addPend .hwErrorRecovery
    else b.requestHardReset

/-- Capabilities due are written with the current grant once VBC stands in vSafe5V or a contract holds (Table 3.7 step 6,
Table 1.11 step 4, R145). -/
def doCaps (b : Berth) (e : Env) (t : Stamp) : Berth :=
  if b.pol.capsDue && b.cc.state = .attachedSrc && b.pol.capsAfter ≤ t && !b.id.amsActive && !b.id.hrActive && b.pol.todo = []
      && b.path.state = .srcOn && (b.id.contract.isSome || b.vbcSafe5) && b.tm.caps.isNone && b.phy.capsCount.toNat < 50
      && b.grantCurrent e.tide && !b.txBusy then b.sendCaps e kGrant true
  else b

/-- Alerts due: OCP waits for a Tide with no AMS open (R230), OTP and OVP do not (R233, Table 7.7). -/
def doAlerts (b : Berth) : Berth := match b.pol.alertDue with
  | [] => b
  | k :: rest =>
    if !b.attached || b.id.contract.isNone then { b with pol.alertDue := [] }
    else
      let o : Word := if k = 0 then 0x04000000#32 else if k = 1 then 0x08000000#32 else 0x40000000#32
      { b with pol.alertDue := rest
               pol.todo := { tx := some (mkTx .sop 0 dataAlert [o]), kind := kGrant, mask := 1, amsOpen := true, amsClose := true
                             amsInit := k = 0, waitAms := k = 0, epoch := b.id.epoch } :: b.pol.todo }

/-- Fast role swap may be armed as far as the berth and its policy go (R165). -/
def frsPolicy (b : Berth) (e : Env) : Bool :=
  let swapOk := match b.swapRule e 3 0 with
    | some r => if r.action = 0 then true else if r.action = 2 then !defaultRejects e 4 else false
    | none => !defaultRejects e 4
  b.cc.state = .attachedSnk && b.id.contract.isSome && b.rev3 && !b.id.eprMode && b.role = 2 && swapOk && !e.hless

/-- Fast role swap may be armed: the partner's Sink_Capabilities give a current that GMIN covers (R165). -/
def frsEligible (b : Berth) (e : Env) : Bool :=
  b.frsPolicy e && 0 < b.pol.partnerFrs && ceilDiv (5 * b.pol.partnerFrs) 10 ≤ b.gmin e

/-- Get_Sink_Cap once in a contract, for the partner's Fast Role Swap current (R165). -/
def doFrsAsk (b : Berth) (e : Env) : Berth :=
  if b.frsPolicy e && !b.pol.frsAsked && b.pol.partnerFrs = 0 && b.mux.phase = .idle && b.pol.todo = [] && !b.id.amsActive && !b.id.hrActive then
    { b with pol.frsAsked := true }.begin_ (mkTx .sop tmrSender ctlGetSinkCap [])
  else b

/-- The Fast Role Swap work of a Tide: arm, disarm, and FR_Swap before all else in the first Tide whose latch shows the signal ended
(R165, R168). -/
def doFrs (b : Berth) (e : Env) : Berth :=
  if b.mux.phase = .frsArmed && !b.frsEligible e && b.pol.todo = [] then b.will { safe := [.frsDisarm, .regIdle] }
  else if b.mux.phase = .idle && b.frsEligible e && b.pol.todo = [] && !b.id.amsActive && b.grantCurrent e.tide then
    b.will { kind := kGrant, mask := 0x0E, waitAms := true
             stage := [.vref (setFld b.stg.regVref 24 2 1), .hold (holdWord (11 * b.pol.partnerFrs / 10) 80), .pathStage 0
                       , .frsCfg (BitVec.ofNat 32 (1 + limitFor b.pol.partnerFrs * 4)), .cbThr (crowbarFor 500)
                       , .w4Hi (valleyFor b.pol.partnerFrs)] }
  else if b.lat.frsStatus.getLsbD 2 && (b.mux.phase = .frsDetected || b.mux.phase = .frsSourcing) && !b.pol.frsSent then
    { b with pol.frsSent := true, pol.ask := none
             pol.todo := { tx := some (mkTx .sop tmrSender ctlFrSwap []), kind := kGrant, mask := 1, amsOpen := true, epoch := b.id.epoch }
               :: b.pol.todo }
  else b

/-- A sink berth asks once in a connection to enter EPR mode, with its PMAX in W as the operational power (R10, R136; log entry 15). -/
def doEprEnter (b : Berth) (e : Env) : Berth :=
  if b.cc.state = .attachedSnk && b.id.contract.isSome && b.rev3 && !b.id.eprMode && sinkEprAllowed e && (b.pol.partnerCaps.headD 0).getLsbD 23
      && !b.pol.eprTried && b.mux.phase = .idle && b.pol.todo = [] && !b.id.amsActive && !b.id.hrActive then
    { b with pol.eprTried := true }.begin_ (eprMode tmrSender 1 (min 240 (e.tbl.pmax / 10)))
  else b

/-- A berth whose partner speaks Revision 2.0 writes REV 01 (R12, R114). -/
def doRev (b : Berth) : Berth :=
  if b.id.partnerRev = 1 && fld (b.phy.heldCfg.getD b.phy.cfg) 4 2 ≠ 1 then
    { b with phy.heldCfg := some (setFld (b.phy.heldCfg.getD b.phy.cfg) 4 2 1) }
  else b

/-- The active mode is exited once the table's rule for it no longer enters it (R176). -/
def doModeRule (b : Berth) (e : Env) : Berth := match b.pol.modeNow with
  | none => b
  | some (svid, pos) =>
    let stays := (ruleFor e svid pos).any (fun (r : ModeRule) => r.action = 1 || r.action = 2 || r.action = 3)
    if stays || b.pol.exiting || b.pol.todo ≠ [] || b.id.hrActive then b else b.exitMode

/-- The regulator of a berth that may become source is brought from IDLE to standby with the first grant; a sink-only
berth, and a sink without fast role swap armed, keep it in IDLE (R221). -/
def doRegulator (b : Berth) (e : Env) : Berth :=
  let may := b.role ≠ 1 && (b.unattached || b.cc.state = .attachedSrc || b.cc.state = .attachWaitSrc)
  let sink := (b.role = 1 || (b.cc.state = .attachedSnk && b.mux.phase = .idle)) && b.path.state = .off || b.path.state = .snkOn && b.mux.phase = .idle
  if !b.cc.release || b.pol.todo ≠ [] || e.hless then b
  else if b.reg.state = .idle && may && b.grantCurrent e.tide && !b.reg.cbLatch then
    b.will { kind := kGrant, mask := 0x0A, stage := b.restSettings 1 (rpAmps b.cc.rpLevel.toNat) }
  else if sink && b.reg.state ≠ .idle && b.reg.state ≠ .crowbar && b.reg.state ≠ .latched && !b.inSwap then
    b.will { safe := [.regIdle] }
  else b

/-- The sink path is closed whenever the policy calls for it and the latch shows the conditions of R186. -/
def doSinkPath (b : Berth) (e : Env) : Berth :=
  if b.cc.state = .attachedSnk && b.path.state = .off && e.tbl.snk ≠ [] && b.mux.phase = .idle && !b.id.hrActive && b.pol.todo = []
      && b.grantCurrent e.tide && b.sinkCloseOk e then
    let amps := match b.id.contract with
      | some c => c.curr
      | none => b.partnerAmps
    let v := match b.id.contract with
      | some c => (pdoRange c.pdo).2
      | none => 500
    b.will { kind := kGrant, mask := 0x0C, stage := b.sinkSettings amps (sinkOvFor v) true, needSink := true }
  else b

/-- A source without a contract whose share is below its Type-C power lowers Rp (R70, Table 4.11 step 4). -/
def doRp (b : Berth) : Berth := match b.pol.share with
  | none => b
  | some s =>
    if b.cc.state = .attachedSrc && b.id.contract.isNone && s < ceilDiv (5 * rpAmps b.cc.rpLevel.toNat) 10 && b.cc.heldRp.isNone
        && 0 < b.cc.rpLevel.toNat then
      let l : BitVec 2 := if 75 ≤ s then 1 else 0
      if l.toNat < b.cc.rpLevel.toNat then { b with cc.rp := l, cc.heldRp := some l }.addPend .rpLower else b
    else b

/-- Dropout with VBR below the contract window at 4 consecutive latches in a contract: Hard Reset (R236). -/
def doDropout (b : Berth) : Berth :=
  if b.lat.regStatus.getLsbD 11 && b.mon.ch[1].loNow && b.id.contract.isSome && b.pol.trans.isNone && b.id.powerSource then
    if b.pol.belowWin + 1 = 4 then { b with pol.belowWin := 0, pol.hrDue := true } else { b with pol.belowWin := b.pol.belowWin + 1 }
  else { b with pol.belowWin := 0 }

/-- A mode entry that the host asked for is complete when MODE_ACTIVE is committed (R174, Table 11.5). -/
def doModeDone (b : Berth) : Berth := match b.pol.cur with
  | some c => match c.kind with
    | .enterMode svid mode =>
      if b.mux.modeActive && b.pol.modeNow = some (svid, mode) then
        b.finishCmd .ok (leBytes 1 b.mux.sbu.toNat ++ leBytes 1 b.mux.mux.toNat) else b
    | _ => b
  | none => b

/-- An accepted mode entry that R173 deferred is carried out. -/
def doStoredMode (b : Berth) (e : Env) : Berth :=
  match b.pol.stored.find? (fun s => s.kind = .modeEntry && s.accept) with
  | none => b
  | some s =>
    let b := { b with pol.stored := b.pol.stored.filter (fun x => x.kind ≠ .modeEntry) }
    let svid : BitVec 16 := BitVec.ofNat 16 (s.content.toNat % 2 ^ 16)
    let pos := s.content.toNat / 2 ^ 16 % 8
    match e.tbl.mode.find? (fun r => r.svid = svid && r.action = 3 && (r.mode = 0 || r.mode = pos)) with
    | some r => if b.mux.modeActive || !b.id.dataDfp then b else b.enterMode { r with mode := pos }
    | none => b

/-- BP 4.0 leaves EPR mode of its own (R137); a source's capabilities follow. -/
def doEpr (b : Berth) (e : Env) : Berth :=
  let src := b.id.powerSource
  let leave := (src && (!e.tbl.flags.getLsbD 0 || b.cc.vconnLatch || 100 ≤ b.pol.noEprRounds)) || (!src && !e.tbl.flags.getLsbD 1)
  if b.id.eprMode && leave && b.attached && !b.id.hrActive && b.pol.todo = [] then
    let b := b.eprExit
    { b with pol.capsDue := src }
  else b

/-- Responses and events that wait go out with an EVT commit, unless one waits for its boundary already (R93, R101). -/
def publishOwed (b : Berth) (e : Env) : Berth :=
  let pends := b.id.pend.any (fun p => match p with
    | .commit c => c.word.mask.getLsbD 6
    | _ => false)
  if b.pol.owed = [] || pends || !(b.id.tokenRx.current || b.id.tokenTx.current || b.grantCurrent e.tide) then b
  else b.writeIntent e { kind := kLive, mask := 0x40 }

/-- One Tide of BP 4.0 after the latch and the commits of boundary `t` (R21 step 4, R24). -/
def bpTide (b : Berth) (e : Env) (t : Stamp) : Berth :=
  if !e.bp || e.hless || !b.cc.release then b
  else
    let b := ((b.seeGrant e).doModeDone).doRev
    let b := (b.doDropout).doRp
    let b := b.doAlerts
    let b := if b.pol.todo = [] then b.doStoredMode e else b
    let b := (((b.doEpr e).doEprEnter e).doFrsAsk e).doModeRule e
    let b := (((b.doFrs e).doRegulator e).doSinkPath e).doCaps e t
    ((b.writeFront e t).publishOwed e).doHardReset e t

end Berth

end Sys2Proof.Machine
end

