-- ==== Sys2Proof/Machine/Crypto.lean ====
section
/-!
DEFINITION. The checks the manual names by their standard: CRC-32 (PD polynomial, R28; the IEEE 802.3 polynomial is
the same one, R290), CRC-8 of SMBus (R365), CRC-16/CCITT (Table 9.11), SHA-256 and ECDSA P-256 (R283, R463).
-/

namespace Sys2Proof.Machine

/-- One bit of a reflected CRC-32 with polynomial 0x04C1_1DB7. -/
def crc32Bit (c : Word) : Word := if c.getLsbD 0 then (c >>> 1) ^^^ 0xEDB88320#32 else c >>> 1

/-- One byte of the PD CRC-32 step: reflected, bit 0 first (Table 9.11). -/
def crc32Step (c : Word) (x : Byte) : Word :=
  crc32Bit (crc32Bit (crc32Bit (crc32Bit (crc32Bit (crc32Bit (crc32Bit (crc32Bit (c ^^^ x.setWidth 32))))))))

/-- CRC-32 over bytes: preset to ones, complemented. -/
def crc32 (l : List Byte) : Word := ~~~ (l.foldl crc32Step 0xFFFFFFFF#32)

/-- One bit of CRC-8, polynomial 0x07, bit 7 first. -/
def crc8Bit (c : Byte) : Byte := if c.getLsbD 7 then (c <<< 1) ^^^ 0x07#8 else c <<< 1

/-- One byte of CRC-8. -/
def crc8Step (c : Byte) (x : Byte) : Byte :=
  crc8Bit (crc8Bit (crc8Bit (crc8Bit (crc8Bit (crc8Bit (crc8Bit (crc8Bit (c ^^^ x))))))))

/-- The packet error code over the bytes of a transaction (R365). -/
def pecOf (l : List Byte) : Byte := l.foldl crc8Step 0

/-- One bit of CRC-16/CCITT, polynomial 0x1021, bit 7 of each byte first. -/
def crc16Bit (c : BitVec 16) : BitVec 16 := if c.getLsbD 15 then (c <<< 1) ^^^ 0x1021#16 else c <<< 1

/-- One byte of CRC-16/CCITT. -/
def crc16Step (c : BitVec 16) (x : Byte) : BitVec 16 :=
  crc16Bit (crc16Bit (crc16Bit (crc16Bit (crc16Bit (crc16Bit (crc16Bit (crc16Bit (c ^^^ (x.setWidth 16 <<< 8)))))))))

/-! ### SHA-256 (FIPS 180-4; PRESUMED, log entry 31) -/

/-- The round constants. -/
def shaK : List Word :=
  [0x428a2f98#32, 0x71374491#32, 0xb5c0fbcf#32, 0xe9b5dba5#32, 0x3956c25b#32, 0x59f111f1#32, 0x923f82a4#32, 0xab1c5ed5#32] ++
  [0xd807aa98#32, 0x12835b01#32, 0x243185be#32, 0x550c7dc3#32, 0x72be5d74#32, 0x80deb1fe#32, 0x9bdc06a7#32, 0xc19bf174#32] ++
  [0xe49b69c1#32, 0xefbe4786#32, 0x0fc19dc6#32, 0x240ca1cc#32, 0x2de92c6f#32, 0x4a7484aa#32, 0x5cb0a9dc#32, 0x76f988da#32] ++
  [0x983e5152#32, 0xa831c66d#32, 0xb00327c8#32, 0xbf597fc7#32, 0xc6e00bf3#32, 0xd5a79147#32, 0x06ca6351#32, 0x14292967#32] ++
  [0x27b70a85#32, 0x2e1b2138#32, 0x4d2c6dfc#32, 0x53380d13#32, 0x650a7354#32, 0x766a0abb#32, 0x81c2c92e#32, 0x92722c85#32] ++
  [0xa2bfe8a1#32, 0xa81a664b#32, 0xc24b8b70#32, 0xc76c51a3#32, 0xd192e819#32, 0xd6990624#32, 0xf40e3585#32, 0x106aa070#32] ++
  [0x19a4c116#32, 0x1e376c08#32, 0x2748774c#32, 0x34b0bcb5#32, 0x391c0cb3#32, 0x4ed8aa4a#32, 0x5b9cca4f#32, 0x682e6ff3#32] ++
  [0x748f82ee#32, 0x78a5636f#32, 0x84c87814#32, 0x8cc70208#32, 0x90befffa#32, 0xa4506ceb#32, 0xbef9a3f7#32, 0xc67178f2#32]

/-- One round on the eight working variables. -/
def shaRound (v : List Word) (k w : Word) : List Word := match v with
  | [a, b, c, d, e, f, g, h] =>
    let s1 := e.rotateRight 6 ^^^ e.rotateRight 11 ^^^ e.rotateRight 25
    let t1 := h + s1 + ((e &&& f) ^^^ (~~~ e &&& g)) + k + w
    let s0 := a.rotateRight 2 ^^^ a.rotateRight 13 ^^^ a.rotateRight 22
    let t2 := s0 + ((a &&& b) ^^^ (a &&& c) ^^^ (b &&& c))
    [t1 + t2, a, b, c, d + t1, e, f, g]
  | _ => v

/-- The next word of the message schedule, from the last 16, newest first. -/
def shaNext (l : List Word) : Word :=
  let x := l[14]?.getD 0
  let y := l[1]?.getD 0
  (y.rotateRight 17 ^^^ y.rotateRight 19 ^^^ (y >>> 10)) + l[6]?.getD 0
    + (x.rotateRight 7 ^^^ x.rotateRight 18 ^^^ (x >>> 3)) + l[15]?.getD 0

/-- The message schedule grown by `n` words, newest first. -/
def shaGrow : Nat → List Word → List Word
  | 0, l => l
  | n + 1, l => shaGrow n (shaNext l :: l)

/-- One block of 16 words. -/
def shaBlock (h : List Word) (w : List Word) : List Word :=
  let ws := (shaGrow 48 w.reverse).reverse
  let v := (shaK.zip ws).foldl (fun v x => shaRound v x.1 x.2) h
  List.zipWith (· + ·) h v

/-- The big-endian words of bytes. -/
def beWords : List Byte → List Word
  | a :: b :: c :: d :: r => (a ++ b ++ c ++ d) :: beWords r
  | _ => []

/-- The blocks of a padded message, `n` of them. -/
def shaBlocks : Nat → List Word → List Word → List Word
  | 0, h, _ => h
  | n + 1, h, w => shaBlocks n (shaBlock h (w.take 16)) (w.drop 16)

/-- The big-endian bytes of a word. -/
def beBytes (w : Word) : List Byte := (leBytes 4 w.toNat).reverse

/-- SHA-256. -/
def sha256 (l : List Byte) : List Byte :=
  let n := l.length
  let pad := (119 - n % 64) % 64
  let m := l ++ (0x80#8 :: List.replicate pad 0) ++ (leBytes 8 (8 * n)).reverse
  let h : List Word := [0x6a09e667#32, 0xbb67ae85#32, 0x3c6ef372#32, 0xa54ff53a#32, 0x510e527f#32, 0x9b05688c#32, 0x1f83d9ab#32, 0x5be0cd19#32]
  ((shaBlocks (m.length / 64) h (beWords m)).map beBytes).flatten

/-! ### ECDSA on P-256 (FIPS 186-4; PRESUMED, log entry 31) -/

/-- The field prime, the group order, the curve's b and the base point. -/
def p256 : Nat := 2 ^ 256 - 2 ^ 224 + 2 ^ 192 + 2 ^ 96 - 1
@[inherit_doc p256] def p256n : Nat := 0xffffffff00000000ffffffffffffffffbce6faada7179e84f3b9cac2fc632551
@[inherit_doc p256] def p256b : Nat := 0x5ac635d8aa3a93e7b3ebbd55769886bc651d06b0cc53b0f63bce3c3e27d2604b
@[inherit_doc p256] def p256g : Nat × Nat :=
  (0x6b17d1f2e12c4247f8bce6e563a440f277037d812deb33a0f4a13945d898c296,
   0x4fe342e2fe1a7f9b8ee7eb4a7c0f9e162bce33576b315ececbb6406837bf51f5)

/-- Power modulo `m` by `k` squarings. -/
def powMod (m : Nat) : Nat → Nat → Nat → Nat
  | 0, _, _ => 1 % m
  | k + 1, x, e => (if e % 2 = 1 then x else 1) * powMod m k (x * x % m) (e / 2) % m

/-- The inverse modulo a prime below 2^256. -/
def invMod (m x : Nat) : Nat := powMod m 256 (x % m) (m - 2)

/-- The difference modulo `p256`. -/
def subP (x y : Nat) : Nat := (x % p256 + (p256 - y % p256)) % p256

/-- The sum of two points of the curve; none is the point at infinity. -/
def p256Add (a b : Option (Nat × Nat)) : Option (Nat × Nat) := match a, b with
  | none, q => q
  | p, none => p
  | some (x1, y1), some (x2, y2) =>
    if x1 = x2 && (y1 + y2) % p256 = 0 then none
    else
      let s := if x1 = x2 then (3 * x1 * x1 + (p256 - 3)) * invMod p256 (2 * y1) % p256
               else subP y2 y1 * invMod p256 (subP x2 x1) % p256
      let x := subP (s * s) (x1 + x2)
      some (x, subP (s * subP x1 x) y1)

/-- A multiple of a point by doubling and adding over `k` bits. -/
def p256Mul : Nat → Nat → Option (Nat × Nat) → Option (Nat × Nat)
  | 0, _, _ => none
  | k + 1, n, q => p256Add (if n % 2 = 1 then q else none) (p256Mul k (n / 2) (p256Add q q))

/-- The number of big-endian bytes. -/
def beNat (l : List Byte) : Nat := leNat l.reverse

/-- An ECDSA P-256 signature (r then s) verifies over a digest under a public key (X then Y). -/
def ecdsaOk (key digest sig : List Byte) : Bool :=
  let x := beNat (key.take 32)
  let y := beNat (key.drop 32)
  let r := beNat (sig.take 32)
  let s := beNat (sig.drop 32)
  if r = 0 || s = 0 || p256n ≤ r || p256n ≤ s || p256 ≤ x || p256 ≤ y then false
  else if y * y % p256 ≠ (x * x * x + (p256 - 3) * x + p256b) % p256 then false
  else
    let w := invMod p256n s
    match p256Add (p256Mul 256 (beNat digest * w % p256n) (some p256g)) (p256Mul 256 (r * w % p256n) (some (x, y))) with
    | none => false
    | some (vx, _) => vx % p256n = r

end Sys2Proof.Machine
end

