-- ==== Sys2Proof/Machine/Memory.lean ====
section
/-!
DEFINITION. Byte memory as a canonical list of cells: Tug local memories and Hold in the Harbourmaster view (R37,
R40, R41).  An address that is not listed reads as 0 (log entry 5).  Words are little-endian (R264).
-/

namespace Sys2Proof.Machine

/-- The cells lie at strictly rising addresses from `lo` up, and none holds the value of an unlisted address. -/
def Memory.above : Nat → List Host.Cell → Bool
  | _, [] => true
  | lo, (a, v) :: r => decide (lo ≤ a) && (v != 0) && Memory.above (a + 1) r

/-- The canonical form. -/
def Memory.wf (m : List Host.Cell) : Bool := Memory.above 0 m

/-- The byte at an address. -/
def Memory.read (m : List Host.Cell) (a : Nat) : Byte := match m with
  | [] => 0
  | (b, v) :: r => if a = b then v else Memory.read r a

/-- The memory with one byte written. -/
def Memory.write (m : List Host.Cell) (a : Nat) (v : Byte) : List Host.Cell := match m with
  | [] => if v = 0 then [] else [(a, v)]
  | (b, w) :: r =>
    if a < b then (if v = 0 then (b, w) :: r else (a, v) :: (b, w) :: r)
    else if a = b then (if v = 0 then r else (a, v) :: r)
    else (b, w) :: Memory.write r a v

/-- The memory with bytes written from an address up. -/
def Memory.writeBytes (m : List Host.Cell) (a : Nat) : List Byte → List Host.Cell
  | [] => m
  | v :: r => Memory.writeBytes (Memory.write m a v) (a + 1) r

/-- Bytes as cells from an address up, without those that an unlisted address reads as. -/
def Memory.cells : Nat → List Byte → List Host.Cell
  | _, [] => []
  | a, v :: r => if v = 0 then Memory.cells (a + 1) r else (a, v) :: Memory.cells (a + 1) r

/-- The memory with the `n` bytes from an address up replaced by the first `n` of a list, and by 0 where it ends. -/
def Memory.setRange (m : List Host.Cell) (a n : Nat) (l : List Byte) : List Host.Cell :=
  m.filter (fun c => decide (c.1 < a)) ++ Memory.cells a (l.take n) ++ m.filter (fun c => decide (a + n ≤ c.1))

/-- The `n` bytes from an address up. -/
def Memory.readBytes (m : List Host.Cell) (a : Nat) : Nat → List Byte
  | 0 => []
  | n + 1 => Memory.read m a :: Memory.readBytes m (a + 1) n

/-- The little-endian number of `n` bytes at an address. -/
def Memory.readLe (m : List Host.Cell) (a n : Nat) : Nat := match n with
  | 0 => 0
  | n + 1 => (Memory.read m a).toNat + 256 * Memory.readLe m (a + 1) n

end Sys2Proof.Machine
end

