-- ==== Sys2Proof/Machine/SwapOps.lean ====
section
/-!
DEFINITION. Fast role swap in the quay's hardware (R165–R169, Table 5.2).
-/

namespace Sys2Proof.Machine

namespace Berth

/-- The monitored CC has stayed below 0.49 V for 50 µs while armed, at stamp `t` (FRS_SIGNAL_QUALIFIED; R166). -/
def frsQualified (b : Berth) (t : Stamp) : Berth :=
  if b.mux.phase = .frsArmed then
    let b := ((b.setPhase .frsDetected).openSink).swapEvt 1
    { b with mux.frsDetected := true, mux.signalEnd := false, mux.sourceOn := false, mux.partnerPsRdy := false, mux.stamp0 := BitVec.ofNat 32 t
             id.expectLoss := true }
  else b

/-- The signal still lasts 150 µs after CC fell, at stamp `t` (FRS_SIGNAL_TOO_LONG; R166): a detach. -/
def frsTooLong (b : Berth) (e : Env) (t : Stamp) : Berth :=
  if b.mux.phase = .frsDetected && !b.mux.signalEnd then
    (({ b with id.expectLoss := false }.setPhase .idle).detach t 0 .partnerNoResponse).toUnattached e t
  else b

/-- The later of the signal's end and VBC below 4.75 V, at stamp `t` (FRS_SOURCE_TURN_ON; R167, R169): the source path
closes at full strength, or stays open with FRS_BLOCKED and ErrorRecovery at the next boundary. -/
def frsTurnOn (b : Berth) (e : Env) (t vbrMv : Nat) : Berth :=
  if b.mux.phase = .frsDetected && b.mux.signalEnd && b.mon.ch[0].loNow && b.path.state = .off then
    if e.vinOk && 4750 ≤ vbrMv && vbrMv ≤ 5500 && !b.reg.cbLatch then
      let off := b.tm.swap
      let b := ((b.setPhase .frsSourcing).swapEvt 2).cntSwap 0
      { b with tm.swap := off, path.state := .srcOn, path.flt := 0, path.fltAt := t, path.ilimOver := some (BitVec.ofNat 10 (fld b.mux.frsCfg 2 10)), mux.sourceOn := true
               mux.stamp1 := BitVec.ofNat 32 t }.loadW3
    else (b.swapEvt 3).addPend .hwErrorRecovery
  else b

end Berth

end Sys2Proof.Machine
end

