-- ==== Sys2Proof/Machine/Monitor.lean ====
section
/-!
DEFINITION. The monitors of one berth: edges and what they drive (R246, R248, R252), the results of comparator tests
(R250, R253), parking and waking (R254), and the general-purpose timers (R262).
-/

namespace Sys2Proof.Machine

namespace Berth

/-- An assertion of channel `n` counts in MON_CNT_n (R246, R111). -/
def cntChannel (b : Berth) (n : Fin 10) : Berth :=
  let c := b.mon.ch[n]
  match satInc c.cnt with
  | (x, true) => { b with mon.ch := b.mon.ch.set n { c with cnt := x }, mon.ovf := bitOn b.mon.ovf n
                          evOut := b.evOut ++ [.manifest 3 0 0xFFFF 0xFFFF (0x518 + 0x20 * n)] }
  | (x, false) => { b with mon.ch := b.mon.ch.set n { c with cnt := x } }

/-- A blanking source other than the PWM leading edge covers stamp `t` for the HI or LO comparator of channel `n`: DAC settle,
the Tide boundary, inrush, or the berth's own transmission with its tail (R247, Table 8.3). The PWM edges are the quay's own
(log entry 83). -/
def blankedAt (b : Berth) (n : Fin 10) (hi : Bool) (t : Stamp) : Bool :=
  let c := b.mon.ch[n]
  let sending := (match b.phy.tx with
      | some x => x.begun && !x.ended
      | none => false) || b.phy.ackDue.isSome || b.phy.hrSending || b.phy.crSending
  n ≠ 2 && n ≠ 8
    && (t < (if hi then c.hiSettle else c.loSettle)
      || (c.cfg.getLsbD 5 && (sending || (b.phy.wireEnd ≤ t && t < b.phy.wireEnd + us (fld b.mon.blank 8 5))))
      || (c.cfg.getLsbD 6 && b.path.state = .srcRamp)
      || (c.cfg.getLsbD 7 && b.tmr.tb ≤ t && t < b.tmr.tb + 2 * fld b.mon.blank 16 5))

/-- The thresholds that an event at stamp `t` changed settle for 2 µs (DAC settle, Table 8.3). -/
def settleFrom (b old : Berth) (t : Stamp) : Berth :=
  { b with mon.ch := Vector.ofFn (fun (i : Fin 10) =>
      let c := b.mon.ch[i]
      let o := old.mon.ch[i]
      { c with hiSettle := if c.thrEff = o.thrEff then c.hiSettle else t + us 2
               loSettle := if c.lowEff = o.lowEff then c.loSettle else t + us 2 }) }

/-- The output of a HI or LO comparator of channel `n` becomes `on` at stamp `t` (R246). -/
def channelEdge (b : Berth) (n : Fin 10) (hi on : Bool) (t : Stamp) : Berth :=
  let c := b.mon.ch[n]
  let st := BitVec.ofNat 32 t
  let c' : MonCh :=
    if hi then { c with hiNow := on, hiSeen := c.hiSeen || on, hiStamp := if on then st else c.hiStamp }
    else { c with loNow := on, loSeen := c.loSeen || on, loStamp := if on then st else c.loStamp }
  let enabled := c.cfg.getLsbD ((if hi then 0 else 2) + (if on then 0 else 1))
  let b := { b with mon.ch := b.mon.ch.set n c' }
  let b := if on then b.cntChannel n else b
  if enabled then b.monEvt n else b

/-- What the 0.80 V detector drives at stamp `t`: the back-feed timers and the attach that awaited vSafe0V (Table 2.3,
R66, R68). -/
def vbc08Edge (b : Berth) (e : Env) (on : Bool) (t : Stamp) : Berth :=
  let b := { b with mon.ded := b.mon.ded.set 4 on }
  let waits := b.unattached || b.cc.state = .attachWaitSrc || b.cc.state = .attachWaitSnk
  if on then
    { b with tm.backDet := if waits then some (b.tm.backDet.getD (t + ms 650)) else b.tm.backDet
             tm.clr := if b.cc.state = .backFeed then none else b.tm.clr }
  else
    let b := { b with tm.backDet := none
                      tm.clr := if b.cc.state = .backFeed && b.cc.release then some (t + ms 100) else b.tm.clr }
    if b.cc.state = .attachWaitSrc && b.cc.debDone then b.takeAttach e t else b

/-- What the 3.67 V detector drives at stamp `t`: the attach that awaited VBUS, and the return of VBUS after a Hard
Reset (Table 2.3, R107). -/
def vbc367Edge (b : Berth) (e : Env) (on : Bool) (t : Stamp) : Berth :=
  let b := { b with mon.ded := b.mon.ded.set 5 on }
  if !on then b
  else
    let b := if b.cc.state = .attachedSnk && b.id.hrActive then
        { b with id.hrActive := false, id.expectLoss := false, tm.snkHr := none } else b
    if (b.cc.state = .attachWaitSnk || b.cc.state = .tryWaitSnk || b.cc.state = .trySnk) && b.cc.debDone then b.takeAttach e t
    else b

/-- The CC over-voltage comparator at 6.00 V: CC_OV_ACTIVE follows it, and a rise starts the 100 ms clear afresh (R74, R241). -/
def ccOvEdge (b : Berth) (on : Bool) (t : Stamp) : Berth :=
  let b := { b with mon.ded := b.mon.ded.set 1 on, cc.ovActive := on }
  if on then b.ccHigh t else b

/-- A change of comparator `c` at stamp `t` (COMPARATOR_EDGE; R246). One that a blanking source covers is ignored, and the channel
shows BLANKED (R248, Table 8.8). -/
def comparatorEdge (b : Berth) (e : Env) (c : Fin 27) (on : Bool) (t : Stamp) : Berth :=
  if h : c.val < 20 then
    let n : Fin 10 := ⟨c.val / 2, by omega⟩
    if b.blankedAt n (c.val % 2 = 0) t then { b with mon.ch := b.mon.ch.set n { b.mon.ch[n] with blanked := true } }
    else b.channelEdge n (c.val % 2 = 0) on t
  else if c.val = 21 then b.ccOvEdge on t
  else if c.val = 24 then b.vbc08Edge e on t
  else if c.val = 25 then b.vbc367Edge e on t
  else { b with mon.ded := b.mon.ded.set (c.val - 20) on (by omega) }

/-- The present output of a comparator. -/
def output (b : Berth) (c : Fin 27) : Bool :=
  if h : c.val < 20 then
    let x := b.mon.ch[c.val / 2]'(by omega)
    if c.val % 2 = 0 then x.hiNow else x.loNow
  else b.mon.ded[c.val - 20]'(by omega)

/-- A blanking interval ends at stamp `t` with the output `on`: a changed output is an edge stamped there (BLANKING_END;
R248). -/
def blankingEnd (b : Berth) (e : Env) (c : Fin 27) (on : Bool) (t : Stamp) : Berth :=
  let b := if h : c.val < 20 then
      let x := b.mon.ch[c.val / 2]'(by omega)
      { b with mon.ch := b.mon.ch.set (c.val / 2) { x with blanked := true } (by omega) } else b
  if b.output c = on then b else b.comparatorEdge e c on t

/-- A comparator code that exists: W2 and W7 have no LO comparator (Table 8.1). -/
def isComparator (c : Fin 27) : Bool := c ≠ 5 && c ≠ 15

/-- A targeted test of a comparator waits for the next AUDIT slot (R252), with its origin. -/
def wantTest (b : Berth) (c : Fin 27) (origin : Nat) : Berth :=
  if isComparator c && !b.mon.wanted.contains (c, origin) then { b with mon.wanted := b.mon.wanted ++ [(c, origin)] } else b

/-- The level of a threshold code (Table 8.1): mV for W0, W1, W5, W6, W8 and W9, tenths of a mA for the currents. -/
def levelOf (b : Berth) (n : Fin 10) (code : Nat) : Int :=
  match n.val with
  | 0 => (if b.mon.ch[0].cfg.getLsbD 8 then 60 else 10) * code
  | 1 => (if b.mon.ch[1].cfg.getLsbD 8 then 60 else 10) * code
  | 2 => 250 * code
  | 3 => 100 * ((code : Int) - 64)
  | 4 => 125 * ((code : Int) - 256)
  | 5 => 3 * code
  | 6 => 3 * code
  | 7 => 5 * code
  | 8 => 100 * code
  | _ => 2 * code

/-- An assertion of comparator `c` is unexpected (R252): a trip of W2, W8, the crowbar or the CC over-voltage comparator always; one of
another channel when the sample that follows it, in LSB of the comparator's DAC, lies more than 16 LSB on the other side of the
threshold. The remaining comparators have no DAC code to compare with: of them the report stands (DEDUCED, log entry 88). -/
def isUnexpected (b : Berth) (c : Fin 27) (sample : Nat) : Bool :=
  if c = 4 || c = 16 || c = 17 then true
  else if h : c.val < 20 then
    let x := b.mon.ch[c.val / 2]'(by omega)
    if c.val % 2 = 0 then decide (sample + 16 < x.thrEff.toNat) else decide (x.lowEff.toNat + 16 < sample)
  else true

/-- An edge reported with the sample that followed it (UNEXPECTED_EDGE; R252). -/
def unexpectedEdge (b : Berth) (c : Fin 27) (sample : Nat) : Berth :=
  if b.isUnexpected c sample then ((b.cntMon 0).monEvt 12).wantTest c 1 else b

/-- What a test finds (R250): the output inverts in step 3, which a sample of the input within 8 LSB of the threshold and a test of the
stand-in leave out, and reads as it should at 20 % and at 80 % of full scale. -/
def testPass (c : Fin 27) (inverts near at20 at80 : Bool) : Bool :=
  (inverts || near || c = 26) && (if c.val < 20 && c.val % 2 = 1 then at20 && !at80 else !at20 && at80)

/-- The stand-in holds a fenced duty: some fenced comparator other than W2, W8 and the stand-in (R249, R253). -/
def standInHeld (b : Berth) : Bool :=
  (List.finRange 27).any (fun c => b.mon.fence.getLsbD c && c ≠ 4 && c ≠ 26 && c ≠ 16 && c ≠ 17)

/-- A test of comparator `c` starts (COMPARATOR_TEST_START; R250). -/
def testStart (b : Berth) (c : Fin 27) (targeted : Bool) : Berth :=
  let b := { b with mon.busy := true, mon.resSel := BitVec.ofNat 5 c.val, mon.kindTargeted := targeted
                    mon.wanted := if targeted then b.mon.wanted.drop 1 else b.mon.wanted
                    st.kind := 0, st.busy := true, st.result := 0 }
  if h : c.val < 20 then
    let x := b.mon.ch[c.val / 2]'(by omega)
    let y := { x with tested := true, cfg := if c = 4 then x.cfg else setFld x.cfg 9 1 1 }
    { b with mon.ch := b.mon.ch.set (c.val / 2) y (by omega) }
  else b

/-- STANDIN of a channel: one of its comparators is fenced. -/
def standInOf (b : Berth) (n : Nat) : Bool := n ≠ 2 && (b.mon.fence.getLsbD (2 * n) || b.mon.fence.getLsbD (2 * n + 1))

/-- A comparator is fenced (R253): its bit, its stand-in, and LOCKED when no fall-back is left. -/
def fenceComparator (b : Berth) (c : Fin 27) (t : Stamp) : Berth :=
  let held := if c = 16 then b.mon.fence.getLsbD 17 else if c = 17 then b.mon.fence.getLsbD 16 else b.standInHeld
  let b := { b with mon.fence := b.mon.fence ||| BitVec.ofNat 27 (2 ^ c.val) }
  if held && c ≠ 4 then b.lock .testFail t else b

/-- A test of comparator `c` ends (COMPARATOR_TEST_DONE; R253): its result and its counts. -/
def testDone (b : Berth) (c : Fin 27) (pass : Bool) : Berth :=
  let b := { b with mon.busy := false, mon.result := if pass then 1 else 2 }.monEvt 10
  let b := if pass then b else (b.monEvt 11).cntMon 1
  let b := if b.mon.kindTargeted then b else b.cntMon 2
  if h : c.val < 20 then
    let x := b.mon.ch[c.val / 2]'(by omega)
    let y := { x with cfg := setFld x.cfg 9 1 (if b.standInOf (c.val / 2) then 1 else 0) }
    { b with mon.ch := b.mon.ch.set (c.val / 2) y (by omega) }
  else b

/-- The states in which a berth may be parked (R254). -/
def parkState (b : Berth) : Bool := b.cc.state = .disabled || b.unattached

/-- Boundaries in a row that found the berth in one of them. -/
def idleTide (b : Berth) : Berth := { b with mon.idleTides := if b.parkState then b.mon.idleTides + 1 else 0 }

/-- A berth may be parked: 10 s, that is 400,000 Tides, in a parking state (R254, R384). -/
def mayPark (b : Berth) : Bool :=
  b.mon.parkEn && !b.mon.parked && decide (400000 ≤ b.mon.idleTides) && b.parkState && b.reg.state ≠ .crowbar && b.reg.state ≠ .latched
    && b.path.state ≠ .locked

/-- The berth is parked (BERTH_PARK; R254): the domain off, the regulator in IDLE;
its registers are kept to be restored at the wake, and read as their reset values meanwhile. -/
def park (b : Berth) : Berth :=
  if b.mayPark then { b.regIdle with mon.parked := true, mon.parkMode := b.reg.mode } else b

/-- The domain is woken at stamp `t` (BERTH_WAKE; R254): its registers are restored and the regulator soft-starts toward the standby it
was parked from. -/
def wake (b : Berth) (t : Stamp) : Berth :=
  if b.mon.parked then
    let b := { b with mon.parked := false, mon.idleTides := 0 }.monEvt 15
    if b.mon.parkMode = .idle then b else b.applyMode b.mon.parkMode 5000 t
  else b

/-- GP0 or GP1 expires (GP_TIMER_EXPIRY; R262). -/
def gpExpiry (b : Berth) (gp1 : Bool) : Berth :=
  if gp1 then (match b.tm.gp1 with
    | some _ => { b with tm.gp1 := none }.expired 15
    | none => b)
  else match b.tm.gp0 with
    | some _ => { b with tm.gp0 := none }.expired 14
    | none => b

end Berth

end Sys2Proof.Machine
end

