-- ==== Sys2Proof/Machine/Window.lean ====
section
/-!
DEFINITION. Writes to the registers of a berth window, register by register (R15, R40, R50–R52, R76, R83, R113–R115,
R158, R178, R206, R238, R243, R259, R260, R262, R458).
-/

namespace Sys2Proof.Machine

namespace Berth

/-- A two-bit field of a register image whose reserved code 11 is ignored: the old field stands (R15). -/
def keepCode3 (old v : Word) (lo : Nat) : Word := if fld v lo 2 = 3 then setFld v lo 2 (fld old lo 2) else v

/-! ### CC -/

/-- A write to CC_CFG is held; reserved codes are ignored (R50, Table 2.7; CC_CFG_WRITE). -/
def ccCfgWrite (b : Berth) (v : Word) : Berth :=
  let old := b.cc.heldCfg.getD b.cc.cfg
  { b with cc.heldCfg := some (keepCode3 old (keepCode3 old (keepCode3 old (v &&& 0x7F#32) 0) 2) 4) }

/-- The ranges of CC_TIME_i applied to a value (R56, Tables 2.8–2.10). -/
def ccTimeClamp (i : Fin 3) (v : Word) : Word := match i with
  | 0 => clampFld (clampFld (clampFld (clampFld v 0 8 100 200) 8 8 10 20) 16 8 0 100) 24 8 25 100
  | 1 => clampFld (clampFld (clampFld (clampFld v 0 8 50 100) 8 8 30 70) 16 8 75 150) 24 8 10 20
  | 2 => clampFld (clampFld (v &&& 0xFFFF#32) 0 8 40 80) 8 8 55 110

/-- R57: TINS is reduced to 250 ms − TCCDEB where the sum exceeds 250 ms. -/
def insClamp (v : Word) : Word :=
  if 250 < fld v 0 8 + fld v 16 8 then setFld v 16 8 (250 - fld v 0 8) else v

/-- A write to CC_TIME_i is clamped and held (R50, R56, R57; CC_TIME_WRITE). -/
def ccTimeWrite (b : Berth) (i : Fin 3) (v : Word) : Berth :=
  let r := if i = 0 then insClamp (ccTimeClamp i v) else ccTimeClamp i v
  let b := if r = (if i = 2 then v &&& 0xFFFF#32 else v) then b else b.ccEvt 7
  match i with
  | 0 => { b with cc.heldTime0 := some r }
  | 1 => { b with cc.heldTime1 := some r }
  | 2 => { b with cc.heldTime2 := some r }

/-- A write to CC_RP (R51; CC_RP_WRITE): during a contract it is held; a lower level waits for the next boundary, a
higher one is staged for a COMMIT under a grant. -/
def ccRpWrite (b : Berth) (v : Word) : Berth :=
  let l := BitVec.ofNat 2 (fld v 0 2)
  if l = 3 then b
  else
    let b := { b with cc.rp := l, stg.ccRp := l }
    if b.id.contract.isSome then { b with cc.heldRp := some l }
    else if l.toNat < b.cc.rpLevel.toNat then { b with cc.heldRp := some l }.addPend .rpLower
    else b

/-- A write to VCONN_CFG is clamped and applies at the next boundary (R61, Table 2.16; VCONN_CFG_WRITE). -/
def vconnCfgWrite (b : Berth) (v : Word) : Berth :=
  let v := v &&& 0xFFF#32
  let r := clampFld (clampFld v 0 8 25 150) 8 4 1 15
  (if r = v then b else b.ccEvt 7).addPend (.vconnCfg r)

/-- CC_CMD.SWAP_TO_RD (R157; SWAP_TO_RD): only in PR_SRC_OFF with VBC below 0.80 V at the latch; ignored and counted otherwise. -/
def swapToRdCmd (b : Berth) : Berth :=
  if b.mux.phase = .prSrcOff && b.lat.ccStatus.getLsbD 22 then b.addPend .swapToRd else b.discardOne

/-- CC_CMD.SWAP_TO_RP (R157; SWAP_TO_RP): only in PR_SNK_ON, or in FRS_SOURCING after the partner's PS_RDY. -/
def swapToRpCmd (b : Berth) : Berth :=
  if b.mux.phase = .prSnkOn || (b.mux.phase = .frsSourcing && b.mux.partnerPsRdy) then b.addPend .swapToRp else b.discardOne

/-- A write to CC_CMD (Table 2.15). -/
def ccCmdWrite (b : Berth) (v : Word) : Berth :=
  let b := if v.getLsbD 0 then b.addPend .errorRecovery else b
  let b := if v.getLsbD 1 then b.addPend .vconnOff else b
  let b := if v.getLsbD 2 then b.addPend .vconnRearm else b
  let b := if v.getLsbD 4 then b.swapToRdCmd else b
  if v.getLsbD 5 then b.swapToRpCmd else b

/-- CC_GATE.RELEASE: set by the Harbourmaster only (Table 2.17; RELEASE). -/
def releaseWrite (b : Berth) (w : Writer) : Berth := match w with
  | .harbour => b.addPend .release
  | .tug => b

/-! ### PHY -/

/-- A write to PHY_CFG is held until the berth's next accepted COMMIT (R114; PHY_CFG_WRITE). -/
def phyCfgWrite (b : Berth) (v : Word) : Berth := { b with phy.heldCfg := some (v &&& 0x7F#32) }

/-- The ranges of PHY_TIME_i (Table 3.20). -/
def phyTimeClamp (i : Fin 3) (v : Word) : Word :=
  let v := v &&& 0xFFFFFF#32
  match i with
  | 0 => clampFld (clampFld (clampFld v 0 8 90 110) 8 8 16 20) 16 8 25 35
  | 1 => clampFld (clampFld (clampFld v 0 8 27 33) 8 8 24 30) 16 8 24 30
  | 2 => clampFld (clampFld (clampFld v 0 8 25 35) 8 8 66 100) 16 8 100 200

/-- A write to PHY_TIME_i, clamped, for the timers started after the next boundary (R83; PHY_TIME_WRITE). -/
def phyTimeWrite (b : Berth) (i : Fin 3) (v : Word) : Berth :=
  let r := phyTimeClamp i v
  (if r = v &&& 0xFFFFFF#32 then b else b.phyEvt 13).addPend (.phyTime i r)

/-- A write to TX_CTRL.ARM (R98, Table 3.22; TX_CTRL_WRITE): each buffer it disarms is counted. -/
def txCtrlWrite (b : Berth) (v : Word) : Berth :=
  let a := BitVec.ofNat 4 (fld v 0 4)
  let n := (List.finRange 4).countP (fun i => b.phy.arm.getLsbD i && !a.getLsbD i)
  (List.replicate n ()).foldl (fun x _ => x.cntId 2) { b with phy.arm := a }

/-- A write to PHY_CMD (Table 3.23). -/
def phyCmdWrite (b : Berth) (v : Word) : Berth :=
  let b := if v.getLsbD 0 then b.requestHardReset else b
  let b := if v.getLsbD 1 then b.requestCableReset else b
  let b := if v.getLsbD 2 then b.flushRx else b
  if v.getLsbD 3 then b.discardTx else b

/-- A write to a word of a transmit buffer; an armed buffer ignores it (R115, Tables 3.22, 3.27). -/
def txBufWrite (b : Berth) (n : Fin 4) (o : Nat) (v : Word) : Berth :=
  if b.phy.arm.getLsbD n then b
  else
    let x := b.phy.bufs[n]
    let put (i : Fin 28) : Byte := if o ≤ i.val + 4 && i.val + 4 < o + 4 then BitVec.ofNat 8 (v.toNat >>> (8 * (i.val + 4 - o))) else x.data[i]
    let y : TxBuf := if o = 0 then { x with word0 := v &&& 0xFFFF077F#32 } else { x with data := Vector.ofFn put }
    { b with phy.bufs := b.phy.bufs.set n y }

/-! ### Path, regulator, swap -/

/-- PATH_SAFE.LOWER_ILIM (Table 6.14; LOWER_ILIM). -/
def pathSafeWrite (b : Berth) (v : Word) : Berth :=
  let b := if v.getLsbD 0 then b.addPend .srcOpen else b
  let b := if v.getLsbD 1 then b.addPend .snkOpen else b
  let b := if v.getLsbD 2 then b.addPend .disOn else b
  if v.getLsbD 3 then b.addPend (.lowerIlim (BitVec.ofNat 10 (fld v 4 10))) else b

/-- A write to REG_SAFE (Table 7.12). -/
def regSafeWrite (b : Berth) (v : Word) : Berth :=
  let b := if v.getLsbD 0 then b.addPend .regStandby else b
  let b := if v.getLsbD 1 then b.addPend .regIdle else b
  if v.getLsbD 2 then b.addPend (.lowerHold (BitVec.ofNat 10 (fld v 4 10))) else b

/-- A write to REG_CFG, clamped and held (R238; REG_CFG_WRITE). -/
def regCfgWrite (b : Berth) (v : Word) : Berth :=
  let v := v &&& 0x377F#32
  let r := clampFld (clampFld v 0 7 20 80) 8 3 1 7
  { (if r = v then b else b.regEvt 13) with reg.heldCfg := some r }

/-- A write to REG_WIN, clamped, for the next boundary (R223; REG_WIN_WRITE). -/
def regWinWrite (b : Berth) (v : Word) : Berth :=
  let v := v &&& 0x03FF1F1F#32
  let r := clampFld (clampFld (clampFld v 0 5 4 20) 8 5 4 20) 16 10 100 500
  (if r = v then b else b.regEvt 13).addPend (.regWin r)

/-- A staged REG_VREF; the reserved mode is ignored (Table 7.10). -/
def vrefWrite (b : Berth) (v : Word) : Berth := { b with stg.regVref := keepCode3 b.stg.regVref (v &&& 0x031F3FFF#32) 24 }

/-- A staged PATH_STAGE; reserved commands are ignored (Table 6.10). -/
def pathStageWrite (b : Berth) (v : Word) : Berth :=
  { b with stg.pathStage := keepCode3 b.stg.pathStage (keepCode3 b.stg.pathStage (v &&& 0x1F#32) 0) 2 }

/-- A write to MUX_CFG is held until the outputs are USB-safe (R178; MUX_CFG_WRITE). -/
def muxCfgWrite (b : Berth) (v : Word) : Berth := { b with mux.heldCfg := some (v &&& 1#32) }

/-- A write to SWAP_TIME, clamped (R158; SWAP_TIME_WRITE). -/
def swapTimeWrite (b : Berth) (v : Word) : Berth :=
  let v := v &&& 0xFFFFFF#32
  let r := clampFld (clampFld (clampFld v 0 8 75 92) 8 8 39 48) 16 8 100 200
  { (if r = v then b else b.swapEvt 5) with mux.swapTime := r }

/-- SWAP_CMD.VCONN_ON (R157; VCONN_ON): only in VC_ON; ignored and counted otherwise. -/
def vconnOnCmd (b : Berth) : Berth := if b.mux.phase = .vcOn then b.addPend .vconnOn else b.discardOne

/-! ### Monitors and timers -/

/-- A write to MON_THR_n or MON_LOW_n that has no Tug source is ignored, marked and counted (R243;
MON_THRESHOLD_WRITE_IGNORED). -/
def monIgnored (b : Berth) : Berth := (b.monEvt 13).discardOne

/-- A write to MON_THR_n (R243, R244, R245). -/
def monThrWrite (b : Berth) (n : Fin 10) (v : Word) : Berth :=
  let x := BitVec.ofNat 10 (fld v 0 10)
  match n with
  | 0 => { b with stg.monThr := b.stg.monThr.set 0 x, stg.w0High := b.stg.w0High }
  | 4 => { b with stg.monThr := b.stg.monThr.set 1 x }
  | 9 => { b with stg.monThr := b.stg.monThr.set 2 x }
  | _ => b.monIgnored

/-- A write to MON_LOW_n (R243, R245). -/
def monLowWrite (b : Berth) (n : Fin 10) (v : Word) : Berth :=
  let x := BitVec.ofNat 10 (fld v 0 10)
  match n with
  | 0 => { b with stg.monLow := b.stg.monLow.set 0 x }
  | 9 => { b with stg.monLow := b.stg.monLow.set 1 x }
  | _ => b.monIgnored

/-- A write to MON_CFG_n: the interrupt enables, and BLANK_MASK but for W2 and W8 (Table 8.8). -/
def monCfgWrite (b : Berth) (n : Fin 10) (v : Word) : Berth :=
  let c := b.mon.ch[n]
  let m : Word := if n = 2 || n = 8 then 0xF else 0xFF
  { b with mon.ch := b.mon.ch.set n { c with cfg := (c.cfg &&& ~~~ m) ||| (v &&& m) } }

/-- A write to MON_BLANK, clamped, for the next boundary (Table 8.9). -/
def monBlankWrite (b : Berth) (v : Word) : Berth :=
  let v := v &&& 0x001F1F1F#32
  let r := clampFld (clampFld (clampFld v 0 5 2 20) 8 5 0 20) 16 5 0 25
  (if r = v then b else b.monEvt 14).addPend (.monBlank r)

/-- A write to MON_TEST with RUN asks a targeted test of SEL (R252; MON_TEST_RUN): origin 2 for the Harbourmaster. A SEL of 27–31, or
one that names no comparator (5, 15), starts no test (DESIGN CHOICE, log entry 88: the manual says nothing of them). -/
def monTestWrite (b : Berth) (w : Writer) (sel : Nat) : Berth :=
  if h : sel < 27 then b.wantTest ⟨sel, h⟩ (if w = .harbour then 2 else 1) else b

/-- A write to GP_CTRL (R262): starts and stops apply at the next boundary. -/
def gpCtrlWrite (b : Berth) (v : Word) : Berth :=
  let b := if v.getLsbD 0 then b.addPend (.gpStart false) else b
  let b := if v.getLsbD 1 then b.addPend (.gpStop false) else b
  let b := if v.getLsbD 2 then b.addPend (.gpStart true) else b
  if v.getLsbD 3 then b.addPend (.gpStop true) else b

/-- A write to a monitor channel's register. -/
def monWrite (b : Berth) (n : Fin 10) (o : Nat) (v : Word) : Berth := match o with
  | 0x00 => b.monCfgWrite n v
  | 0x04 => b.monThrWrite n v
  | 0x08 => b.monLowWrite n v
  | _ => b

/-- A write to an OVF register: each bit written 1 clears its flag and zeroes its counter (R111; OVF_CLEAR). -/
def ovfClear (b : Berth) (off : Nat) (v : Word) : Berth := match off with
  | 0x03C =>
    let r := clearOvf #v[b.id.cntRefused, b.id.cntDiscarded, b.id.cntSpecDrop] b.id.idOvf v
    { b with id.cntRefused := r.1[0], id.cntDiscarded := r.1[1], id.cntSpecDrop := r.1[2], id.idOvf := r.2 }
  | 0x138 =>
    let r := clearOvf #v[b.cc.cntAttach, b.cc.cntDetach] b.cc.ovf v
    { b with cc.cntAttach := r.1[0], cc.cntDetach := r.1[1], cc.ovf := r.2 }
  | 0x250 => let r := clearOvf b.phy.cnt b.phy.ovf v
             { b with phy.cnt := r.1, phy.ovf := r.2 }
  | 0x33C => let r := clearOvf b.path.cnt b.path.ovf v
             { b with path.cnt := r.1, path.ovf := r.2 }
  | 0x444 => let r := clearOvf b.reg.cnt b.reg.ovf v
             { b with reg.cnt := r.1, reg.ovf := r.2 }
  | 0x668 =>
    { b with mon.ch := Vector.ofFn (fun i : Fin 10 => let c := b.mon.ch[i]
                                                       if v.getLsbD i then { c with cnt := 0 } else c)
             mon.cnt := Vector.ofFn (fun i : Fin 3 => if v.getLsbD (10 + i) then 0 else b.mon.cnt[i])
             mon.ovf := w1c b.mon.ovf v }
  | 0x93C => let r := clearOvf b.mux.cnt b.mux.ovf v
             { b with mux.cnt := r.1, mux.ovf := r.2 }
  | 0xA18 => let r := clearOvf b.st.cnt b.st.ovf v
             { b with st.cnt := r.1, st.ovf := r.2 }
  | _ => b

/-- ST_PHY_LB.RUN: the Harbourmaster asks a loopback (R458; ST_PHY_LB_RUN). -/
def phyLbRun (b : Berth) (w : Writer) : Berth := match w with
  | .harbour => { b with st.want := some (none, 2) }
  | .tug => b

/-! ### The window -/

/-- A write to the identity, CC and PHY blocks. -/
def writeLow (b : Berth) (w : Writer) (e : Env) (o : Nat) (v : Word) : Berth := match o with
  | 0x01C => { b with id.commitArg := v }
  | 0x020 => b.commitWrite e.tide v
  | 0x028 => { b with id.evtStage := BitVec.ofNat 16 (fld v 0 16), stg.evtIndex := BitVec.ofNat 16 (fld v 0 16) }
  | 0x03C => b.ovfClear o v
  | 0x100 => b.ccCfgWrite v
  | 0x104 => b.ccTimeWrite 0 v
  | 0x108 => b.ccTimeWrite 1 v
  | 0x10C => b.ccTimeWrite 2 v
  | 0x118 => { b with cc.evt := w1c b.cc.evt v }
  | 0x11C => { b with cc.ien := v &&& 0x3FF#32 }
  | 0x120 => b.ccRpWrite v
  | 0x124 => b.ccCmdWrite v
  | 0x128 => b.vconnCfgWrite v
  | 0x12C => if v.getLsbD 0 then b.releaseWrite w else b
  | 0x138 => b.ovfClear o v
  | 0x200 => b.phyCfgWrite v
  | 0x204 => b.phyTimeWrite 0 v
  | 0x208 => b.phyTimeWrite 1 v
  | 0x20C => b.phyTimeWrite 2 v
  | 0x214 => b.txCtrlWrite v
  | 0x224 => b.phyCmdWrite v
  | 0x228 => { b with phy.evt := w1c b.phy.evt v }
  | 0x22C => { b with phy.ien := v &&& 0x7FFF#32 }
  | 0x250 => b.ovfClear o v
  | _ => if h : 0x280 ≤ o ∧ o < 0x300 then b.txBufWrite ⟨(o - 0x280) / 0x20, by omega⟩ (o % 0x20) v else b

/-- A write to the path, regulator, monitor, ADC, timer, mux and self-test blocks. -/
def writeHigh (b : Berth) (w : Writer) (o : Nat) (v : Word) : Berth := match o with
  | 0x300 => { b with stg.pathCfg := v &&& 0x00FF3F3F#32 }
  | 0x304 => { b with stg.pathLimit := v &&& 0x007F03FF#32 }
  | 0x308 => { b with stg.snkLimit := v &&& 0x007F03FF#32 }
  | 0x30C => b.pathStageWrite v
  | 0x310 => b.pathSafeWrite v
  | 0x318 => { b with path.evt := w1c b.path.evt v }
  | 0x31C => { b with path.ien := v &&& 0x3FFF#32 }
  | 0x320 => if v.getLsbD 0 then b.addPend .pathTest else b
  | 0x33C => b.ovfClear o v
  | 0x400 => b.regCfgWrite v
  | 0x404 => b.vrefWrite v
  | 0x408 => { b with stg.regHold := v &&& 0x07FF03FF#32 }
  | 0x40C => { b with stg.regOvp := v &&& 0x3FF#32 }
  | 0x410 => { b with stg.regProt := v &&& 0xFFFFF#32 }
  | 0x414 => b.regWinWrite v
  | 0x418 => b.regSafeWrite v
  | 0x42C => { b with reg.evt := w1c b.reg.evt v }
  | 0x430 => { b with reg.ien := v &&& 0x7FFF#32 }
  | 0x444 => b.ovfClear o v
  | 0x640 => { b with mon.evt := w1c b.mon.evt v }
  | 0x644 => { b with mon.ien := v &&& 0xFFFF#32 }
  | 0x648 => b.monBlankWrite v
  | 0x64C => if v.getLsbD 0 then b.monTestWrite w (fld v 1 5) else b
  | 0x658 => if w = .harbour then b.addPend (.parkEn (v.getLsbD 0)) else b
  | 0x668 => b.ovfClear o v
  | 0x710 => b.addPend (.tmonCal (v &&& 0x0FFF0FFF#32))
  | 0x814 => { b with tmr.exp := b.tmr.exp &&& ~~~ (BitVec.ofNat 16 v.toNat) }
  | 0x818 => { b with tmr.ien := BitVec.ofNat 16 v.toNat }
  | 0x81C => b.gpCtrlWrite v
  | 0x820 => { b with tmr.gp0 := BitVec.ofNat 24 v.toNat }
  | 0x824 => { b with tmr.gp1 := BitVec.ofNat 24 v.toNat }
  | 0x900 => b.muxCfgWrite v
  | 0x904 => { b with stg.muxStage := v &&& 0x3F#32 }
  | 0x910 => if v.getLsbD 0 then b.vconnOnCmd else b
  | 0x914 => b.swapTimeWrite v
  | 0x918 => { b with stg.frsCfg := v &&& 0xFFD#32 }
  | 0x928 => { b with mux.evt := w1c b.mux.evt v }
  | 0x92C => { b with mux.ien := v &&& 0x3F#32 }
  | 0x93C => b.ovfClear o v
  | 0xA04 => if w = .harbour && v.getLsbD 4 then { b with st.burst := false } else b
  | 0xA08 => if v.getLsbD 0 then b.phyLbRun w else b
  | 0xA0C => if w = .harbour then { b with st.evt := w1c b.st.evt v } else b
  | 0xA18 => if w = .harbour then b.ovfClear o v else b
  | _ => if h : 0x500 ≤ o ∧ o < 0x640 then b.monWrite ⟨(o - 0x500) / 0x20, by omega⟩ (o % 0x20) v else b

/-- A word write to offset `o` of the berth window (REGISTER_WRITE; R15, R40).  Writes to read-only or reserved registers
are ignored; while the berth is parked, a write outside the CC block is discarded and counted (R254). -/
def winWrite (b : Berth) (w : Writer) (e : Env) (o : Nat) (v : Word) : Berth :=
  if b.mon.parked && (o < 0x100 || 0x200 ≤ o) then (if o = 0x658 then b.writeHigh w o v else b.discardOne)
  else if o < 0x300 then b.writeLow w e o v else b.writeHigh w o v

/-- A write by either writer that a parked berth discards and counts outside the CC block (R254). -/
def unlessParked (b : Berth) (f : Berth → Berth) : Berth := if b.mon.parked then b.discardOne else f b

end Berth

end Sys2Proof.Machine
end

