-- ==== Sys2Proof/Machine/Device.lean ====
section
/-!
DEFINITION. The device around its berths: the member that the fuses name (R3–R9, R414, R415), what a berth reads of its
surroundings, changes of one berth or of the berths of one quay, free Tugs (R17), fences, and free values.
-/

namespace Sys2Proof.Machine

/-- The address in the Harbourmaster view of the exchange area of Tug `t`, inside the working memory (R38, R41). -/
def exchangeBase (t : Nat) : Nat := 0x00E88000 + 4 * (Config.exchangeArea t % 384001)

/-- The address in the Harbourmaster view of a Tug's local memory and of its state block (R40, R41). -/
def localBase (t : Nat) : Nat := 0x20000000 + t * 0x10000
@[inherit_doc localBase] def blockBase (t : Nat) : Nat := 0x00E20000 + t * 0x2000

/-- A berth's filter restarts with its peaks (R332, R333). -/
def Tele.restart (t : Tele) : Tele :=
  { t with tides := 0, seg := Vector.replicate 4 (0, 0), segs := [], total := 0, out := Vector.replicate 4 0
           peaks := Vector.replicate 4 none }

namespace State

/-! ### The member (R3, R414, R415) -/

/-- A row of the Brittle shadow (R412). -/
def fuse (s : State) (r : Fin 256) : Word := s.brittle.shadow[r]

/-- Enabled quays: QUAY_OFF disables the quay of its lowest set bit and every quay above it (R4, R415). -/
def quaysOn (s : State) : Nat := ((List.range 6).find? (fun q => (s.fuse 5).getLsbD q)).getD 6

/-- Enabled berths (R4). -/
def berthsOn (s : State) : Nat := 8 * s.quaysOn

/-- EPR is enabled on the member (R7). -/
def eprOn (s : State) : Bool := !(s.fuse 5).getLsbD 6

/-- The aggregate contract capability of the member in 0.1 W (Table 0.1, R415). -/
def aggregate (s : State) : Nat := s.berthsOn * (if s.eprOn then 2400 else 1000)

/-- The debug-lock level: the position of the highest set bit plus 1, or 0 (Table 15.5, R419). -/
def debugLevel (s : State) : Nat :=
  ((List.range 4).foldl (fun l i => if (s.fuse 129).getLsbD i then i + 1 else l) 0)

/-! ### Berths -/

/-- The policy table bound to a berth (R116): Table 0 when the number names none that is loaded. -/
def policyOf (s : State) (b : BerthId) : PolicyTable :=
  if s.berths[b].pol.table = 0 then .builtin
  else ((s.tables[s.berths[b].pol.table]?).bind (·.tbl)).getD .builtin

/-- BP 4.0 runs on the Tug bound to the berth (R2, R282). -/
def runsBp (s : State) (b : BerthId) : Bool := match s.berths[b].id.tug with
  | none => false
  | some t => s.tugs[t].slot = 0 && (s.tugs[t].mode = .running || s.tugs[t].mode = .moored || s.tugs[t].mode = .suspended)

/-- A running Tug is bound to the berth (R101). -/
def hasTug (s : State) (b : BerthId) : Bool := match s.berths[b].id.tug with
  | none => false
  | some t => s.tugs[t].mode = .running || s.tugs[t].mode = .moored || s.tugs[t].mode = .suspended

/-- The quay of a berth (R17). -/
def quayOf (b : BerthId) : QuayId := ⟨b.val / 8, by omega⟩

/-- The berths of a quay in ascending order (R17). -/
def berthsOf (q : QuayId) : List BerthId := (List.finRange 8).map (fun i => ⟨q.val * 8 + i.val, by omega⟩)

/-- What a berth reads of its surroundings. -/
def env (s : State) (b : BerthId) : Env :=
  let q := s.quays[quayOf b]
  { b := b, tide := s.tideCount, vinOk := q.vinOk, hless := q.hless, vq5 := q.vconnVq5, vins := q.vins, snks := q.snks
    tbl := s.policyOf b, epr := s.eprOn, member := b.val < s.berthsOn, bp := s.runsBp b, nextId := s.nextId
    now := s.tb, ticks := s.ticks }

/-- Replace one berth; a decision number it took is gone (R128). -/
def setBerth (s : State) (b : BerthId) (x : Berth) : State :=
  if x.pol.tookId then { s with berths := s.berths.set b { x with pol.tookId := false }, nextId := s.nextId + 1 }
  else { s with berths := s.berths.set b x }

/-- Change one berth in its surroundings. -/
def atBerth (s : State) (b : BerthId) (f : Env → Berth → Berth) : State := s.setBerth b (f (s.env b) s.berths[b])

/-- Change each berth of a list in ascending order. -/
def atBerths (s : State) (l : List BerthId) (f : Env → Berth → Berth) : State := l.foldl (fun s b => s.atBerth b f) s

/-- Change each enabled berth. -/
def atAll (s : State) (f : Env → Berth → Berth) : State :=
  s.atBerths ((List.finRange 48).filter (fun b => b.val < s.berthsOn)) f

/-- Change one quay. -/
def atQuay (s : State) (q : QuayId) (f : Quay → Quay) : State := { s with quays := s.quays.set q (f s.quays[q]) }

/-- Change one Tug. -/
def atTug (s : State) (t : TugId) (f : Tug → Tug) : State := { s with tugs := s.tugs.set t (f s.tugs[t]) }

/-- Change the telemetry and service record of one berth. -/
def atTele (s : State) (b : BerthId) (f : Tele → Tele) : State := { s with tele := s.tele.set b (f s.tele[b]) }

/-- The 10 ns stamp of the present Tide's boundary in the berth time base (R261). -/
def now (s : State) : Stamp := s.tb

/-! ### Capture triggers (R342) -/

/-- The trigger of an armed capture occurs at stamp `t`. -/
def capTrigger (s : State) (b : BerthId) (t : Stamp) : State :=
  s.atTele b (fun (x : Tele) => match x.arm with
    | some a => if a.stamp.isNone && decide (a.at_ ≤ t) then { x with arm := some { a with stamp := some t } } else x
    | none => x)

/-- An edge of a comparator, or none, which triggers the capture that waits for it. -/
def capEdge (s : State) (b : BerthId) (c : Fin 27) (on : Bool) (t : Stamp) : State := match s.tele[b].arm with
  | some a => if a.trig = .edge c on then s.capTrigger b t else s
  | none => s

/-- A FAULT's cause triggers the capture that waits for one. -/
def capFault (s : State) (b : BerthId) (t : Stamp) : State := match s.tele[b].arm with
  | some a => if a.trig = .fault then s.capTrigger b t else s
  | none => s

/-! ### Fences (R5, R443) -/

/-- The berth is fenced. -/
def berthFenced (s : State) (b : BerthId) : Bool := s.berths[b].id.fenced

/-- The berths of a 48-bit set. -/
def setOf (m : BitVec 48) : List BerthId := (List.finRange 48).filter (fun b => m.getLsbD b)

/-- The set of berths for which a test holds. -/
def maskOf (f : BerthId → Bool) : BitVec 48 :=
  BitVec.ofNat 48 ((List.finRange 48).foldl (fun n b => n + flag (f b) b.val) 0)

/-! ### Events of the device -/

/-- A device-level event waiting for its publication at the next boundary; berth number 0xFFFF for none (Table 10.5). -/
def devEvent (s : State) (e : EvBody) (berth : Nat := 0xFFFF) : State := { s with devOut := s.devOut ++ [(e, berth)] }

/-! ### Free values -/

/-- The next free number; the counter moves on. -/
def free (s : State) : Nat × State := (s.freeCtr, { s with freeCtr := s.freeCtr + 1 })

/-! ### Tugs (R17, R443) -/

/-- Tug `t` is kept for berth `t`, which has not been released yet, or which the member does not enable (R17). -/
def keptTug (s : State) (t : TugId) : Bool :=
  if h : t.val < 48 then decide (s.berthsOn ≤ t.val) || !s.quays[quayOf ⟨t.val, h⟩].released else false

/-- A Tug can be bound: it is bound to no berth, not fenced and not under test. -/
def tugUnbound (s : State) (t : TugId) : Bool := s.tugs[t].berth.isNone && !s.tugs[t].fenced && s.tugs[t].mode = .empty

/-- The lowest-numbered free spare (R17). -/
def freeTug (s : State) : Option TugId := (List.finRange 52).find? (fun t => s.tugUnbound t && !s.keptTug t)

/-- The Tug that a berth's release binds: the one of its own number, else the lowest-numbered free Tug (R17). -/
def ownTug (s : State) (b : BerthId) : Option TugId :=
  let own : TugId := ⟨b.val, by omega⟩
  if s.tugUnbound own then some own else s.freeTug

/-- Bind a berth to a Tug that is to enter for a reason. -/
def bindTug (s : State) (b : BerthId) (t : TugId) (slot : Nat) (why : Entry) (warm : Bool) : State :=
  let s := s.atTug t (fun k => { k with berth := some b, slot := slot, entry := some (why, warm), mode := .empty })
  s.setBerth b { s.berths[b] with id.tug := some t }

/-- The staging registers at what is committed (R29, R97): a new program finds only committed hardware state. -/
def committed (b : Berth) : Staged :=
  { regVref := b.reg.vref, regHold := b.reg.hold, pathCfg := b.path.cfg, pathLimit := b.path.limit, snkLimit := b.path.snkLimit
    frsCfg := b.mux.frsCfg, monThr := #v[b.mon.ch[0].thr, b.mon.ch[4].thr, b.mon.ch[9].thr]
    monLow := #v[b.mon.ch[0].low, b.mon.ch[9].low], w0High := b.mon.ch[0].cfg.getLsbD 8
    regOvp := BitVec.ofNat 32 b.reg.cbThr.toNat, regProt := b.reg.prot, ccRp := b.cc.rpLevel
    muxStage := BitVec.ofNat 32 (b.mux.sbu.toNat + b.mux.mux.toNat * 4 + flag b.mux.modeActive 5), evtIndex := b.id.evtPublish }

/-- Staged and uncommitted work of a berth is discarded and counted (R29): commits not yet applied, armed buffers, the staging
registers and EVT_STAGE; BP 4.0's intentions go with its registers. -/
def dropStaged (b : Berth) : Berth :=
  let isCommit (p : Pend) : Bool := match p with
    | .commit _ => true
    | _ => false
  let n := b.id.pend.countP isCommit
  let b := { b with id.pend := b.id.pend.filter (fun p => !isCommit p) }
  let b := (List.replicate n ()).foldl (fun x _ => x.discardOne) b
  { b.disarmAll with pol.todo := [], stg := committed b, id.evtStage := b.id.evtPublish }

end State

end Sys2Proof.Machine
end

