-- ==== Sys2Proof/Machine/Expiry.lean ====
section
/-!
DEFINITION. The hardware timers of a berth against its events (R35, R36): an event finds every timer that expires at or before its
stamp expired, in the order of their expiries. With them, what the PHY's events do before BP 4.0 acts on them (R79, R82, R87, R435).
-/

namespace Sys2Proof.Machine

namespace Berth

/-- An END_BAD mark at stamp `t` is counted; with the eighth within 1 s a loopback is wanted for 500 ms (R435, R436). -/
def countBad (b : Berth) (t : Stamp) : Berth :=
  let l := b.st.bads.filter (fun x => decide (t < x + ms 1000)) ++ [t]
  if 8 ≤ l.length then
    { b with st.bads := l, st.burst := true
             st.want := if b.st.want.isNone && !b.st.running then some (some (t + ms 500), 1) else b.st.want }
  else { b with st.bads := l }

/-- The PHY takes part in traffic: it is not fenced and no loopback has it (R436, R443). -/
def phyServes (b : Berth) : Bool := !b.st.phyFenced && !b.st.running

/-- The command in progress, a host message of the kind, completes with OK (R320). -/
def finishKind (b : Berth) (n : Nat) : Berth := match b.pol.cur with
  | some c => match c.kind with
    | .message k _ _ _ _ _ _ _ => if k = n then b.finishCmd .ok else b
    | _ => b
  | none => b

/-- BP 4.0 acts on the berth only where it runs (R2). -/
def whenBp (b : Berth) (e : Env) (f : Berth → Berth) : Berth := if e.bp then f b else b

/-- GoodCRC for the message just received has been sent: the hardware's part, then BP 4.0's (R79, R93). -/
def goodcrcDone (b : Berth) (e : Env) (t : Stamp) : Berth := match b.phy.ackDue with
  | none => b
  | some a =>
    let phase := b.mux.phase
    let x := b.goodcrcSent t a
    if a.live && !a.dup then x.whenBp e (fun y => y.received e t phase a) else x

/-- The partner's GoodCRC arrives: the hardware's part, then BP 4.0's (R82). -/
def goodcrcTaken (b : Berth) (e : Env) (t : Stamp) (id : BitVec 3) : Berth := match b.goodcrcReceived t id with
  | none => b
  | some (x, y) => y.whenBp e (fun z => z.confirmed e t b.mux.phase x)

/-- tReceive elapses: the hardware's part, then BP 4.0's on a failure (R82). -/
def treceiveDone (b : Berth) (e : Env) : Berth := match b.tm.tRecv, b.treceiveExpiry with
  | some d, (some x, y) => y.whenBp e (fun z => z.failed e d x)
  | _, (_, y) => y

/-- An incoming SOP*: a transmission it discards before its preamble is kept for BP 4.0 (R87, Table 5.7). -/
def sopTaken (b : Berth) (e : Env) (k : SopKind) : Berth :=
  let y := b.sopDetected e k
  match b.phy.tx, y.phy.tx with
  | some x, none => { y with pol.lost := some (x.word0, x.data) }
  | _, _ => y

/-- A received message's EOP, and the END_BAD it may leave (R79, R435). -/
def messageDone (b : Berth) (t : Stamp) (crcOk : Bool) (hdr : BitVec 16) (data : List Byte) : Berth :=
  let bad := match b.phy.rxMsg with
    | some m => m.fits && !crcOk && !b.phy.hrWait && !b.phy.crWait
    | none => false
  let y := b.messageEnd crcOk hdr data
  if bad then y.countBad t else y

end Berth

namespace Berth

/-- Which hardware timer of Table 8.11 (or of Table 2.4, 3.2, 5.3, 6.2, 7.3): each is one field of `Timers`. -/
inductive Timer where
  | ccDeb | pdDeb | tryDeb | drpTry | tryWait | tryTo | acc | ins | err | clr | backDet | tRecv | resp | caps | srcTrans | psHr | srcRec
  | snkHr | sinkTx | swap | epr | path | settle | hic | hicClear | sbu | gp0 | gp1
  deriving DecidableEq, Repr

/-- The timers in the order in which equal expiries are taken (DESIGN CHOICE, log entry 4). -/
def timers : List Timer :=
  [.ccDeb, .pdDeb, .tryDeb, .drpTry, .tryWait, .tryTo, .acc, .ins, .err, .clr, .backDet, .tRecv, .resp, .caps, .srcTrans, .psHr, .srcRec,
   .snkHr, .sinkTx, .swap, .epr, .path, .settle, .hic, .hicClear, .sbu, .gp0, .gp1]

/-- The stamp at which a timer expires, where it runs. The 100 ms of a CC over-voltage wait for their own command (R74). -/
def due (b : Berth) : Timer → Option Stamp
  | .ccDeb => b.tm.ccDeb | .pdDeb => b.tm.pdDeb | .tryDeb => b.tm.tryDeb | .drpTry => b.tm.drpTry | .tryWait => b.tm.tryWait
  | .tryTo => b.tm.tryTo | .acc => b.tm.acc | .ins => b.tm.ins | .err => b.tm.err
  | .clr => if b.cc.state = .backFeed then b.tm.clr else none
  | .backDet => b.tm.backDet | .tRecv => b.tm.tRecv | .resp => b.tm.resp | .caps => b.tm.caps | .srcTrans => b.tm.srcTrans
  | .psHr => b.tm.psHr | .srcRec => b.tm.srcRec | .snkHr => b.tm.snkHr | .sinkTx => b.tm.sinkTx | .swap => b.tm.swap | .epr => b.tm.epr
  | .path => b.tm.path | .settle => b.tm.settle | .hic => b.tm.hic | .hicClear => b.tm.hicClear | .sbu => b.tm.sbu | .gp0 => b.tm.gp0 | .gp1 => b.tm.gp1

/-- A timer no longer runs. -/
def unset (b : Berth) : Timer → Berth
  | .ccDeb => { b with tm.ccDeb := none } | .pdDeb => { b with tm.pdDeb := none } | .tryDeb => { b with tm.tryDeb := none }
  | .drpTry => { b with tm.drpTry := none } | .tryWait => { b with tm.tryWait := none } | .tryTo => { b with tm.tryTo := none }
  | .acc => { b with tm.acc := none } | .ins => { b with tm.ins := none } | .err => { b with tm.err := none }
  | .clr => { b with tm.clr := none } | .backDet => { b with tm.backDet := none } | .tRecv => { b with tm.tRecv := none }
  | .resp => { b with tm.resp := none } | .caps => { b with tm.caps := none } | .srcTrans => { b with tm.srcTrans := none }
  | .psHr => { b with tm.psHr := none } | .srcRec => { b with tm.srcRec := none } | .snkHr => { b with tm.snkHr := none }
  | .sinkTx => { b with tm.sinkTx := none } | .swap => { b with tm.swap := none } | .epr => { b with tm.epr := none }
  | .path => { b with tm.path := none } | .settle => { b with tm.settle := none } | .hic => { b with tm.hic := none }
  | .hicClear => { b with tm.hicClear := none } | .sbu => { b with tm.sbu := none } | .gp0 => { b with tm.gp0 := none } | .gp1 => { b with tm.gp1 := none }

/-- What the expiry of a timer does. -/
def expire (b : Berth) (e : Env) : Timer → Berth
  | .ccDeb => b.ccDebounceExpiry e
  | .pdDeb => if b.cc.state = .unattachedSrc then b.accessoryEnded e else b.pdDebounceExpiry e
  | .tryDeb => b.tryDebounceExpiry e
  | .drpTry => b.drpTryExpiry
  | .tryWait => b.tryWaitExpiry e
  | .tryTo => b.tryTimeout
  | .acc => b.accessorySeen
  | .ins => b.insertionDelayExpiry
  | .err => b.errorRecoveryExpiry e
  | .clr => b.backfeedClear e
  | .backDet => b.backfeedDetect
  | .tRecv => b.treceiveDone e
  | .resp => b.responseExpiry e
  | .caps => b.capsRepeat
  | .srcTrans => b.srcTransition e
  | .psHr => b.psHardResetExpiry
  | .srcRec => b.srcRecoverExpiry
  | .snkHr => b.sinkHardResetTimeout e
  | .sinkTx => b.sinkTxExpiry
  | .swap => b.trackerExpiry (fun p => p ≠ .idle)
  | .epr => if b.id.powerSource then b.keepAliveTimeout e else b.whenBp e (·.sinkKeepAlive)
  | .path => if b.path.state = .discharge then b.dischargeTimeout else b.inrushTimeout e
  | .settle => b.settleTimeout
  | .hic => b.hiccupTimeExpiry
  | .hicClear => b.hicCountClear
  | .sbu => b.sbuCloses
  | .gp0 => b.gpExpiry false
  | .gp1 => b.gpExpiry true

/-- The timer that expires first among those due at or before stamp `t`. -/
def firstDue (b : Berth) (t : Stamp) : Option (Timer × Stamp) :=
  timers.foldl (fun (best : Option (Timer × Stamp)) (k : Timer) => match b.due k, best with
    | some d, some (_, x) => if d ≤ t && d < x then some (k, d) else best
    | some d, none => if d ≤ t then some (k, d) else none
    | none, _ => best) none

/-- Let the timers due at or before stamp `t` expire in their order, at most `n` of them. A timer that its own expiry leaves as it
was runs no longer. -/
def catchUpN (e : Env) (t : Stamp) : Nat → Berth → Berth
  | 0, b => b
  | n + 1, b => match b.firstDue t with
    | none => b
    | some (k, d) =>
      let y := b.expire e k
      catchUpN e t n (if y.due k = some d then y.unset k else y)

/-- Every hardware timer that expires at or before stamp `t` has expired, in the order of their expiries (R36). A Tide holds far
fewer than 64 of them. -/
def catchUp (b : Berth) (e : Env) (t : Stamp) : Berth := catchUpN e t 64 b

end Berth

namespace State

/-- The berth as an event at stamp `t` finds it (R36). -/
def caughtUp (s : State) (b : BerthId) (t : Stamp) : Berth := s.berths[b].catchUp (s.env b) t

/-- An event of one berth at stamp `t`: the timers due by then expire first (R36), and the thresholds it changed settle
(Table 8.3). -/
def atEvent (s : State) (b : BerthId) (t : Stamp) (f : Env → Berth → Berth) : State :=
  s.atBerth b (fun e x =>
    let y := x.catchUp e t
    (f e y).settleFrom y t)

end State

end Sys2Proof.Machine
end

