-- ==== Sys2Proof/Machine/CcCommands.lean ====
section
/-!
DEFINITION. The commands of the CC wires: the events of the CC sequencer and its timers (R48–R75), VCONN (R60–R62) and
the writes of the CC registers (R50–R52, R56, R57, R61, R65, R157).
-/

namespace Sys2Proof.Machine

namespace State

/-- Writes reach the berth's quay: it is brought up and its gangway serves it (R392, R397, R454). -/
def reaches (s : State) (b : BerthId) : Bool := s.quays[quayOf b].up && !s.quays[quayOf b].hless

/-- A write to the CC block, which stays powered while the berth is parked (R254). -/
def ccWrite (s : State) (b : BerthId) (f : Berth → Berth) : State :=
  if s.reaches b then s.atBerth b (fun _ x => f x) else s

/-- A write outside the CC block: a parked berth discards and counts it (R254). -/
def regWrite (s : State) (b : BerthId) (f : Env → Berth → Berth) : State :=
  if s.reaches b then s.atBerth b (fun e x => x.unlessParked (f e)) else s

end State

/-- A CC level changes (CC_LEVEL_CHANGE; R48). -/
def execCcLevelChange (b : BerthId) (at_ : Stamp) (cc1 cc2 : CcLvl) (s : State) : Host.Outcome State Fault Refusal :=
  .next (s.atEvent b at_ (fun _ x => x.ccLevelChange at_ cc1 cc2))

/-- tCCDebounce expires (CC_DEBOUNCE_EXPIRY; R48). -/
def execCcDebounceExpiry (b : BerthId) (s : State) : Host.Outcome State Fault Refusal :=
  .next (s.atBerth b (fun e x => x.ccDebounceExpiry e))

/-- tPDDebounce expires with the partner gone (PD_DEBOUNCE_EXPIRY; R71). -/
def execPdDebounceExpiry (b : BerthId) (s : State) : Host.Outcome State Fault Refusal :=
  .next (s.atBerth b (fun e x => x.pdDebounceExpiry e))

/-- VBC falls below 3.67 V (SINK_DETACH; R72). -/
def execSinkDetach (b : BerthId) (at_ : Stamp) (s : State) : Host.Outcome State Fault Refusal :=
  .next (s.atEvent b at_ (fun e x => x.sinkDetach e at_))

/-- tErrorRecovery elapses (ERROR_RECOVERY_EXPIRY; R48). -/
def execErrorRecoveryExpiry (b : BerthId) (s : State) : Host.Outcome State Fault Refusal :=
  .next (s.atBerth b (fun e x => x.errorRecoveryExpiry e))

/-- The insertion delay ends (INSERTION_DELAY_EXPIRY; R57). -/
def execInsertionDelayExpiry (b : BerthId) (s : State) : Host.Outcome State Fault Refusal :=
  .next (s.atBerth b (fun _ x => x.insertionDelayExpiry))

/-- The boundary at which a berth's toggle switch is due, where it toggles (R58). -/
def State.toggleDue (s : State) (b : BerthId) : Option Nat :=
  if s.berths[b].unattached then s.berths[b].cc.toggleAt else none

/-- The berth whose switch the quay makes at the latest boundary (R58): none where one has switched there; else, of the berths
due at that very boundary, the one of lowest index; with none due there, of those deferred. -/
def State.toggler (s : State) (q : QuayId) : Option BerthId :=
  if s.quays[q].toggled = some s.ticks then none
  else
    let l := State.berthsOf q
    (l.find? (fun (b : BerthId) => s.toggleDue b = some s.ticks)).or
      (l.find? (fun (b : BerthId) => match s.toggleDue b with
        | some d => decide (d < s.ticks)
        | none => false))

/-- A toggle switch that is due at the latest boundary, or was deferred to it (DRP_TOGGLE_SWITCH; R58). -/
def execDrpToggleSwitch (b : BerthId) (s : State) : Host.Outcome State Fault Refusal :=
  .next (match s.toggleDue b with
    | some d =>
      if s.toggler (State.quayOf b) = some b then
        (s.atBerth b (fun e x => x.toggle e d)).atQuay (State.quayOf b) (fun k => { k with toggled := some s.ticks })
      else s
    | none => s)

/-- tDRPTry elapses (DRP_TRY_EXPIRY; R53). -/
def execDrpTryExpiry (b : BerthId) (s : State) : Host.Outcome State Fault Refusal :=
  .next (s.atBerth b (fun _ x => x.drpTryExpiry))

/-- tTryCCDebounce expires (TRY_DEBOUNCE_EXPIRY; R53). -/
def execTryDebounceExpiry (b : BerthId) (s : State) : Host.Outcome State Fault Refusal :=
  .next (s.atBerth b (fun e x => x.tryDebounceExpiry e))

/-- tDRPTryWait elapses (TRY_WAIT_EXPIRY; R53). -/
def execTryWaitExpiry (b : BerthId) (s : State) : Host.Outcome State Fault Refusal :=
  .next (s.atBerth b (fun e x => x.tryWaitExpiry e))

/-- tTryTimeout elapses (TRY_TIMEOUT; R53). -/
def execTryTimeout (b : BerthId) (s : State) : Host.Outcome State Fault Refusal :=
  .next (s.atBerth b (fun _ x => x.tryTimeout))

/-- An accessory combination has been seen for tCCDebounce (ACCESSORY_SEEN; R55). -/
def execAccessorySeen (b : BerthId) (s : State) : Host.Outcome State Fault Refusal :=
  .next (s.atBerth b (fun _ x => x.accessorySeen))

/-- The accessory combination has ended (ACCESSORY_ENDED; R55). -/
def execAccessoryEnded (b : BerthId) (s : State) : Host.Outcome State Fault Refusal :=
  .next (s.atBerth b (fun e x => x.accessoryEnded e))

/-- VBC has stayed below vSafe0V for 100 ms in BackFeed (BACKFEED_CLEAR; R53). -/
def execBackfeedClear (b : BerthId) (s : State) : Host.Outcome State Fault Refusal :=
  .next (s.atBerth b (fun e x => x.backfeedClear e))

/-- VBC has stayed at or above 0.80 V for 650 ms with both paths off (BACKFEED_DETECT; R68). -/
def execBackfeedDetect (b : BerthId) (s : State) : Host.Outcome State Fault Refusal :=
  .next (s.atBerth b (fun _ x => x.backfeedDetect))

/-- A CC wire rises above 6.00 V (CC_OVER_VOLTAGE; R74). -/
def execCcOverVoltage (b : BerthId) (at_ : Stamp) (s : State) : Host.Outcome State Fault Refusal :=
  .next (s.atEvent b at_ (fun e x => x.ccOverVoltage e at_))

/-- Both wires have stayed below 5.50 V for 100 ms from a stamp on (CC_OV_CLEAR; R74). -/
def execCcOvClear (b : BerthId) (since : Stamp) (s : State) : Host.Outcome State Fault Refusal :=
  .next (s.atEvent b (since + ms 100) (fun _ x => x.ccOvClear since))

/-- The VCONN fault timer is accounted for up to a stamp, and expires where it reaches TFLT (VCONN_FAULT_TIMER_EXPIRY; R61). -/
def execVconnFaultTimerExpiry (b : BerthId) (at_ : Stamp) (segs : List LimSeg) (s : State) : Host.Outcome State Fault Refusal :=
  .next (s.atEvent b at_ (fun e x => x.vconnFault e at_ segs))

/-- The VCONN supply of a quay changes; CC_EVT.VCONN_SWITCHOVER is set on its eight berths (R62). -/
def State.vconnSupply (s : State) (q : QuayId) (vq5 : Bool) : State :=
  if s.quays[q].vconnVq5 = vq5 then s
  else (s.atQuay q (fun x => { x with vconnVq5 := vq5 })).atBerths (State.berthsOf q) (fun _ b => b.ccEvt 9)

/-- VCONN_IN falls below 4.60 V (VCONN_SWITCHOVER; R62). -/
def execVconnSwitchover (q : QuayId) (s : State) : Host.Outcome State Fault Refusal := .next (s.vconnSupply q true)

/-- VCONN_IN has stayed above 4.80 V for 10 ms (VCONN_SUPPLY_RETURN; R62). -/
def execVconnSupplyReturn (q : QuayId) (s : State) : Host.Outcome State Fault Refusal := .next (s.vconnSupply q false)

/-- A write to CC_CFG (CC_CFG_WRITE; R50). -/
def execCcCfgWrite (_w : Writer) (b : BerthId) (v : Word) (s : State) : Host.Outcome State Fault Refusal :=
  .next (s.ccWrite b (·.ccCfgWrite v))

/-- A write to CC_TIME_i (CC_TIME_WRITE; R50, R56, R57). -/
def execCcTimeWrite (_w : Writer) (b : BerthId) (i : Fin 3) (v : Word) (s : State) : Host.Outcome State Fault Refusal :=
  .next (s.ccWrite b (·.ccTimeWrite i v))

/-- A write to CC_RP (CC_RP_WRITE; R51). -/
def execCcRpWrite (_w : Writer) (b : BerthId) (v : Word) (s : State) : Host.Outcome State Fault Refusal :=
  .next (s.ccWrite b (·.ccRpWrite v))

/-- A write to VCONN_CFG (VCONN_CFG_WRITE; R61). -/
def execVconnCfgWrite (_w : Writer) (b : BerthId) (v : Word) (s : State) : Host.Outcome State Fault Refusal :=
  .next (s.ccWrite b (·.vconnCfgWrite v))

/-- CC_CMD.ERROR_RECOVERY (ERROR_RECOVERY; R52). -/
def execErrorRecovery (_w : Writer) (b : BerthId) (s : State) : Host.Outcome State Fault Refusal :=
  .next (s.ccWrite b (·.addPend .errorRecovery))

/-- CC_CMD.VCONN_OFF (VCONN_OFF; R52). -/
def execVconnOff (_w : Writer) (b : BerthId) (s : State) : Host.Outcome State Fault Refusal :=
  .next (s.ccWrite b (·.addPend .vconnOff))

/-- CC_CMD.VCONN_REARM (VCONN_REARM; R52). -/
def execVconnRearm (_w : Writer) (b : BerthId) (s : State) : Host.Outcome State Fault Refusal :=
  .next (s.ccWrite b (·.addPend .vconnRearm))

/-- CC_CMD.SWAP_TO_RD (SWAP_TO_RD; R157). -/
def execSwapToRd (_w : Writer) (b : BerthId) (s : State) : Host.Outcome State Fault Refusal :=
  .next (s.ccWrite b (·.swapToRdCmd))

/-- CC_CMD.SWAP_TO_RP (SWAP_TO_RP; R157). -/
def execSwapToRp (_w : Writer) (b : BerthId) (s : State) : Host.Outcome State Fault Refusal :=
  .next (s.ccWrite b (·.swapToRpCmd))

/-- CC_GATE.RELEASE, which only the Harbourmaster writes (RELEASE; R65). -/
def execRelease (w : Writer) (b : BerthId) (s : State) : Host.Outcome State Fault Refusal :=
  .next (s.ccWrite b (·.releaseWrite w))

end Sys2Proof.Machine
end

