-- ==== Sys2Proof/Machine/PhyCommands.lean ====
section
/-!
DEFINITION. The commands of the PHY and of the protocol on it: messages received and sent (R77–R92), Hard Reset and Cable
Reset (R105–R112), the commit rule's writes (R93–R99) and what a berth program's COMMIT publishes (R97, R151), the
command FIFO (R103), decisions (R128–R131), EPR keep-alive (R134), VDM timers (R175) and the swap timers (R155–R161).
-/

namespace Sys2Proof.Machine

namespace State

/-- Keep a message among the eight latest of a berth's record (R348). -/
def logMsg (s : State) (b : BerthId) (m : MsgLog) : State :=
  s.atTele b (fun x => { x with msgs := (x.msgs ++ [m]).drop (x.msgs.length + 1 - 8) })

/-- The Request record at an index of a Tug's exchange ring (Table 4.13). -/
def requestAt (s : State) (t : TugId) (idx : Nat) : Option ReqRec :=
  let a := exchangeBase t + 0x800 + 32 * (idx % 64)
  let f (o n : Nat) : Nat := Memory.readLe s.mem (a + o) n
  if f 0 1 = 1 then
    some { epr := f 1 1 = 1, reqSeq := BitVec.ofNat 16 (f 2 2), rdo := BitVec.ofNat 32 (f 4 4), pdo := BitVec.ofNat 32 (f 8 4)
           volt := f 12 2, curr := f 14 2, power := f 16 2, epoch := BitVec.ofNat 16 (f 18 2) }
  else none

/-- The descriptor that a customer program's TEL commit publishes, from the free bits `Config.customerDescriptor`. -/
def customerTel (w : BitVec 128) : TelDesc :=
  { contract := if w.getLsbD 0 then
      some { source := w.getLsbD 1, epr := w.getLsbD 2, mismatch := w.getLsbD 3, apdo := w.getLsbD 4, pps := w.getLsbD 5
             pos := fld w 8 4, volt := fld w 16 16, curr := fld w 32 16, rdo := BitVec.ofNat 32 (fld w 64 32)
             pdo := BitVec.ofNat 32 (fld w 96 32) } else none
    endContract := w.getLsbD 6 }

/-- The records that an EVT commit written now publishes from a Tug's ring: those after the last index published or about to be, up to
EVT_STAGE, at most the 64 that the ring holds (R97 bit 6, R151). -/
def ringIndices (x : Berth) : List Nat :=
  let from_ := x.id.pend.foldl (fun (n : BitVec 16) (p : Pend) => match p with
    | .commit c => if c.word.mask.getLsbD 6 then c.staged.evtIndex else n
    | _ => n) x.id.evtPublish
  let k := min 64 (x.id.evtStage - from_).toNat
  (List.range k).map (fun (i : Nat) => (x.id.evtStage - BitVec.ofNat 16 (k - 1 - i)).toNat)

/-- What a customer program's records publish: the latest Request, and a host event for every other record, whose code and body the
manual leaves to the program and the firmware (R97, R151; `Config.customerEvent`). -/
def ringContent (s : State) (t : TugId) (l : List Nat) : Option ReqRec × List EvBody :=
  l.foldl (fun (m : Option ReqRec × List EvBody) (i : Nat) => match s.requestAt t i with
    | some r => (some r, m.2)
    | none =>
      let x := Config.customerEvent (Memory.readBytes s.mem (exchangeBase t + 0x800 + 32 * (i % 64)) 32)
      (m.1, m.2 ++ [.customer x.1 x.2])) (none, [])

/-- A COMMIT write (R95, R96): what a customer program's masks EVT and TEL publish comes from its exchange area (R97). -/
def commitOf (s : State) (b : BerthId) (v : Word) : State := match s.berths[b].id.tug with
  | none => s.atBerth b (fun e x => x.commitWrite e.tide v)
  | some t =>
    if s.runsBp b then s.atBerth b (fun e x => x.commitWrite e.tide v)
    else
      let r := if v.getLsbD 6 then s.ringContent t (ringIndices s.berths[b]) else (none, [])
      if v.getLsbD 7 then
        { s.atBerth b (fun e x => x.commitWrite e.tide v r.2 r.1 (customerTel (Config.customerDescriptor s.freeCtr))) with
          freeCtr := s.freeCtr + 1 }
      else s.atBerth b (fun e x => x.commitWrite e.tide v r.2 r.1)

/-- A word write to a berth window (R40, R96, R101): the Harbourmaster writes COMMIT_ARG and COMMIT only while the berth has
no running Tug. -/
def windowWrite (s : State) (w : Writer) (b : BerthId) (off : Nat) (v : Word) : State :=
  if !s.reaches b then s
  else if (off = 0x01C || off = 0x020) && w = .harbour && s.hasTug b then s
  else if off = 0x020 && !s.berths[b].mon.parked then s.commitOf b v
  else s.atBerth b (fun e x => x.winWrite w e off v)

end State

/-- An incoming SOP* is detected (SOP_DETECTED; R77, R78, R87, R89). -/
def execSopDetected (b : BerthId) (at_ : Stamp) (k : SopKind) (s : State) : Host.Outcome State Fault Refusal :=
  .next (s.atEvent b at_ (fun e x => if x.phyServes then x.sopTaken e k else x))

/-- A received message's EOP (MESSAGE_END; R79). -/
def execMessageEnd (b : BerthId) (at_ : Stamp) (crcOk : Bool) (hdr : BitVec 16) (data : List Byte) (s : State) :
    Host.Outcome State Fault Refusal :=
  .next (s.atEvent b at_ (fun _ x => x.messageDone at_ crcOk hdr data))

/-- A transmission reaches its EOP (TRANSMISSION_END; R82). -/
def execTransmissionEnd (b : BerthId) (at_ : Stamp) (s : State) : Host.Outcome State Fault Refusal :=
  .next (s.atEvent b at_ (fun _ x => x.transmissionEnd at_))

/-- The partner's GoodCRC (GOODCRC_RECEIVED; R82). -/
def execGoodcrcReceived (b : BerthId) (at_ : Stamp) (id : BitVec 3) (s : State) : Host.Outcome State Fault Refusal :=
  .next (match (s.caughtUp b at_).goodcrcReceived at_ id with
    | none => s
    | some (x, _) => (s.atEvent b at_ (fun e y => y.goodcrcTaken e at_ id)).logMsg b
        { stamp := at_, rx := false, sop := x.sop, hdr := x.hdr, data := x.data })

/-- tReceive elapses (TRECEIVE_EXPIRY; R82). -/
def execTreceiveExpiry (b : BerthId) (s : State) : Host.Outcome State Fault Refusal :=
  .next (s.atBerth b (fun e x => x.treceiveDone e))

/-- A response timer expires (RESPONSE_TIMER_EXPIRY; R84). -/
def execResponseTimerExpiry (b : BerthId) (s : State) : Host.Outcome State Fault Refusal :=
  .next (s.atBerth b (fun e x => x.responseExpiry e))

/-- The Source_Capabilities repeat timer expires (SOURCE_CAPS_REPEAT_EXPIRY; R84). -/
def execSourceCapsRepeatExpiry (b : BerthId) (s : State) : Host.Outcome State Fault Refusal :=
  .next (s.atBerth b (fun _ x => x.capsRepeat))

/-- tSrcTransition expires (SRC_TRANSITION_EXPIRY; R84). -/
def execSrcTransitionExpiry (b : BerthId) (s : State) : Host.Outcome State Fault Refusal :=
  .next (s.atBerth b (fun e x => x.srcTransition e))

/-- tSinkTx elapses (SINK_TX_EXPIRY; R85). -/
def execSinkTxExpiry (b : BerthId) (s : State) : Host.Outcome State Fault Refusal :=
  .next (s.atBerth b (fun _ x => x.sinkTxExpiry))

/-- The berth's Hard Reset ordered set ends (HARD_RESET_SENT; R106). -/
def execHardResetSent (b : BerthId) (at_ : Stamp) (s : State) : Host.Outcome State Fault Refusal :=
  .next (s.atEvent b at_ (fun _ x => if x.phy.hrSending then (x.finishKind 5).hardResetSent at_ else x))

/-- A Hard Reset ordered set is received (HARD_RESET_RECEIVED; R106). -/
def execHardResetReceived (b : BerthId) (at_ : Stamp) (data : List Byte) (s : State) : Host.Outcome State Fault Refusal :=
  .next (s.atEvent b at_ (fun _ x => if x.phyServes then x.hardResetReceived at_ data else x))

/-- tPSHardReset elapses (PS_HARD_RESET_EXPIRY; R106). -/
def execPsHardResetExpiry (b : BerthId) (s : State) : Host.Outcome State Fault Refusal :=
  .next (s.atBerth b (fun _ x => x.psHardResetExpiry))

/-- tSrcRecover elapses (SRC_RECOVER_EXPIRY; R106). -/
def execSrcRecoverExpiry (b : BerthId) (s : State) : Host.Outcome State Fault Refusal :=
  .next (s.atBerth b (fun _ x => x.srcRecoverExpiry))

/-- VBC has not come back after a Hard Reset (SINK_HARD_RESET_TIMEOUT; R107). -/
def execSinkHardResetTimeout (b : BerthId) (s : State) : Host.Outcome State Fault Refusal :=
  .next (s.atBerth b (fun e x => x.sinkHardResetTimeout e))

/-- A COMMIT write (COMMIT; R95–R98, R101). -/
def execCommit (w : Writer) (b : BerthId) (v : Word) (s : State) : Host.Outcome State Fault Refusal :=
  .next (s.windowWrite w b 0x020 v)

/-- A write to PHY_CFG (PHY_CFG_WRITE; R114). -/
def execPhyCfgWrite (_w : Writer) (b : BerthId) (v : Word) (s : State) : Host.Outcome State Fault Refusal :=
  .next (s.regWrite b (fun _ x => x.phyCfgWrite v))

/-- A write to PHY_TIME_i (PHY_TIME_WRITE; R83). -/
def execPhyTimeWrite (_w : Writer) (b : BerthId) (i : Fin 3) (v : Word) (s : State) : Host.Outcome State Fault Refusal :=
  .next (s.regWrite b (fun _ x => x.phyTimeWrite i v))

/-- A write to TX_CTRL (TX_CTRL_WRITE; R98). -/
def execTxCtrlWrite (_w : Writer) (b : BerthId) (v : Word) (s : State) : Host.Outcome State Fault Refusal :=
  .next (s.regWrite b (fun _ x => x.txCtrlWrite v))

/-- A read of RX_DATA removes the oldest entry (RX_DATA_READ; R88). -/
def execRxDataRead (b : BerthId) (s : State) : Host.Outcome State Fault Refusal :=
  .next (if s.reaches b && !s.berths[b].mon.parked then s.atBerth b (fun _ x => x.rxDataRead) else s)

/-- PHY_CMD.HARD_RESET (HARD_RESET; R105). -/
def execHardReset (_w : Writer) (b : BerthId) (s : State) : Host.Outcome State Fault Refusal :=
  .next (s.regWrite b (fun _ x => x.requestHardReset))

/-- PHY_CMD.CABLE_RESET (CABLE_RESET; R109). -/
def execCableReset (_w : Writer) (b : BerthId) (s : State) : Host.Outcome State Fault Refusal :=
  .next (s.regWrite b (fun _ x => x.requestCableReset))

/-- PHY_CMD.FLUSH_RX (FLUSH_RX; R88). -/
def execFlushRx (_w : Writer) (b : BerthId) (s : State) : Host.Outcome State Fault Refusal :=
  .next (s.regWrite b (fun _ x => x.flushRx))

/-- PHY_CMD.CANCEL_TX (CANCEL_TX; R87). -/
def execCancelTx (_w : Writer) (b : BerthId) (s : State) : Host.Outcome State Fault Refusal :=
  .next (s.regWrite b (fun _ x => x.discardTx))

/-- A write to an OVF register (OVF_CLEAR; R111); that of the self-test block only from the Harbourmaster (R458). -/
def execOvfClear (w : Writer) (b : BerthId) (off : BitVec 12) (v : Word) (s : State) : Host.Outcome State Fault Refusal :=
  .next (if off = 0x138#12 then s.ccWrite b (·.ovfClear off.toNat v)
    else s.regWrite b (fun _ x => if off = 0xA18#12 && w = .tug then x else x.ovfClear off.toNat v))

/-- The berth's GoodCRC ends (GOODCRC_SENT; R79, R93). -/
def execGoodcrcSent (b : BerthId) (at_ : Stamp) (s : State) : Host.Outcome State Fault Refusal :=
  .next (match (s.caughtUp b at_).phy.ackDue with
    | none => s
    | some a =>
      let s' := s.atEvent b at_ (fun e x => x.goodcrcDone e at_)
      if a.live && !a.dup then s'.logMsg b { stamp := at_, rx := true, sop := a.sop, hdr := a.hdr, data := a.data } else s')

/-- The berth's Cable Reset ordered set ends (CABLE_RESET_SENT; R109). -/
def execCableResetSent (b : BerthId) (at_ : Stamp) (s : State) : Host.Outcome State Fault Refusal :=
  .next (s.atEvent b at_ (fun _ x => if x.phy.crSending then (x.cableResetSent at_).finishKind 6 else x))

/-- A BMC line error ends the message being received (LINE_ERROR; R88). -/
def execLineError (b : BerthId) (at_ : Stamp) (data : List Byte) (s : State) : Host.Outcome State Fault Refusal :=
  .next (s.atEvent b at_ (fun _ x => x.lineError data))

/-! ### The command FIFO, decisions, keep-alive -/

/-- The head of the command FIFO starts (COMMAND_FIFO_START; R103). -/
def execCommandFifoStart (b : BerthId) (s : State) : Host.Outcome State Fault Refusal :=
  .next (s.atBerth b (fun e x => x.whenBp e (fun y => y.fifoStart e)))

/-- The oldest command has waited 2 s (COMMAND_FIFO_TIMEOUT; R103). -/
def execCommandFifoTimeout (b : BerthId) (s : State) : Host.Outcome State Fault Refusal :=
  .next (s.atBerth b (fun _ x => match x.pol.fifo with
    | [] => x
    | c :: _ => x.fifoTimeout c.due))

/-- A decision window ends undecided (DECISION_WINDOW_END; R130). -/
def execDecisionWindowEnd (b : BerthId) (k : BitVec 16) (s : State) : Host.Outcome State Fault Refusal :=
  .next (s.atBerth b (fun _ x => x.windowEnd k))

/-- Stored outcomes whose 2 s are over at the stamp lapse (DECISION_LAPSE; R130). -/
def execDecisionLapse (b : BerthId) (at_ : Stamp) (s : State) : Host.Outcome State Fault Refusal :=
  .next (s.atEvent b at_ (fun _ x => x.decisionLapse at_))

/-- A granted raise's reservation ends (RESERVATION_EXPIRY; R140). -/
def execReservationExpiry (b : BerthId) (s : State) : Host.Outcome State Fault Refusal :=
  .next (s.atBerth b (fun _ x => if x.tm.reserve.isSome then { x with tm.reserve := none, pol.reserved := none } else x))

/-- A berth with OFFER_CHANGED sends new capabilities (OFFER_CHANGE_CAPABILITIES; R145). -/
def execOfferChangeCapabilities (b : BerthId) (s : State) : Host.Outcome State Fault Refusal :=
  .next (s.atBerth b (fun e x => x.whenBp e (fun y => y.offerChange s.now)))

/-- tSourceEPRKeepAlive expires (EPR_KEEPALIVE_TIMEOUT; R134). -/
def execEprKeepaliveTimeout (b : BerthId) (s : State) : Host.Outcome State Fault Refusal :=
  .next (s.atBerth b (fun e x => x.keepAliveTimeout e))

/-- tSinkEPRKeepAlive elapses (SINK_EPR_KEEPALIVE; R134). -/
def execSinkEprKeepalive (b : BerthId) (s : State) : Host.Outcome State Fault Refusal :=
  .next (s.atBerth b (fun e x => x.whenBp e (·.sinkKeepAlive)))

/-- The emergency grace ends (EMERGENCY_GRACE_EXPIRY; R148); HOLD_TO_HR is that of POWER_SET_BUDGET. -/
def execEmergencyGraceExpiry (b : BerthId) (s : State) : Host.Outcome State Fault Refusal :=
  .next (s.atBerth b (fun e x => x.whenBp e (fun y => y.graceExpiry (100 * s.alloc.budget.holdToHr))))

/-- HOLD_TO_HR elapses (EMERGENCY_HOLD_TO_HR; R148). -/
def execEmergencyHoldToHr (b : BerthId) (s : State) : Host.Outcome State Fault Refusal :=
  .next (s.atBerth b (fun e x => x.whenBp e (·.holdToHr)))

/-! ### Swaps, discovery, modes -/

/-- tPSSourceOff expires (PS_SOURCE_OFF_EXPIRY; R161). -/
def execPsSourceOffExpiry (b : BerthId) (s : State) : Host.Outcome State Fault Refusal :=
  .next (s.atBerth b (fun _ x => x.trackerExpiry (fun p => p = .prSnkWait || p = .frsSourcing || p = .frsDetected)))

/-- tPSSourceOn expires (PS_SOURCE_ON_EXPIRY; R161). -/
def execPsSourceOnExpiry (b : BerthId) (s : State) : Host.Outcome State Fault Refusal :=
  .next (s.atBerth b (fun _ x => x.trackerExpiry (fun p => p = .prSrcWait)))

/-- tVCONNSourceTimeout expires (VCONN_SOURCE_TIMEOUT; R161). -/
def execVconnSourceTimeout (b : BerthId) (s : State) : Host.Outcome State Fault Refusal :=
  .next (s.atBerth b (fun _ x => x.trackerExpiry (fun p => p = .vcOn || p = .vcWait)))

/-- tSwapSourceStart elapses (SWAP_SOURCE_START_EXPIRY; R160). -/
def execSwapSourceStartExpiry (b : BerthId) (s : State) : Host.Outcome State Fault Refusal :=
  .next (s.atBerth b (fun e x => x.whenBp e (·.swapSourceStart)))

/-- 100 ms after the partner's Wait the swap is sent again (SWAP_RETRY_AFTER_WAIT; R155). -/
def execSwapRetryAfterWait (b : BerthId) (s : State) : Host.Outcome State Fault Refusal :=
  .next (s.atBerth b (fun e x => x.whenBp e (·.swapRetry)))

/-- SWAP_CMD.VCONN_ON (VCONN_ON; R157). -/
def execVconnOn (_w : Writer) (b : BerthId) (s : State) : Host.Outcome State Fault Refusal :=
  .next (s.regWrite b (fun _ x => x.vconnOnCmd))

/-- The fast role swap signal is qualified (FRS_SIGNAL_QUALIFIED; R166). -/
def execFrsSignalQualified (b : BerthId) (at_ : Stamp) (s : State) : Host.Outcome State Fault Refusal :=
  .next (s.atEvent b at_ (fun _ x => x.frsQualified at_))

/-- The fast role swap signal lasts 150 µs (FRS_SIGNAL_TOO_LONG; R166). -/
def execFrsSignalTooLong (b : BerthId) (at_ : Stamp) (s : State) : Host.Outcome State Fault Refusal :=
  .next (s.atEvent b at_ (fun e x => x.frsTooLong e at_))

/-- The quay turns the source on in a fast role swap (FRS_SOURCE_TURN_ON; R167, R169). -/
def execFrsSourceTurnOn (b : BerthId) (at_ : Stamp) (vbrMv : Nat) (s : State) : Host.Outcome State Fault Refusal :=
  .next (s.atEvent b at_ (fun e x => x.frsTurnOn e at_ vbrMv))

/-- Discovery begins (DISCOVERY_START; R172). -/
def execDiscoveryStart (b : BerthId) (s : State) : Host.Outcome State Fault Refusal :=
  .next (s.atBerth b (fun e x => x.discoveryStart e))

/-- A structured VDM request has no response (VDM_RESPONSE_TIMEOUT; R175). -/
def execVdmResponseTimeout (b : BerthId) (s : State) : Host.Outcome State Fault Refusal :=
  .next (s.atBerth b (fun e x => match x.tm.vdm with
    | some d => x.whenBp e (fun y => y.vdmTimeout e d)
    | none => x))

/-- 50 ms after BUSY the VDM is sent again (VDM_BUSY_RESEND; R175). -/
def execVdmBusyResend (b : BerthId) (s : State) : Host.Outcome State Fault Refusal :=
  .next (s.atBerth b (fun e x => x.whenBp e (·.vdmResend)))

/-- A write to MUX_CFG (MUX_CFG_WRITE; R178). -/
def execMuxCfgWrite (_w : Writer) (b : BerthId) (v : Word) (s : State) : Host.Outcome State Fault Refusal :=
  .next (s.regWrite b (fun _ x => x.muxCfgWrite v))

/-- A write to SWAP_TIME (SWAP_TIME_WRITE; R158). -/
def execSwapTimeWrite (_w : Writer) (b : BerthId) (v : Word) (s : State) : Host.Outcome State Fault Refusal :=
  .next (s.regWrite b (fun _ x => x.swapTimeWrite v))

/-- A word write to any offset of a berth window (REGISTER_WRITE; R40). -/
def execRegisterWrite (w : Writer) (b : BerthId) (off : BitVec 12) (v : Word) (s : State) : Host.Outcome State Fault Refusal :=
  .next (s.windowWrite w b (off.toNat / 4 * 4) v)

end Sys2Proof.Machine
end

