-- ==== Sys2Proof/Machine/PilotOps.lean ====
section
/-!
DEFINITION. Pilot's output (R459, R461, R462): the 16 KB buffer between what commands and traces print and UART_TX.
-/

namespace Sys2Proof.Machine

/-- The names of Table 11.2. -/
def Status.name : Status → String
  | .ok => "OK" | .unknownCmd => "E_UNKNOWN_CMD" | .badLength => "E_BAD_LENGTH" | .badArg => "E_BAD_ARG"
  | .notPermitted => "E_NOT_PERMITTED" | .busyAms => "E_BUSY_AMS" | .berthReset => "E_BERTH_RESET" | .berthAbsent => "E_BERTH_ABSENT"
  | .berthFenced => "E_BERTH_FENCED" | .timeout => "E_TIMEOUT" | .deferredExpired => "E_DEFERRED_EXPIRED"
  | .superseded => "E_SUPERSEDED" | .otpConflict => "E_OTP_CONFLICT" | .otpLocked => "E_OTP_LOCKED" | .otpWeak => "E_OTP_WEAK"
  | .noResource => "E_NO_RESOURCE" | .tagInUse => "E_TAG_IN_USE" | .swapDeferred => "E_SWAP_DEFERRED" | .integrity => "E_INTEGRITY"
  | .linkLost => "E_LINK_LOST" | .selftestFail => "E_SELFTEST_FAIL" | .internal => "E_INTERNAL"
  | .partnerReject => "E_PARTNER_REJECT" | .partnerNoResponse => "E_PARTNER_NO_RESPONSE" | .waitLimit => "E_WAIT_LIMIT"

/-- The decimal digits of a number. -/
def digits (n : Nat) : Nat := if n < 10 then 1 else if n < 100 then 2 else if n < 1000 then 3 else if n < 10000 then 4 else if n < 100000 then 5
  else if n < 1000000 then 6 else 7

/-- The characters of a line, its CR and LF included (DEDUCED from R469 for every line).  The manual gives the text of the final
lines, of the three messages, of the prompt and of a dumped set; the length of any other line is free. -/
def PilotOut.chars : PilotOut → Nat
  | .ok => 4
  | .err st => 11 + st.name.length
  | .banner => 17
  | .words ws => Config.pilotText 0 ws
  | .bytes bs => Config.pilotText 1 (bs.map (fun (x : Byte) => x.toNat))
  | .spec ws => Config.pilotText 2 ws
  | .capSet _ _ => 33
  | .handover => 12
  | .prompt _ => 10
  | .trace _ _ _ kind content => Config.pilotText 3 (kind :: content)
  | .lost n => 9 + digits n
  | .release _ => 0
  | .rate _ => 0

/-- A line without text. -/
def PilotOut.isMark : PilotOut → Bool
  | .release _ => true
  | .rate _ => true
  | _ => false

/-- A change of rate that waits. -/
def PilotOut.isRate : PilotOut → Bool
  | .rate _ => true
  | _ => false

namespace Pilot

/-- Characters in the buffer. -/
def fill (p : Pilot) : Nat := p.made - p.sent

/-- A line finds room in the 16 KB buffer; in an empty one every line does, since a longer line could never be printed. -/
def fits (p : Pilot) (x : PilotOut) : Bool := p.fill + x.chars ≤ 16384 || p.fill = 0

/-- A line enters the buffer. -/
def put (p : Pilot) (x : PilotOut) : Pilot :=
  if x.isMark then { p with marks := p.marks ++ [(p.made, x)] }
  else { p with out := p.out ++ [x], made := p.made + x.chars }

/-- The line `! LOST n` goes before any other once it fits. -/
def report (p : Pilot) : Pilot := if 0 < p.lost && p.fits (.lost p.lost) then { p.put (.lost p.lost) with lost := 0 } else p

/-- A line can enter now: nothing waits before it and it fits. -/
def open_ (p : Pilot) (x : PilotOut) : Bool := p.lost = 0 && p.wait = [] && p.fits x

/-- Command output: it waits for room. -/
def add (p : Pilot) (x : PilotOut) : Pilot :=
  let p := p.report
  if p.open_ x then p.put x else { p with wait := p.wait ++ [x] }

/-- A trace record: dropped and counted without room. -/
def addTrace (p : Pilot) (x : PilotOut) : Pilot :=
  let p := p.report
  if p.open_ x then p.put x else { p with lost := p.lost + 1 }

/-- The lines of a command. -/
def say (p : Pilot) (l : List PilotOut) : Pilot := l.foldl add p

/-- Waiting lines enter while they fit. -/
def refill : List PilotOut → Pilot → Pilot
  | [], p => { p.report with wait := [] }
  | x :: r, p =>
    let p := p.report
    if p.lost = 0 && p.fits x then refill r (p.put x) else { p with wait := x :: r }

/-- UART_TX sends for one Tide: 10 bit times a character (R459). -/
def drain (p : Pilot) : Pilot :=
  if p.fill = 0 then refill p.wait { p with part := 0 }
  else
    let n := (p.part + p.baud) / 400000
    let p : Pilot := { p with sent := min p.made (p.sent + n), part := (p.part + p.baud) % 400000 }
    refill p.wait p

end Pilot

namespace State

/-- Lines are printed. -/
def say (s : State) (l : List PilotOut) : State := { s with pilot := s.pilot.say l }

end State

end Sys2Proof.Machine
end

