-- ==== Sys2Proof/Machine/Records.lean ====
section
/-!
DEFINITION. What the device reports: event bodies as bytes (R304, R323–R325), the event queue and the FAULT events held
in retained SRAM (R305–R309, R322), responses and the outcomes of commands over berth sets (R311, R314), and the Manifest's
slots and records (R344–R354).
-/

namespace Sys2Proof.Machine

/-! ### Event bodies (Tables 11.14 and 11.15) -/

/-- The statuses of Table 11.2. -/
def allStatus : List Status :=
  [.ok, .unknownCmd, .badLength, .badArg, .notPermitted, .busyAms, .berthReset, .berthAbsent, .berthFenced, .timeout,
   .deferredExpired, .superseded, .otpConflict, .otpLocked, .otpWeak, .noResource, .tagInUse, .swapDeferred, .integrity,
   .linkLost, .selftestFail, .internal, .partnerReject, .partnerNoResponse, .waitLimit]

/-- The status of a code. -/
def statusOf (n : Nat) : Option Status := allStatus.find? (fun s => s.code = n)

/-- The event code of a body (Table 11.14). -/
def EvBody.code : EvBody → Nat
  | .attach .. => 0x8001 | .detach .. => 0x8002 | .contract .. => 0x8003 | .decision .. => 0x8004 | .fault .. => 0x8005
  | .swap .. => 0x8006 | .mode .. => 0x8007 | .selftest .. => 0x8008 | .capacity .. => 0x8009 | .link .. => 0x800A
  | .budget .. => 0x800B | .otpWeak .. => 0x800C | .manifest .. => 0x800D | .backfeed .. => 0x800E
  | .resetReport .. => 0x800F | .tideOverrun .. => 0x8010
  | .customer c _ => c

/-- The decision kinds of Table 11.14. -/
def AmsKind.code : AmsKind → Nat
  | .request => 0 | .prSwap => 1 | .drSwap => 2 | .vconnSwap => 3 | .modeEntry => 4

/-- A number of a FAULT body or record limited to a 16-bit field. -/
def sat16 (n : Nat) : Nat := min n 0xFFFF

/-- The 44 bytes of a FAULT body (Table 11.15). -/
def FaultBody.bytes (f : FaultBody) : List Byte :=
  leBytes 1 f.cause.code ++ leBytes 1 f.lock.code ++ leBytes 2 f.also.toNat ++ leBytes 2 f.slot ++ leBytes 1 f.quay ++ [0]
    ++ leBytes 8 f.stamp ++ leBytes 2 (sat16 f.volt) ++ leBytes 2 (sat16 f.curr) ++ leBytes 2 (sat16 f.vbc)
    ++ leBytes 2 (sat16 f.vbr) ++ leBytes 2 (sgn 16 f.ipath) ++ leBytes 2 (sat16 f.vin)
    ++ ((f.detail.flatMap (fun (w : Word) => leBytes 4 w.toNat)) ++ List.replicate 16 0).take 16

/-- The body of an event from offset 0x10 (Table 11.14). -/
def EvBody.bytes : EvBody → List Byte
  | .attach st o p rp vbc vc db =>
    leBytes 1 st.code ++ leBytes 1 o.code ++ leBytes 1 p ++ leBytes 1 rp ++ leBytes 2 (sat16 vbc) ++ leBytes 1 (flag vc 0 + flag db 1) ++ [0]
  | .detach st r d => leBytes 1 st.code ++ leBytes 1 r ++ [0, 0] ++ leBytes 4 (min d 0xFFFFFFFF)
  | .contract r st f pos v i rdo pdo =>
    leBytes 1 r ++ leBytes 1 st.code ++ leBytes 1 f ++ leBytes 1 pos ++ leBytes 2 v ++ leBytes 2 i ++ leBytes 4 rdo.toNat ++ leBytes 4 pdo.toNat
  | .decision id k e c => leBytes 2 id.toNat ++ leBytes 1 k.code ++ [0] ++ leBytes 6 e ++ [0, 0] ++ leBytes 8 c.toNat
  | .fault f => f.bytes
  | .swap k st by_ r f => leBytes 1 k ++ leBytes 1 st.code ++ leBytes 1 by_ ++ leBytes 1 r ++ leBytes 1 f ++ [0, 0, 0]
  | .mode sub sop svid m n sbu mux data =>
    leBytes 1 sub ++ leBytes 1 sop ++ leBytes 2 svid ++ leBytes 1 m ++ leBytes 1 n ++ leBytes 1 sbu ++ leBytes 1 mux
      ++ data.flatMap (fun x => leBytes (if sub = 4 then 4 else 2) x)
  | .selftest k i sel o st c a =>
    leBytes 1 k ++ leBytes 1 i ++ leBytes 1 sel ++ leBytes 1 o ++ leBytes 1 st.code ++ leBytes 1 c ++ leBytes 1 a ++ [0]
  | .capacity en fe hl c => leBytes 8 en.toNat ++ leBytes 8 fe.toNat ++ leBytes 8 hl.toNat ++ leBytes 1 c ++ [0, 0, 0]
  | .link l o n inv fe => leBytes 1 l ++ leBytes 1 o ++ leBytes 1 n ++ leBytes 1 (flag inv 0) ++ leBytes 4 fe
  | .budget k p q t d => leBytes 1 k ++ leBytes 1 p ++ leBytes 1 q.toNat ++ [0] ++ leBytes 4 t ++ leBytes 4 d
  | .otpWeak r k d => leBytes 1 r ++ leBytes 1 k ++ [0, 0] ++ leBytes 4 d.toNat
  | .manifest sub a sl n c => leBytes 1 sub ++ leBytes 1 a ++ leBytes 2 sl ++ leBytes 2 n ++ [0, 0] ++ leBytes 4 c
  | .backfeed w r v => leBytes 1 w ++ leBytes 1 r ++ leBytes 2 (sat16 v)
  | .resetReport c sc co f h u b up =>
    leBytes 1 c ++ leBytes 1 sc ++ leBytes 1 co ++ leBytes 1 f ++ leBytes 2 h ++ leBytes 2 u ++ leBytes 4 b ++ leBytes 4 up
  | .customer _ d => d
  | .tideOverrun t sp n pc => leBytes 1 t ++ leBytes 1 sp ++ leBytes 1 n ++ [0] ++ leBytes 4 pc.toNat

/-- The payload of an EVT frame: the preamble of Table 10.5 and the body. -/
def EvEntry.payload (e : EvEntry) : List Byte :=
  leBytes 4 e.seq ++ leBytes 6 e.tide ++ leBytes 1 e.berth ++ leBytes 1 (flag e.coalesced 0 + flag e.resync 1 + flag e.held 2)
    ++ leBytes 2 (sat16 e.merged) ++ [0, 0] ++ e.body.bytes

/-! ### Publication (R305–R309, R322) -/

/-- Event `n` is later than event `m` (R305). -/
def laterSeq (n m : Nat) : Bool :=
  let d := (n + 2 ^ 32 - m % 2 ^ 32) % 2 ^ 32
  1 ≤ d && d < 2 ^ 31

/-- Published whatever the mask holds (R322). -/
def EvBody.always : EvBody → Bool
  | .fault .. => true | .link .. => true | .resetReport .. => true | .backfeed .. => true | .tideOverrun .. => true
  | _ => false

/-- The body's kind is FAULT. -/
def EvBody.isFault : EvBody → Bool
  | .fault .. => true
  | _ => false

namespace State

/-- The Manifest slot of a FAULT body. -/
def slotOf : EvBody → Nat
  | .fault f => f.slot
  | _ => 0xFFFF

/-- An entry for a published event at the latest boundary. -/
def entryOf (s : State) (e : EvBody) (berth : Nat) : EvEntry :=
  { seq := s.nextSeq, tide := s.tideCount, berth := if berth < 48 then berth else 0xFF, body := e }

/-- The event takes the next sequence number and an entry. -/
def enqueue (s : State) (x : EvEntry) : State :=
  { s with events := s.events ++ [x], nextSeq := (s.nextSeq + 1) % 2 ^ 32 }

/-- A FAULT event is held in retained SRAM (R307); one that has no Manifest slot is held in full (log entry 49). -/
def holdFault (s : State) (x : EvEntry) : State :=
  if s.retained.held.length < 64 || slotOf x.body = 0xFFFF then
    { s with retained.held := s.retained.held ++ [{ x with held := true }], nextSeq := (s.nextSeq + 1) % 2 ^ 32 }
  else { s with retained.heldSlots := s.retained.heldSlots ++ [(slotOf x.body, x.seq)], nextSeq := (s.nextSeq + 1) % 2 ^ 32 }

/-- The newest unsent entry with the code and berth of an event takes its content (R306). -/
def coalesce (s : State) (x : EvEntry) : Option State :=
  match (s.events.filter (fun e => e.sent.isNone && e.body.code = x.body.code && e.berth = x.berth)).getLast? with
  | none => none
  | some old => some { s with events := s.events.map (fun e =>
      if e.seq = old.seq then { e with body := x.body, tide := x.tide, coalesced := true, merged := sat16 (e.merged + 1) } else e) }

/-- ALERT_STATUS keeps that a FAULT of a berth or a BACKFEED event was published (Table 13.4). -/
def smbAlert (s : State) (e : EvBody) (berth : Nat) : State := match e with
  | .fault _ => if berth < 48 then { s with smb.sticky := s.smb.sticky ||| 2#6 } else s
  | .backfeed .. => { s with smb.sticky := s.smb.sticky ||| 16#6 }
  | _ => s

/-- Publish an event (R306, R307, R309, R322). -/
def publish (s : State) (e : EvBody) (berth : Nat := 0xFFFF) : State :=
  let masked := if h : berth < 48 then !(s.tele[berth].mask.getLsbD (e.code - 0x8001)) && !e.always else false
  if masked then s
  else
    let s := s.smbAlert e berth
    let x := s.entryOf e berth
    let n := s.events.length
    if e.isFault then (if n < 1024 && !s.linksDown then s.enqueue x else s.holdFault x)
    else if n < 960 then s.enqueue x
    else match s.coalesce x with
      | some s' => s'
      | none =>
        if n < 1008 then s.enqueue x
        else if h : berth < 48 then s.atTele ⟨berth, h⟩ (fun t => { t with stale := true }) else s

/-! ### Responses (R311, R314, R327, R328) -/

/-- The status word and, when the status is OK, the body (R311). -/
def answerOf (st : Status) (body : List Byte) : List Byte :=
  leBytes 4 st.code ++ (if st = .ok then body else [])

/-- What Pilot prints for a response: its values, the final line and the prompt (R461). -/
def pilotAnswer (r : Response) (level : Nat) : List PilotOut :=
  let st := leNat (r.payload.take 1)
  (if r.payload.length ≤ 4 then []
    else if r.code = 0x0B01 && leNat ((r.payload.drop 4).take 1) % 2 = 1 then
      [PilotOut.spec ((r.payload.drop 4).map (fun (x : Byte) => x.toNat))]
    else [PilotOut.bytes (r.payload.drop 4)])
    ++ [if st = 0 then .ok else .err ((statusOf st).getD .internal), .prompt level]

/-- A response is queued on the path its command came by (R298, R327, R328). -/
def queueResponse (s : State) (r : Response) : State := match r.origin.path with
  | .link .xla => { s with links := s.links.set 0 { s.links[0] with queue := s.links[0].queue ++ [r] } }
  | .link .xlb => { s with links := s.links.set 1 { s.links[1] with queue := s.links[1].queue ++ [r] } }
  | .tunnel => { s with smb.rsps := s.smb.rsps ++ [(r, 0)] }
  | .pilot =>
    { s with tags := s.tags.filter (fun t => t.origin ≠ r.origin), pilot := s.pilot.say (pilotAnswer r s.pilot.level) }

/-- A command completes with a payload: its response is queued once (R315). -/
def respondRaw (s : State) (o : Origin) (code : Nat) (payload : List Byte) : State :=
  if s.tags.any (fun t => t.origin = o && !t.done) then
    { s with tags := s.tags.map (fun (t : TagEntry) => if t.origin = o then { t with done := true } else t) }.queueResponse
      { origin := o, code := code, payload := payload }
  else s

/-- A command completes with a status and body. -/
def respond (s : State) (o : Origin) (code : Nat) (st : Status) (body : List Byte := []) : State :=
  s.respondRaw o code (answerOf st body)

/-- The RESULT response of a command over a berth set (R314). -/
def resultBytes (outs : List (Nat × Status)) : List Byte :=
  let at_ (b : Nat) : Option Status := (outs.find? (fun o => o.1 = b)).map (·.2)
  let bad := ((List.range 48).filterMap (fun b => (at_ b).filter (fun st => st ≠ .ok))).head?
  leBytes 4 (bad.getD .ok).code ++ (List.range 48).map (fun b => match at_ b with
    | some st => BitVec.ofNat 8 st.code
    | none => 0xFF#8)

/-- A named berth of a running command has its outcome; the response goes with the last one (R314). -/
def jobDone (s : State) (o : Origin) (b : BerthId) (st : Status) : State := match s.jobs.find? (fun j => j.origin = o) with
  | none => s
  | some j =>
    if !j.left.getLsbD b then s
    else
      let left := j.left &&& ~~~ (BitVec.ofNat 48 (2 ^ b.val))
      let outs := j.outs ++ [(b.val, st)]
      if left = 0 then
        { s with jobs := s.jobs.filter (fun x => x.origin ≠ o) }.respondRaw o j.code (resultBytes outs)
      else { s with jobs := s.jobs.map (fun x => if x.origin = o then { x with left := left, outs := outs } else x) }

/-- A command over a set starts with no outcomes. -/
def startJob (s : State) (o : Origin) (code : Nat) (m : BitVec 48) : State :=
  { s with jobs := s.jobs ++ [{ origin := o, code := code, left := m }] }

/-- Every berth of a running command has the same outcome. -/
def jobAll (s : State) (o : Origin) (m : BitVec 48) (st : Status) : State :=
  (setOf m).foldl (fun s b => s.jobDone o b st) s

/-- The completions that berths have reached since the last boundary. -/
def collect (s : State) : State :=
  (List.finRange 48).foldl (fun (s : State) (b : BerthId) =>
    let l := s.berths[b].done
    if l = [] then s
    else l.foldl (fun s d => if d.result then s.jobDone d.origin b d.status else s.respond d.origin d.code d.status d.body)
      { s with berths := s.berths.set b { s.berths[b] with done := [] } }) s

/-! ### Berth sets that events name -/

/-- Berths that the member enables and the host has not disabled (R141). -/
def enabledSet (s : State) : BitVec 48 := maskOf (fun b => b.val < s.berthsOn && s.berths[b].enabled)
/-- Fenced berths, those of a fenced quay among them. -/
def fencedSet (s : State) : BitVec 48 := maskOf (fun b => s.berths[b].id.fenced || s.quays[quayOf b].fenced)
/-- Berths of quays in harbour-less mode. -/
def hlessSet (s : State) : BitVec 48 := maskOf (fun b => s.quays[quayOf b].hless)

/-- A CAPACITY event with a cause (R149). -/
def capacity (s : State) (cause : Nat) : State :=
  s.devEvent (.capacity s.enabledSet s.fencedSet s.hlessSet cause)

/-! ### The Manifest (R344–R354) -/

/-- The first slot of an area and its length (Table 12.4). -/
def areaRange (a : Nat) : Nat × Nat := match a with
  | 0 => (0, 768)
  | 1 => (768, 128)
  | 2 => (896, 16)
  | 3 => (912, 64)
  | 4 => (976, 16)
  | _ => (992, 32)

/-- The written state of a slot. -/
def slotAt (s : State) (n : Nat) : Option ManSlot := s.man.find? (fun m => m.slot = n)

/-- A slot that R354 retired. -/
def slotRetired (s : State) (n : Nat) : Bool := match s.slotAt n with
  | some m => m.retired
  | none => false

/-- The slots that serve a range: its own, with the successors of those retired (R354). -/
def serving (s : State) (lo n : Nat) : List Nat :=
  ((List.range n).map (· + lo)).filterMap (fun k =>
    if s.slotRetired k then (s.repair.succ.find? (fun p => p.1 = k)).map (·.2) else some k)

/-- A slot holds a sealed record. -/
def slotSealed (s : State) (n : Nat) : Bool := match s.slotAt n with
  | some m => m.sealed
  | none => false

/-- A slot is taken by a record that waits to be written. -/
def slotAwaited (s : State) (n : Nat) : Bool := s.records.any (fun r => r.slot = n)

/-- The slot of a new record among those that serve a range: the lowest free one, else the one whose sealed record is the
oldest (R345; which free slot is the model's choice, log entry 40). -/
def recordSlot (s : State) (lo n : Nat) : Option Nat :=
  let l := (s.serving lo n).filter (fun k => !s.slotAwaited k)
  match l.find? (fun k => !s.slotSealed k) with
  | some k => some k
  | none => l.foldl (fun best k => match best with
      | none => some k
      | some j => match s.slotAt j, s.slotAt k with
        | some x, some y => if laterSeq x.seq y.seq then some k else some j
        | _, _ => some j) none

/-- The lowest free slot of a versioned area (R353). -/
def versionSlot (s : State) (area : Nat) : Option Nat :=
  (s.serving (areaRange area).1 (areaRange area).2).find? (fun k => !s.slotSealed k && !s.slotAwaited k)

/-- Retire a slot whose write count has reached its limit (R354, R355). -/
def retire (s : State) (area slot : Nat) : State :=
  let spare := ((List.range 32).map (· + 992)).find? (fun k => !s.slotSealed k && !s.slotRetired k && !s.repair.succ.any (fun p => p.2 = k))
  let s := { s with man := s.man.map (fun (m : ManSlot) => if m.slot = slot then { m with retired := true } else m) }
  let s := (match spare with
    | some k => { s with repair.succ := s.repair.succ ++ [(slot, k)] }
    | none => s).devEvent (.manifest 0 area slot (spare.getD 0xFFFF) 0)
  let r := areaRange area
  if s.serving r.1 r.2 = [] then s.devEvent (.manifest 1 area 0xFFFF 0xFFFF 0) else s

/-- The area of a slot. -/
def areaOf (n : Nat) : Nat :=
  if n < 768 then 0 else if n < 896 then 1 else if n < 912 then 2 else if n < 976 then 3 else if n < 992 then 4 else 5

/-- A slot is written and sealed (R351): its write count goes up, and at the limit it is retired. -/
def writeSlot (s : State) (slot seq : Nat) (item : ManItem) (data : List Byte) : State :=
  let w : Word := match s.slotAt slot with
    | some m => m.wcount + 1
    | none => 1
  let m : ManSlot := { slot := slot, item := item, sealed := true, seq := seq, wcount := w, data := data }
  let s := { s with man := s.man.filter (fun x => x.slot ≠ slot) ++ [m] }
  if w = 0xFFFFFFFF#32 then s.retire (areaOf slot) slot else s

/-- Free a sealed slot (R345, R353). -/
def freeSlot (s : State) (p : ManSlot → Bool) : State :=
  { s with man := s.man.map (fun m => if p m && !m.retired then { m with sealed := false, item := .free, data := [], raw := none } else m) }

/-- The next record number (R346, R352). -/
def takeSeq (s : State) : Nat × State := (s.recSeq, { s with recSeq := (s.recSeq + 1) % 2 ^ 32 })

/-- Write a new version of an item, and free the slots of the old ones (R353); false when the area has no free slot. -/
def writeVersion (s : State) (area : Nat) (item : ManItem) (same : ManItem → Bool) (data : List Byte) : Bool × State :=
  match s.versionSlot area with
  | none => (false, s)
  | some k =>
    let q := s.takeSeq
    (true, (q.2.freeSlot (fun m => same m.item)).writeSlot k q.1 item data)

/-- The repair map is written as a version at each change (R441). -/
def saveRepair (s : State) : State := (s.writeVersion 4 .repairs (fun i => i = .repairs) []).2

/-! ### Fault records (R346–R350) -/

/-- Device time at a stamp, in µs, from the time of the latest boundary (R407). -/
def timeAt (s : State) (t : Stamp) : Nat := if s.time = 0 then 0 else s.time + t / 100 - s.tb / 100

/-- The first 0x230 bytes of a berth record (Table 12.5), from the latch before the fault's boundary. -/
def recordHead (s : State) (b : BerthId) (f : FaultBody) (seq tide : Nat) : List Byte :=
  let x := s.berths[b]
  let c := x.id.contract
  let q := s.quays[quayOf b]
  let l := x.lat
  let entry (m : MsgLog) : List Byte :=
    leBytes 4 m.stamp ++ leBytes 1 (flag m.rx 0 + 2 * sopCode m.sop) ++ leBytes 1 (min 28 m.data.length) ++ leBytes 2 m.hdr.toNat
      ++ (m.data.take 28 ++ List.replicate 28 0).take 28 ++ [0, 0, 0, 0]
  let msgs := (s.tele[b].msgs.filter (fun m => m.stamp ≤ f.stamp)).flatMap entry
  leBytes 4 0x4D464331 ++ leBytes 2 4 ++ [1] ++ leBytes 1 b ++ leBytes 4 seq ++ leBytes 2 0xFE0 ++ [0, 0]
    ++ leBytes 1 f.cause.code ++ leBytes 1 f.lock.code ++ leBytes 2 f.also.toNat ++ leBytes 1 f.quay ++ [0, 0, 0]
    ++ leBytes 8 f.stamp ++ leBytes 6 tide ++ [0, 0] ++ leBytes 8 (s.timeAt f.stamp)
    ++ leBytes 2 f.volt ++ leBytes 2 f.curr ++ leBytes 4 ((c.map Contract.rdo).getD 0).toNat ++ leBytes 4 ((c.map Contract.pdo).getD 0).toNat
    ++ leBytes 1 (flag c.isSome 0 + flag ((c.map (·.source)).getD false) 1 + flag x.id.eprMode 2 + flag ((c.map (·.apdo)).getD false) 3)
    ++ leBytes 1 x.cc.state.code ++ leBytes 1 x.path.state.code ++ leBytes 1 x.reg.state.code ++ leBytes 2 x.id.epoch.toNat
    ++ leBytes 2 (sat16 x.pol.offer) ++ leBytes 1 x.pol.table ++ leBytes 1 ((x.id.tug.map (·.val)).getD 0xFF) ++ [0, 0]
    ++ leBytes 2 (sat16 f.vin) ++ leBytes 2 (sat16 f.vbc) ++ leBytes 2 (sat16 f.vbr) ++ leBytes 2 (sgn 16 f.ipath)
    ++ leBytes 2 (fld l.adcI 16 16) ++ leBytes 2 (fld l.adcAux 0 16) ++ leBytes 2 (fld l.adcAux 16 16)
    ++ leBytes 2 (sgn 16 q.temp) ++ leBytes 2 (sgn 16 s.temp) ++ [0, 0, 0, 0, 0, 0]
    ++ leBytes 4 l.berthStatus.toNat ++ leBytes 4 l.ccStatus.toNat ++ leBytes 4 l.pathStatus.toNat ++ leBytes 4 l.regStatus.toNat
    ++ leBytes 4 l.swapStatus.toNat ++ leBytes 4 l.phyStatus.toNat ++ leBytes 4 x.mon.fence.toNat ++ leBytes 4 x.path.lock.code
    ++ (l.monState.toList.flatMap (fun (w : Word) => leBytes 1 w.toNat)) ++ [0, 0, 0, 0, 0, 0]
    ++ (x.mon.ch.toList.flatMap (fun (c : MonCh) => leBytes 4 c.hiStamp.toNat)) ++ List.replicate 8 0
    ++ ((f.detail.flatMap (fun (w : Word) => leBytes 4 w.toNat)) ++ List.replicate 16 0).take 16
    ++ (msgs ++ List.replicate 320 0).take 320

/-- A device record (R346, R347): no excerpt, contract and measured fields zero. -/
def deviceRecord (s : State) (seq cause quay stamp time : Nat) (detail : List Byte) : List Byte :=
  leBytes 4 0x4D464331 ++ leBytes 2 4 ++ [2, 0xFF] ++ leBytes 4 seq ++ leBytes 2 0xFE0 ++ [0, 0]
    ++ leBytes 1 cause ++ [0, 0, 0] ++ leBytes 1 quay ++ [0, 0, 0] ++ leBytes 8 stamp ++ leBytes 6 s.tideCount ++ [0, 0]
    ++ leBytes 8 time ++ List.replicate 0x90 0 ++ (detail ++ List.replicate 16 0).take 16 ++ List.replicate 0x160 0

/-- A berth's fault gets a slot, its event and a record that waits for its excerpt (R345, R349, R350, R101);
the record's head is taken from the state before the boundary's latch. -/
def recordFault (s old : State) (b : BerthId) (f : FaultBody) : State :=
  let r := if 96 ≤ s.records.length then none else s.recordSlot (16 * b.val) 16
  match r with
  | none => s.publish (.fault { f with slot := 0xFFFF }) b
  | some k =>
    let q := s.takeSeq
    let rec_ : PendRec := { slot := k, seq := q.1, berth := b, cause := f.cause.code, tide := s.tideCount, stamp := f.stamp
                            head := old.recordHead b f q.1 s.tideCount, ready := false }
    { q.2 with records := s.records ++ [rec_] }.publish (.fault { f with slot := k }) b

/-- A device record waits to be written (R347); its slot, 0xFFFF for none. -/
def recordDevice (s : State) (cause quay stamp : Nat) (detail : List Byte) (time : Nat := s.time) : Nat × State :=
  let r := if 96 ≤ s.records.length then none else s.recordSlot 768 128
  match r with
  | none => (0xFFFF, s)
  | some k =>
    let q := s.takeSeq
    (k, { q.2 with records := s.records ++ [{ slot := k, seq := q.1, berth := 0xFF, cause := cause, tide := s.tideCount, stamp := stamp
                                              head := s.deviceRecord q.1 cause quay stamp time detail, ready := true }] })

end State

end Sys2Proof.Machine
end

