-- ==== Sys2Proof/Machine/Repair.lean ====
section
/-!
DEFINITION. Resets of berths and quays (R391, R394), the classes of tests (R439), the repair map (R441, R442), fences
(R443) and the lasting actions of Table 16.2.
-/

namespace Sys2Proof.Machine

/-! ### A berth's reset (Table 14.5, R206, R238, R259, R458) -/

/-- What of the policy of a berth stands through its reset: its binding, its overrides and the allocator's terms. -/
def Pol.afterReset (p : Pol) : Pol :=
  { table := p.table, clsOver := p.clsOver, gminOver := p.gminOver, eprSrcKa := p.eprSrcKa, eprSnkKa := p.eprSnkKa
    share := p.share, oldIds := p.oldIds ++ p.windows.map (fun (w : DecWindow) => (w.id, DecEnd.lapsed)) }

/-- A berth after the reset of its block: reset values, but for the crowbar latch, LOCKED and its cause, the fences, the
time base, and what it has still to publish. -/
def Berth.afterReset (b : Berth) : Berth :=
  let r := Berth.reset
  { r with
    enabled := b.enabled, id.tug := b.id.tug, id.fenced := b.id.fenced, tmr.tb := b.tmr.tb
    cc.dbSel := b.cc.dbSel, cc.dbRd := b.cc.dbSel, cc.draws := b.cc.draws
    path.state := if b.path.state = PathState.locked then .locked else .off, path.lock := b.path.lock
    reg.state := if b.reg.cbLatch then .crowbar else .idle, reg.cbLatch := b.reg.cbLatch, reg.cbRepair := b.reg.cbRepair
    reg.fltLow := b.reg.fltLow, reg.thermal := b.reg.thermal
    mon.fence := b.mon.fence, mon.ded := b.mon.ded, st.phyFenced := b.st.phyFenced
    adc := { b.adc with tmonCal := Berth.reset.adc.tmonCal }, smp := b.smp
    pol := b.pol.afterReset, evOut := b.flushOwed.evOut, faults := b.faults, done := b.flushOwed.done }

/-- The domain lost its supply: a crowbar latch that the repair map records comes back as a LOCKED path (R233, R391). -/
def Berth.lostDomain (b : Berth) : Berth :=
  if b.reg.cbRepair then
    { b with reg.state := .idle, reg.cbLatch := false, reg.cbRepair := false, path.state := .locked, path.lock := .crowbar }
  else { b with reg.state := .idle, reg.cbLatch := false }

/-- What runs on a berth ends as its Lock closes at stamp `t` (R386): an attached berth detaches, commands complete with a
status. -/
def Berth.lockClosed (b : Berth) (t : Stamp) (st : Status) : Berth :=
  let x := (b.detach t 3 st).endEvery st
  let x := State.dropStaged x
  match x.pol.clear with
  | none => x
  | some j => { x with pol.clear := none, done := x.done ++ [{ origin := j.origin, code := 0x0206, status := st }] }

namespace State

/-- Every running command over a berth set but one has its outcome for the berth (R315). -/
def cutJobs (s : State) (b : BerthId) (but : Option Origin) (st : Status) : State :=
  (s.jobs.map (·.origin)).foldl (fun (s : State) o => if some o = but then s else s.jobDone o b st) s

/-- The Tug of a berth is stopped; it stays bound (R391). -/
def stopTug (s : State) (b : BerthId) : State := match s.berths[b].id.tug with
  | none => s
  | some t => s.atTug t (fun k => { k with mode := .empty, entry := none })

/-- The Tug of a berth is unbound and joins the free Tugs (R443). -/
def unbindTug (s : State) (b : BerthId) : State := match s.berths[b].id.tug with
  | none => s
  | some t =>
    (s.atTug t (fun k => { k with mode := .empty, entry := none, berth := none, last := some b, inPlace := false })).setBerth b
      { s.berths[b] with id.tug := none }

/-- What a host asked of a berth as a test or as its return to service ends with a status (R315). -/
def cutTests (s : State) (b : BerthId) (st : Status) : State :=
  let l := s.tests.filter (fun (x : HostTest) => [0, 3, 5, 6, 7].contains x.kind && x.index = b.val)
  l.foldl (fun (s : State) (x : HostTest) => s.respond x.origin x.code st)
    { s with tests := s.tests.filter (fun (x : HostTest) => !l.contains x) }

/-- A test, a pending program swap or a remap of a berth ends with a status (R315). -/
def cutService (s : State) (b : BerthId) (st : Status) : State :=
  let x := s.tele[b]
  let s := s.cutTests b st
  let s := s.atTele b (fun t => { t with swap := none, remap := none })
  let s := match x.swap with
    | some (_, _, _, o) => s.jobDone o b st
    | none => s
  match x.remap with
  | some (_, _, some o) => s.respond o 0x0904 st
  | _ => s

/-- The CAP_ARM of a berth that waits for its delivery. -/
def armOf (b : BerthId) : Later → Option CapArm
  | .capArm c a _ => if c = b then some a else none
  | _ => none

/-- A capture armed at a berth, or about to be, ends with a status and its window is released (R321, R342). -/
def cutCapture (s : State) (b : BerthId) (st : Status) : State :=
  let l := s.tele[b].arm.toList ++ s.later.filterMap (armOf b)
  let s := { s with later := s.later.filter (fun (x : Later) => (armOf b x).isNone) }.atTele b
    (fun t => { t with arm := none, frozen := none })
  l.foldl (fun (s : State) (x : CapArm) => s.respond x.origin 0x0604 st) s

/-- The reset of one berth's block, with its Tug stopped. -/
def resetBerthBlock (s : State) (b : BerthId) (lost : Bool) : State :=
  let s := s.atBerth b (fun _ x => let y := (x.lockClosed s.now .berthReset).afterReset
                                   if lost then y.lostDomain else y)
  (((s.cutJobs b none .berthReset).cutService b .berthReset).cutCapture b .berthReset).stopTug b

/-- The reset of a quay: its berths, its gangway and its common registers (Table 14.5); the VIN_BUS window
returns to its reset values (R207), the slot-sequencer table stands. -/
def resetQuay (s : State) (q : QuayId) (lost : Bool) : State :=
  let s := (State.berthsOf q).foldl (fun (s : State) (b : BerthId) =>
    (s.resetBerthBlock b lost).atTele b (fun t => { t.restart with resets := [], held := false, reset := none })) s
  s.atQuay q (fun x => { fenced := x.fenced, gwFenced := x.gwFenced, removed := x.removed, crcCount := x.crcCount
                         gwResets := x.gwResets, gwBy := x.gwBy, resetBy := x.resetBy, why := x.why, hotAt := x.hotAt
                         thermal := x.thermal, row := x.row, seq := x.seq })

/-! ### Tests and their classes (R439) -/

/-- Seconds for the stamps of the repair map: device time, or uptime while it is unset (R441). -/
def nowSec (s : State) : Nat := (if s.time = 0 then s.ticks * 25 else s.time) / 1000000

/-- The marks of a location. -/
def markOf (s : State) (l : Loc) : LocMark := (s.repair.marks.find? (fun m => m.loc = l)).getD { loc := l }

/-- Replace the marks of a location; the repair map is written (R441). -/
def setMark (s : State) (m : LocMark) : State :=
  { s with repair.marks := s.repair.marks.filter (fun (x : LocMark) => x.loc ≠ m.loc) ++ [m] }.saveRepair

/-- A location is marked lasting and counted (R439). -/
def markLasting (s : State) (l : Loc) : State :=
  let s := { s with repair.lasting := (satInc s.repair.lasting).1 }
  s.setMark { s.markOf l with lasting := true }

/-- The class of a test at a location and what it leaves (R439): 0 external or a host's pass, 1 transient, 2 lasting. -/
def judge (s : State) (l : Loc) (pass host ext : Bool) : Nat × State :=
  if !pass then (2, s.markLasting l)
  else if host || ext then (0, s)
  else
    let m := s.markOf l
    let recent := m.transients.filter (fun x => decide (s.nowSec ≤ x + 86400))
    let s := { s with repair.transients := (satInc s.repair.transients).1 }
    let m := { m with transients := (recent ++ [s.nowSec]).drop (recent.length + 1 - 3) }
    if 2 ≤ recent.length then (2, ({ s with repair.lasting := (satInc s.repair.lasting).1 }).setMark { m with lasting := true })
    else (1, s.setMark m)

/-- A part that passed its test at SVC_UNFENCE has its marks cleared (R441). -/
def clearMark (s : State) (l : Loc) : State := s.setMark { loc := l }

/-- A host waits for a test. -/
def testWanted (s : State) (kind index sel : Nat) : Bool :=
  s.tests.any (fun x => x.kind = kind && x.index = index && x.sel = sel)

/-- The hosts that wait for a test by SVC_SELFTEST have their answer (Table 11.13). -/
def answerTests (s : State) (kind index sel : Nat) (pass : Bool) (cls action : Nat) : State :=
  let l := s.tests.filter (fun x => x.kind = kind && x.index = index && x.sel = sel && x.code = 0x0901)
  l.foldl (fun (s : State) x =>
      s.respond x.origin x.code (if pass then .ok else .selftestFail) (leBytes 1 cls ++ leBytes 1 action ++ [0, 0]))
    { s with tests := s.tests.filter (fun (x : HostTest) => !l.contains x) }

/-- The hosts that wait for a return to service have their answer. -/
def answerUnfence (s : State) (kind index sel : Nat) (st : Status) : State :=
  let l := s.tests.filter (fun x => x.kind = kind && x.index = index && x.sel = sel && x.code = 0x0903)
  l.foldl (fun (s : State) x => s.respond x.origin x.code st) { s with tests := s.tests.filter (fun (x : HostTest) => !l.contains x) }

/-- A SELFTEST event of the device, at a berth or at none. -/
def selfEvent (s : State) (kind index sel origin : Nat) (pass : Bool) (cls action : Nat) (berth : Nat := 0xFFFF) : State :=
  s.devEvent (.selftest kind index sel origin (if pass then .ok else .selftestFail) cls action) berth

/-! ### Fences (R443, Table 16.3) -/

/-- A berth is fenced: as BERTH_DISABLE, its Tug unbound, its domain off. -/
def fenceBerth (s : State) (b : BerthId) : State :=
  if s.berths[b].id.fenced then s
  else
    let s := s.atBerth b (fun _ x =>
      let y := x.toDisabled s.now
      { y with enabled := x.enabled, id.fenced := true, st.evt := bitOn y.st.evt 2 })
    (((s.cutService b .berthFenced).unbindTug b).saveRepair).capacity 1

/-- A berth's PHY is fenced; a berth that is sink or DRP is fenced as a berth. -/
def fencePhy (s : State) (b : BerthId) : State :=
  let s := s.atBerth b (fun _ x =>
    { x with st.phyFenced := true, st.evt := bitOn x.st.evt 2, phy.cfg := x.phy.cfg &&& ~~~0x43#32, phy.heldCfg := none })
  if s.berths[b].role = 0 then s.saveRepair else s.fenceBerth b

/-- A quay is held in reset. -/
def fenceQuay (s : State) (q : QuayId) : State :=
  if s.quays[q].fenced then s
  else (((s.resetQuay q false).atQuay q (fun x => { x with fenced := true })).saveRepair).capacity 1

/-- A gangway is held in reset; its quay misses the strobes from then on (R43). -/
def fenceGangway (s : State) (q : QuayId) : State :=
  if s.quays[q].gwFenced then s
  else ((s.atQuay q (fun x => { x with gwFenced := true, retrain := true, trained := false })).saveRepair).capacity 1

/-- A berth is bound to a new Tug that enters for a reason: warm with the old Tug's copy (R29, R444). -/
def rebind (s : State) (b : BerthId) (t : TugId) (why : Entry) (warm : Bool) : State :=
  let old := s.berths[b].id.tug
  let sl := match s.tele[b].swap with
    | some (n, _, _, _) => n
    | none => s.tele[b].slot
  let swapped := s.tele[b].swap
  let s := s.unbindTug b
  let s := s.atBerth b (fun _ x => State.dropStaged x)
  let s := s.bindTug b t sl why warm
  let s := s.atTug t (fun k => { k with from_ := old })
  let s := s.atTele b (fun x => { x with slot := sl, swap := none })
  match swapped with
  | some (_, _, _, o) => s.jobDone o b .ok
  | none => s

/-- A Tug is held in reset for its core test (R444). -/
def coreTest (s : State) (t : TugId) : State :=
  s.atTug t (fun k => { k with mode := .testing, spill := 0 })

/-- A Tug is fenced; its berth is remapped first, or fenced when no Tug is free (R443, R444). -/
def fenceTug (s : State) (t : TugId) : State :=
  if s.tugs[t].fenced then s
  else
    let s := match s.tugs[t].berth with
      | none => s
      | some b => match s.freeTug with
        | some n => s.rebind b n .remap true
        | none => s.fenceBerth b
    (s.atTug t (fun k => { k with fenced := true, mode := .empty, entry := none, berth := none, inPlace := false })).saveRepair

/-- A Hold bank of 2–5 is fenced (Table 16.3). -/
def fenceBank (s : State) (k : Nat) : State :=
  { s with repair.banks := s.repair.banks ||| BitVec.ofNat 8 (2 ^ k) }.saveRepair

/-- A lane is removed for good; a gangway without a lane of one direction is fenced (R453). -/
def removeLane (s : State) (q : QuayId) (l : Fin 4) : State :=
  let s := (s.atQuay q (fun x => { x with removed := x.removed ||| BitVec.ofNat 4 (2 ^ l.val) })).saveRepair
  let r := s.quays[q].removed
  if r &&& 3#4 = 3#4 || r &&& 12#4 = 12#4 then (s.fenceGangway q).answerUnfence 2 q.val 0 .selftestFail else s

/-- A lasting Hold row is replaced by a spare row of its subarray, or marked (R442). -/
def replaceRow (s : State) (row sub : Nat) : State :=
  if h : sub < 64 then
    if s.repair.used[sub] < 2 then
      { s with repair.used := s.repair.used.set sub (s.repair.used[sub] + 1), repair.replaced := s.repair.replaced ++ [row] }.saveRepair
    else { s with repair.marked := s.repair.marked ++ [row] }.saveRepair
  else s

/-- The action of Table 16.2 on a lasting fault (R440). -/
def lastingAct (s : State) (l : Loc) : State := match l with
  | .comp b c =>
    if c = 16 || c = 17 then s.atBerths (State.berthsOf (State.quayOf b)) (fun _ x => x.fenceComparator c s.now)
    else s.atBerth b (fun _ x => x.fenceComparator c s.now)
  | .quayStandIn q => s.atBerths (State.berthsOf q) (fun _ x =>
      if x.mon.fence.getLsbD 16 || x.mon.fence.getLsbD 17 then x.lock .testFail s.now else x)
  | .phy b => s.fencePhy b
  | .lane q n => s.removeLane q n
  | .tug t => s.fenceTug t
  | .core _ => { s with repair.coreFenced := true }.saveRepair
  | .holdRow _ => s
  | .path _ => s

/-- A lasting fault waits for the boundary at which its action and its event are due (R440). -/
def actLater (s : State) (l : Loc) (e : EvBody) : State := { s with later := s.later ++ [.act l e] }

/-- A judged test is reported: at once, or with its action when it is lasting. -/
def report (s : State) (l : Loc) (cls : Nat) (e : EvBody) (berth : Nat := 0xFFFF) : State :=
  if cls = 2 then s.actLater l e else s.devEvent e berth

/-! ### Release of a berth (R65, Table 14.6 step 4) -/

/-- A berth's release at the present boundary: a Tug for it, cold, and CC_GATE.RELEASE. Without a free Tug it is fenced
(R17). -/
def releaseBerth (s : State) (b : BerthId) (why : Entry) : State :=
  let known := match s.berths[b].id.tug with
    | some t => if s.tugs[t].fenced then none else some t
    | none => none
  match known.or (s.ownTug b) with
  | none => s.fenceBerth b
  | some t =>
    let s := s.bindTug b t s.tele[b].slot why false
    s.atBerth b (fun e x => x.doRelease e s.now)

/-! ### Berth reset (R394, R395, Table 14.6) -/

/-- Step 1: the berth's Lock closes and the berth is made safe, at the present boundary. -/
def startReset (s : State) (b : BerthId) (o : Option Origin) : State :=
  let recent := s.tele[b].resets.filter (fun x => decide (s.now ≤ x + ms 10000 ∧ x < s.now))
  let s := s.atBerth b (fun _ x => ((((x.lockClosed s.now .berthReset).openBoth s.now true).vconnOff).usbSafe).regStandby s.now)
  let s := (((s.cutJobs b o .berthReset).cutService b .berthReset).cutCapture b .berthReset).stopTug b
  s.atTele b (fun t => { t with reset := some (o, 1), resets := recent ++ [s.now] })

/-- Step 2: the discharge ends and the reset asserts. -/
def assertReset (s : State) (b : BerthId) : State := match s.tele[b].reset with
  | some (o, 1) => (s.atBerth b (fun _ x => x.afterReset)).atTele b (fun t => { t.restart with reset := some (o, 2) })
  | _ => s

/-- Step 3: the reset releases into Held; the ninth reset in 10 s is held there (R395). -/
def endReset (s : State) (b : BerthId) : State := match s.tele[b].reset with
  | some (o, 2) =>
    if 9 ≤ s.tele[b].resets.length then
      let s := ((s.unbindTug b).atTele b (fun t => { t with reset := none, held := true })).capacity 3
      let s := s.answerUnfence 7 b.val 0 .notPermitted
      match o with
      | some x => s.jobDone x b .notPermitted
      | none => s
    else s.atTele b (fun t => { t with reset := some (o, 3) })
  | _ => s

/-- Step 4 at a round boundary: the berth is released with its Tug cold. -/
def finishReset (s : State) (b : BerthId) : State := match s.tele[b].reset with
  | some (o, 3) =>
    let s := (s.releaseBerth b .berthReset).atTele b (fun t => { t with reset := none })
    let s := s.answerUnfence 7 b.val 0 (if s.berths[b].id.fenced then .noResource else .ok)
    match o with
    | some x => s.jobDone x b .ok
    | none => s
  | _ => s

end State

/-- VBC is below 0.80 V, or 650 ms are over (BERTH_RESET_DISCHARGE_END; Table 14.6 step 2). -/
def execBerthResetDischargeEnd (b : BerthId) (s : State) : Host.Outcome State Fault Refusal := .next (s.assertReset b)

/-- One Tide after the assertion (BERTH_RESET_RELEASE; Table 14.6 step 3). -/
def execBerthResetRelease (b : BerthId) (s : State) : Host.Outcome State Fault Refusal := .next (s.endReset b)

end Sys2Proof.Machine
end

