-- ==== Sys2Proof/Machine/ZoadeOps.lean ====
section
/-!
DEFINITION. What the Zoade instructions share (R263–R280): registers and flags, exceptions, the accesses of a Tug to its
local memory, its berth window and Hold, the steps of the character group, and the block instructions.
-/

namespace Sys2Proof.Machine

/-- The flags B, N, Z, C, V as FL holds them (Table 9.2). -/
def mkFl (b n z c v : Bool) : BitVec 5 := BitVec.ofNat 5 (flag b 4 + flag n 3 + flag z 2 + flag c 1 + flag v 0)

/-- A sign-extended immediate. -/
def sx {n : Nat} (i : BitVec n) : Word := i.signExtend 32

/-- A zero-extended immediate. -/
def zx {n : Nat} (i : BitVec n) : Word := i.setWidth 32

namespace Tug

/-! ### Registers and flags (R263, R268) -/

/-- Z0–Z15 in the bank in use. -/
def reg (k : Tug) (r : ZReg) : Word :=
  if h : r.val < 12 then k.z[r.val]
  else if k.bank then k.exc[r.val - 12]'(by omega) else k.user[r.val - 12]'(by omega)

/-- A write to Z0–Z15 in the bank in use. -/
def setReg (k : Tug) (r : ZReg) (v : Word) : Tug :=
  if h : r.val < 12 then { k with z := k.z.set r.val v }
  else if k.bank then { k with exc := k.exc.set (r.val - 12) v (by omega) }
  else { k with user := k.user.set (r.val - 12) v (by omega) }

/-- LK of the bank in use. -/
def lk (k : Tug) : Word := if k.bank then k.lkExc else k.lkUser

/-- A write to LK. -/
def setLk (k : Tug) (v : Word) : Tug := if k.bank then { k with lkExc := v } else { k with lkUser := v }

/-- What Pilot shows of a Tug, taken as it moors or is suspended (Table 17.2): bound berth, PCN, FL, BANK, SPILL, Z0–Z15, LK. -/
def keepShown (k : Tug) : Tug :=
  let berth := match k.berth with
    | some b => b.val
    | none => 0xFF
  { k with shown := [berth, k.pcn.toNat, k.fl.toNat, (if k.bank then 1 else 0), k.spill]
                    ++ (k.z.toList ++ (if k.bank then k.exc else k.user).toList).map (fun (w : Word) => w.toNat) ++ [k.lk.toNat] }

/-- The flags. -/
def flB (k : Tug) : Bool := k.fl.getLsbD 4
@[inherit_doc flB] def flN (k : Tug) : Bool := k.fl.getLsbD 3
@[inherit_doc flB] def flZ (k : Tug) : Bool := k.fl.getLsbD 2
@[inherit_doc flB] def flC (k : Tug) : Bool := k.fl.getLsbD 1
@[inherit_doc flB] def flV (k : Tug) : Bool := k.fl.getLsbD 0

/-- N and Z from a result, C and V given; B stands. -/
def setNzcv (k : Tug) (r : Word) (c v : Bool) : Tug := { k with fl := mkFl k.flB r.msb (r == 0) c v }

/-- N and Z from a result. -/
def setNz (k : Tug) (r : Word) : Tug := k.setNzcv r k.flC k.flV

/-- V alone. -/
def setV (k : Tug) (v : Bool) : Tug := { k with fl := mkFl k.flB k.flN k.flZ k.flC v }

/-- The next instruction after `c` cycles. -/
def next (k : Tug) (c : Nat) : Tug := { k with pcn := k.pcn + 4, cycle := k.cycle + c }

/-- A branch taken to a target in `c` cycles. -/
def goto (k : Tug) (target : Word) (c : Nat) : Tug := { k with pcn := target, cycle := k.cycle + c }

/-! ### Exceptions (R275–R278) -/

/-- ECAUSE of an exception (Table 9.14). -/
def causeWord (cause code : Nat) (fetch write : Bool) : Word :=
  BitVec.ofNat 32 (cause + 256 * code + flag fetch 16 + flag write 17)

/-- Take an exception: EPC, EFL, ECAUSE and EADDR are written, BANK is set and PCN goes to the vector; a synchronous one
in the exception bank is a double fault, which halts the Tug (R276, R278). -/
def raise (k : Tug) (cause code : Nat) (fetch write : Bool) (epc eaddr : Word) : Tug :=
  if k.bank then { k with mode := .halted, dfcause := causeWord cause code fetch write, dfpc := k.pcn }
  else
    { k with epc := epc, efl := k.fl, ecause := causeWord cause code fetch write, eaddr := eaddr, bank := true
             pcn := k.vbase + (if cause = 0x10 then 0x40 else 0), cycle := k.cycle + 3 }

/-- The illegal-instruction exception at the instruction. -/
def illegal (k : Tug) : Tug := k.raise 0x01 0 false false k.pcn 0

/-- The misaligned exception of a branch, at the branch (R269; EADDR is 0, no access took place: log entry 41). -/
def misBranch (k : Tug) : Tug := k.raise 0x02 0 false false k.pcn 0

/-- Return from exception (R276). -/
def eret (k : Tug) : Tug := { k with pcn := k.epc &&& ~~~3#32, fl := k.efl, bank := false, cycle := k.cycle + 3 }

/-! ### Arithmetic (R268, Table 9.7) -/

/-- RD ← a + b + carry with NZCV. -/
def addInto (k : Tug) (rd : ZReg) (a b : Word) (cin : Bool) : Tug :=
  let n := a.toNat + b.toNat + flag cin 0
  let i := a.toInt + b.toInt + flag cin 0
  let r := BitVec.ofNat 32 n
  (k.setReg rd r).setNzcv r (2 ^ 32 ≤ n) (r.toInt ≠ i)

/-- The flags of a − b − borrow. -/
def subFlags (k : Tug) (a b : Word) (borrow : Bool) : Tug :=
  let i := a.toInt - b.toInt - flag borrow 0
  let r := a - b - BitVec.ofNat 32 (flag borrow 0)
  k.setNzcv r (b.toNat + flag borrow 0 ≤ a.toNat) (r.toInt ≠ i)

/-- RD ← a − b − borrow with NZCV. -/
def subInto (k : Tug) (rd : ZReg) (a b : Word) (borrow : Bool) : Tug :=
  (k.subFlags a b borrow).setReg rd (a - b - BitVec.ofNat 32 (flag borrow 0))

/-- RD ← r with NZ. -/
def logic (k : Tug) (rd : ZReg) (r : Word) : Tug := (k.setNz r).setReg rd r

/-- RD ← r with NZ and V. -/
def logicV (k : Tug) (rd : ZReg) (r : Word) (v : Bool) : Tug := ((k.setNz r).setV v).setReg rd r

/-- RD ← r with NZ and C; a shift by 0 leaves C. -/
def shiftInto (k : Tug) (rd : ZReg) (r : Word) (n : Nat) (c : Bool) : Tug :=
  (k.setNzcv r (if n = 0 then k.flC else c) k.flV).setReg rd r

/-- The shifts and the rotation by `n` in 0–31. -/
def shl (k : Tug) (rd : ZReg) (a : Word) (n : Nat) : Tug := k.shiftInto rd (a <<< n) n (a.getLsbD (32 - n))
@[inherit_doc shl] def shr (k : Tug) (rd : ZReg) (a : Word) (n : Nat) : Tug := k.shiftInto rd (a >>> n) n (a.getLsbD (n - 1))
@[inherit_doc shl] def sar (k : Tug) (rd : ZReg) (a : Word) (n : Nat) : Tug := k.shiftInto rd (a.sshiftRight n) n (a.getLsbD (n - 1))
@[inherit_doc shl] def ror (k : Tug) (rd : ZReg) (a : Word) (n : Nat) : Tug :=
  k.shiftInto rd (a.rotateRight n) n (a.rotateRight n).msb

/-- A branch condition (Table 9.9). -/
def cond (k : Tug) (c : BitVec 4) : Bool := match c.toNat with
  | 0 => k.flZ
  | 1 => !k.flZ
  | 2 => k.flC
  | 3 => !k.flC
  | 4 => k.flN
  | 5 => !k.flN
  | 6 => k.flV
  | 7 => !k.flV
  | 8 => k.flC && !k.flZ
  | 9 => !k.flC || k.flZ
  | 10 => k.flN == k.flV
  | 11 => k.flN != k.flV
  | 12 => !k.flZ && (k.flN == k.flV)
  | 13 => k.flZ || (k.flN != k.flV)
  | 14 => true
  | _ => false

end Tug

/-! ### The character group (R270, R271) -/

/-- One byte step of the selected check (Table 9.11). -/
def crcStep (sel : BitVec 2) (acc : Word) (x : Byte) : Word := match sel.toNat with
  | 0 => crc32Step acc x
  | 1 => (crc8Step (acc.setWidth 8) x).setWidth 32
  | _ => (crc16Step (acc.setWidth 16) x).setWidth 32

/-- The byte steps over the low `n` bytes of a word, low byte first. -/
def crcSteps (sel : BitVec 2) (acc v : Word) (n : Nat) : Word :=
  (leBytes n v.toNat).foldl (crcStep sel) acc

/-- The low `n` bits in reverse order. -/
def brev (v : Word) (n : Nat) : Word :=
  BitVec.ofNat 32 ((List.range n).foldl (fun a i => a + flag (v.getLsbD i) (n - 1 - i)) 0)

/-- An odd number of ones. -/
def oddOnes (v : Word) : Bool := ((List.range 32).countP (fun i => v.getLsbD i)) % 2 = 1

/-- The 4b5b data codes of the USB PD standard with the first bit on the line in bit 0 (R271; PRESUMED, log entry 42). -/
def code5 : List Nat := [30, 9, 20, 21, 10, 11, 14, 15, 18, 19, 22, 23, 26, 27, 28, 29]

/-- The K-codes Sync-1, Sync-2, Sync-3, RST-1, RST-2, EOP (Table 9.12a; PRESUMED, log entry 42). -/
def kCode5 : List Nat := [24, 17, 6, 7, 25, 13]

/-- The line code of a symbol; none where ENC5 sets V. -/
def enc5 (sym : Nat) : Option Nat :=
  if sym < 16 then code5[sym]? else if 24 ≤ sym then none else kCode5[sym - 16]?

/-- The symbol of a line code; none where DEC5 sets V. -/
def dec5 (code : Nat) : Option Nat :=
  match (List.range 16).find? (fun i => code5[i]? = some code) with
  | some i => some i
  | none => ((List.range 6).find? (fun i => kCode5[i]? = some code)).map (· + 16)

/-! ### Accesses (R37–R39, R264–R266) -/

/-- How a read of a Tug ends: a value after a cost, a wait for the snapshot or the retrain, a wait for the next Tide (R266),
an exception with the access counted or not (R38). -/
inductive TugRead where
  | ok (v : Nat) (cost : Nat) (s : State)
  | wait
  | late
  | bad (cause : Nat) (count : Bool)

/-- How a write of a Tug ends. -/
inductive TugWrite where
  | ok (cost : Nat) (s : State)
  | bad (cause : Nat) (count : Bool)

namespace State

/-- A byte of the policy region: table ID i at offset 0x2000 × i, its current copy first, then its loading copy (R116; their order is a
DESIGN CHOICE, log entry 6). Table 0 stands in the firmware. -/
def policyByte (s : State) (o : Nat) : Byte :=
  match s.tables[o / 0x2000]? with
  | some x => ((if o % 0x2000 < 0x1000 then x.raw else x.loading)[o % 0x1000]?).getD 0
  | none => 0

/-- A byte of the event queue: entry e holds the event in the queue whose SEQ is e modulo 1,024, as its EVT payload, zeros after it
(R41, R306; DESIGN CHOICE, log entry 6). -/
def queueByte (s : State) (o : Nat) : Byte :=
  match s.events.find? (fun (x : EvEntry) => x.seq % 1024 = o / 0x80) with
  | some x => (x.payload[o % 0x80]?).getD 0
  | none => 0

/-- A byte of Hold in the Harbourmaster view (R41): what the Tugs, the rings and the stages have written; the policy tables and the
event queue; the image of current slot 0; and the bytes that the firmware owns, which the manual does not give. -/
def holdByte (s : State) (a : Nat) : Byte :=
  let exch := (List.finRange 52).any (fun t => exchangeBase t ≤ a && a < exchangeBase t + 0x1000)
  if 0x200000 ≤ a && a < 0x212000 then (Config.bpImage[a - 0x200000]?).getD 0
  else if (0x212000 ≤ a && a < 0x300000) || (0x380000 ≤ a && a < 0xC80000) || (0xE20000 ≤ a && a < 0xE88000) || exch then
    Memory.read s.mem a
  else if 0x300000 ≤ a && a < 0x380000 then s.policyByte (a - 0x300000)
  else if 0xD80000 ≤ a && a < 0xDA0000 then s.queueByte (a - 0xD80000)
  else if a < 0x200000 && (a < 0x100000) = s.harbour.imageB then Memory.read s.mem a
  else Config.firmwareByte s.freeCtr a

/-- The little-endian number of `n` bytes of Hold. -/
def holdLe (s : State) (a : Nat) : Nat → Nat
  | 0 => 0
  | n + 1 => (s.holdByte a).toNat + 256 * s.holdLe (a + 1) n

/-- The cost of a Hold access, at most 64 cycles (Table 9.4). -/
def holdCost (s : State) : Nat := 1 + Config.accessCycles s.freeCtr % 64

/-- A free value has been used. -/
def tick (s : State) : State := { s with freeCtr := s.freeCtr + 1 }

/-- A read of `n` bytes by Tug `t`; `block` in a block instruction, `hit` when its 16-byte line of Hold is open. -/
def tugRead (s : State) (t : TugId) (a : Word) (n : Nat) (block hit : Bool) : TugRead :=
  let x := a.toNat
  if x % n ≠ 0 then .bad 0x02 false
  else if x < 0x10000 then .ok (Memory.readLe s.mem (localBase t + x) n) 2 s
  else if x < 0x11000 then
    let off := x - 0x10000
    if n ≠ 4 || block then .bad 0x03 false
    else match s.tugs[t].berth with
      | none => .ok 0 4 s
      | some b =>
        let y := s.berths[b]
        if s.quays[quayOf b].retrain then .wait
        else if !s.reaches b then .bad 0x03 false
        else
          let v := (y.winRead (s.env b) off).toNat
          if Berth.isLatched off then (if y.delivered then .ok v 4 s else .wait)
          else if off = 0x21C then .ok v 4 (if y.mon.parked then s else s.atBerth b (fun _ z => z.rxDataRead))
          else if off = 0x220 then .ok v 4 s
          else if 8600 ≤ s.tugs[t].cycle then .late
          else .ok v (1 + Config.accessCycles s.freeCtr % 400) s.tick
  else if 0x10000000 ≤ x && x < 0x11000000 then
    let h := x - 0x10000000
    if h < 0x200000 then .bad 0x03 true
    else .ok (s.holdLe h n) (if hit then 1 else s.holdCost) s.tick
  else .bad 0x03 false

/-- A write of `n` bytes by Tug `t`. -/
def tugWrite (s : State) (t : TugId) (a : Word) (n v : Nat) (block : Bool) : TugWrite :=
  let x := a.toNat
  if x % n ≠ 0 then .bad 0x02 false
  else if x < 0x8000 then .bad 0x03 false
  else if x < 0x10000 then .ok 1 { s with mem := Memory.writeBytes s.mem (localBase t + x) (leBytes n v) }
  else if x < 0x11000 then
    let off := x - 0x10000
    if n ≠ 4 || block then .bad 0x03 false
    else match s.tugs[t].berth with
      | none => .bad 0x03 false
      | some b =>
        let w := BitVec.ofNat 32 v
        if s.quays[quayOf b].retrain then .ok 1 (s.atQuay (quayOf b) (fun q => { q with posted := q.posted ++ [(b, off, w)] }))
        else if !s.reaches b then .bad 0x03 false
        else .ok 1 (s.windowWrite .tug b off w)
  else if 0x10000000 ≤ x && x < 0x11000000 then
    let h := x - 0x10000000
    if (blockBase t ≤ h && h + n ≤ blockBase t + 0x2000) || (exchangeBase t ≤ h && h + n ≤ exchangeBase t + 0x1000) then
      .ok s.holdCost ({ s with mem := Memory.writeBytes s.mem h (leBytes n v) }.tick)
    else .bad 0x03 true
  else .bad 0x03 false

/-- An access of Tug `t` raises an exception; one under R38 is counted. -/
def tugBad (s : State) (t : TugId) (cause : Nat) (count write : Bool) (a : Word) : State :=
  s.atTug t (fun k =>
    ({ k with busErrs := if count then (satInc k.busErrs).1 else k.busErrs }).raise cause 0 false write k.pcn a)

/-! ### One instruction -/

/-- Tug `t` executes an instruction at PCN: it is running within its budget, and a fetch from outside program memory is a bus
error (R24, R269). -/
def zGate (s : State) (t : TugId) (f : State → State) : State :=
  let k := s.tugs[t]
  if k.mode = .running && k.cycle < 9000 then
    if 0x8000 ≤ k.pcn.toNat then s.atTug t (fun k => k.raise 0x03 0 true false k.pcn k.pcn) else f s
  else s

/-- An instruction on registers: an illegal form raises ILLEGAL (R267). -/
def zOp (s : State) (t : TugId) (ok : Bool) (f : Tug → Tug) : State :=
  s.zGate t (fun s => s.atTug t (fun k => if ok then f k else k.illegal))

/-- An instruction of `c` cycles that cycle 9,000 abandons when it has not ended (R280). -/
def zLong (s : State) (t : TugId) (ok : Bool) (c : Nat) (f : Tug → Tug) : State :=
  s.zOp t ok (fun k => if 9000 < k.cycle + c then { k with cycle := 9000 } else (f k).next c)

/-- A load (Table 9.6). -/
def zLoad (s : State) (t : TugId) (rd ra : ZReg) (imm : BitVec 18) (n : Nat) (ext : Nat → Word) : State :=
  s.zGate t (fun s =>
    let a := s.tugs[t].reg ra + sx imm
    match s.tugRead t a n false false with
    | .ok v c s' => s'.atTug t (fun k => (k.setReg rd (ext v)).next (1 + c))
    | .wait => s
    | .late => s.atTug t (fun k => { k with cycle := 9000 })
    | .bad cause count => s.tugBad t cause count false a)

/-- A store (Table 9.6). -/
def zStore (s : State) (t : TugId) (rd ra : ZReg) (imm : BitVec 18) (n : Nat) : State :=
  s.zGate t (fun s =>
    let a := s.tugs[t].reg ra + sx imm
    match s.tugWrite t a n ((s.tugs[t].reg rd).toNat % 2 ^ (8 * n)) false with
    | .ok c s' => s'.atTug t (fun k => k.next c)
    | .bad cause count => s.tugBad t cause count true a)

/-! ### Block instructions (R272, R273) -/

end State

/-- The operations of Table 9.12. -/
inductive BlkOp where
  | smov | sfill | scmp | scrc
  deriving DecidableEq, Repr

/-- How one element ends: done with its cost, unequal (SCMP) with its cost and operands, a wait, or an exception. -/
inductive Elem where
  | done (cost : Nat) (s : State)
  | unequal (cost a b : Nat) (s : State)
  | stall (late : Bool)
  | bad (cause : Nat) (count write : Bool) (a : Word)

namespace State

/-- One element of `n` bytes; `line` is the 16-byte line of Hold that the block has open. -/
def element (s : State) (t : TugId) (op : BlkOp) (n : Nat) (line : Option Nat) : Elem :=
  let k := s.tugs[t]
  let z1 := k.z[1]
  let z2 := k.z[2]
  let sz := BitVec.ofNat 32 n
  let hit (a : Word) : Bool := line = some (a.toNat / 16)
  match op with
  | .sfill =>
    match s.tugWrite t z2 n (z1.toNat % 2 ^ (8 * n)) true with
    | .bad c e => .bad c e true z2
    | .ok c s => .done c (s.atTug t (fun k => { k with z := (k.z.set 2 (z2 + sz)).set 3 (k.z[3] - 1) }))
  | .smov =>
    match s.tugRead t z1 n true (hit z1) with
    | .wait => .stall false
    | .late => .stall true
    | .bad c e => .bad c e false z1
    | .ok v c s =>
      match s.tugWrite t z2 n v true with
      | .bad c e => .bad c e true z2
      | .ok c2 s =>
        .done (c + c2) (s.atTug t (fun k => { k with z := ((k.z.set 1 (z1 + sz)).set 2 (z2 + sz)).set 3 (k.z[3] - 1) }))
  | .scmp =>
    match s.tugRead t z1 n true (hit z1) with
    | .wait => .stall false
    | .late => .stall true
    | .bad c e => .bad c e false z1
    | .ok v c s =>
      match s.tugRead t z2 n true (z1.toNat / 16 = z2.toNat / 16) with
      | .wait => .stall false
      | .late => .stall true
      | .bad c e => .bad c e false z2
      | .ok w c2 s =>
        if v = w then
          .done (c + c2) (s.atTug t (fun k => { k with z := ((k.z.set 1 (z1 + sz)).set 2 (z2 + sz)).set 3 (k.z[3] - 1) }))
        else .unequal (c + c2) v w s
  | .scrc =>
    match s.tugRead t z1 n true (hit z1) with
    | .wait => .stall false
    | .late => .stall true
    | .bad c e => .bad c e false z1
    | .ok v c s =>
      .done (c + n) (s.atTug t (fun k =>
        { k with z := ((k.z.set 4 (crcSteps k.crcsel k.z[4] (BitVec.ofNat 32 v) n)).set 1 (z1 + sz)).set 3 (k.z[3] - 1) }))

/-- The block is interrupted: FL.B is set when an element has completed (Table 9.2, R273). -/
def blkStop (s : State) (t : TugId) (some_ : Bool) : State :=
  if some_ then s.atTug t (fun k => { k with fl := k.fl ||| 0x10#5 }) else s

/-- The block instruction completes: FL.B clears. -/
def blkEnd (s : State) (t : TugId) (f : Tug → Tug) : State :=
  s.atTug t (fun k => (f { k with fl := k.fl &&& 0x0F#5 }).next 0)

/-- The elements of a block instruction while its budget lasts. -/
def blkRun (t : TugId) (op : BlkOp) (n : Nat) : Nat → Bool → Option Nat → State → State
  | 0, some_, _, s => s.blkStop t some_
  | fuel + 1, some_, line, s =>
    let k := s.tugs[t]
    if k.z[3] = 0 then s.blkEnd t (fun k => if op = .scmp then k.setNzcv 0 true false else k)
    else match s.element t op n line with
      | .stall late => (s.blkStop t some_).atTug t (fun k => if late then { k with cycle := 9000 } else k)
      | .bad c e w a => (s.blkStop t some_).tugBad t c e w a
      | .done cost s' =>
        if 9000 < k.cycle + cost then (s.blkStop t some_).atTug t (fun k => { k with cycle := 9000 })
        else blkRun t op n fuel true (some (k.z[1].toNat / 16)) (s'.atTug t (fun k => { k with cycle := k.cycle + cost }))
      | .unequal cost a b s' =>
        if 9000 < k.cycle + cost then (s.blkStop t some_).atTug t (fun k => { k with cycle := 9000 })
        else (s'.atTug t (fun k => { k with cycle := k.cycle + cost })).blkEnd t
          (fun k => k.subFlags (BitVec.ofNat 32 a) (BitVec.ofNat 32 b) false)

/-- A block instruction (R272): RD, RA, RB and AUX[7:2] zero, AUX[1:0] the element size. -/
def zBlock (s : State) (t : TugId) (op : BlkOp) (rd ra rb : ZReg) (aux : BitVec 8) : State :=
  s.zGate t (fun s =>
    if rd ≠ 0 || ra ≠ 0 || rb ≠ 0 || 3 ≤ aux.toNat then s.atTug t Tug.illegal
    else
      let k := s.tugs[t]
      blkRun t op (2 ^ aux.toNat) (9000 - k.cycle) k.flB none (s.atTug t (fun k => { k with cycle := k.cycle + 1 })))

/-! ### Special registers (R274, Tables 9.13, 9.15) -/

/-- IPEND (Table 9.15). -/
def ipend (s : State) (t : TugId) : BitVec 8 :=
  let k := s.tugs[t]
  let lv := match k.berth with
    | none => 0
    | some b =>
      let x := s.berths[b]
      flag (x.cc.evt &&& x.cc.ien != 0) 0 + flag (x.phy.evt &&& x.phy.ien != 0) 1 + flag (x.mux.evt &&& x.mux.ien != 0) 2
        + flag (x.path.evt &&& x.path.ien != 0) 3 + flag (x.reg.evt &&& x.reg.ien != 0) 4 + flag (x.mon.evt &&& x.mon.ien != 0) 5
        + flag (x.tmr.exp &&& x.tmr.ien != 0) 6
  BitVec.ofNat 8 (lv + flag k.grantPend 7)

/-- A special register read by MFS; none for a reserved number. -/
def sprRead (s : State) (t : TugId) (n : Nat) : Option Word :=
  let k := s.tugs[t]
  let other (i : Fin 4) : Word := if k.bank then k.user[i] else k.exc[i]
  match n with
  | 0x00 => some (zx k.fl)
  | 0x01 => some (zx k.crcsel)
  | 0x02 => some k.vbase
  | 0x03 => some k.epc
  | 0x04 => some (zx k.efl)
  | 0x05 => some k.ecause
  | 0x06 => some k.eaddr
  | 0x07 => some (zx k.imask)
  | 0x08 => some (zx (s.ipend t))
  | 0x09 => some (BitVec.ofNat 32 (k.cycle % 16384))
  | 0x0A => some (BitVec.ofNat 32 s.tideCount)
  | 0x0B => some (BitVec.ofNat 32 (t.val + (match k.berth with
      | some b => 256 * b.val
      | none => 2 ^ 15)))
  | 0x0C => some (zx k.mirlen)
  | 0x0D => some (BitVec.ofNat 32 (min 4 k.spill))
  | 0x0E => some (BitVec.ofNat 32 (flag k.bank 0))
  | 0x0F => some k.dfcause
  | 0x10 => some (other 0)
  | 0x11 => some (other 1)
  | 0x12 => some (other 2)
  | 0x13 => some (other 3)
  | 0x14 => some (if k.bank then k.lkUser else k.lkExc)
  | 0x15 => some k.dfpc
  | _ => none

/-- MIRLEN as a write leaves it: rounded up to a multiple of 32, at most 4,064 (R274). -/
def mirlenOf (v : Word) : BitVec 12 := BitVec.ofNat 12 (min 4064 (ceilDiv v.toNat 32 * 32))

/-- A special register written by MTS; none where MTS is illegal (R274). -/
def sprWrite (k : Tug) (n : Nat) (v : Word) : Option Tug :=
  let other (i : Fin 4) : Tug := if k.bank then { k with user := k.user.set i v } else { k with exc := k.exc.set i v }
  match n with
  | 0x00 => some { k with fl := v.setWidth 5 }
  | 0x01 => if fld v 0 2 = 3 then none else some { k with crcsel := v.setWidth 2 }
  | 0x02 => some { k with vbase := v &&& 0x7F80#32 }
  | 0x03 => some { k with epc := v }
  | 0x04 => some { k with efl := v.setWidth 5 }
  | 0x07 => some { k with imask := v.setWidth 8 }
  | 0x08 => some { k with grantPend := k.grantPend && !v.getLsbD 7 }
  | 0x0C => some { k with mirlen := mirlenOf v }
  | 0x10 => some (other 0)
  | 0x11 => some (other 1)
  | 0x12 => some (other 2)
  | 0x13 => some (other 3)
  | 0x14 => some (if k.bank then { k with lkUser := v } else { k with lkExc := v })
  | _ => none

/-- An enabled interrupt is taken between instructions while BANK is 0 (INTERRUPT; R277). -/
def takeInterrupt (s : State) (t : TugId) : State :=
  let k := s.tugs[t]
  if k.mode = .running && k.cycle < 9000 && !k.bank && (s.ipend t &&& k.imask) ≠ 0 then
    s.atTug t (fun k => k.raise 0x10 0 false false k.pcn 0)
  else s

end State

end Sys2Proof.Machine
end

