-- ==== Sys2Proof/Machine/Zoade.lean ====
section
/-!
DEFINITION. The Zoade instructions, one meaning each (Tables 9.6–9.8, 9.10, 9.12, R263–R280), and the taking of an
interrupt (R277). Each acts on Tug `t` where that Tug is running within its budget.
-/

namespace Sys2Proof.Machine

/-- ADDI: RD ← RA + sext(IMM18) (Table 9.6). -/
def execZAddi (t : TugId) (rd ra : ZReg) (imm : BitVec 18) (s : State) : Host.Outcome State Fault Refusal :=
  .next (s.zOp t true (fun k => (k.addInto rd (k.reg ra) (sx imm) false).next 1))

/-- ANDI: RD ← RA & zext(IMM18) (Table 9.6). -/
def execZAndi (t : TugId) (rd ra : ZReg) (imm : BitVec 18) (s : State) : Host.Outcome State Fault Refusal :=
  .next (s.zOp t true (fun k => (k.logic rd (k.reg ra &&& zx imm)).next 1))

/-- ORI: RD ← RA | zext(IMM18) (Table 9.6). -/
def execZOri (t : TugId) (rd ra : ZReg) (imm : BitVec 18) (s : State) : Host.Outcome State Fault Refusal :=
  .next (s.zOp t true (fun k => (k.logic rd (k.reg ra ||| zx imm)).next 1))

/-- XORI: RD ← RA ^ zext(IMM18) (Table 9.6). -/
def execZXori (t : TugId) (rd ra : ZReg) (imm : BitVec 18) (s : State) : Host.Outcome State Fault Refusal :=
  .next (s.zOp t true (fun k => (k.logic rd (k.reg ra ^^^ zx imm)).next 1))

/-- CMPI: the flags of RA − sext(IMM18); RD must be 0 (Table 9.6). -/
def execZCmpi (t : TugId) (rd ra : ZReg) (imm : BitVec 18) (s : State) : Host.Outcome State Fault Refusal :=
  .next (s.zOp t (decide (rd = 0)) (fun k => (k.subFlags (k.reg ra) (sx imm) false).next 1))

/-- MOVI: RD ← sext(IMM18); RA must be 0 (Table 9.6). -/
def execZMovi (t : TugId) (rd ra : ZReg) (imm : BitVec 18) (s : State) : Host.Outcome State Fault Refusal :=
  .next (s.zOp t (decide (ra = 0)) (fun k => (k.setReg rd (sx imm)).next 1))

/-- MOVH: RD[31:16] ← IMM16; bits [21:16] must be 0 (Tables 9.5, 9.6). -/
def execZMovh (t : TugId) (rd : ZReg) (zero : BitVec 6) (imm : BitVec 16) (s : State) : Host.Outcome State Fault Refusal :=
  .next (s.zOp t (decide (zero = 0)) (fun k => (k.setReg rd (imm ++ (k.reg rd).setWidth 16)).next 1))

/-- LDW: RD ← mem32 at RA + sext(IMM18) (Table 9.6, R264). -/
def execZLdw (t : TugId) (rd ra : ZReg) (imm : BitVec 18) (s : State) : Host.Outcome State Fault Refusal :=
  .next (s.zLoad t rd ra imm 4 (BitVec.ofNat 32))

/-- LDH: RD ← sext(mem16) at RA + sext(IMM18) (Table 9.6, R264). -/
def execZLdh (t : TugId) (rd ra : ZReg) (imm : BitVec 18) (s : State) : Host.Outcome State Fault Refusal :=
  .next (s.zLoad t rd ra imm 2 (fun v => sx (BitVec.ofNat 16 v)))

/-- LDHU: RD ← zext(mem16) at RA + sext(IMM18) (Table 9.6, R264). -/
def execZLdhu (t : TugId) (rd ra : ZReg) (imm : BitVec 18) (s : State) : Host.Outcome State Fault Refusal :=
  .next (s.zLoad t rd ra imm 2 (BitVec.ofNat 32))

/-- LDB: RD ← sext(mem8) at RA + sext(IMM18) (Table 9.6, R264). -/
def execZLdb (t : TugId) (rd ra : ZReg) (imm : BitVec 18) (s : State) : Host.Outcome State Fault Refusal :=
  .next (s.zLoad t rd ra imm 1 (fun v => sx (BitVec.ofNat 8 v)))

/-- LDBU: RD ← zext(mem8) at RA + sext(IMM18) (Table 9.6, R264). -/
def execZLdbu (t : TugId) (rd ra : ZReg) (imm : BitVec 18) (s : State) : Host.Outcome State Fault Refusal :=
  .next (s.zLoad t rd ra imm 1 (BitVec.ofNat 32))

/-- STW: mem32 ← RD at RA + sext(IMM18) (Table 9.6, R264). -/
def execZStw (t : TugId) (rd ra : ZReg) (imm : BitVec 18) (s : State) : Host.Outcome State Fault Refusal :=
  .next (s.zStore t rd ra imm 4)

/-- STH: mem16 ← RD[15:0] at RA + sext(IMM18) (Table 9.6, R264). -/
def execZSth (t : TugId) (rd ra : ZReg) (imm : BitVec 18) (s : State) : Host.Outcome State Fault Refusal :=
  .next (s.zStore t rd ra imm 2)

/-- STB: mem8 ← RD[7:0] at RA + sext(IMM18) (Table 9.6, R264). -/
def execZStb (t : TugId) (rd ra : ZReg) (imm : BitVec 18) (s : State) : Host.Outcome State Fault Refusal :=
  .next (s.zStore t rd ra imm 1)

/-- B: the branch to PCN + 4 × sext(OFF22) when COND holds (Table 9.6, R269). -/
def execZB (t : TugId) (cond : BitVec 4) (off : BitVec 22) (s : State) : Host.Outcome State Fault Refusal :=
  .next (s.zOp t true (fun k => if k.cond cond then k.goto (k.pcn + 4 * sx off) 2 else k.next 1))

/-- BL: LK ← PCN + 4, and the branch to PCN + 4 × sext(OFF26) (Table 9.6). -/
def execZBl (t : TugId) (off : BitVec 26) (s : State) : Host.Outcome State Fault Refusal :=
  .next (s.zOp t true (fun k => (k.setLk (k.pcn + 4)).goto (k.pcn + 4 * sx off) 2))

/-- ADD: RD ← RA + RB (Table 9.7). -/
def execZAdd (t : TugId) (rd ra rb : ZReg) (aux : BitVec 8) (s : State) : Host.Outcome State Fault Refusal :=
  .next (s.zOp t (decide (aux = 0)) (fun k => (k.addInto rd (k.reg ra) (k.reg rb) false).next 1))

/-- ADC: RD ← RA + RB + C (Table 9.7). -/
def execZAdc (t : TugId) (rd ra rb : ZReg) (aux : BitVec 8) (s : State) : Host.Outcome State Fault Refusal :=
  .next (s.zOp t (decide (aux = 0)) (fun k => (k.addInto rd (k.reg ra) (k.reg rb) k.flC).next 1))

/-- SUB: RD ← RA − RB (Table 9.7). -/
def execZSub (t : TugId) (rd ra rb : ZReg) (aux : BitVec 8) (s : State) : Host.Outcome State Fault Refusal :=
  .next (s.zOp t (decide (aux = 0)) (fun k => (k.subInto rd (k.reg ra) (k.reg rb) false).next 1))

/-- SBC: RD ← RA − RB − (1 − C) (Table 9.7). -/
def execZSbc (t : TugId) (rd ra rb : ZReg) (aux : BitVec 8) (s : State) : Host.Outcome State Fault Refusal :=
  .next (s.zOp t (decide (aux = 0)) (fun k => (k.subInto rd (k.reg ra) (k.reg rb) (!k.flC)).next 1))

/-- AND: RD ← RA & RB (Table 9.7). -/
def execZAnd (t : TugId) (rd ra rb : ZReg) (aux : BitVec 8) (s : State) : Host.Outcome State Fault Refusal :=
  .next (s.zOp t (decide (aux = 0)) (fun k => (k.logic rd (k.reg ra &&& k.reg rb)).next 1))

/-- OR: RD ← RA | RB (Table 9.7). -/
def execZOr (t : TugId) (rd ra rb : ZReg) (aux : BitVec 8) (s : State) : Host.Outcome State Fault Refusal :=
  .next (s.zOp t (decide (aux = 0)) (fun k => (k.logic rd (k.reg ra ||| k.reg rb)).next 1))

/-- XOR: RD ← RA ^ RB (Table 9.7). -/
def execZXor (t : TugId) (rd ra rb : ZReg) (aux : BitVec 8) (s : State) : Host.Outcome State Fault Refusal :=
  .next (s.zOp t (decide (aux = 0)) (fun k => (k.logic rd (k.reg ra ^^^ k.reg rb)).next 1))

/-- ANDN: RD ← RA & ~RB (Table 9.7). -/
def execZAndn (t : TugId) (rd ra rb : ZReg) (aux : BitVec 8) (s : State) : Host.Outcome State Fault Refusal :=
  .next (s.zOp t (decide (aux = 0)) (fun k => (k.logic rd (k.reg ra &&& ~~~(k.reg rb))).next 1))

/-- SHL by RB[4:0] (Table 9.7). -/
def execZShl (t : TugId) (rd ra rb : ZReg) (aux : BitVec 8) (s : State) : Host.Outcome State Fault Refusal :=
  .next (s.zOp t (decide (aux = 0)) (fun k => (k.shl rd (k.reg ra) (fld (k.reg rb) 0 5)).next 1))

/-- SHR by RB[4:0] (Table 9.7). -/
def execZShr (t : TugId) (rd ra rb : ZReg) (aux : BitVec 8) (s : State) : Host.Outcome State Fault Refusal :=
  .next (s.zOp t (decide (aux = 0)) (fun k => (k.shr rd (k.reg ra) (fld (k.reg rb) 0 5)).next 1))

/-- SAR by RB[4:0] (Table 9.7). -/
def execZSar (t : TugId) (rd ra rb : ZReg) (aux : BitVec 8) (s : State) : Host.Outcome State Fault Refusal :=
  .next (s.zOp t (decide (aux = 0)) (fun k => (k.sar rd (k.reg ra) (fld (k.reg rb) 0 5)).next 1))

/-- ROR by RB[4:0] (Table 9.7). -/
def execZRor (t : TugId) (rd ra rb : ZReg) (aux : BitVec 8) (s : State) : Host.Outcome State Fault Refusal :=
  .next (s.zOp t (decide (aux = 0)) (fun k => (k.ror rd (k.reg ra) (fld (k.reg rb) 0 5)).next 1))

/-- SHLI by AUX[4:0]; RB and AUX[7:5] must be 0 (Table 9.7). -/
def execZShli (t : TugId) (rd ra rb : ZReg) (aux : BitVec 8) (s : State) : Host.Outcome State Fault Refusal :=
  .next (s.zOp t (decide (rb = 0 ∧ aux.toNat < 32)) (fun k => (k.shl rd (k.reg ra) aux.toNat).next 1))

/-- SHRI by AUX[4:0]; RB and AUX[7:5] must be 0 (Table 9.7). -/
def execZShri (t : TugId) (rd ra rb : ZReg) (aux : BitVec 8) (s : State) : Host.Outcome State Fault Refusal :=
  .next (s.zOp t (decide (rb = 0 ∧ aux.toNat < 32)) (fun k => (k.shr rd (k.reg ra) aux.toNat).next 1))

/-- SARI by AUX[4:0]; RB and AUX[7:5] must be 0 (Table 9.7). -/
def execZSari (t : TugId) (rd ra rb : ZReg) (aux : BitVec 8) (s : State) : Host.Outcome State Fault Refusal :=
  .next (s.zOp t (decide (rb = 0 ∧ aux.toNat < 32)) (fun k => (k.sar rd (k.reg ra) aux.toNat).next 1))

/-- RORI by AUX[4:0]; RB and AUX[7:5] must be 0 (Table 9.7). -/
def execZRori (t : TugId) (rd ra rb : ZReg) (aux : BitVec 8) (s : State) : Host.Outcome State Fault Refusal :=
  .next (s.zOp t (decide (rb = 0 ∧ aux.toNat < 32)) (fun k => (k.ror rd (k.reg ra) aux.toNat).next 1))

/-- CMP: the flags of RA − RB; RD must be 0 (Table 9.7). -/
def execZCmp (t : TugId) (rd ra rb : ZReg) (aux : BitVec 8) (s : State) : Host.Outcome State Fault Refusal :=
  .next (s.zOp t (decide (rd = 0 ∧ aux = 0)) (fun k => (k.subFlags (k.reg ra) (k.reg rb) false).next 1))

/-- TST: the flags of RA & RB; RD must be 0 (Table 9.7). -/
def execZTst (t : TugId) (rd ra rb : ZReg) (aux : BitVec 8) (s : State) : Host.Outcome State Fault Refusal :=
  .next (s.zOp t (decide (rd = 0 ∧ aux = 0)) (fun k => (k.setNz (k.reg ra &&& k.reg rb)).next 1))

/-- MOV: RD ← RA; RB must be 0 (Table 9.7). -/
def execZMov (t : TugId) (rd ra rb : ZReg) (aux : BitVec 8) (s : State) : Host.Outcome State Fault Refusal :=
  .next (s.zOp t (decide (rb = 0 ∧ aux = 0)) (fun k => (k.setReg rd (k.reg ra)).next 1))

/-- MUL: RD ← low 32 bits of RA × RB (Table 9.7). -/
def execZMul (t : TugId) (rd ra rb : ZReg) (aux : BitVec 8) (s : State) : Host.Outcome State Fault Refusal :=
  .next (s.zLong t (decide (aux = 0)) 2 (fun k => k.logic rd (k.reg ra * k.reg rb)))

/-- MULHU: RD ← high 32 bits of RA × RB, unsigned (Table 9.7). -/
def execZMulhu (t : TugId) (rd ra rb : ZReg) (aux : BitVec 8) (s : State) : Host.Outcome State Fault Refusal :=
  .next (s.zLong t (decide (aux = 0)) 3 (fun k => k.logic rd (BitVec.ofNat 32 ((k.reg ra).toNat * (k.reg rb).toNat / 2 ^ 32))))

/-- MULHS: RD ← high 32 bits of RA × RB, signed (Table 9.7). -/
def execZMulhs (t : TugId) (rd ra rb : ZReg) (aux : BitVec 8) (s : State) : Host.Outcome State Fault Refusal :=
  .next (s.zLong t (decide (aux = 0)) 3 (fun k => k.logic rd (BitVec.ofInt 32 ((k.reg ra).toInt * (k.reg rb).toInt / 2 ^ 32))))

/-- DIVU: RD ← RA ÷ RB, all ones with RB = 0; V ← (RB = 0) (Table 9.7). -/
def execZDivu (t : TugId) (rd ra rb : ZReg) (aux : BitVec 8) (s : State) : Host.Outcome State Fault Refusal :=
  .next (s.zLong t (decide (aux = 0)) 34 (fun k => k.logicV rd (if k.reg rb = 0 then 0xFFFFFFFF#32 else k.reg ra / k.reg rb) (k.reg rb = 0)))

/-- REMU: RD ← RA mod RB, RA with RB = 0; V ← (RB = 0) (Table 9.7). -/
def execZRemu (t : TugId) (rd ra rb : ZReg) (aux : BitVec 8) (s : State) : Host.Outcome State Fault Refusal :=
  .next (s.zLong t (decide (aux = 0)) 34 (fun k => k.logicV rd (if k.reg rb = 0 then k.reg ra else k.reg ra % k.reg rb) (k.reg rb = 0)))

/-- NOT: RD ← ~RA; RB must be 0 (Table 9.7). -/
def execZNot (t : TugId) (rd ra rb : ZReg) (aux : BitVec 8) (s : State) : Host.Outcome State Fault Refusal :=
  .next (s.zOp t (decide (rb = 0 ∧ aux = 0)) (fun k => (k.logic rd (~~~(k.reg ra))).next 1))

/-- NEG: RD ← 0 − RA; RB must be 0 (Table 9.7). -/
def execZNeg (t : TugId) (rd ra rb : ZReg) (aux : BitVec 8) (s : State) : Host.Outcome State Fault Refusal :=
  .next (s.zOp t (decide (rb = 0 ∧ aux = 0)) (fun k => (k.subInto rd 0 (k.reg ra) false).next 1))

/-- SEXTB: RD ← sext(RA[7:0]); RB must be 0 (Table 9.7). -/
def execZSextb (t : TugId) (rd ra rb : ZReg) (aux : BitVec 8) (s : State) : Host.Outcome State Fault Refusal :=
  .next (s.zOp t (decide (rb = 0 ∧ aux = 0)) (fun k => (k.setReg rd (sx ((k.reg ra).setWidth 8))).next 1))

/-- SEXTH: RD ← sext(RA[15:0]); RB must be 0 (Table 9.7). -/
def execZSexth (t : TugId) (rd ra rb : ZReg) (aux : BitVec 8) (s : State) : Host.Outcome State Fault Refusal :=
  .next (s.zOp t (decide (rb = 0 ∧ aux = 0)) (fun k => (k.setReg rd (sx ((k.reg ra).setWidth 16))).next 1))

/-- NOP (Table 9.8). -/
def execZNop (t : TugId) (rd ra rb : ZReg) (aux : BitVec 8) (s : State) : Host.Outcome State Fault Refusal :=
  .next (s.zOp t (decide (rd = 0 ∧ ra = 0 ∧ rb = 0 ∧ aux = 0)) (fun k => k.next 1))

/-- BR: PCN ← RA (Table 9.8, R269). -/
def execZBr (t : TugId) (rd ra rb : ZReg) (aux : BitVec 8) (s : State) : Host.Outcome State Fault Refusal :=
  .next (s.zOp t (decide (rd = 0 ∧ rb = 0 ∧ aux = 0)) (fun k => if fld (k.reg ra) 0 2 = 0 then k.goto (k.reg ra) 2 else k.misBranch))

/-- BLR: LK ← PCN + 4; PCN ← RA (Table 9.8, R269). -/
def execZBlr (t : TugId) (rd ra rb : ZReg) (aux : BitVec 8) (s : State) : Host.Outcome State Fault Refusal :=
  .next (s.zOp t (decide (rd = 0 ∧ rb = 0 ∧ aux = 0)) (fun k => if fld (k.reg ra) 0 2 = 0 then (k.setLk (k.pcn + 4)).goto (k.reg ra) 2 else k.misBranch))

/-- RET: PCN ← LK (Table 9.8, R269). -/
def execZRet (t : TugId) (rd ra rb : ZReg) (aux : BitVec 8) (s : State) : Host.Outcome State Fault Refusal :=
  .next (s.zOp t (decide (rd = 0 ∧ ra = 0 ∧ rb = 0 ∧ aux = 0)) (fun k => if fld k.lk 0 2 = 0 then k.goto k.lk 2 else k.misBranch))

/-- ERET: return from exception; illegal while BANK is 0 (Table 9.8, R276, R277). -/
def execZEret (t : TugId) (rd ra rb : ZReg) (aux : BitVec 8) (s : State) : Host.Outcome State Fault Refusal :=
  .next (s.zOp t (decide (rd = 0 ∧ ra = 0 ∧ rb = 0 ∧ aux = 0)) (fun k => if k.bank then k.eret else k.illegal))

/-- MOOR: the Tug sleeps until the next boundary, AUX[0] the mooring flag; illegal while BANK is 1 (R279, R286). -/
def execZMoor (t : TugId) (rd ra rb : ZReg) (aux : BitVec 8) (s : State) : Host.Outcome State Fault Refusal :=
  .next (s.zOp t (decide (rd = 0 ∧ ra = 0 ∧ rb = 0 ∧ aux.toNat < 2)) (fun k => if k.bank then k.illegal else ({ k.next 1 with mode := .moored, spill := 0, mflag := aux.getLsbD 0 } : Tug).keepShown))

/-- SVC: the SVC exception with code AUX, EPC the next instruction (Table 9.8, Table 9.16). -/
def execZSvc (t : TugId) (rd ra rb : ZReg) (aux : BitVec 8) (s : State) : Host.Outcome State Fault Refusal :=
  .next (s.zOp t (decide (rd = 0 ∧ ra = 0 ∧ rb = 0)) (fun k => k.raise 0x04 aux.toNat false false (k.pcn + 4) 0))

/-- BKPT: the breakpoint exception (Table 9.8, Table 9.16). -/
def execZBkpt (t : TugId) (rd ra rb : ZReg) (aux : BitVec 8) (s : State) : Host.Outcome State Fault Refusal :=
  .next (s.zOp t (decide (rd = 0 ∧ ra = 0 ∧ rb = 0 ∧ aux = 0)) (fun k => k.raise 0x05 0 false false k.pcn 0))

/-- SYNC: earlier stores have reached their destinations, which each has when the store has run; the drain takes at most 400 cycles (Table 9.8). -/
def execZSync (t : TugId) (rd ra rb : ZReg) (aux : BitVec 8) (s : State) : Host.Outcome State Fault Refusal :=
  .next (s.zGate t (fun s => (s.atTug t (fun k => if rd = 0 ∧ ra = 0 ∧ rb = 0 ∧ aux = 0 then k.next (1 + Config.accessCycles s.freeCtr % 401) else k.illegal)).tick))

/-- CRCB: RD ← step(RD, RA[7:0]) (Table 9.10). -/
def execZCrcb (t : TugId) (rd ra rb : ZReg) (aux : BitVec 8) (s : State) : Host.Outcome State Fault Refusal :=
  .next (s.zOp t (decide (rb = 0 ∧ aux = 0)) (fun k => (k.setReg rd (crcSteps k.crcsel (k.reg rd) (k.reg ra) 1)).next 1))

/-- CRCH: two byte steps, RA[7:0] first (Table 9.10). -/
def execZCrch (t : TugId) (rd ra rb : ZReg) (aux : BitVec 8) (s : State) : Host.Outcome State Fault Refusal :=
  .next (s.zLong t (decide (rb = 0 ∧ aux = 0)) 2 (fun k => k.setReg rd (crcSteps k.crcsel (k.reg rd) (k.reg ra) 2)))

/-- CRCW: four byte steps, RA[7:0] first (Table 9.10). -/
def execZCrcw (t : TugId) (rd ra rb : ZReg) (aux : BitVec 8) (s : State) : Host.Outcome State Fault Refusal :=
  .next (s.zLong t (decide (rb = 0 ∧ aux = 0)) 4 (fun k => k.setReg rd (crcSteps k.crcsel (k.reg rd) (k.reg ra) 4)))

/-- PAR: RD ← 1 when RA holds an odd number of ones; Z of the result (Table 9.10). -/
def execZPar (t : TugId) (rd ra rb : ZReg) (aux : BitVec 8) (s : State) : Host.Outcome State Fault Refusal :=
  .next (s.zOp t (decide (rb = 0 ∧ aux = 0)) (fun k => (({ k with fl := mkFl k.flB k.flN (!oddOnes (k.reg ra)) k.flC k.flV }).setReg rd (BitVec.ofNat 32 (flag (oddOnes (k.reg ra)) 0))).next 1))

/-- BREV: the low 8, 16 or 32 bits of RA in reverse order (Table 9.10). -/
def execZBrev (t : TugId) (rd ra rb : ZReg) (aux : BitVec 8) (s : State) : Host.Outcome State Fault Refusal :=
  .next (s.zOp t (decide (rb = 0 ∧ aux.toNat < 3)) (fun k => (k.setReg rd (brev (k.reg ra) (8 * 2 ^ aux.toNat))).next 1))

/-- ENC5: the line code of symbol RA[4:0]; V where there is none (Table 9.10, R271). -/
def execZEnc5 (t : TugId) (rd ra rb : ZReg) (aux : BitVec 8) (s : State) : Host.Outcome State Fault Refusal :=
  .next (s.zOp t (decide (rb = 0 ∧ aux = 0)) (fun k => ((k.setV (enc5 (fld (k.reg ra) 0 5)).isNone).setReg rd (BitVec.ofNat 32 ((enc5 (fld (k.reg ra) 0 5)).getD 0))).next 1))

/-- DEC5: the symbol of line code RA[4:0]; V and 0x1F where there is none (Table 9.10, R271). -/
def execZDec5 (t : TugId) (rd ra rb : ZReg) (aux : BitVec 8) (s : State) : Host.Outcome State Fault Refusal :=
  .next (s.zOp t (decide (rb = 0 ∧ aux = 0)) (fun k => ((k.setV (dec5 (fld (k.reg ra) 0 5)).isNone).setReg rd (BitVec.ofNat 32 ((dec5 (fld (k.reg ra) 0 5)).getD 0x1F))).next 1))

/-- SMOV: copies Z3 elements from Z1 to Z2 (Table 9.12, R272, R273). -/
def execZSmov (t : TugId) (rd ra rb : ZReg) (aux : BitVec 8) (s : State) : Host.Outcome State Fault Refusal :=
  .next (s.zBlock t .smov rd ra rb aux)

/-- SFILL: fills Z3 elements at Z2 with Z1 (Table 9.12, R272, R273). -/
def execZSfill (t : TugId) (rd ra rb : ZReg) (aux : BitVec 8) (s : State) : Host.Outcome State Fault Refusal :=
  .next (s.zBlock t .sfill rd ra rb aux)

/-- SCMP: compares Z3 elements at Z1 and Z2 (Table 9.12, R272, R273). -/
def execZScmp (t : TugId) (rd ra rb : ZReg) (aux : BitVec 8) (s : State) : Host.Outcome State Fault Refusal :=
  .next (s.zBlock t .scmp rd ra rb aux)

/-- SCRC: steps the check in Z4 over Z3 elements at Z1 (Table 9.12, R272, R273). -/
def execZScrc (t : TugId) (rd ra rb : ZReg) (aux : BitVec 8) (s : State) : Host.Outcome State Fault Refusal :=
  .next (s.zBlock t .scrc rd ra rb aux)

/-- MFS: RD ← special register IMM18[7:0]; RA and IMM18[17:8] must be 0 (Table 9.6, R274). -/
def execZMfs (t : TugId) (rd ra : ZReg) (imm : BitVec 18) (s : State) : Host.Outcome State Fault Refusal :=
  .next (s.zGate t (fun s => s.atTug t (fun k => match if ra = 0 ∧ imm.toNat < 256 then s.sprRead t imm.toNat else none with
    | some v => (k.setReg rd v).next 1
    | none => k.illegal)))

/-- MTS: special register IMM18[7:0] ← RA; RD and IMM18[17:8] must be 0 (Table 9.6, R274). -/
def execZMts (t : TugId) (rd ra : ZReg) (imm : BitVec 18) (s : State) : Host.Outcome State Fault Refusal :=
  .next (s.zGate t (fun s => s.atTug t (fun k => match if rd = 0 ∧ imm.toNat < 256 then State.sprWrite k imm.toNat (k.reg ra) else none with
    | some k' => k'.next 1
    | none => k.illegal)))

/-- An enabled pending interrupt is taken (INTERRUPT; R277). -/
def execInterrupt (t : TugId) (s : State) : Host.Outcome State Fault Refusal :=
  .next (s.takeInterrupt t)

end Sys2Proof.Machine
end

