-- ==== Sys2Proof/Machine/Tugs.lean ====
section
/-!
DEFINITION. The Tugs around their programs: snapshot delivery (R22), suspension and mirror (R24–R28, R280, R285), loading
and entry (R281–R284), swaps and remaps (R286, R446, R452), overrun and core tests (R26, R444, R447).
-/

namespace Sys2Proof.Machine

namespace State

/-! ### Images (R281, R282) -/

/-- The offset in Hold of a current image slot (R282). -/
def slotBase (slot : Nat) : Nat := 0x00200000 + slot * 0x12000

/-- The bytes of a current image from an offset; slot 0 is BP 4.0, whose content the manual does not give. -/
def imageBytes (s : State) (slot off n : Nat) : List Byte :=
  if slot = 0 then (Config.bpImage.drop off).take n else Memory.readBytes s.mem (slotBase slot + off) n

/-- A header word of a current image (Table 9.17). -/
def imageWord (s : State) (slot off : Nat) : Nat := leNat (s.imageBytes slot off 4)

/-! ### State-block copies (R28, Table 1.5) -/

/-- The little-endian number at an offset of a copy. -/
def copyLe (s : State) (t : TugId) (c off n : Nat) : Nat := Memory.readLe s.mem (blockBase t + c * 0x1000 + off) n

/-- A copy of Tug `t`'s block that is valid for a berth: SEAL and CRC match (R28). -/
def copyValid (s : State) (t : TugId) (c : Nat) (b : BerthId) : Bool :=
  let base := blockBase t + c * 0x1000
  s.copyLe t c 0xFF8 4 = (s.copyLe t c 0xFE0 4) ^^^ 0x5EA1B10C
    && s.copyLe t c 0xFF4 4 = (crc32 (Memory.readBytes s.mem base 0xFF4)).toNat
    && s.copyLe t c 0xFE8 4 = b.val

/-- The valid copy of greater TIDE (R29). -/
def bestCopy (s : State) (t : TugId) (b : BerthId) : Option Nat :=
  match s.copyValid t 0 b, s.copyValid t 1 b with
  | true, true => if s.copyLe t 0 0xFE0 8 < s.copyLe t 1 0xFE0 8 then some 1 else some 0
  | true, false => some 0
  | false, true => some 1
  | false, false => none

/-- The mirror unit flushes the mirrored region and closes the copy of the present Tide (MIRROR_SEAL; R28, R285): of a Tug
that has moored or is suspended, once in a Tide. -/
def mirrorSeal (s : State) (t : TugId) : State :=
  let k := s.tugs[t]
  if (k.mode = .moored || k.mode = .suspended) && !k.sealed then
    let base := blockBase t + s.tideCount % 2 * 0x1000
    let n := k.mirNow.toNat
    let m := Memory.writeBytes s.mem base (Memory.readBytes s.mem (localBase t + 0x8000) n)
    let berth := match k.berth with
      | some b => b.val
      | none => 0xFFFFFFFF
    let m := Memory.writeBytes m (base + 0xFE0)
      (leBytes 8 s.tideCount ++ leBytes 4 berth ++ leBytes 4 k.program.toNat ++ leBytes 4 n)
    let m := Memory.writeBytes m (base + 0xFF4) (leBytes 4 (crc32 (Memory.readBytes m base 0xFF4)).toNat)
    let m := Memory.writeBytes m (base + 0xFF8) (leBytes 4 ((s.tideCount % 2 ^ 32) ^^^ 0x5EA1B10C))
    { s with mem := m }.atTug t (fun k => { k with sealed := true })
  else s

/-! ### Loading and entry (R284, Table 9.20) -/

/-- The code of an entry reason (Table 9.19). -/
def entryCode : Entry → Nat
  | .release => 0x00 | .berthReset => 0x01 | .noCopy => 0x02 | .fault => 0x10 | .remap => 0x11 | .mooring => 0x12 | .forced => 0x13

/-- The Harbourmaster loads a Tug that waits for its program (PROGRAM_LOAD; R284). -/
def programLoad (s : State) (t : TugId) : State :=
  let k := s.tugs[t]
  match k.entry, k.berth, k.mode with
  | some (why, warm), some b, .empty =>
    let from_ := k.from_.getD t
    let copy := if warm then s.bestCopy from_ b else none
    let why := if warm && copy.isNone then Entry.noCopy else why
    let code := min 0x8000 (s.imageWord k.slot 0x10)
    let dat := min 0x8000 (s.imageWord k.slot 0x14)
    let m := Memory.setRange s.mem (localBase t) 0x8000 (s.imageBytes k.slot 0x100 code)
    let m := Memory.setRange m (localBase t + 0x8000) 0x8000 (s.imageBytes k.slot (0x100 + code) dat)
    let (m, z1, z3, z4) := match copy with
      | none => (m, 0, 0, 0#32)
      | some c =>
        (Memory.writeBytes m (localBase t + 0x8000)
            (Memory.readBytes s.mem (blockBase from_ + c * 0x1000) (min 4064 (s.copyLe from_ c 0xFF0 4))),
          s.copyLe from_ c 0xFE0 4, s.copyLe from_ c 0xFEC 4, s.tugs[from_].format)
    let w (n : Nat) : Word := BitVec.ofNat 32 n
    let z : Vector Word 12 := #v[w b.val, w z1, w (entryCode why), w z3, z4, 0, 0, 0, 0, 0, 0, 0]
    let k' : Tug :=
      { z := z, user := #v[0, 0, w (s.imageWord k.slot 0x24), 0], exc := #v[0, 0, w (s.imageWord k.slot 0x28), 0]
        pcn := w (s.imageWord k.slot (if copy.isSome then 0x1C else 0x18)) &&& ~~~3#32
        vbase := w (s.imageWord k.slot 0x20) &&& 0x7F80#32, mirlen := mirlenOf (w (s.imageWord k.slot 0x2C))
        cycle := 1, mode := .loaded, berth := k.berth, last := k.last, fenced := k.fenced, slot := k.slot
        program := Config.programWord (w (s.imageWord k.slot 0x08)) k.slot, format := w (s.imageWord k.slot 0x0C)
        release := w (s.imageWord k.slot 0x08), sig := s.imageBytes k.slot 0x80 64
        entry := some (why, copy.isSome), busErrs := k.busErrs }
    { s with mem := m }.atTug t (fun _ => k')
  | _, _, _ => s

/-- BP 4.0 opens with Soft_Reset at an entry (R45, R284, R445): a forced swap, a cold entry on an attached berth, a warm one
with an AMS open or with a foreign state of a contract. -/
def opensWithSoft (s : State) (k : Tug) (b : BerthId) : Bool :=
  let x := s.berths[b]
  k.slot = 0 && x.attached && (match k.entry with
    | some (.forced, _) => true
    | some (_, false) => true
    | some (_, true) => x.lat.berthStatus.getLsbD 8 || (k.z[4] ≠ k.format && x.id.contract.isSome)
    | none => false)

/-- BP 4.0 declares a mooring point: no AMS open, no regulator transition (R225), no fault handling pending, nothing staged
(R286). -/
def bpMoors (x : Berth) : Bool :=
  !x.id.amsActive && !x.reg.slewing && x.tm.settle.isNone && x.faults = [] && !x.pol.hrDue && x.pol.todo = [] && x.id.pend = []

/-- The bytes of a Request record (Table 4.13). -/
def requestBytes (r : ReqRec) : List Byte :=
  [0x01, if r.epr then 1 else 0] ++ leBytes 2 r.reqSeq.toNat ++ leBytes 4 r.rdo.toNat ++ leBytes 4 r.pdo.toNat ++ leBytes 2 r.volt
    ++ leBytes 2 r.curr ++ leBytes 2 r.power ++ leBytes 2 r.epoch.toNat ++ List.replicate 12 0

/-- The Requests that BP 4.0 posted in a Tide stand in its ring, each at the index its commit publishes (R151). -/
def ringPosts (s : State) (t : TugId) (b : BerthId) : State :=
  { s with mem := s.berths[b].id.pend.foldl (fun (m : List Host.Cell) (p : Pend) => match p with
      | .commit c => match c.post with
        | some r => Memory.writeBytes m (exchangeBase t + 0x800 + 32 * (c.staged.evtIndex.toNat % 64)) (requestBytes r)
        | none => m
      | _ => m) s.mem }

/-- BP 4.0 runs one Tide on a Tug and moors; what its registers hold then is a free value (R282), and while the berth is parked it leaves the registers alone (R254). -/
def bpRun (s : State) (t : TugId) (b : BerthId) : State :=
  let s := (s.atBerth b (fun e x => if x.mon.parked then x else x.bpTide e s.now)).ringPosts t b
  let m := bpMoors s.berths[b]
  let n := s.freeCtr
  let w (i k : Nat) : Nat := leNat ((List.range k).map (fun (j : Nat) => Config.firmwareByte n (localBase t + 4 * i + j)))
  let shown := [b.val, w 0 4, w 1 1 % 32, 0, 0] ++ (List.range 17).map (fun (i : Nat) => w (2 + i) 4)
  { s with freeCtr := n + 1 }.atTug t (fun k => { k with mode := .moored, mflag := m, spill := 0, shown := shown })

/-- A loaded Tug enters its program at cycle 0 (TUG_ENTRY; R284). -/
def tugEntry (s : State) (t : TugId) : State :=
  let k := s.tugs[t]
  match k.berth with
  | some b =>
    if k.mode = .loaded && k.cycle = 0 then
      let soft := s.opensWithSoft k b
      let s := s.atTug t (fun k => { k with mode := .running, entry := none, from_ := none })
      let s := s.atTele b (fun x => { x with slot := k.slot })
      let s := if soft then s.atBerth b (fun _ x => x.softResetDue) else s
      if k.slot = 0 then s.bpRun t b else s
    else s
  | none => s

/-! ### Suspension (R24, R280) -/

/-- A Tug that has not moored by cycle 9,000 is suspended (TUG_SUSPEND): it has spilled. -/
def tugSuspend (s : State) (t : TugId) : State :=
  s.atTug t (fun k => if k.mode = .running then
    ({ k with mode := .suspended, spill := min 5 (k.spill + 1), cycle := max 9000 k.cycle } : Tug).keepShown else k)

/-! ### Swap and remap (R286, R446, R452) -/

/-- A pending program swap takes place: the Tug stops and waits for the new image (R286, R452). -/
def doSwap (s : State) (b : BerthId) (why : Entry) : State := match s.tele[b].swap, s.berths[b].id.tug with
  | some (slot, _, _, o), some t =>
    let s := s.atBerth b (fun _ x => State.dropStaged x)
    let s := s.atTug t (fun k => { k with mode := .empty, slot := slot, entry := some (why, true), from_ := some t })
    (s.atTele b (fun x => { x with swap := none, slot := slot })).jobDone o b .ok
  | _, _ => s

/-- The Tug that a remap names, where it is free, or the lowest-numbered free one (R446). -/
def remapTarget (s : State) (want : Option TugId) : Option TugId := match want with
  | none => s.freeTug
  | some t => if s.tugs[t].berth.isNone && !s.tugs[t].fenced && s.tugs[t].mode = .empty then some t else none

/-- A pending remap takes place: the berth enters warm on the other Tug, and the Tug it left is core-tested (R446). -/
def doRemap (s : State) (b : BerthId) : State := match s.tele[b].remap with
  | some (want, _, o) =>
    let old := s.berths[b].id.tug
    let s := s.atTele b (fun x => { x with remap := none })
    match s.remapTarget want with
    | none => (match o with
      | some x => s.respond x 0x0904 .noResource
      | none => s)
    | some n =>
      let s := s.rebind b n .remap true
      let s := match old with
        | some t => s.coreTest t
        | none => s
      match o with
      | some x => s.respond x 0x0904 .ok (leBytes 1 n.val)
      | none => s
  | none => s

/-- At the boundary that ends a Tide whose mooring declaration holds (PROGRAM_SWAP_AT_MOORING; R286). -/
def swapAtMooring (s : State) (b : BerthId) : State := match s.berths[b].id.tug with
  | some t =>
    if s.tugs[t].moorHeld then
      if s.tele[b].remap.isSome then s.doRemap b else s.doSwap b .mooring
    else s
  | none => s

/-- A forced swap may be taken: HR_ACTIVE clear and the phase IDLE or FRS_ARMED (R452). -/
def forceOk (x : Berth) : Bool := !x.id.hrActive && (x.mux.phase = .idle || x.mux.phase = .frsArmed)

/-- 2 s without a mooring point: the swap is cancelled, or forced (SWAP_DEFER_TIMEOUT; R452). -/
def swapTimeout (s : State) (b : BerthId) : State := match s.tele[b].swap with
  | some (_, force, until_, o) =>
    if s.ticks < until_ then s
    else if !force then (s.atTele b (fun x => { x with swap := none })).jobDone o b .swapDeferred
    else if forceOk s.berths[b] then s.doSwap b .forced
    else s
  | none => s

/-- 2 s without a mooring point: the remap takes place regardless (REMAP_FORCE_TIMEOUT; R446). -/
def remapTimeout (s : State) (b : BerthId) : State := match s.tele[b].remap with
  | some (_, until_, _) => if s.ticks < until_ then s else s.doRemap b
  | none => s

/-! ### Overrun (R26, R447) -/

/-- The third rebinding of a berth for overruns within 60 s loads BP 4.0 in place of its program (R447). -/
def countRebind (s : State) (b : BerthId) : State :=
  let l := s.tele[b].rebinds.filter (fun x => decide (s.now ≤ x + ms 60000 ∧ x < s.now))
  let s := s.atTele b (fun x => { x with rebinds := l ++ [s.now] })
  if 2 ≤ l.length && s.tele[b].slot ≠ 0 then s.atTele b (fun x => { x with slot := 0 }) else s

/-- The boundary that ends a fifth spilled Tide: a spare takes the berth, or the Tug is tested in place (TIDE_OVERRUN;
R26, R347, R444). -/
def tideOverrun (s : State) (t : TugId) : State :=
  let k := s.tugs[t]
  match k.berth with
  | some b =>
    if k.mode = .suspended && k.spill = 5 then
      let spare := s.freeTug
      let s := s.devEvent (.tideOverrun t ((spare.map (·.val)).getD 0xFF) k.spill k.pcn) b
      match spare with
      | some n => (((s.countRebind b).rebind b n .fault true).coreTest t)
      | none =>
        let s := (s.recordDevice 0x11 0xFF s.now (leBytes 1 t.val ++ leBytes 1 k.spill ++ [0, 0] ++ leBytes 4 k.pcn.toNat)).2
        (s.coreTest t).atTug t (fun k => { k with inPlace := true })
    else s
  | none => s

/-- A double fault at a boundary: a spare takes the berth with its FAULT, or the Tug is tested in place (R278, R444). -/
def doubleFault (s : State) (t : TugId) : State :=
  let k := s.tugs[t]
  match k.berth, k.mode with
  | some b, .halted =>
    let s := s.atBerth b (fun e x => x.fault .tugFault s.now e.quay (e.vins / 10) [k.ecause, k.epc, k.dfcause, k.dfpc])
    match s.freeTug with
    | some n => (s.rebind b n .fault true).coreTest t
    | none => (s.coreTest t).atTug t (fun k => { k with inPlace := true })
  | _, _ => s

/-- A Tug's core test ends (TUG_CORE_TEST_DONE; R444, R439, Table 16.3). -/
def tugTestDone (s : State) (t : TugId) (pass : Bool) : State :=
  let k := s.tugs[t]
  if k.mode ≠ .testing then s
  else
    let host := s.testWanted 1 t.val 0
    let j := s.judge (.tug t) pass host false
    let s := j.2
    let act := if host && pass then 0 else 2
    let s := s.report (.tug t) j.1 (.selftest 1 t 0 (if host then 2 else 1) (if pass then .ok else .selftestFail) j.1 act)
    let s := s.answerTests 1 t.val 0 pass j.1 act
    let un := s.testWanted 1 t.val 0
    let s := if un && pass then (s.clearMark (.tug t)).atTug t (fun k => { k with fenced := false }) else s
    let s := s.answerUnfence 1 t.val 0 (if pass then .ok else .selftestFail)
    let s := s.atTug t (fun x => { x with inPlace := false, mode := if j.1 = 2 then .testing else .empty })
    match k.inPlace && pass, k.berth with
    | true, some b => s.startReset b none
    | _, _ => s

end State

/-- A berth's snapshot arrives (SNAPSHOT_DELIVERY; R21 step 5, R22). -/
def execSnapshotDelivery (b : BerthId) (s : State) : Host.Outcome State Fault Refusal :=
  .next (if s.reaches b then s.atBerth b (fun _ x => { x with shadow := x.lat, delivered := true }) else s)

/-- TUG_SUSPEND (R24, R280). -/
def execTugSuspend (t : TugId) (s : State) : Host.Outcome State Fault Refusal := .next (s.tugSuspend t)

/-- MIRROR_SEAL (R28). -/
def execMirrorSeal (t : TugId) (s : State) : Host.Outcome State Fault Refusal := .next (s.mirrorSeal t)

/-- TIDE_OVERRUN (R26). -/
def execTideOverrun (t : TugId) (s : State) : Host.Outcome State Fault Refusal := .next (s.tideOverrun t)

/-- PROGRAM_LOAD (R284). -/
def execProgramLoad (t : TugId) (s : State) : Host.Outcome State Fault Refusal := .next (s.programLoad t)

/-- TUG_ENTRY (R284). -/
def execTugEntry (t : TugId) (s : State) : Host.Outcome State Fault Refusal := .next (s.tugEntry t)

/-- PROGRAM_SWAP_AT_MOORING (R286). -/
def execProgramSwapAtMooring (b : BerthId) (s : State) : Host.Outcome State Fault Refusal := .next (s.swapAtMooring b)

/-- SWAP_DEFER_TIMEOUT (R452). -/
def execSwapDeferTimeout (b : BerthId) (s : State) : Host.Outcome State Fault Refusal := .next (s.swapTimeout b)

/-- REMAP_FORCE_TIMEOUT (R446). -/
def execRemapForceTimeout (b : BerthId) (s : State) : Host.Outcome State Fault Refusal := .next (s.remapTimeout b)

/-- TUG_CORE_TEST_DONE (R444). -/
def execTugCoreTestDone (t : TugId) (pass : Bool) (s : State) : Host.Outcome State Fault Refusal := .next (s.tugTestDone t pass)

end Sys2Proof.Machine
end

