-- ==== Sys2Proof/Machine/Gangway.lean ====
section
/-!
DEFINITION. The gangways: discarded frames and lane tests (R42, R453), missed strobes and harbour-less mode (R43–R45,
R454–R456), retraining (R392); and the pulses on TIDE_IN (R32–R34).
-/

namespace Sys2Proof.Machine

namespace State

/-! ### Lanes (R42, R453) -/

/-- The gangway's failures and retrains in the last 10 s, the present one among them, are counted; true when 8 stood before
it (R456). -/
def gwCount (s : State) (q : QuayId) : Bool × State :=
  let l := s.quays[q].gwResets.filter (fun x => decide (s.now ≤ x + ms 10000))
  (8 ≤ l.length, s.atQuay q (fun x => { x with gwResets := l ++ [s.now] }))

/-- A lane waits for its test, once, unless it has been removed; origin 0 before a release, 1 after a discard, 2 for a host (R435, R455). -/
def wantLane (s : State) (q : QuayId) (l : Fin 4) (origin : Nat) : State :=
  s.atQuay q (fun x =>
    if x.removed.getLsbD l || x.laneWant.any (fun (y : Fin 4 × Nat) => y.1 = l) then x else { x with laneWant := x.laneWant ++ [(l, origin)] })

/-- A frame with a bad CRC is discarded, counted and retransmitted, and its lane is to be tested; the commits of the berth `late` of the
quay, where the retransmission does not end within the Tide, complete at the boundary after (R42). -/
def gwDiscard (s : State) (q : QuayId) (l : Fin 4) (late : Option BerthId) : State :=
  let s := (s.atQuay q (fun x => { x with crcCount := (satInc x.crcCount).1 })).wantLane q l 1
  match late with
  | some b => if quayOf b = q then s.atBerth b (fun _ x => { x with id.lateCommit := true }) else s
  | none => s

/-- One lane leaves traffic for its test (R453). -/
def laneStart (s : State) (q : QuayId) : State :=
  s.atQuay q (fun x => match x.laneTest, x.laneWant with
    | none, w :: r => { x with laneTest := some w, laneWant := r }
    | _, _ => x)

/-- A lane test ends: its class and its event; a lasting fault removes the lane (R439, R440, R453). -/
def laneDone (s : State) (q : QuayId) (pass : Bool) : State := match s.quays[q].laneTest with
  | none => s
  | some (l, o) =>
    let s := s.atQuay q (fun x => { x with laneTest := none })
    let j := s.judge (.lane q l) pass (o = 2) (o = 0)
    let act := if j.1 = 2 then 1 else 0
    let un := j.2.tests.any (fun (x : HostTest) => x.code = 0x0903 && x.kind = 2 && x.index = q.val)
    let j := (j.1, if un && pass then j.2.clearMark (.lane q l) else j.2)
    let e : EvBody := .selftest 2 q l o (if pass then .ok else .selftestFail) j.1 act
    let s := if o ≠ 0 || j.1 = 2 then j.2.report (.lane q l) j.1 e else j.2
    s.answerTests 2 q l pass j.1 act

/-! ### Harbour-less mode (R43–R45) -/

/-- A strobe is missed: consecutive misses are counted (R43). -/
def strobeMissed (s : State) (q : QuayId) : State :=
  s.atQuay q (fun x => if !x.up || x.hless then x
    else { x with missed := if x.missedAt + 1 = s.ticks then x.missed + 1 else 1, missedAt := s.ticks })

/-- What software asked of a berth and has not come into force does not come into force in harbour-less mode (R44): commits are
discarded and counted; the changes toward safety and the hardware's own stand. -/
def dropWaiting (b : Berth) : Berth :=
  let keeps (p : Pend) : Bool := match p with
    | .swapToRd => false
    | .swapToRp => false
    | .vconnOn => false
    | .vconnRearm => false
    | .hardReset => false
    | .cableReset => false
    | .pathTest => false
    | _ => true
  let b := State.dropStaged b
  { b with id.pend := b.id.pend.filter keeps }

/-- After 5 consecutive misses the quay enters harbour-less mode at its local boundary (R43, R44, R392, R454). -/
def hlessEntry (s : State) (q : QuayId) (t : Stamp) : State :=
  let x := s.quays[q]
  if x.hless || !x.up || x.missed < 5 then s
  else
    let c := s.gwCount q
    let s := c.2.atQuay q (fun x => { x with hless := true, hlessAt := t, trained := false, posted := [] })
    let s := s.atBerths (State.berthsOf q) (fun e b => (State.dropWaiting (b.hlessEnter e t)).endEvery .berthFenced)
    let s := (State.berthsOf q).foldl (fun (s : State) (b : BerthId) =>
      ((s.cutJobs b none .berthFenced).cutService b .berthFenced).stopTug b) s
    let s := s.capacity 2
    if c.1 then s.fenceGangway q else s

/-- An attempt to train the gangway of a quay in harbour-less mode (R454): trained, its lanes are tested before the release
(R455). -/
def retrainAttempt (s : State) (q : QuayId) (ok : Bool) : State :=
  let x := s.quays[q]
  if !x.hless || x.gwFenced || x.trained then s
  else
    let c := s.gwCount q
    if ok then
      (List.finRange 4).foldl (fun (s : State) (l : Fin 4) => s.wantLane q l 0) (c.2.atQuay q (fun x => { x with trained := true }))
    else if c.1 then c.2.fenceGangway q else c.2

/-- The quay is released at a round boundary once trained and its lanes tested (R45, R455): its Tugs enter cold, and QUAY_LOST
and CAPACITY are reported. -/
def hlessRelease (s : State) (q : QuayId) (t : Stamp) : State :=
  let x := s.quays[q]
  if !x.hless || !x.trained || x.gwFenced || x.laneTest.isSome || x.laneWant ≠ [] || s.roundPhase ≠ 0 then s
  else
    let durMs := (t - x.hlessAt) / 100000
    let s := s.atQuay q (fun x => { x with hless := false, trained := false, retrain := false, missed := 0 })
    let s := s.atBerths (State.berthsOf q) (fun e b => b.hlessLeave e t)
    let s := (State.berthsOf q).foldl (fun (s : State) (b : BerthId) => match s.berths[b].id.tug with
      | some k => s.bindTug b k s.tele[b].slot .release false
      | none => s) s
    let detail := leBytes 4 durMs ++ leBytes 1 q.val
    let r := s.recordDevice Cause.quayLost.code q x.hlessAt detail
    let s := (r.2.devEvent (.fault { cause := .quayLost, slot := r.1, quay := q, stamp := x.hlessAt, vin := x.vins / 10
                                     detail := [BitVec.ofNat 32 durMs, BitVec.ofNat 32 q.val] })).capacity 2
    let s := s.answerUnfence 2 q 0 .ok
    match x.gwBy with
    | some o => (s.atQuay q (fun x => { x with gwBy := none })).respond o 0x0104 .ok
    | none => s

/-- A gangway reset has retrained: what its Lock held completes in order (R392). -/
def retrainComplete (s : State) (q : QuayId) : State :=
  let x := s.quays[q]
  if !x.retrain || x.hless || x.gwFenced then s
  else
    let s := s.atQuay q (fun x => { x with retrain := false, posted := [] })
    let s := x.posted.foldl (fun (s : State) w => s.windowWrite .tug w.1 w.2.1 w.2.2) s
    let s := s.answerUnfence 2 q.val 0 .ok
    match x.gwBy with
    | some o => (s.atQuay q (fun x => { x with gwBy := none })).respond o 0x0104 .ok
    | none => s

/-! ### TIDE_IN (R32–R34) -/

/-- The kind of an accepted pulse width: 0 boundary, 1 round, 2 epoch (Table 1.6). -/
def pulseKind (widthNs : Nat) : Option Nat :=
  if 100 ≤ widthNs && widthNs ≤ 350 then some 0
  else if 450 ≤ widthNs && widthNs ≤ 900 then some 1
  else if 1500 ≤ widthNs && widthNs ≤ 3000 then some 2
  else none

/-- The width driven for a kind (Table 1.6). -/
def pulseWidth (kind : Nat) : Nat := if kind = 0 then 200 else if kind = 1 then 600 else 2000

/-- The follower runs from its own clock (R34). -/
def loseSync (s : State) : State :=
  if s.follower then { s with syncLost := true, tideLocked := false } else s

/-- A pulse on TIDE_IN (R33, R34): a follower repeats it and takes its boundary from it, which TIDE_BOUNDARY then is. -/
def tidePulse (s : State) (widthNs intervalNs : Nat) : State :=
  if !s.follower then s
  else match pulseKind widthNs with
    | none => s
    | some k =>
      if s.tideLocked && (intervalNs < 24975 || 25025 < intervalNs) then s.loseSync
      else if !s.tideLocked && k = 0 then s
      else
        { s with tideLocked := true, tideOut := some (pulseWidth k), roundDue := s.roundDue || k = 1, epochDue := s.epochDue || k = 2 }

end State

/-- GANGWAY_FRAME_DISCARD (R42). -/
def execGangwayFrameDiscard (q : QuayId) (lane : Fin 4) (late : Option BerthId) (s : State) : Host.Outcome State Fault Refusal :=
  .next (s.gwDiscard q lane late)

/-- TIDE_STROBE_MISSED (R43). -/
def execTideStrobeMissed (q : QuayId) (s : State) : Host.Outcome State Fault Refusal := .next (s.strobeMissed q)

/-- HARBOUR_LESS_ENTRY (R44). -/
def execHarbourLessEntry (q : QuayId) (at_ : Stamp) (s : State) : Host.Outcome State Fault Refusal := .next (s.hlessEntry q at_)

/-- HARBOUR_LESS_RELEASE (R45, R455). -/
def execHarbourLessRelease (q : QuayId) (at_ : Stamp) (s : State) : Host.Outcome State Fault Refusal := .next (s.hlessRelease q at_)

/-- GANGWAY_RETRAIN_ATTEMPT (R454). -/
def execGangwayRetrainAttempt (q : QuayId) (trained : Bool) (s : State) : Host.Outcome State Fault Refusal :=
  .next (s.retrainAttempt q trained)

/-- GANGWAY_RETRAIN_COMPLETE (R392). -/
def execGangwayRetrainComplete (q : QuayId) (s : State) : Host.Outcome State Fault Refusal := .next (s.retrainComplete q)

/-- LANE_TEST_START (R453). -/
def execLaneTestStart (q : QuayId) (s : State) : Host.Outcome State Fault Refusal := .next (s.laneStart q)

/-- LANE_TEST_DONE (R453). -/
def execLaneTestDone (q : QuayId) (pass : Bool) (s : State) : Host.Outcome State Fault Refusal := .next (s.laneDone q pass)

/-- TIDE_IN_PULSE (R33). -/
def execTideInPulse (widthNs intervalNs : Nat) (s : State) : Host.Outcome State Fault Refusal := .next (s.tidePulse widthNs intervalNs)

/-- TIDE_SYNC_LOST (R34). -/
def execTideSyncLost (s : State) : Host.Outcome State Fault Refusal := .next s.loseSync

end Sys2Proof.Machine
end

