-- ==== Sys2Proof/Machine/SelfTests.lean ====
section
/-!
DEFINITION. The PHY loopback (R436, R458) and the errors of Hold (R437, R438, R442), with the hand-over of the
Harbourmaster (R449) that one of them starts.
-/

namespace Sys2Proof.Machine

namespace State

/-! ### PHY loopback (R436) -/

/-- A Tide boundary finds the berth idle for a loopback (R436). -/
def lbIdle (x : Berth) : Bool :=
  x.phy.rxMsg.isNone && x.phy.tx.isNone && !x.id.amsActive && !x.id.hrActive && !x.txBusy

/-- The loopback starts at the first idle boundary. -/
def lbStart (s : State) (b : BerthId) : State :=
  s.atBerth b (fun _ x => if x.st.want.isSome && !x.st.running && lbIdle x then
    { x with st.running := true, st.busy := true, st.kind := 3, st.result := 0, st.sent := 0, st.good := 0, st.aborted := false }
    else x)

/-- The loopback's counters (Table 16.6). -/
def lbCount (x : Berth) (pass : Bool) : Berth :=
  let r := bump 0xA10 x.st.cnt x.st.ovf 0
  let y := { x with st.cnt := r.1, st.ovf := r.2.1, evOut := x.evOut ++ r.2.2 }
  if pass then y
  else
    let r := bump 0xA10 y.st.cnt y.st.ovf 1
    { y with st.cnt := r.1, st.ovf := r.2.1, evOut := y.evOut ++ r.2.2 }

/-- The loopback ends with `good` of its 4 messages intact: class, event, fence, and a fenced PHY's return to service
(R436, R439, Table 16.3). -/
def lbDone (s : State) (b : BerthId) (good : BitVec 3) : State :=
  let x := s.berths[b]
  if !x.st.running then s
  else
    let pass := good = 4
    let origin := match x.st.want with
      | some (_, o) => o
      | none => 2
    let j := s.judge (.phy b) pass (origin = 2) true
    let act := if j.1 = 2 then 1 else 0
    let s := j.2.atBerth b (fun _ x => (lbCount { x with st.running := false, st.sent := 4, st.good := good, st.want := none } pass).stEnd pass j.1)
    let s := s.report (.phy b) j.1 (.selftest 3 b 0 origin (if pass then .ok else .selftestFail) j.1 act) b
    let s := s.answerTests 3 b.val 0 pass j.1 act
    let un := s.testWanted 3 b.val 0
    let s := if un && pass then
        (s.clearMark (.phy b)).atBerth b (fun _ x => { x with st.phyFenced := false, st.evt := bitOn x.st.evt 2 }.addPend .hwErrorRecovery)
      else s
    s.answerUnfence 3 b.val 0 (if pass then .ok else .selftestFail)

/-- A partner's preamble or a TX commit aborts the loopback; it runs again at the next idle window. -/
def lbAbort (s : State) (b : BerthId) : State :=
  s.atBerth b (fun _ x => if x.st.running then { x with st.running := false, st.busy := false, st.aborted := true } else x)

/-- 500 ms after the burst the loopback is given up: RESULT deferred, no class. -/
def lbDeferred (s : State) (b : BerthId) : State :=
  s.atBerth b (fun _ x => match x.st.want with
    | some (some _, _) =>
      { x with st.want := none, st.running := false, st.busy := false, st.kind := 3, st.result := 3, st.cls := 0 }
    | _ => x)

/-! ### The Harbourmaster's hand-over (R449) -/

/-- A change that is no host command's, so that it outlives a hand-over. -/
def laterOfDevice (l : Later) : Bool := match l with
  | .act .. => true
  | _ => false

/-- The standby becomes active: commands complete under R315, the round in progress commits no grant, the failed core is
tested. -/
def handOver (s : State) : State :=
  let lost := s.tags.filter (fun (x : TagEntry) => x.started && !x.done)
  let s := lost.foldl (fun (s : State) (x : TagEntry) => s.respond x.origin x.code .internal)
    { s with jobs := [], tests := [], later := s.later.filter laterOfDevice }
  let old := s.harbour.coreB
  let h : Harbour := { s.harbour with coreB := !old, ready := false, followed := 0, testing := some old, unkicked := 0, commit := none }
  let l := s.berths.map (fun (x : Berth) => { x with id.grantTide := none })
  let p : Pilot := { s.pilot with level := 0, challenge := none }
  { s with harbour := h, alloc.sampled := false, wdogCore := old, berths := l, pilot := if p.on then p.add .handover else p }

/-! ### Hold (R437, R438, R442) -/

/-- The bank and the 256 KB subarray of an address. -/
def bankOf (a : Nat) : Nat := a / 0x200000
@[inherit_doc bankOf] def subOf (a : Nat) : Nat := a / 0x40000

/-- A corrected single-bit error: the march passed or failed (R437, R439, R442). -/
def eccSingle (s : State) (a : Nat) (pass : Bool) : State :=
  if 0x1000000 ≤ a then s
  else
    let row := Config.holdRow a
    let s := { s with repair.corrected := (satInc s.repair.corrected).1 }
    let j := s.judge (.holdRow row) pass false false
    let s := if j.1 = 2 then j.2.replaceRow row (subOf a) else j.2
    s.selfEvent 4 (bankOf a) 0 1 pass j.1 0

/-- The 16 bytes of the Hold word that lost its content take values nothing constrains. -/
def loseWord (s : State) (a : Nat) : State :=
  let base := a / 16 * 16
  { s with mem := Memory.writeBytes s.mem base ((List.range 16).map (fun (i : Nat) => Config.firmwareByte s.freeCtr (base + i)))
           freeCtr := s.freeCtr + 1 }

/-- A staged image is discarded. -/
def dropStage (s : State) (slot : Nat) : State :=
  if h : slot < 7 then
    let x : FwSlot := { s.harbour.slots[slot] with staged := 0, verified := false }
    { s with harbour.slots := s.harbour.slots.set slot x }
  else s

/-- A double-bit error in a region with its own handling (R438): a tag's command ends, a policy table or a staged image is
discarded. -/
def eccRegion (s : State) (a : Nat) : State :=
  if 0xC80000 ≤ a && a < 0xD80000 then
    let g := (a - 0xC80000) / 0x100
    match s.tags.find? (fun x => x.origin.tag = g && x.origin.path ≠ .pilot && !x.done) with
    | some x => s.respond x.origin x.code .internal
    | none => s
  else if 0x300000 ≤ a && a < 0x380000 then
    let i := Config.tableAt a % 64
    { s with tables := s.tables.setIfInBounds i {} }
  else if a < 0x200000 && (a < 0x100000) = s.harbour.imageB && !s.harbour.slots[0].current then s.dropStage 0
  else if 0x280000 ≤ a && 1 ≤ (a - 0x280000) / 0x12000 then s.dropStage ((a - 0x280000) / 0x12000)
  else s

/-- A double-bit error (R438): the row is lasting at once, the word is lost, and the reader takes a bus error; in a marked row
of banks 2–5 the bank is fenced (R442). -/
def eccDouble (s : State) (a : Nat) (reader : HoldReader) : State :=
  if 0x1000000 ≤ a then s
  else
    let row := Config.holdRow a
    let s := s.markLasting (.holdRow row)
    let s := if s.repair.marked.contains row && 2 ≤ bankOf a && bankOf a ≤ 5 then s.fenceBank (bankOf a)
      else s.replaceRow row (subOf a)
    let s := (s.loseWord a).eccRegion a
    match reader with
    | .tug t => s.zGate t (fun s => s.atTug t (fun k => k.raise 0x03 0 false false k.pcn (BitVec.ofNat 32 (0x10000000 + a))))
    | .harbour => if s.harbour.ready then s.handOver else s
    | .scrub => s

end State

/-- PHY_LOOPBACK_START (R436). -/
def execPhyLoopbackStart (b : BerthId) (s : State) : Host.Outcome State Fault Refusal := .next (s.lbStart b)

/-- PHY_LOOPBACK_DONE (R436, R439). -/
def execPhyLoopbackDone (b : BerthId) (good : BitVec 3) (s : State) : Host.Outcome State Fault Refusal := .next (s.lbDone b good)

/-- PHY_LOOPBACK_ABORT (R436). -/
def execPhyLoopbackAbort (b : BerthId) (_at : Stamp) (s : State) : Host.Outcome State Fault Refusal := .next (s.lbAbort b)

/-- PHY_LOOPBACK_DEFERRED (R436). -/
def execPhyLoopbackDeferred (b : BerthId) (s : State) : Host.Outcome State Fault Refusal := .next (s.lbDeferred b)

/-- ST_PHY_LB.RUN (ST_PHY_LB_RUN; R458). -/
def execStPhyLbRun (w : Writer) (b : BerthId) (s : State) : Host.Outcome State Fault Refusal :=
  .next (s.regWrite b (fun _ x => x.phyLbRun w))

/-- HOLD_ECC_SINGLE (R437). -/
def execHoldEccSingle (addr : Nat) (pass : Bool) (s : State) : Host.Outcome State Fault Refusal := .next (s.eccSingle addr pass)

/-- HOLD_ECC_DOUBLE (R438). -/
def execHoldEccDouble (addr : Nat) (reader : HoldReader) (_at : Stamp) (s : State) : Host.Outcome State Fault Refusal :=
  .next (s.eccDouble addr reader)

/-- HOLD_BACKGROUND_SCRUB (R437): every word is read; each error it finds is an event of its own. -/
def execHoldBackgroundScrub (s : State) : Host.Outcome State Fault Refusal := .next s

end Sys2Proof.Machine
end

