-- ==== Sys2Proof/Machine/Alloc.lean ====
section
/-!
DEFINITION. The allocator (R123, R138–R151): the inputs sampled at a round's start, emergencies, the decisions and the
grant committed at its end.  Powers are in 0.1 W.  Where a quotient does not fall on a step, log entry 43 says how it is
rounded.
-/

namespace Sys2Proof.Machine

/-- Bytes that the manual leaves unstated, numbered from a free number. -/
def freeBytes (k a n : Nat) : List Byte := (List.range n).map (fun (i : Nat) => Config.firmwareByte k (a + i))

namespace Berth

/-- The programmed switching frequency in kHz (Table 7.9). -/
def fsw (b : Berth) : Nat := 10 * fld b.reg.cfg 0 7

/-- vmax_b in mV for the lowest VIN_BUS average of the round (R123). -/
def vmaxFor (b : Berth) (vq : Nat) : Nat := vq * (1000000 - 120 * b.fsw) / 1000000 - 500

/-- The committed reference in 10 mV. -/
def committedRef (b : Berth) : Nat := match b.reg.mode with
  | .idle => 0
  | .standby => 500
  | .run => ceilDiv (4 * fld b.reg.vref 0 14) 10

/-- The fixed PDOs that a ceiling withdraws (R123): one that is withdrawn returns only 0.3 V above its voltage. -/
def fixedGone (b : Berth) (e : Env) (v : Nat) : List Nat :=
  ((numbered e.tbl.src).filter (fun (x : Nat × Template) =>
    x.1 ≠ 0 && (x.2.kind = 0 || x.2.kind = 3) && decide (v < 10 * x.2.vlo + (if b.pol.winPdos.contains x.1 then 300 else 0)))).map (·.1)

/-- The numbers of the templates whose PDO is withdrawn. -/
def goneList (b : Berth) (e : Env) : List Nat :=
  ((numbered e.tbl.src).filter (fun (x : Nat × Template) => x.1 ≠ 0 && b.withdrawn x.1 x.2)).map (·.1)

/-- The ceiling of a round takes effect with its grant (R123, R137): no higher than V_drop − 0.5 V where DROPOUT was latched in the
round, which sets WITHDRAW (R235). -/
def setVmax (b : Berth) (e : Env) (v : Nat) : Berth :=
  let v := match b.pol.dropV with
    | some d => min v (d - 500)
    | none => v
  let a : Berth := { b with pol.vmax := v, pol.winPdos := b.fixedGone e v }
  let old := b.goneList e
  let new := a.goneList e
  let worse := new.any (fun (n : Nat) => !old.contains n)
  let left := (numbered e.tbl.src).any (fun (x : Nat × Template) => x.2.isEpr && !a.withdrawn x.1 x.2)
  { a with pol.dropV := none, pol.withdraw := b.pol.dropV.isSome, pol.pdosMoved := b.pol.pdosMoved || worse || old.any (fun (n : Nat) => !new.contains n)
           pol.noEprRounds := if b.id.eprMode && b.id.powerSource && !left then b.pol.noEprRounds + 1 else 0 }

/-- The power role that GRANT_CEIL is for: the berth's own while attached, the one of its ROLE before (log entry 44). -/
def ceilSink (b : Berth) : Bool := if b.attached then !b.id.powerSource else b.role = 1

/-- GRANT_CEIL (R143); `raise` is the voltage and current of a granted or reserved raise. -/
def grantCeilOf (b : Berth) (e : Env) (raise : Option (Nat × Nat)) : Word :=
  let floor := max (fld b.path.limit 0 10) (fld b.path.snkLimit 0 10)
  let r := raise.getD (0, 0)
  let top := b.capsTop e
  let now := match b.id.contract with
    | some c => c.curr
    | none => 0
  if b.ceilSink then
    let i := e.tbl.snk.foldl (fun (m : Nat) (x : Template) => max m (5 * x.imax)) (max (b.partnerAmps) b.pol.partnerFrs)
    BitVec.ofNat 32 (500 + max floor (ceilDiv (112 * i) 100) % 65536 * 65536)
  else
    BitVec.ofNat 32 (max (max b.committedRef top.1) r.1 + max floor (ceilDiv (112 * max (max now top.2) r.2) 100) % 65536 * 65536)

/-- The mean of the last rounds in 0.1 W, from their sums over 40 Tides in mW (Table 4.8). -/
def meanOf (l : List Nat) : Nat := if l = [] then 0 else ceilDiv (l.foldl (· + ·) 0) (4000 * l.length)

/-- C_b (R139, R140). -/
def cNow (b : Berth) : Nat := match b.pol.reserved with
  | some r => max r.1 b.contractMax
  | none => b.contractMax

/-- A round starts for the berth: its history and its 1 s average move on (R139). -/
def roundTerms (b : Berth) : Berth :=
  let c := b.cNow
  let h := if c = 0 || !b.attached then 0 else if b.pol.cB < c then 0 else min 1000 (b.pol.history + 1)
  { b with pol.cB := c, pol.history := h, pol.avg := 0 :: b.pol.avg.take 1000
           pol.counted := if 1000 ≤ h then meanOf (b.pol.avg.take 1000) else c }

/-- The emergency is over: the hold limit returns through a GRANT commit (Table 4.11 step 7). -/
def restoreHold (b : Berth) : Berth :=
  let b := { b with pol.holdDue := false, pol.lowered := false, tm.grace := none, tm.hold := none }
  if b.cc.state ≠ .attachedSrc then b
  else
    let st := match b.id.contract with
      | some c => b.sourceSettings c
      | none => b.restSettings 1 (rpAmps b.cc.rpLevel.toNat)
    b.will { kind := kGrant, mask := 0x02, stage := st }

end Berth

namespace State

/-! ### Emergencies (R146–R148) -/

/-- The berth is counted from its contracts: enabled, its quay neither fenced nor in harbour-less mode (Table 4.12). -/
def counts (s : State) (b : BerthId) : Bool :=
  b.val < s.berthsOn && s.berths[b].enabled && !s.quays[quayOf b].hless && !s.quays[quayOf b].fenced

/-- The berth lies in a scope. -/
def inScope (s : State) (sc : BitVec 6) (b : BerthId) : Bool := s.counts b && (sc = 0 || sc.getLsbD (quayOf b).val)

/-- A BUDGET event at this boundary (R146). -/
def budgetEvent (s : State) (e : Emergency) (phase : Nat) : State :=
  let k := match e.kind with
    | .host => 0
    | .droop => 1
    | .overdraw => 2
    | .quayBudget => 3
  s.publish (.budget k phase e.scope e.target s.alloc.lastDelivery)

/-- Some emergency that has not ended applies to a berth (R146). -/
def emApplies (s : State) (b : BerthId) : Bool :=
  s.alloc.ems.any (fun (e : Emergency) => !e.ended && s.inScope e.scope b)

/-- Every berth is marked with whether an emergency applies to it (Table 4.4). -/
def markEms (s : State) : State :=
  { s with berths := Vector.ofFn (fun (b : Fin 48) => { s.berths[b] with pol.emerg := s.emApplies b }) }

/-- An emergency is taken at this boundary, its t0 (Table 4.11 steps 1 and 2). -/
def takeEmergency (s : State) (e : Emergency) : State :=
  let e : Emergency := { e with t0 := s.ticks }
  let s := ({ s with alloc.ems := s.alloc.ems ++ [e] }.markEms).budgetEvent e 0
  (List.finRange 48).foldl (fun (s : State) (b : BerthId) =>
    if !s.inScope e.scope b then s
    else
      let s := match s.berths[b].id.tug with
        | some t => { s with mem := Memory.writeBytes s.mem (exchangeBase t + 0x40) (freeBytes s.freeCtr (exchangeBase t + 0x40) 32)
                             freeCtr := s.freeCtr + 1 }
        | none => s
      s.atBerth b (fun v x => if v.bp then x.emergencyDrop v else x)) s

/-- Replace the target of an emergency in force. -/
def retarget (s : State) (e : Emergency) (target : Nat) : State :=
  if e.target = target then s
  else
    let n : Emergency := { e with target := target }
    { s with alloc.ems := s.alloc.ems.map (fun (x : Emergency) => if x = e then n else x) }.budgetEvent n 1

/-- An emergency ends; its shares are dropped at the next round end. -/
def endEmergency (s : State) (e : Emergency) : State :=
  { s with alloc.ems := s.alloc.ems.map (fun (x : Emergency) => if x = e then { e with ended := true } else x) }.markEms.budgetEvent e 2

/-- POWER_EMERGENCY (Table 4.10) at its boundary. -/
def hostEmergency (s : State) (set : Bool) (quays : BitVec 6) (target : Nat) : State :=
  match s.alloc.ems.find? (fun (e : Emergency) => e.kind = EmKind.host && e.scope = quays && !e.ended) with
  | some e => if set then s.retarget e target else s.endEmergency e
  | none => if set then s.takeEmergency { kind := .host, scope := quays, target := target } else s

/-- The emergency of a kind and scope in force. -/
def emergencyOf (s : State) (k : EmKind) (sc : BitVec 6) : Option Emergency :=
  s.alloc.ems.find? (fun (e : Emergency) => e.kind = k && e.scope = sc && !e.ended)

/-- Replace an emergency without an event. -/
def putEm (s : State) (old new : Emergency) : State :=
  { s with alloc.ems := s.alloc.ems.map (fun (x : Emergency) => if x = old then new else x) }

/-- VIN_BUS droop of a quay at a round's end (Table 4.10): `low` below DROOP_V, `well` at or above DROOP_V + 0.5 V. -/
def droopRound (s : State) (q : QuayId) (low well : Bool) (sumD sumG : Nat) : State :=
  let sc : BitVec 6 := BitVec.ofNat 6 (2 ^ q.val)
  let n := if low then s.alloc.lowRounds[q] + 1 else 0
  let s := { s with alloc.lowRounds := s.alloc.lowRounds.set q n }
  match s.emergencyOf .droop sc with
  | none => if 2 ≤ n then s.takeEmergency { kind := .droop, scope := sc, target := max sumG (ceilDiv (80 * sumD) 100), base := sumD } else s
  | some e =>
    let r := if low then e.rounds + 1 else e.rounds
    let g := if well then e.good + 1 else 0
    let x : Emergency := { e with rounds := r, good := g }
    let s := s.putEm e x
    if 100 ≤ g then s.endEmergency x
    else s.retarget x (max sumG (ceilDiv ((80 - min 80 (8 * (r / 100))) * e.base) 100))

/-- Overdraw of the device at a round's end (Table 4.10): the source power of its `n` Tides, in mW, against the B_eff of that round. -/
def overdrawRound (s : State) (sum n : Nat) : State :=
  let most := 100 * n * s.alloc.bEff
  match s.emergencyOf .overdraw 0 with
  | none => if most < sum then s.takeEmergency { kind := .overdraw, scope := 0, target := s.alloc.bEff } else s
  | some e =>
    let x : Emergency := { e with good := if 100 * sum < 95 * most then e.good + 1 else 0 }
    let s := s.putEm e x
    if 1000 ≤ x.good then s.endEmergency x else s

/-- The target of an overdraw follows B_eff. -/
def overdrawTarget (s : State) : State := match s.emergencyOf .overdraw 0 with
  | some e => s.retarget e s.alloc.bEff
  | none => s

/-- The quay budget at a round's start (Table 4.10). -/
def quayRound (s : State) (q : QuayId) (sumD : Nat) : State :=
  let sc : BitVec 6 := BitVec.ofNat 6 (2 ^ q.val)
  let p := s.alloc.pq[q]
  match s.emergencyOf .quayBudget sc with
  | none => if p < sumD then s.takeEmergency { kind := .quayBudget, scope := sc, target := p } else s
  | some e => if 100 * sumD ≤ 95 * p then s.endEmergency e else s.retarget e p

/-! ### Round start (R138, R139) -/

/-- The device budget B (Table 4.8). -/
def budgetB (s : State) : Nat := s.alloc.budget.b.getD (75 * s.berthsOn)

/-- B_eff (R138): B, the member's aggregate capability, and any host emergency target of the device. -/
def bEffOf (s : State) : Nat :=
  s.alloc.ems.foldl (fun (m : Nat) (e : Emergency) => if e.kind = EmKind.host && e.scope = 0 && !e.ended then min m e.target else m)
    (min s.budgetB s.aggregate)

/-- T_q in 0.1 °C (Table 4.8): the hottest source berth of the quay; none without one. -/
def quayTemp (s : State) (q : QuayId) : Option Int :=
  (berthsOf q).foldl (fun (m : Option Int) (b : BerthId) =>
    if s.berths[b].cc.state = .attachedSrc then some (match m with
      | some t => max t s.berths[b].adc.temp
      | none => s.berths[b].adc.temp) else m) none

/-- P_q (R138): the quay budget after derating. -/
def quayBudget (s : State) (q : QuayId) : Nat :=
  let qb := 10 * s.alloc.budget.qb[q]
  match s.quayTemp q with
  | none => qb
  | some t =>
    let excess := (t - 10 * s.alloc.budget.tD).toNat
    if t ≤ 10 * s.alloc.budget.tD then qb else if 200 ≤ excess then qb / 4 else qb * (800 - 3 * excess) / 800

/-- The terms of a berth (R139, Table 4.12). -/
def termOf (s : State) (b : BerthId) : Term :=
  let x := s.berths[b]
  let e := s.env b
  let g := x.gmin e
  if b.val < s.berthsOn && x.enabled then
    let t : Term := { g := g, cls := x.cls e, t := e.tbl.pmax, vmax := x.vmaxFor s.alloc.vinLow[quayOf b] }
    if s.counts b then { t with live := true, hist := decide (1000 ≤ x.pol.history), cB := x.pol.cB, counted := x.pol.counted, c := max x.pol.cB g, d := max x.pol.counted g }
    else { t with cB := 75, counted := 75, c := max g 75, d := max g 75 }
  else {}

/-- A sum over the terms of the berths that a test picks. -/
def termSum (s : State) (p : BerthId → Bool) (f : Term → Nat) : Nat :=
  (List.finRange 48).foldl (fun (n : Nat) (b : BerthId) => if p b then n + f s.alloc.terms[b] else n) 0

/-- The sums of the round that ends close (R146): delivery in 0.1 W, VIN_BUS means and lows. -/
def closeRound (s : State) : State :=
  let a := s.alloc
  let n := a.tides
  let now : Vector Nat 6 := s.quays.map (·.vins)
  let a : Alloc :=
    if n = 0 then { a with vinMean := now, vinLow := now, lastDelivery := 0 }
    else { a with vinMean := a.vinSum.map (· / n), vinLow := a.vinMin, lastDelivery := a.delivery / (100 * n) }
  { s with alloc := { a with delivery := 0, vinSum := Vector.replicate 6 0, vinMin := Vector.replicate 6 0, tides := 0 } }

/-- Requests in the order of R142 within one class: by boundary of posting, then by berth. -/
def insertReq (x : BerthId × ReqRec) : List (BerthId × ReqRec) → List (BerthId × ReqRec)
  | [] => [x]
  | y :: r => if x.2.posted < y.2.posted || (x.2.posted = y.2.posted && x.1.val < y.1.val) then x :: y :: r else y :: insertReq x r

/-- The Requests posted by berths that are decided this round. -/
def sampleRequests (s : State) : List (BerthId × ReqRec) :=
  (List.finRange 48).foldl (fun (l : List (BerthId × ReqRec)) (b : BerthId) => match s.berths[b].pol.posted with
    | some r => if s.counts b then insertReq (b, r) l else l
    | none => l) []

/-- A latch that shows DROPOUT keeps the highest Tide average of VBR among those of the round (R235). -/
def noteDrop (x : Berth) : Berth :=
  if x.lat.regStatus.getLsbD 11 then { x with pol.dropV := some (max (x.pol.dropV.getD 0) x.adc.vbr) } else x

/-- One Tide enters the sums of the round (R146, R235): source power in mW, VIN_BUS, dropout. -/
def allocTide (s : State) : State :=
  let l := s.berths.map (fun (x : Berth) =>
    let x := noteDrop x
    if x.cc.state = .attachedSrc && 0 < x.adc.ipath then
      let p := x.adc.vbc * x.adc.ipath.toNat / 1000
      ({ x with pol.avg := match x.pol.avg with
                  | n :: r => (n + p) :: r
                  | [] => [p] }, p)
    else (x, 0))
  let a := s.alloc
  let v : Vector Nat 6 := s.quays.map (·.vins)
  let a : Alloc :=
    { a with delivery := l.foldl (fun (n : Nat) (x : Berth × Nat) => n + x.2) a.delivery
             vinSum := Vector.ofFn (fun (q : Fin 6) => a.vinSum[q] + v[q])
             vinMin := if a.tides = 0 then v else Vector.ofFn (fun (q : Fin 6) => min a.vinMin[q] v[q])
             tides := a.tides + 1 }
  { s with berths := l.map (·.1), alloc := a }

/-- ALLOCATION_ROUND_START: the allocator samples its inputs (R138), and emergencies that rounds show are taken and end. -/
def roundStart (s : State) : State :=
  if s.roundPhase ≠ 0 then s
  else
    let s := (s.overdrawRound s.alloc.delivery s.alloc.tides).closeRound
    let l := Vector.ofFn (fun (b : Fin 48) => if s.counts b then s.berths[b].roundTerms else { s.berths[b] with pol.history := 0 })
    let s := { s with berths := l }
    let s := { s with alloc.pq := Vector.ofFn (fun (q : Fin 6) => s.quayBudget q), alloc.bEff := s.bEffOf, alloc.k := s.alloc.budget.k
                      alloc.terms := Vector.ofFn (fun (b : Fin 48) => s.termOf b) }
    let s := (List.finRange 6).foldl (fun (s : State) (q : QuayId) =>
      if !s.quays[q].up || s.quays[q].hless then s
      else
        let sumD := s.termSum (fun b => quayOf b = q) Term.d
        let sumG := s.termSum (fun b => quayOf b = q) Term.g
        let v := s.alloc.vinMean[q]
        let low := v < 100 * s.alloc.budget.droopV
        (s.droopRound q low (100 * s.alloc.budget.droopV + 500 ≤ v) sumD sumG).quayRound q sumD) s
    let s := s.overdrawTarget
    let r := s.sampleRequests
    { s with alloc.requests := r, alloc.sampled := true
             berths := s.berths.map (fun (x : Berth) => { x with pol.posted := none }) }

/-! ### Shares (R147) -/

/-- A berth in scope with its share so far, its guarantee and its class. -/
structure ShareRow where
  b   : BerthId
  s   : Nat
  g   : Nat
  cls : Nat
  deriving DecidableEq, Repr

/-- The cuts of classes `p - 1` down to 0; the over that is left. -/
def cutFrom : Nat → List ShareRow → Nat → List ShareRow × Nat
  | 0, l, ex => (l, ex)
  | p + 1, l, ex =>
    if ex = 0 then (l, 0)
    else
      let room := l.foldl (fun (n : Nat) (x : ShareRow) => if x.cls = p then n + (x.s - x.g) else n) 0
      if ex ≤ room then
        (l.map (fun (x : ShareRow) => if x.cls = p then { x with s := x.s - (2 * (x.s - x.g) * ex + room) / (2 * room) } else x), 0)
      else cutFrom p (l.map (fun (x : ShareRow) => if x.cls = p then { x with s := x.g } else x)) (ex - room)

/-- The shares of an emergency (R147), over the berths of its scope that the round counts (Table 4.12). -/
def sharesOf (s : State) (e : Emergency) : List ShareRow :=
  let l : List ShareRow := ((List.finRange 48).filter (fun (b : BerthId) =>
    s.alloc.terms[b].live && (e.scope = 0 || e.scope.getLsbD (quayOf b).val))).map (fun (b : BerthId) =>
    { b := b, s := s.alloc.terms[b].d, g := s.alloc.terms[b].g, cls := s.alloc.terms[b].cls })
  let sum := l.foldl (fun (n : Nat) (x : ShareRow) => n + x.s) 0
  let r := cutFrom 8 l (sum - e.target)
  if r.2 = 0 then r.1
  else
    let g := l.foldl (fun (n : Nat) (x : ShareRow) => n + x.g) 0
    r.1.map (fun (x : ShareRow) => { x with s := x.g * e.target / max g 1 })

/-- The lowest share of each berth over the emergencies whose t1 has come (R146). -/
def shareTable (s : State) : Vector (Option Nat) 48 :=
  (s.alloc.ems.filter (fun (e : Emergency) => e.t1.isSome)).foldl (fun (v : Vector (Option Nat) 48) (e : Emergency) =>
    (s.sharesOf e).foldl (fun (v : Vector (Option Nat) 48) (x : ShareRow) =>
      v.set x.b (some (match v[x.b] with
        | some n => min n x.s
        | none => x.s))) v) (Vector.replicate 48 none)

/-! ### Decisions (R142) -/

/-- The headrooms. -/
structure Heads where
  hc : Int
  hd : Int
  hq : Vector Int 6
  deriving DecidableEq, Repr

/-- The headrooms at the start of the decisions (R139). -/
def headsOf (s : State) : Heads :=
  let sum (f : Term → Nat) : Nat := s.termSum (fun _ => true) f
  { hc := (s.alloc.k * s.alloc.bEff / 100 : Nat) - (sum Term.c : Int)
    hd := (s.alloc.bEff : Int) - (sum Term.d : Int)
    hq := Vector.ofFn (fun (q : Fin 6) => (s.alloc.pq[q] : Int) - (s.termSum (fun b => quayOf b = q) Term.d : Int)) }

/-- One remaining Request is decided. -/
def decideOne (s : State) (share : Vector (Option Nat) 48) (h : Heads) (b : BerthId) (r : ReqRec) : Bool × Heads :=
  let t := s.alloc.terms[b]
  let n := max r.power t.g
  let dc : Int := (n : Int) - (t.c : Int)
  let dd : Int := (n : Int) - (t.d : Int)
  let q := quayOf b
  let above := match share[b] with
    | some x => decide (x < r.power)
    | none => false
  if !above && dc ≤ h.hc && dd ≤ h.hd && dd ≤ h.hq[q] then
    (true, { hc := h.hc - dc, hd := h.hd - dd, hq := h.hq.set q (h.hq[q] - dd) })
  else (false, h)

/-- The decisions of a round, in the order of R142: equal or lower Requests first, then by class and posting order. -/
def decideRound (s : State) (share : Vector (Option Nat) 48) : List (BerthId × ReqRec × Bool) × Heads :=
  let low (x : BerthId × ReqRec) : Bool := decide (x.2.power ≤ s.alloc.terms[x.1].cB)
  let first := (s.alloc.requests.filter low).map (fun (x : BerthId × ReqRec) => (x.1, x.2, true))
  let rest := s.alloc.requests.filter (fun (x : BerthId × ReqRec) => !low x)
  let order := (List.range 8).flatMap (fun (p : Nat) => rest.filter (fun (x : BerthId × ReqRec) => s.alloc.terms[x.1].cls = p))
  order.foldl (fun (m : List (BerthId × ReqRec × Bool) × Heads) (x : BerthId × ReqRec) =>
    let d := s.decideOne share m.2 x.1 x.2
    (m.1 ++ [(x.1, x.2, d.1)], d.2)) (first, s.headsOf)

/-! ### The grant (R143–R145, R151) -/

/-- O_b (R144). -/
def offerOf (t : Term) (h : Heads) (q : QuayId) (share : Option Nat) : Nat := match share with
  | some s => s
  | none => min t.t (max ((t.c : Int) + min (min h.hc h.hd) h.hq[q]) (t.g : Int)).toNat

/-- OFFER_CHANGED (R145). -/
def offerMoved (x : Berth) (o cB : Nat) : Bool :=
  let d := if o < x.pol.capsOffer then x.pol.capsOffer - o else o - x.pol.capsOffer
  x.pol.capsOffer < 10 * d || x.pol.pdosMoved || o < cB

/-- The emergencies that apply to a berth. -/
def emsOf (s : State) (b : BerthId) : List Emergency :=
  s.alloc.ems.filter (fun (e : Emergency) => e.t1.isSome && !e.ended && s.inScope e.scope b)

/-- GRACE of an emergency in 10 ns (Table 4.10). -/
def graceOf (s : State) (e : Emergency) : Nat := if e.kind = EmKind.overdraw then 0 else ms (100 * s.alloc.budget.grace)

/-- HOLD_DUE and HR_DUE of the grant record (Tables 4.11, 4.14). -/
def dueFlags (s : State) (b : BerthId) (above : Bool) : Bool × Bool :=
  let past (more : Nat) : Bool := (s.emsOf b).any (fun (e : Emergency) => match e.t1 with
    | some t => decide (t * tideLen + s.graceOf e + more ≤ s.ticks * tideLen)
    | none => false)
  (above && past 0, above && past (ms (100 * s.alloc.budget.holdToHr)))

/-- The grant record (Table 4.14). -/
def grantBytes (x : Berth) (seq : Word) (tide : Nat) (counted flags : Nat) : List Byte :=
  leBytes 4 seq.toNat ++ leBytes 2 x.pol.offer ++ leBytes 2 (x.pol.share.getD 0xFFFF) ++ leBytes 2 (x.pol.vmax / 10) ++ leBytes 1 flags
    ++ [0] ++ leBytes 2 (fld x.id.grantRec 16 16) ++ leBytes 2 counted ++ leBytes 4 tide ++ List.replicate 12 0

/-- The grant reaches one berth: GRANT_SEQ, GRANT_REC, GRANT_CEIL and what the allocator keeps of it (R143). -/
def grantBerth (s : State) (seq : Word) (h : Heads) (share : Option Nat) (dec : Option (ReqRec × Bool)) (b : BerthId) : State :=
  let t := s.alloc.terms[b]
  let o := offerOf t h (quayOf b) share
  let above := match share with
    | some n => decide (n < t.cB)
    | none => false
  let due := s.dueFlags b above
  let ems := s.emApplies b
  let s := s.atBerth b (fun e x =>
    let x := x.setVmax e t.vmax
    let moved := offerMoved x o t.cB
    let x : Berth := { x with pol.offer := o, pol.share := share, pol.emerg := ems, pol.lastDecision := match dec with
                                | none => 0
                                | some (_, true) => 1
                                | some (_, false) => 2 }
    let raise : Option (Nat × Nat) := match dec with
      | some (r, true) => some (r.volt, r.curr)
      | _ => x.pol.reserved.map (fun (r : Nat × Nat × Nat) => (r.2.1, r.2.2))
    let rec_ := BitVec.ofNat 32 (1 + flag dec.isSome 1 + flag (x.pol.lastDecision = 1) 2 + flag moved 3
      + (match dec with
         | some (r, _) => r.reqSeq.toNat * 65536
         | none => 0))
    let x : Berth := { x with id.grantSeq := seq, id.grantTide := some e.tide, id.grantRec := rec_, id.grantCeil := x.grantCeilOf e raise }
    let x : Berth := match dec with
      | some (r, true) => if t.cB < r.power && r.epoch = x.id.epoch then
          { x with pol.reserved := some (r.power, r.volt, r.curr), tm.reserve := some (s.now + ms 2000), pol.history := 0 } else x
      | _ => x
    if !e.bp then x
    else if !ems && x.pol.lowered then x.restoreHold
    else if above && !x.pol.holdDue && x.tm.grace.isNone && x.tm.hold.isNone then
      let g := (s.emsOf b).foldl (fun (m : Nat) (y : Emergency) => min m (s.graceOf y)) (ms 5000)
      { x with tm.grace := some (s.now + g) }
    else x)
  let x := s.berths[b]
  match x.id.tug with
  | none => s
  | some k =>
    let flags := flag dec.isSome 0 + flag (x.pol.lastDecision = 1) 1 + flag (x.id.grantRec.getLsbD 3) 2 + flag share.isSome 3
      + flag due.1 4 + flag due.2 5 + flag x.pol.withdraw 6
    { (s.atTug k (fun (y : Tug) => { y with grantPend := true })) with
      mem := Memory.writeBytes s.mem (exchangeBase k) (grantBytes x seq s.tideCount t.counted flags) }

/-- GRANT_COMMIT at the round-end boundary (R143, R148 step 3 and 7); BP 4.0 answers it in the first Tide after. -/
def commitGrant (s : State) : State :=
  if !s.alloc.sampled || s.roundPhase ≠ 0 || s.alloc.tides = 0 then s
  else
    let live := (s.alloc.ems.filter (fun (e : Emergency) => !e.ended)).map (fun (e : Emergency) =>
      if e.t1.isNone && e.t0 < s.ticks then { e with t1 := some s.ticks } else e)
    let s := { s with alloc.ems := live }
    let share := s.shareTable
    let d := s.decideRound share
    let seq := s.alloc.grantSeq + 1
    let s := { s with alloc.grantSeq := seq, alloc.grantTide := s.tideCount, alloc.hc := d.2.hc, alloc.hd := d.2.hd, alloc.hq := d.2.hq
                      alloc.granted := s.alloc.terms, alloc.grantEff := s.alloc.bEff
                      alloc.grantK := s.alloc.k, alloc.grantPq := s.alloc.pq, alloc.requests := [], alloc.sampled := false }
    let s := (List.finRange 48).foldl (fun (s : State) (b : BerthId) =>
      if s.counts b && s.alloc.granted[b].live then
        s.grantBerth seq d.2 share[b] ((d.1.find? (fun (x : BerthId × ReqRec × Bool) => x.1 = b)).map (fun (x : BerthId × ReqRec × Bool) => x.2)) b
      else
        { s with berths := s.berths.set b { s.berths[b] with id.grantRec := 0, id.grantTide := none } }) s
    let s := s.atAll (fun e x => if e.bp && !e.hless && x.cc.release then (x.seeGrant e).writeFront e s.now else x)
    (List.finRange 48).foldl (fun (s : State) (b : BerthId) => match s.berths[b].id.tug with
      | some t => if s.runsBp b then s.ringPosts t b else s
      | none => s) s

end State

/-- GRANT_COMMIT (R143). -/
def execGrantCommit (s : State) : Host.Outcome State Fault Refusal := .next s.commitGrant

end Sys2Proof.Machine
end

