-- ==== Sys2Proof/Machine/Telemetry.lean ====
section
/-!
DEFINITION. Calibration of what the quays measure (R429–R432), Tide values, averaging filters and peaks (R330–R333), harbour
counters, energy and the checkpoint (R334–R338), capture rings (R340–R343) and the excerpts of fault records (R349, R350).
Roundings that no rule states are those of log entry 45.
-/

namespace Sys2Proof.Machine

/-! ### Calibration (R429, R430, R432) -/

/-- The nearest integer to `n / d`, halves away from zero. -/
def roundAway (n : Int) (d : Nat) : Int :=
  if 0 ≤ n then (2 * n + d) / (2 * d) else -((2 * (-n) + d) / (2 * d))

/-- R430 for one value: factory offset and gain code, user gain and offset, all in units of the raw value; the result in
steps of `unit`. -/
def calValue (raw oFac cGain : Int) (user : Nat × Int) (unit : Nat) : Int :=
  roundAway ((user.1 : Int) * (1024 + cGain) * (raw - oFac) - user.2 * 2 ^ 25) (2 ^ 25 * unit)

/-- A number limited to `[0, hi]`. -/
def limitNat (hi : Nat) (i : Int) : Nat := min hi i.toNat

/-- A number limited to `[-hi, hi]`. -/
def limitInt (hi : Nat) (i : Int) : Int := max (-(hi : Int)) (min hi i)

/-- A signed byte code of a fuse row. -/
def codeAt (w : Word) (lo : Nat) : Int := (BitVec.ofNat 8 (fld w lo 8)).toInt

/-- The bytes of a list from an offset as a number. -/
def leAt (l : List Byte) (o n : Nat) : Nat := leNat ((l.drop o).take n)

namespace State

/-- g_user in 1/32,768 and o_user of a channel of a unit (R432). -/
def glazeOf (s : State) (unit ch : Nat) : Nat × Int :=
  if s.glaze = [] then (32768, 0)
  else
    let n := leAt s.glaze 6 2
    match (List.range n).find? (fun (i : Nat) => leAt s.glaze (16 + 8 * i) 1 = unit && leAt s.glaze (17 + 8 * i) 1 = ch) with
    | some i => (leAt s.glaze (18 + 8 * i) 2, (BitVec.ofNat 16 (leAt s.glaze (20 + 8 * i) 2)).toInt)
    | none => (32768, 0)

/-- A sample set within the converters' ranges (Table 19.6): 61.44 V, and ±40.96 A, beyond which a current reads at the limit. -/
def setInRange (c : CapSet) : CapSet :=
  { c with vbc := min 61440 c.vbc, vbr := min 61440 c.vbr, cur := limitInt 40960 c.cur }

/-- What a berth's quay measured, within the converters' ranges (R495). -/
def converted (x : BerthSample) : BerthSample :=
  { x with vbc := min 61440 x.vbc, vbr := min 61440 x.vbr, ipath := limitInt 40960 x.ipath, tmon := min 2046 x.tmon
           sets := x.sets.map (fun (c : Option CapSet) => c.map setInRange) }

/-- What a berth's quay measured, calibrated: by the factory alone, or with Glaze (R430, R431). -/
def calBerth (s : State) (b : BerthId) (user : Bool) (raw : BerthSample) : BerthSample :=
  let x := converted raw
  let u (ch : Nat) : Nat × Int := if user then s.glazeOf b.val ch else (32768, 0)
  let r0 := s.fuse ⟨30 + 2 * b.val, by omega⟩
  let r1 := s.fuse ⟨31 + 2 * b.val, by omega⟩
  let vbc (v : Nat) : Int := calValue v (4 * codeAt r0 8) (codeAt r0 0) (u 0) 1
  let vbr (v : Nat) : Int := calValue v (4 * codeAt r0 24) (codeAt r0 16) (u 1) 1
  let ip (v : Int) (d : Nat) : Int := calValue v (5 * codeAt r1 8) (codeAt r1 0) (u 2) d
  let im (v : Int) (d : Nat) : Int := calValue v (5 * codeAt r1 24) (codeAt r1 16) (u 3) d
  let set (c : CapSet) : CapSet :=
    { vbc := limitNat 65534 (vbc c.vbc), vbr := limitNat 65534 (vbr c.vbr), cur := 2 * limitInt 32767 (ip c.cur 2)
      imon := 2 * limitInt 32767 (im c.imon 2) }
  { x with vbc := limitNat 65535 (vbc x.vbc), vbr := limitNat 65535 (vbr x.vbr), ipath := limitInt 32767 (ip x.ipath 1)
           imon := limitInt 32767 (im x.imon 1), cc1 := limitNat 65535 (calValue x.cc1 0 0 (u 4) 1)
           cc2 := limitNat 65535 (calValue x.cc2 0 0 (u 5) 1), vconnI := limitNat 65535 (calValue x.vconnI 0 0 (u 6) 1)
           tmon := limitNat 65535 (calValue x.tmon 0 0 (u 7) 1), sets := x.sets.map (fun (c : Option CapSet) => c.map set) }

/-- What a quay measured in common, calibrated; VINS in steps of 10 mV (Tables 15.7, 15.9). -/
def calQuay (s : State) (q : QuayId) (x : QuaySample) : QuaySample :=
  let r := s.fuse ⟨22 + q.val, by omega⟩
  let uv := s.glazeOf q.val 8
  { x with vins := 10 * limitNat 6553 (calValue (min 70000 x.vins : Nat) (50 * codeAt r 8) (codeAt r 0) (uv.1, 10 * uv.2) 10)
           snks := limitNat 65535 (calValue (min 61440 x.snks : Nat) (4 * codeAt r 24) (codeAt r 16) (s.glazeOf q.val 9) 1) }

end State

/-! ### Filters (R331–R333) -/

namespace Tele

/-- Tides of a segment, and the number of segments (R331). -/
def segTides (w : Nat) : Nat := ceilDiv (40 * w) 64
@[inherit_doc segTides] def segCount (w : Nat) : Nat := ceilDiv (40 * w) (segTides w)

/-- The peaks are reset (R333). -/
def resetPeaks (t : Tele) : Tele := { t with peaks := Vector.replicate 4 none }

/-- INVALID: fewer than S segments have completed, or a peak has no value yet (R332, R333). -/
def invalid (t : Tele) : Bool := decide (t.total < segCount t.window) || t.peaks.any (·.isNone)

/-- A sum over its count; 0 before the first value. -/
def mean (x : Int × Nat) : Int := if x.2 = 0 then 0 else roundAway x.1 x.2

/-- The sum of two sums. -/
def addSums (a b : Sums) : Sums := Vector.ofFn (fun (k : Fin 4) => (a[k].1 + b[k].1, a[k].2 + b[k].2))

/-- The Tide values of a boundary enter the filters and peaks (R330–R333): quantities VBUS, CURR, POWER, TEMP. -/
def count (t : Tele) (v : Vector (Option Int) 4) : Tele :=
  let seg : Sums := Vector.ofFn (fun (k : Fin 4) => match v[k] with
    | some x => (t.seg[k].1 + x, t.seg[k].2 + 1)
    | none => t.seg[k])
  let peak (k : Fin 4) : Option Int := match v[k], t.peaks[k] with
    | none, p => p
    | some x, none => some x
    | some x, some p => if k = 1 then (if p.natAbs < x.natAbs then some x else some p) else some (max p x)
  let t : Tele := { t with now := v, seg := seg, tides := t.tides + 1, peaks := Vector.ofFn peak }
  if t.total = 0 then { t with out := seg.map mean } else t

/-- A segment ends: the last S segments are published (R331; FILTER_SEGMENT_END). -/
def segmentEnd (t : Tele) : Tele :=
  if t.tides < segTides t.window then t
  else
    let l := (t.seg :: t.segs).take (segCount t.window)
    let sum := l.foldl addSums (Vector.replicate 4 (0, 0))
    { t with segs := l, total := t.total + 1, tides := 0, seg := Vector.replicate 4 (0, 0), out := sum.map mean }

end Tele

/-! ### Harbour counters (R334–R337) -/

namespace Counts

/-- More in one of the 32-bit counters: ATTACH, FAULT, HARD_RESET, TRIP; the event of its saturation. -/
def add (c : Counts) (k : Fin 4) (n : Nat) : Counts × List EvBody :=
  let v := min (2 ^ 32 - 1) (c.cnt[k].toNat + n)
  let new : Counts := { c with cnt := c.cnt.set k (BitVec.ofNat 32 v) }
  if v = 2 ^ 32 - 1 && c.cnt[k].toNat ≠ v then
    ({ new with ovf := new.ovf ||| BitVec.ofNat 6 (2 ^ (2 + k.val)) }, [.manifest 3 0 0xFFFF 0xFFFF (0x1002 + k.val)])
  else (new, [])

/-- The maximum of an energy counter in pJ. -/
def eMax : Nat := (2 ^ 64 - 1) * 1000000

/-- Energy of the capture sets (R336): out of the berth, then into it. -/
def addEnergy (c : Counts) (out inn : Nat) : Counts × List EvBody :=
  let o := min eMax (c.eOut + out)
  let i := min eMax (c.eIn + inn)
  let so := o = eMax && c.eOut ≠ eMax
  let si := i = eMax && c.eIn ≠ eMax
  ({ c with eOut := o, eIn := i, ovf := c.ovf ||| BitVec.ofNat 6 (flag so 0 + flag si 1) },
   (if so then [EvBody.manifest 3 0 0xFFFF 0xFFFF 0x1000] else []) ++ (if si then [.manifest 3 0 0xFFFF 0xFFFF 0x1001] else []))

/-- The 36 bytes that TEL_READ_SNAPSHOT and the checkpoint give of the counters: E_OUT, E_IN in µJ and the four others. -/
def bytes (c : Counts) : List Byte :=
  leBytes 8 (c.eOut / 1000000) ++ leBytes 8 (c.eIn / 1000000) ++ c.cnt.toList.flatMap (fun (w : Word) => leBytes 4 w.toNat)
    ++ leBytes 4 c.ovf.toNat

end Counts

/-- The counter's growth since the last latch; one that was cleared has counted since (R111). -/
def grown (old new : Word) : Nat := if old.toNat ≤ new.toNat then new.toNat - old.toNat else new.toNat

/-! ### The capture ring (R340–R342) -/

/-- Sets of a ring. -/
def ringSets : Nat := 24576

/-- The ring of a berth in Hold (Table 1.10). -/
def ringBase (b : BerthId) : Nat := 0x380000 + b.val * 0x30000

/-- A set as it stands in the ring (Table 12.3). -/
def setBytes : Option CapSet → List Byte
  | none => [0xFF, 0xFF, 0, 0, 0, 0, 0, 0]
  | some c => leBytes 2 c.vbc ++ leBytes 2 c.vbr ++ leBytes 2 (sgn 16 (c.cur / 2)) ++ leBytes 2 (sgn 16 (c.imon / 2))

namespace CapFrozen

/-- Sets of the frozen window. -/
def size (f : CapFrozen) : Nat := f.stop - f.first

/-- The ring index that follows `i` outside the window (R341). -/
def skip (f : CapFrozen) (i : Nat) : Nat :=
  let d := (i % ringSets + ringSets - f.first % ringSets) % ringSets
  if d < f.size then f.stop % ringSets else i % ringSets

/-- The ring index of the set of microsecond `m`, written while the window is frozen. -/
def place (f : CapFrozen) (m : Nat) : Nat :=
  let open_ := ringSets - f.size
  let start := (f.slot + ringSets - f.stop % ringSets) % ringSets
  (f.stop + (start + (m - f.from_)) % max open_ 1) % ringSets

end CapFrozen

namespace Tele

/-- The ring index at which the set of microsecond `m` stands (R341). -/
def indexOf (t : Tele) (m : Nat) : Nat := match t.frozen with
  | some f => if f.from_ ≤ m then f.place m else older t m
  | none => older t m
where
  /-- The index of a set written before the present freeze. -/
  older (t : Tele) (m : Nat) : Nat := match t.past with
    | some (f, till) => if f.from_ ≤ m && m < till then f.place m else m % ringSets
    | none => m % ringSets

/-- The window is released: writing returns to the rule of R341 from microsecond `m` on. -/
def releaseWindow (t : Tele) (m : Nat) : Tele := match t.frozen with
  | some f => { t with frozen := none, past := some (f, m) }
  | none => t

end Tele

namespace State

/-- The microsecond at which the present Tide began. -/
def usNow (s : State) : Nat := s.tb / 100

/-- A Hold bank that holds part of the berth's ring is fenced, so that the ring is not written (Table 16.3). -/
def ringOut (s : State) (b : BerthId) : Bool :=
  (List.range 8).any (fun (k : Nat) => s.repair.banks.getLsbD k && decide (ringBase b < (k + 1) * 0x200000) && decide (k * 0x200000 < ringBase b + 0x30000))

/-- The sets of a Tide that began at microsecond `m` are written to the ring (R340, R341). -/
def writeSets (s : State) (b : BerthId) (m : Nat) (l : List (Option CapSet)) : State :=
  let t := s.tele[b]
  if s.ringOut b then s
  else
    let one (mem : List Host.Cell) (i : Nat) (c : Option CapSet) : List Host.Cell :=
      Memory.setRange mem (ringBase b + 8 * t.indexOf (m + i)) 8 (setBytes c)
    let mem := ((List.range l.length).zip l).foldl (fun (mem : List Host.Cell) (x : Nat × Option CapSet) => one mem x.1 x.2) s.mem
    let w := 8 * t.indexOf (m + l.length)
    { s with mem := mem, tele := s.tele.set b { t with wptr := w }
             berths := s.berths.set b { s.berths[b] with lat.capWptr := BitVec.ofNat 32 w } }

/-- The 8 bytes of the set of microsecond `m`. -/
def ringRead (s : State) (b : BerthId) (m : Nat) : List Byte :=
  Memory.readBytes s.mem (ringBase b + 8 * s.tele[b].indexOf m) 8

/-- A set read back from the ring; none for one without a sample. -/
def setOfBytes (l : List Byte) : Option CapSet :=
  if leAt l 0 2 = 0xFFFF then none
  else some { vbc := leAt l 0 2, vbr := leAt l 2 2, cur := 2 * (BitVec.ofNat 16 (leAt l 4 2)).toInt
              imon := 2 * (BitVec.ofNat 16 (leAt l 6 2)).toInt }

/-- A coarse entry over sets of 10 µs (R349). -/
def coarse (l : List (Option CapSet)) : Option CapSet :=
  let x := l.filterMap id
  if x = [] then none
  else
    let n := x.length
    let sum (f : CapSet → Int) : Int := x.foldl (fun (a : Int) (c : CapSet) => a + f c) 0
    some { vbc := (roundAway (sum (fun c => c.vbc)) n).toNat, vbr := (roundAway (sum (fun c => c.vbr)) n).toNat
           cur := x.foldl (fun (a : Int) (c : CapSet) => if a.natAbs < c.cur.natAbs then c.cur else a) 0
           imon := 2 * roundAway (sum (fun c => c.imon / 2)) n }

/-- The excerpt's header fields and sets (R349, Table 12.5 from 0x210). -/
def excerpt (s : State) (b : BerthId) (stamp : Stamp) : List Byte :=
  let u := stamp / 100
  let sets (from_ n : Nat) : List (List Byte) := (List.range n).map (fun (i : Nat) => s.ringRead b (from_ + i))
  let fine := sets (u - 64) 128
  let cs := (List.range 300).map (fun (k : Nat) => (sets (u - 2000 + 10 * k) 10).map setOfBytes)
  let missing := (fine.map setOfBytes).any (·.isNone) || cs.any (fun (l : List (Option CapSet)) => l.any (·.isNone))
  let inWindow := match s.tele[b].frozen with
    | some f => decide (u - 2000 < f.stop ∧ f.first < u + 1000)
    | none => false
  leBytes 8 (100 * (u - 2000)) ++ leBytes 8 (100 * (u - 64)) ++ leBytes 2 300 ++ leBytes 2 128 ++ leBytes 2 (flag missing 0 + flag inWindow 1)
    ++ List.replicate 10 0 ++ fine.flatten ++ (cs.map (fun (l : List (Option CapSet)) => setBytes (coarse l))).flatten

/-- The excerpt of the berth's oldest waiting record is copied once 1 ms has passed since its stamp (FAULT_RECORD_CAPTURE; R349). -/
def takeExcerpt (s : State) (b : BerthId) : State :=
  match s.records.find? (fun (r : PendRec) => r.berth = b.val && !r.ready) with
  | none => s
  | some r =>
    if s.now < r.stamp + ms 1 then s
    else
      let x := if s.ringOut b then List.replicate 0xD80 0 else s.excerpt b r.stamp
      { s with records := s.records.map (fun (y : PendRec) => if y.seq = r.seq then { y with ready := true, excerpt := x } else y) }

/-- The record of the earliest stamp, once its excerpt is ready, is written and sealed (MANIFEST_RECORD_WRITE; R350, R351). -/
def writeRecord (s : State) : State :=
  let first := s.records.foldl (fun (m : Option PendRec) (r : PendRec) => match m with
    | none => some r
    | some x => if r.stamp < x.stamp then some r else some x) none
  match first with
  | none => s
  | some r =>
    if !r.ready then s
    else
      ({ s with records := s.records.filter (fun (y : PendRec) => y.seq ≠ r.seq) }).writeSlot r.slot r.seq
        (.record r.berth r.cause r.tide) (r.head ++ r.excerpt)

/-! ### One Tide of telemetry (R330–R338) -/

/-- The berth's snapshot reaches the harbour (R330, R340). -/
def heard (s : State) (b : BerthId) : Bool :=
  let q := s.quays[quayOf b]
  b.val < s.berthsOn && q.up && !q.hless && !q.retrain && !q.fenced && !s.berths[b].id.fenced && !s.berths[b].mon.parked

/-- The magnitude of the mean power of the sets, in 10 mW (Table 12.1). -/
def powerOfSets (l : List (Option CapSet)) : Option Int :=
  let x := l.filterMap id
  if x = [] then none
  else
    let sum := x.foldl (fun (a : Int) (c : CapSet) => a + c.vbc * c.cur) 0
    some (min 65535 (roundAway sum.natAbs (10000 * x.length)))

/-- The Tide values of a berth (Table 12.1). -/
def tideValues (x : Berth) (l : List (Option CapSet)) : Vector (Option Int) 4 :=
  let st (i : Nat) : Bool := x.adc.stale.getLsbD i
  #v[if st 0 then none else some (x.adc.vbc : Int), if st 2 then none else some x.adc.ipath,
     if st 0 || st 2 then none else powerOfSets l, if st 7 then none else some (limitInt 32767 x.adc.temp)]

/-- The berth-window counters from which the harbour counters grow. -/
def windowCounts (x : Berth) : Vector Word 5 := #v[x.cc.cntAttach, x.phy.cnt[3], x.phy.cnt[4], 0, 0]

/-- Telemetry of one berth at the boundary that ends a Tide begun at stamp `from_` (R330, R334, R336). -/
def telBerth (s : State) (b : BerthId) (from_ : Stamp) (l : List (Option CapSet)) : State :=
  let x := s.berths[b]
  let t := s.tele[b]
  if !s.heard b then s.atTele b (fun t => t.count (Vector.replicate 4 none))
  else
    let v := windowCounts x
    let out := l.foldl (fun (n : Nat) (c : Option CapSet) => match c with
      | some y => n + y.vbc * y.cur.toNat
      | none => n) 0
    let inn := l.foldl (fun (n : Nat) (c : Option CapSet) => match c with
      | some y => n + y.vbc * (-y.cur).toNat
      | none => n) 0
    let a := t.counts.addEnergy out inn
    let c0 := a.1.add 0 (grown t.prev[0] v[0])
    let c1 := c0.1.add 1 t.newFaults
    let c2 := c1.1.add 2 (grown t.prev[1] v[1] + grown t.prev[2] v[2])
    let c3 := c2.1.add 3 (x.path.trips.countP (fun (p : Stamp) => decide (from_ ≤ p)))
    let s := s.atTele b (fun t => { t.count (tideValues x l) with counts := c3.1, prev := v, newFaults := 0 })
    (a.2 ++ c0.2 ++ c1.2 ++ c2.2 ++ c3.2).foldl (fun (s : State) (e : EvBody) => s.devEvent e b.val) s

/-- The checkpoint of a boundary (R337): the copies are written alternately. -/
def checkpoint (s : State) : State :=
  let c : Checkpoint := { tide := s.tideCount, berths := s.tele.map (·.counts) }
  if s.ticks % 2 = 0 then { s with retained.check := s.retained.check.set 0 (some c) }
  else { s with retained.check := s.retained.check.set 1 (some c) }

/-- Snapshots whose boundary this is take the counters (R338). -/
def takeSnaps (s : State) : State :=
  { s with snaps := s.snaps.map (fun (x : Snap) =>
      if !x.taken && x.tide = s.tideCount then { x with taken := true, vals := s.tele.toList.map (·.counts) } else x) }

/-- The response to TEL_SNAPSHOT (Table 11.13). -/
def snapBody (x : Snap) : List Byte := leBytes 1 x.id ++ [0] ++ leBytes 6 x.tide

/-- A snapshot is complete: the commands that wait for it have their answer (SNAPSHOT_COMPLETE; R338). -/
def snapDone (s : State) (n : Nat) : State := match s.snaps[n]? with
  | none => s
  | some x =>
    if !x.taken then s
    else
      let l := s.snaps.map (fun (y : Snap) => if y.id = x.id then { y with pendingFor := [] } else y)
      x.pendingFor.foldl (fun (s : State) (o : Origin) => s.respond o 0x0502 .ok (snapBody x)) { s with snaps := l }

/-! ### Capture (R342) -/

/-- The first microsecond of the window of a stamp. -/
def capFirst (t pre : Nat) : Nat := t / 100 - 100 * pre

/-- The set of the window's last microsecond has been written: the window freezes (CAPTURE_FREEZE). -/
def capFreeze (s : State) (b : BerthId) : State := match s.tele[b].arm with
  | none => s
  | some a => match a.stamp with
    | none => s
    | some t =>
      let first := capFirst t a.pre
      let stop := first + 100 * (a.pre + a.post)
      if s.usNow < stop then s
      else
        let f : CapFrozen := { first := first, stop := stop, from_ := s.usNow, slot := s.usNow % ringSets }
        let f : CapFrozen := { f with slot := f.skip f.slot }
        (s.atTele b (fun x => { x with arm := none, frozen := some f })).respond a.origin 0x0604 .ok (leBytes 8 t ++ leBytes 8 (100 * first))

/-- No trigger came within TIMEOUT (CAPTURE_TIMEOUT). -/
def capTimeout (s : State) (b : BerthId) : State := match s.tele[b].arm with
  | none => s
  | some a =>
    if a.stamp.isSome || a.until_.isNone then s
    else (s.atTele b (fun x => { x with arm := none })).respond a.origin 0x0604 .timeout

end State

/-- SNAPSHOT_COMPLETE (R338). -/
def execSnapshotComplete (n : Fin 4) (s : State) : Host.Outcome State Fault Refusal := .next (s.snapDone n.val)

/-- FILTER_SEGMENT_END (R331, R332). -/
def execFilterSegmentEnd (b : BerthId) (s : State) : Host.Outcome State Fault Refusal := .next (s.atTele b (fun t => t.segmentEnd))

/-- CAPTURE_TRIGGER (R342). -/
def execCaptureTrigger (b : BerthId) (at_ : Stamp) (s : State) : Host.Outcome State Fault Refusal := .next (s.capTrigger b at_)

/-- CAPTURE_FREEZE (R342). -/
def execCaptureFreeze (b : BerthId) (s : State) : Host.Outcome State Fault Refusal := .next (s.capFreeze b)

/-- CAPTURE_TIMEOUT (R342). -/
def execCaptureTimeout (b : BerthId) (s : State) : Host.Outcome State Fault Refusal := .next (s.capTimeout b)

/-- FAULT_RECORD_CAPTURE (R349). -/
def execFaultRecordCapture (b : BerthId) (s : State) : Host.Outcome State Fault Refusal := .next (s.takeExcerpt b)

/-- MANIFEST_RECORD_WRITE (R350). -/
def execManifestRecordWrite (s : State) : Host.Outcome State Fault Refusal := .next s.writeRecord

end Sys2Proof.Machine
end

