-- ==== Sys2Proof/Machine/Tables.lean ====
section
/-!
DEFINITION. Policy tables as bytes (R117, R120, R121), the guaranteed-minimum rule (R141), bindings (R119), persistence
(R118, R353), and the changes that a round boundary applies.
-/

namespace Sys2Proof.Machine

/-- A list with bytes placed at an offset; a gap before it holds zeros. -/
def splice (l : List Byte) (o : Nat) (x : List Byte) : List Byte :=
  (l ++ List.replicate (o - l.length) 0).take o ++ x ++ l.drop (o + x.length)

/-- The pieces of `k` bytes of a list, `n` of them. -/
def pieces (k : Nat) : Nat → List Byte → List (List Byte)
  | 0, _ => []
  | n + 1, l => l.take k :: pieces k n (l.drop k)

/-! ### Entries (Tables 4.2–4.5) -/

/-- A template entry (Table 4.2). -/
def Template.ofBytes (l : List Byte) : Template :=
  { kind := leAt l 0 1, vlo := leAt l 2 2, vhi := leAt l 4 2, imax := leAt l 6 1, imin := leAt l 7 1 }

/-- The voltages of a kind (Table 4.3, R121). -/
def Template.voltOk (x : Template) : Bool := match x.kind with
  | 0 => x.vhi = x.vlo && (x.vlo = 500 || x.vlo = 900 || x.vlo = 1500 || x.vlo = 2000)
  | 1 => 330 ≤ x.vlo && x.vlo ≤ x.vhi && x.vhi ≤ 2100 && x.vlo % 10 = 0 && x.vhi % 10 = 0
  | 2 => x.vlo = 900 && (x.vhi = 1500 || x.vhi = 2000)
  | 3 => x.vhi = x.vlo && (x.vlo = 2800 || x.vlo = 3600 || x.vlo = 4800)
  | 4 => 1500 ≤ x.vlo && x.vlo ≤ x.vhi && x.vhi ≤ 4800 && x.vlo % 10 = 0 && x.vhi % 10 = 0
  | _ => false

/-- A template by itself. -/
def Template.ok (x : Template) : Bool := x.voltOk && 1 ≤ x.imax && x.imax ≤ 100 && x.imin ≤ x.imax

/-- Two templates stand in the order of R121: by kind, fixed ones by rising voltage, no kind of AVS twice. -/
def Template.before (x y : Template) : Bool :=
  x.kind < y.kind || (x.kind = y.kind && (if x.kind = 1 then true else if x.kind = 0 || x.kind = 3 then x.vlo < y.vlo else false))

/-- Every neighbouring pair of a list stands in order. -/
def orderedBy (f : Template → Template → Bool) : List Template → Bool
  | x :: y :: r => f x y && orderedBy f (y :: r)
  | _ => true

/-- A section of templates (R121). -/
def templatesOk (l : List Template) : Bool :=
  l.all Template.ok && orderedBy Template.before l && decide ((l.filter (fun x => !x.isEpr)).length ≤ 7)
    && decide ((l.filter (fun x => x.isEpr)).length ≤ 4)

/-- An accept rule (Table 4.4). -/
def AcceptRule.ofBytes (l : List Byte) : AcceptRule :=
  { pos := BitVec.ofNat 16 (leAt l 0 2), plo := leAt l 2 2, phi := leAt l 4 2, cond := BitVec.ofNat 8 (leAt l 6 1), action := leAt l 7 1 }

/-- A swap rule (Table 4.5). -/
def SwapRule.ofBytes (l : List Byte) : SwapRule :=
  { kind := leAt l 0 1, from_ := BitVec.ofNat 8 (leAt l 1 1), cond := BitVec.ofNat 8 (leAt l 2 1), action := leAt l 3 1 }

/-- A mode rule (Table 4.5). -/
def ModeRule.ofBytes (l : List Byte) : ModeRule :=
  { svid := BitVec.ofNat 16 (leAt l 0 2), mode := leAt l 2 1, action := leAt l 3 1, mux := BitVec.ofNat 3 (leAt l 4 1)
    sbu := BitVec.ofNat 2 (leAt l 5 1) }

/-- A mode rule's bytes hold no reserved code. -/
def modeBytesOk (l : List Byte) : Bool :=
  leAt l 2 1 ≤ 7 && leAt l 3 1 ≤ 4 && leAt l 4 1 ≤ 7 && leAt l 5 1 ≤ 3 && leAt l 6 2 = 0

/-! ### Tables (Table 4.1, R120, R121) -/

/-- The sections of a table: source templates, sink templates, accept, swap and mode rules, as their bytes. -/
structure Sections where
  src  : List (List Byte)
  snk  : List (List Byte)
  acc  : List (List Byte)
  swp  : List (List Byte)
  mode : List (List Byte)
  deriving DecidableEq, Repr

/-- The sections of a table's bytes. -/
def sectionsOf (l : List Byte) : Sections :=
  let n (o : Nat) : Nat := min 64 (leAt l o 1)
  let o1 := 32 + 8 * n 0x14
  let o2 := o1 + 8 * n 0x15
  let o3 := o2 + 8 * n 0x16
  let o4 := o3 + 4 * n 0x17
  { src := pieces 8 (n 0x14) (l.drop 32), snk := pieces 8 (n 0x15) (l.drop o1), acc := pieces 8 (n 0x16) (l.drop o2)
    swp := pieces 4 (n 0x17) (l.drop o3), mode := pieces 8 (n 0x18) (l.drop o4) }

/-- The table that bytes spell. -/
def PolicyTable.ofBytes (l : List Byte) : PolicyTable :=
  let x := sectionsOf l
  { role := BitVec.ofNat 8 (leAt l 6 1), flags := BitVec.ofNat 8 (leAt l 7 1), cls := leAt l 8 1, decWindow := leAt l 9 1
    waitLimit := leAt l 10 1, gmin := leAt l 0xC 2, pmax := leAt l 0xE 2, defaults := BitVec.ofNat 32 (leAt l 0x10 4)
    src := x.src.map Template.ofBytes, snk := x.snk.map Template.ofBytes, acc := x.acc.map AcceptRule.ofBytes
    swp := x.swp.map SwapRule.ofBytes, mode := x.mode.map ModeRule.ofBytes }

/-- The header of a table's bytes is in order (Table 4.1); a TABLE_ID other than the command's makes it invalid (log entry 46). -/
def headerOk (l : List Byte) (id : Nat) (epr : Bool) : Bool :=
  let ns := leAt l 0x14 1
  let nk := leAt l 0x15 1
  let na := leAt l 0x16 1
  let nw := leAt l 0x17 1
  let nm := leAt l 0x18 1
  let dflt := BitVec.ofNat 32 (leAt l 0x10 4)
  leAt l 0 2 = 0x5054 && leAt l 2 1 = 4 && leAt l 3 1 = id && leAt l 4 2 = 32 + 8 * (ns + nk + na + nm) + 4 * nw && leAt l 4 2 ≤ 4096
    && leAt l 6 1 < 64 && leAt l 6 1 % 4 ≠ 3 && leAt l 6 1 / 4 % 4 ≠ 3 && leAt l 6 1 / 16 ≠ 3 && leAt l 7 1 < 8 && leAt l 8 1 ≤ 7
    && 20 ≤ leAt l 9 1 && leAt l 9 1 ≤ 90 && 1 ≤ leAt l 10 1 && leAt l 10 1 ≤ 15 && leAt l 11 1 = 0
    && leAt l 0xC 2 ≤ 2400 && 25 ≤ leAt l 0xE 2 && leAt l 0xE 2 ≤ (if epr then 2400 else 1000)
    && (List.range 6).all (fun (k : Nat) => fld dflt (4 * k) 4 ≤ 1) && fld dflt 24 8 = 0
    && 1 ≤ ns && ns ≤ 11 && nk ≤ 11 && na ≤ 64 && nw ≤ 16 && nm ≤ 32 && leAt l 0x19 3 = 0

/-- The sections of a table's bytes are in order (R120, R121). -/
def bodyOk (l : List Byte) : Bool :=
  let x := sectionsOf l
  let t := PolicyTable.ofBytes l
  (x.src ++ x.snk).all (fun (y : List Byte) => leAt y 1 1 = 0) && templatesOk t.src && templatesOk t.snk
    && (match t.src.head? with
        | some y => y.kind = 0 && y.vlo = 500
        | none => false)
    && t.acc.all (fun r => r.cond.toNat < 16 && r.action ≤ 2)
    && t.swp.all (fun r => r.kind ≤ 3 && 1 ≤ r.from_.toNat && r.from_.toNat ≤ 3 && r.cond.toNat < 16 && r.action ≤ 3)
    && x.mode.all modeBytesOk

/-- The CRC of a table's bytes (R117 step 1). -/
def tableCrcOk (l : List Byte) : Bool :=
  let n := min 4096 (leAt l 4 2)
  let x := (splice (l.take n ++ List.replicate (n - l.length) 0) 0x1C [0, 0, 0, 0]).take n
  leAt l 0x1C 4 = (crc32 x).toNat

namespace State

/-! ### The guaranteed-minimum rule (R141) -/

/-- The sum of G_b over the berths that the member enables and that are not Disabled. -/
def gminSum (s : State) (g : BerthId → Nat) (on : BerthId → Bool) : Nat :=
  (List.finRange 48).foldl (fun (n : Nat) (b : BerthId) => if b.val < s.berthsOn && on b then n + g b else n) 0

/-- G_b under the present binding and overrides. -/
def gminOf (s : State) (b : BerthId) : Nat := s.berths[b].gmin (s.env b)

/-- G_b of a berth once bound to a table. -/
def gminBound (s : State) (id : Nat) : Nat :=
  if id = 0 then PolicyTable.builtin.gmin
  else match (s.tables[id]?).bind (·.tbl) with
    | some t => t.gmin
    | none => PolicyTable.builtin.gmin

/-- The rule holds (R141). -/
def gminFits (s : State) (g : BerthId → Nat) (on : BerthId → Bool) (b : Nat) : Bool := decide (s.gminSum g on ≤ b)

/-! ### Bindings (R119) -/

/-- A template covers a contract. -/
def covers (c : Contract) (x : Template) : Bool :=
  (if x.kind = 0 || x.kind = 3 then !c.apdo else c.apdo && (x.kind = 1) = c.pps) && x.vlo ≤ c.volt && c.volt ≤ x.vhi && c.curr ≤ 5 * x.imax

/-- A table could have produced a contract (R119). -/
def couldMake (t : PolicyTable) (c : Contract) (epr : Bool) : Bool :=
  if c.source then t.src.any (covers c) && (!epr || t.flags.getLsbD 0)
  else t.snk.any (covers c) && powerOf c.volt c.curr ≤ t.pmax && (!epr || t.flags.getLsbD 1)

/-- A sink berth asks anew under its new table, from the partner's latest capabilities, after the round's grant (R119). -/
def requestAnew (x : Berth) (e : Env) (t : Stamp) : Berth :=
  let r := x.sinkRequest e x.pol.partnerCaps
  let x : Berth := { x with pol.want := some (x.contractOf r.2 r.1 false) }
  let m := if x.id.eprMode then mkTx .sop tmrSender dataEprRequest [r.1, r.2] else mkTx .sop tmrSender dataRequest [r.1]
  x.will { tx := some m, kind := kGrant, mask := 1, amsOpen := true, amsInit := true, waitAms := true, after := t + ms 1 }

/-- A berth takes up a binding at a round boundary in place of a table: its role fields are written to CC_CFG, overrides end, an AMS
that is open keeps the old rules, and a contract that the table could not have produced is negotiated anew, outside EPR mode where the
table no longer allows that (R119). -/
def takeTable (x : Berth) (e : Env) (old : PolicyTable) (t : Stamp) : Berth :=
  let open_ := x.id.amsActive || x.pol.todo.any (fun (i : Intent) => i.amsOpen)
  let x : Berth := { x with pol.amsTbl := if open_ then some (x.pol.amsTbl.getD old) else none }
  let x := x.ccCfgWrite (setFld (x.cc.heldCfg.getD x.cc.cfg) 0 6 (e.tbl.role.toNat % 64))
  let x : Berth := { x with pol.clsOver := none, pol.gminOver := none }
  match x.id.contract with
  | none => x
  | some c =>
    if !e.bp || couldMake e.tbl c x.id.eprMode then x
    else if c.source then { x with pol.capsDue := true, pol.capsAfter := max x.pol.capsAfter (t + ms 1) }
    else if x.pol.partnerCaps = [] then x
    else if x.id.eprMode && !e.tbl.flags.getLsbD 1 then
      let y := requestAnew { x.eprExit with id.eprMode := false } e t
      { y with id.eprMode := true }
    else requestAnew x e t

/-- Berths are bound to a table; `was` is the state before the table itself changed. -/
def bindTable (s was : State) (id : Nat) (l : List BerthId) : State :=
  l.foldl (fun (s : State) (b : BerthId) =>
    (s.atBerth b (fun _ x => { x with pol.table := id })).atBerth b (fun e x => takeTable x e (was.env b).tbl s.now)) s

/-! ### Persistence (R118, R353) -/

/-- The sealed version of an item with the latest RECORD_SEQ (R353). -/
def governing (s : State) (p : ManItem → Bool) : Option ManSlot :=
  (s.man.filter (fun (m : ManSlot) => m.sealed && p m.item)).foldl (fun (x : Option ManSlot) (m : ManSlot) => match x with
    | none => some m
    | some y => if laterSeq m.seq y.seq then some m else x) none

/-- The tables that persist. -/
def persisted (s : State) (id : Nat) : Bool := (s.governing (fun i => i = .policy id)).isSome

/-- The bindings that persist, one table per berth. -/
def savedBindings (s : State) : List Nat := match s.governing (fun i => match i with
    | .bindings _ => true
    | _ => false) with
  | some { item := .bindings l, .. } => l
  | _ => List.replicate 48 0

/-- An item is a policy table. -/
def isPolicy (i : ManItem) : Bool := match i with
  | .policy _ => true
  | _ => false

/-- Persist a table (R118): at most 32. -/
def saveTable (s : State) (id : Nat) (raw : List Byte) : Bool × State :=
  let n := ((List.range 64).filter (fun (k : Nat) => k ≠ id && s.persisted k)).length
  if 32 ≤ n then (false, s) else s.writeVersion 3 (.policy id) (fun i => i = .policy id) raw

/-- Persist bindings of the berths of a set. -/
def saveBindings (s : State) (id : Nat) (m : BitVec 48) : Bool × State :=
  let l := (List.range 48).map (fun (b : Nat) => if m.getLsbD b then id else (s.savedBindings[b]?).getD 0)
  s.writeVersion 3 (.bindings l) (fun i => match i with
    | .bindings _ => true
    | _ => false) (l.map (fun (n : Nat) => BitVec.ofNat 8 n))

/-- Persist the budget settings. -/
def saveBudget (s : State) (x : Budget) : Bool × State :=
  s.writeVersion 3 (.budget x) (fun i => match i with
    | .budget _ => true
    | _ => false) []

/-- Persist one DEV_CONFIG item (R319). -/
def saveConfig (s : State) (id : Nat) (v : List Byte) : Bool × State :=
  s.writeVersion 3 (.config id v) (fun i => match i with
    | .config k _ => k = id
    | _ => false) v

/-! ### Changes at a round boundary -/

/-- A checked table becomes current, and every berth bound to it is bound anew (R117, R119). -/
def tableCurrent (s : State) (id : Nat) (raw : List Byte) (t : PolicyTable) (o : Origin) : State :=
  if h : id < 64 then
    let slot : PolSlot := { s.tables[id] with raw := raw, tbl := some t }
    let was := s
    let s := { s with tables := s.tables.set id slot }
    (s.bindTable was id ((List.finRange 48).filter (fun b => s.berths[b].pol.table = id))).respond o 0x0301 .ok
  else s

/-- One change of the allocator's inputs or of the tables, at the boundary that begins a round. -/
def roundChange (s : State) (l : Later) : State := match l with
  | .policy id raw t o => s.tableCurrent id raw t o
  | .bind id m _ o => (s.bindTable s id (setOf m)).jobAll o m .ok
  | .budget x _ o => { s with alloc.budget := x }.respond o 0x0401 .ok
  | .priority b c g o =>
    (s.atBerth b (fun _ x => { x with pol.clsOver := some c, pol.gminOver := some g })).respond o 0x0402 .ok
  | _ => s

/-- The changes that wait for a round boundary are applied in order. -/
def roundChanges (s : State) : State := s.rounds.foldl roundChange { s with rounds := [] }

/-- The budget, tables and bindings as they will stand once the changes already accepted have applied (R141). -/
def ahead (s : State) : State := s.roundChanges

end State

end Sys2Proof.Machine
end

