-- ==== Sys2Proof/Machine/Supply.lean ====
section
/-!
DEFINITION. Supplies, resets and start-up (R378–R408), the Harbourmaster's cores (R448–R450) and device time (R407).
-/

namespace Sys2Proof.Machine

namespace State

/-! ### RESET_REPORT (R387, Table 11.14) and the reset history (Table 14.9) -/

/-- One more entry of the reset history, of which 16 are kept. -/
def pushHistory (s : State) (cause scope core : Nat) : State :=
  let l := s.retained.history ++ [(s.tideCount, cause, scope, core, s.time)]
  { s with retained.history := l.drop (l.length - 16) }

/-- RESET_REPORT of a quay, gangway or link reset (SCOPE 1–3). -/
def partReport (s : State) (cause scope index : Nat) : State :=
  (s.pushHistory cause scope index).devEvent
    (.resetReport cause scope index (flag s.retValid 0 + flag s.bkpValid 2) 0 0 s.retained.backup[0].toNat 0)

/-! ### Resets (R387–R391) -/

/-- A berth after a device reset: what a berth reset keeps, without what ran on it. -/
def berthAfterDevice (x : Berth) (lost : Bool) : Berth :=
  let y : Berth := { x.afterReset with enabled := true, id.tug := none, pol := {}, evOut := [], faults := [], done := [] }
  if lost then y.lostDomain else y

/-- The pin-map states of the Brittle shadow take their balls (R403, Table 15.6); without a shadow the balls are pulled
(Table 14.8). -/
def takePins (s : State) : State :=
  let code (r : Fin 256) (lo n : Nat) : Nat := if s.pinsShown then fld (s.fuse r) lo n else 0
  { s with pinmap := Vector.ofFn (fun (k : Fin 20) => BitVec.ofNat 3 (code ⟨138 + k.val / 10, by omega⟩ (3 * (k.val % 10)) 3))
           muxmap := Vector.ofFn (fun (b : Fin 48) => BitVec.ofNat 9 (code ⟨140 + b.val / 3, by omega⟩ (9 * (b.val % 3)) 9)) }

/-- A device reset (R391): Hold and Tug memory cleared, all quays and berths reset; the Manifest, the retained domain, the
fuses and the fences stay. -/
def deviceReset (s : State) (cause : BitVec 8) : State :=
  let s := s.pushHistory cause.toNat 0 (if s.harbour.coreB then 1 else 0)
  let ret : Retained :=
    if s.retained.valid then
      { s.retained with backup := (s.retained.backup.set 0 (s.retained.backup[0] + 1)).set 1 (BitVec.ofNat 32 cause.toNat) }
    else s.retained
  { ({ brittle := { s.brittle with loaded := false } } : State) with
    pending := s.pending, man := s.man, retained := ret, supplies := s.supplies, jtag := s.jtag
    repair := { s.repair with corrected := 0, moorMiss := 0 }
    berths := Vector.ofFn (fun (b : Fin 48) => berthAfterDevice s.berths[b] (!s.supplies.vq5.getLsbD (quayOf b)))
    quays := s.quays.map (fun (x : Quay) => { fenced := x.fenced, gwFenced := x.gwFenced, removed := x.removed, thermal := x.thermal, row := x.row })
    tugs := s.tugs.map (fun (x : Tug) => { fenced := x.fenced })
    resetCause := cause, wdogCore := s.wdogCore, porDue := s.porDue, hot := s.hot, diePeak := s.diePeak
    freeCtr := s.freeCtr, pinsShown := s.supplies.vaon && s.pinsShown }.takePins

/-- The device is held in reset: a supply is out or the harbour die is hot. -/
def inReset (s : State) : Bool := s.porDue.isSome || s.hot

/-- A detector's falling and rising thresholds in mV and the filter times before each counts, in ns (Table 14.2). -/
structure Detector where
  fall   : Nat
  rise   : Nat
  fallNs : Nat
  riseNs : Nat

/-- The detector of a supply; VIO in its 1.8 V range or not. -/
def detector (vio18 : Bool) : Supply → Detector
  | .vaon => { fall := 2900, rise := 3000, fallNs := 2000, riseNs := 2000 }
  | .vcore => { fall := 720, rise := 750, fallNs := 1000, riseNs := 1000 }
  | .vio => if vio18 then { fall := 1600, rise := 1650, fallNs := 2000, riseNs := 2000 } else { fall := 2900, rise := 3000, fallNs := 2000, riseNs := 2000 }
  | .vq5 _ => { fall := 4400, rise := 4550, fallNs := 5000, riseNs := 5000 }
  | .vconnIn _ => { fall := 4600, rise := 4800, fallNs := 0, riseNs := 10000000 }
  | .vfuse => { fall := 2300, rise := 2375, fallNs := 10000, riseNs := 10000 }
  | .vbak => { fall := 1600, rise := 1700, fallNs := 10000, riseNs := 10000 }

/-- A supply has stayed above its rising threshold for its filter time (R380); a rising VIO is of the range that its voltage
shows. -/
def risen (k : Supply) (mv heldNs : Nat) : Bool :=
  let d := detector (decide (mv < 2400)) k
  decide (d.rise < mv) && decide (d.riseNs ≤ heldNs)

/-- A supply has stayed below its falling threshold for its filter time (R380). -/
def fallen (s : State) (k : Supply) (mv heldNs : Nat) : Bool :=
  let d := detector s.supplies.vio18 k
  decide (mv < d.fall) && decide (d.fallNs ≤ heldNs)

/-- A supply becomes valid (SUPPLY_VALID; R380): a quay's VQ5 lets it read its dead-battery row (R64), VCONN_IN takes VCONN
back (R62). -/
def supplyValid (s : State) (k : Supply) : State := match k with
  | .vaon => { s with supplies.vaon := true }
  | .vcore => { s with supplies.vcore := true }
  | .vio => { s with supplies.vio := true }
  | .vfuse => { s with supplies.vfuse := true }
  | .vbak => { s with supplies.vbak := true }
  | .vq5 q =>
    if s.supplies.vq5.getLsbD q then s
    else
      let s := { s with supplies.vq5 := s.supplies.vq5 ||| BitVec.ofNat 6 (2 ^ q.val) }
      let one (s : State) (i : Fin 8) : State :=
        let b : BerthId := ⟨8 * q.val + i.val, by omega⟩
        let on := s.quays[q].row.getLsbD i
        { s with berths := s.berths.set b { s.berths[b] with cc.dbSel := on, cc.dbRd := on } }
      (List.finRange 8).foldl one s
  | .vconnIn q =>
    let s := { s with supplies.vconn := s.supplies.vconn ||| BitVec.ofNat 6 (2 ^ q.val) }
    if s.quays[q].up then s.vconnSupply q false else s

/-- The retained domain loses its supply: everything in it is lost (R402, R404). -/
def loseRetained (s : State) : State := { s with retained := {}, supplies.vbak := false }

/-- A harbour supply fails: device reset, held until all three are valid (R379, R387, R390). -/
def harbourOut (s : State) (cause : BitVec 8) : State :=
  match s.porDue with
  | some c => { s with porDue := some (if cause < c then cause else c) }
  | none => { s.deviceReset cause with porDue := some cause }

/-- A supply stops being valid at a stamp (SUPPLY_INVALID; Table 14.2). -/
def supplyInvalid (s : State) (k : Supply) : State := match k with
  | .vaon => if s.supplies.vaon then { s with supplies.vaon := false }.harbourOut 2 else s
  | .vcore => if s.supplies.vcore then { s with supplies.vcore := false }.harbourOut 3 else s
  | .vio => if s.supplies.vio then { s with supplies.vio := false }.harbourOut 4 else s
  | .vfuse => { s with supplies.vfuse := false }
  | .vbak => s.loseRetained
  | .vq5 q =>
    if !s.supplies.vq5.getLsbD q then s
    else
      let s := { s with supplies.vq5 := s.supplies.vq5 &&& ~~~ (BitVec.ofNat 6 (2 ^ q.val)) }
      (s.resetQuay q true).atQuay q (fun x => { x with why := some 1 })
  | .vconnIn q =>
    let s := { s with supplies.vconn := s.supplies.vconn &&& ~~~ (BitVec.ofNat 6 (2 ^ q.val)) }
    if s.quays[q].up then s.vconnSupply q true else s

/-- VAON, VCORE and VIO are valid after one was not (POWER_ON_RESET; R380, R387): the reset ends, with the cause of the
brown-out that preceded it. -/
def powerOn (s : State) (vio18 : Bool) : State :=
  if s.supplies.vaon && s.supplies.vcore && s.supplies.vio && (s.porDue.isSome || (s.phase = .brittle && s.oscillator.isNone)) then
    { s with supplies.vio18 := vio18, resetCause := s.porDue.getD s.resetCause, porDue := none }
  else s

/-- A low pulse on RESET_N (R388). -/
def resetPulse (s : State) (widthNs : Nat) (taken : Bool) : State :=
  if s.inReset || widthNs < 2000 || (widthNs < 10000 && !taken) then s else s.deviceReset 5

/-! ### Thermal shutdown (R387, R347) -/

/-- The harbour die is above 140 °C for 100 µs (`peak` in 0.1 °C): device reset, held. -/
def harbourHot (s : State) (peak : Int) (heldUs : Nat) : State :=
  if s.inReset || peak ≤ 1400 || heldUs < 100 then s else { s.deviceReset 8 with hot := true, diePeak := peak }

/-- A berth's fault that its quay's reset is about to clear: its record's head is taken now. -/
def recordNow (s : State) (b : BerthId) (f : FaultBody) : State :=
  let tide := (s.tideCount + 1) % 2 ^ 48
  match if 96 ≤ s.records.length then none else s.recordSlot (16 * b.val) 16 with
  | none => s.devEvent (.fault { f with slot := 0xFFFF }) b
  | some k =>
    let q := s.takeSeq
    let r : PendRec := { slot := k, seq := q.1, berth := b, cause := f.cause.code, tide := tide, stamp := f.stamp
                         head := s.recordHead b f q.1 tide, ready := false }
    { q.2 with records := s.records ++ [r] }.devEvent (.fault { f with slot := k }) b

/-- What a berth has staged as faults is recorded at once, before its block is reset. -/
def flushFaults (s : State) (b : BerthId) : State :=
  let l := s.berths[b].faults
  l.foldl (fun (s : State) (f : FaultBody) => s.recordNow b f) (s.atBerth b (fun _ x => { x with faults := [] }))

/-- A quay die is above 150 °C for 100 µs: the quay is held in reset, and each berth whose path was closed records THERMAL. -/
def quayHot (s : State) (q : QuayId) (at_ : Stamp) (peak : Int) (heldUs : Nat) : State :=
  let k := s.quays[q]
  if k.thermal || !k.up || peak ≤ 1500 || heldUs < 100 then s
  else
    let closed (x : Berth) : Bool := x.path.state = .srcRamp || x.path.state = .srcOn || x.path.state = .snkOn
    let s := (State.berthsOf q).foldl (fun (s : State) (b : BerthId) =>
      (s.atBerth b (fun e x => if closed x then x.fault .thermal at_ e.quay (e.vins / 10) else x)).flushFaults b) s
    (s.resetQuay q false).atQuay q (fun x => { x with thermal := true, why := some 8, hotAt := some (at_, peak) })

/-- A die has cooled: the harbour's below 120 °C, a quay's below 130 °C. -/
def coolDown (s : State) (q : Option QuayId) (temp : Int) : State := match q with
  | none => if temp < 1200 then { s with hot := false } else s
  | some q => if temp < 1300 then s.atQuay q (fun x => { x with thermal := false }) else s

/-! ### Brittle load (R409–R412, R416, R427) -/

/-- The 10 bits of redirection entry `i`, each the majority of its three copies (R410). -/
def redirect (x : Brittle) (i : Nat) : Nat :=
  let copy (c : Nat) : Nat := fld ((x.table[6 * c + i / 3]?).getD 0) (10 * (i % 3)) 10
  let a := copy 0
  let b := copy 1
  let c := copy 2
  (a &&& b) ||| (a &&& c) ||| (b &&& c)

/-- The highest-numbered entry below `n` that a test picks for row `r`. -/
def entryFor (x : Brittle) (r : Nat) (locked : Bool) : Option Nat :=
  ((List.range 16).reverse).find? (fun (i : Nat) =>
    let e := redirect x i
    e % 256 = r && e / 256 % 2 = 1 && (e / 512 % 2 = 1) = locked)

/-- The content and weak bits of the row or spare that governs row `r` (R410). -/
def rowRead (x : Brittle) (r : Fin 256) : Word × Word := match entryFor x r true with
  | some i => ((x.spares[i]?).getD 0, (x.spareWeak[i]?).getD 0)
  | none => (x.rows[r], x.weak[r])

/-- The OTP_WEAK events that a load raises (R411, R427). -/
def loadEvents (x : Brittle) : List EvBody :=
  (List.finRange 256).flatMap (fun (r : Fin 256) =>
    let v := rowRead x r
    (if v.2 &&& v.1 = 0 then [] else [EvBody.otpWeak r 0 (v.2 &&& v.1)]) ++ (match entryFor x r false with
      | some i => [EvBody.otpWeak r 0 ((x.spares[i]?).getD 0 ^^^ v.1)]
      | none => []))

/-- FACTORY_CRC matches rows 0–126 (Table 15.1). -/
def factoryOk (v : Vector Word 256) : Bool :=
  crc32 ((v.toList.take 127).flatMap (fun (w : Word) => leBytes 4 w.toNat)) = v[127]

/-- BRITTLE_LOAD (Table 14.7 step 2): the shadow is loaded, the address pins are sampled and the SMBus target answers; a
bad FACTORY_CRC keeps the device in PHASE 0x1 (R416). -/
def brittleLoad (s : State) (pins : BitVec 4) : State :=
  if s.inReset || s.phase ≠ .brittle || s.oscillator.isNone || s.brittle.loaded then s
  else
    let v := Vector.ofFn (fun (r : Fin 256) => (rowRead s.brittle r).1)
    let ovr := v[129]
    let addr : BitVec 7 := if ovr.getLsbD 15 then BitVec.ofNat 7 (fld ovr 8 7) else 0x60#7 + BitVec.ofNat 7 pins.toNat
    let s := { s with brittle.shadow := v, brittle.loaded := true, smb.on := true, smb.addr := addr, addrPins := pins, pinsShown := true
                      devOut := s.devOut ++ (loadEvents s.brittle).map (fun (e : EvBody) => (e, 0xFFFF)) }
    let s := s.takePins
    if factoryOk v then { s with phase := .plls } else { s with factoryBad := true, attn := true }

/-! ### Clocks and cores (Table 14.7 steps 3, 4; R448–R450) -/

/-- PLL_LOCK: the Tide generator starts with both counts 0 (R30). -/
def pllLock (s : State) (sinceUs : Nat) : State :=
  if s.inReset || s.phase ≠ .plls then s
  else { s with phase := .boot, ticking := true, ticks := 0, tideCount := 0, roundPhase := 0, tb := 0, startUs := sinceUs }

/-- HMA is fenced. -/
def hmaFenced (s : State) : Bool := s.repair.coreFenced && (s.markOf (.core false)).lasting

/-- HARBOURMASTER_BOOT: image A comes from the boot ROM, a core becomes active, the links start training and Pilot starts. The release
of the firmware described here has major 4 and minor 0; `release` gives the build (R1). -/
def harbourBoot (s : State) (release : Word) : State :=
  if s.inReset || s.phase ≠ .boot then s
  else
    let up (x : Link) : Link := if x.enabled then { x with state := .down, fresh := true } else x
    let s := { s with phase := .scrub, harbour := { coreB := s.hmaFenced, relA := 0x04000000#32 ||| (release &&& 0xFFFF#32) }, links := s.links.map up
                      pilot := ({ on := true } : Pilot).add .banner }
    let one (s : State) (i : Fin 2) : State :=
      if s.links[i].state = LinkState.down then s.devEvent (.link i 4 0 false 0) else s
    (List.finRange 2).foldl one s

/-- The standby is ready (STANDBY_READY; R448): it has followed for 40 Tides. A FW_COMMIT_HM in progress may go on (R450). -/
def standbyReady (s : State) : State :=
  let h := s.harbour
  if h.testing.isSome || s.repair.coreFenced || h.followed < 40 || s.phase = .brittle then s
  else { s with harbour.ready := true, harbour.commit := h.commit.map (fun (x : Origin × Bool) => (x.1, true)) }

/-- The standby was not ready within 1 s (STANDBY_READY_TIMEOUT; R450 step 2). -/
def standbyTimeout (s : State) : State := match s.harbour.commit with
  | some (o, false) => { s with harbour.commit := none, harbour.ready := false, harbour.followed := 0 }.respond o 0x0703 .timeout
  | _ => s

/-- The release of the active image. -/
def activeRelease (s : State) : Word := if s.harbour.imageB then s.harbour.relB else s.harbour.relA

/-- FW_COMMIT_HM takes place at the round boundary (R450 step 3): the other core becomes active on the staged image. -/
def switchCores (s : State) : State := match s.harbour.commit with
  | some (o, true) =>
    let h := s.harbour
    let new := h.slots[0].release
    let slot : FwSlot := { h.slots[0] with current := true }
    let h : Harbour := { h with coreB := !h.coreB, imageB := !h.imageB, ready := false, followed := 0, commit := none, slots := h.slots.set 0 slot
                                relA := if h.imageB then new else h.relA, relB := if h.imageB then h.relB else new }
    { s with harbour := h }.respond o 0x0703 .ok (leBytes 4 new.toNat ++ leBytes 1 (flag h.coreB 0))
  | _ => s

/-- The failed core's test ends (CORE_TEST_DONE; R449): it follows again, or it is fenced. -/
def coreTestDone (s : State) (pass : Bool) : State := match s.harbour.testing with
  | none => s
  | some c =>
    let j := s.judge (.core c) pass false false
    let s := { j.2 with harbour.testing := none, harbour.followed := 0, harbour.ready := false }
    if j.1 = 2 then s.lastingAct (.core c) else s

/-- The active core was not serviced for 4 Tides (WATCHDOG_EXPIRY; R449, R347, Table 14.4). -/
def watchdog (s : State) (at_ : Stamp) : State :=
  if s.inReset || !s.ticking || s.harbour.unkicked < 4 then s
  else if s.harbour.ready then (s.recordDevice 0x12 0xFF at_ (leBytes 1 (flag s.harbour.coreB 0) ++ [0])).2.handOver
  else { s with wdogCore := s.harbour.coreB }.deviceReset 6

/-! ### Time (R407) -/

/-- Device time from the real-time counter and the stored offset. -/
def rtcTime (s : State) (rtc : Nat) : Nat :=
  (rtc + s.retained.backup[2].toNat + 2 ^ 32 * s.retained.backup[3].toNat) % 2 ^ 64

/-- TIME_CORRECTION at a boundary that is a multiple of 40,000 Tides: at most 20 µs toward the counter. -/
def correctTime (s : State) (rtc : Nat) : State :=
  let s := { s with retained.rtc := rtc }
  if s.time = 0 || s.tideCount % 40000 ≠ 0 then s
  else
    let want := s.rtcTime rtc
    { s with time := if s.time ≤ want then s.time + min 20 (want - s.time) else s.time - min 20 (s.time - want) }

/-- Device time is set (DEV_SET_TIME; R407): the offset and the counter's seconds are recorded. -/
def setTime (s : State) (t : Nat) : State :=
  let off := (t + 2 ^ 64 - s.retained.rtc % 2 ^ 64) % 2 ^ 64
  let k := s.retained.backup
  { s with time := t, retained.backup := ((k.set 2 (BitVec.ofNat 32 off)).set 3 (BitVec.ofNat 32 (off / 2 ^ 32))).set 4
                        (BitVec.ofNat 32 (s.retained.rtc / 1000000)) }

/-! ### Hold scrub and what start-up restores (Table 14.7 step 5) -/

/-- R352: slots whose record was not sealed are freed, reported and counted. -/
def freeUnsealed (s : State) : State :=
  let l := s.man.filter (fun (m : ManSlot) => !m.sealed && (m.item ≠ .free || (m.raw.map (fun (l : List Byte) => leAt l 0 4)) = some 0x4D464331))
  let s := l.foldl (fun (s : State) (m : ManSlot) => s.devEvent (.manifest 4 (areaOf m.slot) m.slot 0xFFFF 0)) s
  { s with unsealed := l.length
           man := s.man.map (fun (m : ManSlot) => if m.sealed then m else { m with item := .free, data := [], raw := none }) }

/-- RECORD_SEQ goes on from the greatest sealed value (R352). -/
def resumeSeq (s : State) : State :=
  match s.governing (fun _ => true) with
  | some m => { s with recSeq := (m.seq + 1) % 2 ^ 32 }
  | none => { s with recSeq := 0 }

/-- A persisted DEV_CONFIG item is restored (Table 11.5). -/
def restoreItem (s : State) (id : Nat) (v : List Byte) : State :=
  if id = 1 then (if leAt v 0 1 % 2 = 1 then { s with follower := true, syncLost := true, tideLocked := false } else s)
  else if id = 0x30 then
    { s with berths := Vector.ofFn (fun (b : Fin 48) => { s.berths[b] with mon.parkEn := (BitVec.ofNat 48 (leAt v 0 8)).getLsbD b }) }
  else if h : 0x10 ≤ id ∧ id < 0x16 then
    s.atQuay ⟨id - 0x10, by omega⟩ (fun x => { x with vinWin := BitVec.ofNat 32 (leAt v 0 4), vinTime := BitVec.ofNat 32 (leAt v 4 4) })
  else if h : 0x20 ≤ id ∧ id < 0x26 then
    s.atQuay ⟨id - 0x20, by omega⟩ (fun x => { x with seq := Vector.ofFn (fun (i : Fin 32) => BitVec.ofNat 32 (leAt v (4 * i.val) 4)) })
  else s

/-- The IDs of the items that DEV_CONFIG persists. -/
def savedIds : List Nat := [0x01, 0x10, 0x11, 0x12, 0x13, 0x14, 0x15, 0x20, 0x21, 0x22, 0x23, 0x24, 0x25, 0x30]

/-- Persisted tables, bindings, budget and items are restored (R118, R353). -/
def restoreConfig (s : State) : State :=
  let tables : Vector PolSlot 64 := Vector.ofFn (fun (i : Fin 64) => match s.governing (fun x => x = .policy i) with
    | some m => { raw := m.data, tbl := some (PolicyTable.ofBytes m.data) }
    | none => {})
  let bound := s.savedBindings
  let s := { s with tables := tables
                    berths := Vector.ofFn (fun (b : Fin 48) => { s.berths[b] with pol.table := (bound[b.val]?).getD 0 }) }
  let s := match s.governing (fun i => match i with
      | .budget _ => true
      | _ => false) with
    | some { item := .budget x, .. } => { s with alloc.budget := x }
    | _ => s
  savedIds.foldl (fun (s : State) (id : Nat) => match s.governing (fun i => match i with
      | .config k _ => k = id
      | _ => false) with
    | some { item := .config _ v, .. } => s.restoreItem id v
    | _ => s) s

/-- The CRC of a Glaze image (Table 15.8). -/
def glazeCrcOk (l : List Byte) : Bool :=
  let n := min 3184 (leAt l 8 2)
  leAt l 12 4 = (crc32 ((splice (l.take n ++ List.replicate (n - l.length) 0) 12 [0, 0, 0, 0]).take n)).toNat

/-- The governing Glaze image is checked and taken (R434). -/
def restoreGlaze (s : State) : State := match s.governing (fun i => i = .glaze) with
  | none => s
  | some m => if glazeCrcOk m.data then { s with glaze := m.data } else s.devEvent (.manifest 2 2 m.slot 0xFFFF 0)

/-- Counters resume from the valid checkpoint of greater TIDE (R337). -/
def restoreCounts (s : State) : State :=
  let c : Option Checkpoint := match s.retained.check[0], s.retained.check[1] with
    | none, y => y
    | some x, none => some x
    | some x, some y => if x.tide < y.tide then some y else some x
  match c with
  | none => s
  | some x => { s with tele := Vector.ofFn (fun (b : Fin 48) => { s.tele[b] with counts := x.berths[b] }) }

/-- The device record of a watchdog or thermal reset (R347): STAMP and TIDE are those of the first boundary, TIME is the
reset history's. -/
def resetRecord (s : State) : State :=
  let time := match s.retained.history.getLast? with
    | some (_, _, _, _, t) => t
    | none => 0
  let n := s.tideCount
  let at0 (cause : Nat) (d : List Byte) : State :=
    { ({ s with tideCount := 0 }.recordDevice cause 0xFF 0 d (if s.retValid then time else 0)).2 with tideCount := n }
  if s.resetCause = 6 then at0 0x12 (leBytes 1 (flag s.wdogCore 0) ++ [1])
  else if s.resetCause = 8 then at0 0x13 ([0xFF, 0] ++ leBytes 2 (sgn 16 s.diePeak))
  else s

/-- HOLD_SCRUB (Table 14.7 step 5): the Manifest's slots are tested, the configuration, Glaze, counters and device time are
restored; `rtc` is the real-time counter, none without its crystal. -/
def holdScrub (s : State) (rtc : Option Nat) : State :=
  if s.inReset || s.phase ≠ .scrub then s
  else
    let ok := s.retained.valid
    let s := { s with phase := .quays, retValid := ok, bkpValid := ok, retained.valid := true }
    let s := (s.freeUnsealed).resumeSeq
    let set := ok && (s.retained.backup[2] ≠ 0 || s.retained.backup[3] ≠ 0 || s.retained.backup[4] ≠ 0)
    let s : State := match rtc with
      | some r => { s with retained.rtc := r, time := if set then s.rtcTime r else 0 }
      | none => s
    let s := if s.time = 0 then
        { s with repair.marks := s.repair.marks.map (fun (m : LocMark) => { m with transients := [] }) } else s
    let s := (s.restoreConfig).restoreGlaze
    (if ok then s.restoreCounts else s).resetRecord

/-! ### Bring-up and release of quays (Table 14.7 steps 6–8; R65, R66, R391, R398) -/

/-- A quay that is to be brought up: enabled, supplied, neither fenced nor hot. -/
def quayReady (s : State) (q : QuayId) : Bool :=
  decide (q.val < s.quaysOn) && s.supplies.vq5.getLsbD q && !s.quays[q].fenced && !s.quays[q].thermal

/-- The quay's byte of DEADBATT and its row (Table 15.4). -/
def deadbatt (s : State) (q : QuayId) : Nat × Byte :=
  if q.val < 4 then (156, BitVec.ofNat 8 (fld (s.fuse 156) (8 * q.val) 8)) else (157, BitVec.ofNat 8 (fld (s.fuse 157) (8 * (q.val - 4)) 8))

/-- A comparator that the check at the bring-up finds bad is lasting (R439, R440). -/
def badComparator (s : State) (q : QuayId) (x : Fin 8 × Fin 27) : State :=
  let b : BerthId := ⟨8 * q.val + x.1.val, by omega⟩
  (s.judge (.comp b x.2) false false false).2.actLater (.comp b x.2) (.selftest 0 b x.2 0 .selftestFail 2 1)

/-- QUAY_BRINGUP: VCONN_IN in mV, from which the quay takes VCONN at or above 4.60 V (R62), VBC per berth in mV as sampled for R66,
and the comparators found bad. -/
def quayBringup (s : State) (q : QuayId) (vconnMv : Nat) (vbc : Vector Nat 8) (bad : List (Fin 8 × Fin 27)) : State :=
  let turn := (List.finRange 6).all (fun (k : Fin 6) => decide (q.val ≤ k.val) || !s.quayReady k || s.quays[k].up)
  let late := s.phase = .quays || s.phase = .release || s.phase = .running
  if s.inReset || !late || !turn || !s.quayReady q || s.quays[q].up then s
  else
    let onVq5 := decide (vconnMv < 4600)
    let s := s.atQuay q (fun x => { x with up := true, vconnVq5 := onVq5 })
    let d := s.deadbatt q
    let diff := s.quays[q].row ^^^ d.2
    let s := if diff = 0 then s
      else (s.atBerths (State.berthsOf q) (fun _ x => { x with cc.shadowMismatch := true })).devEvent
        (.otpWeak d.1 1 (BitVec.ofNat 32 (diff.toNat * 2 ^ (8 * (q.val % 4)))))
    let one (s : State) (i : Fin 8) : State :=
      s.atBerth ⟨8 * q.val + i.val, by omega⟩ (fun _ x =>
        if 800 ≤ vbc[i] && !x.cc.dbRd && x.cc.state = .held then
          { x with cc.state := .backFeed, cc.backfeedPwrup := true, mon.ded := x.mon.ded.set 4 true }.ccEvt 5
        else { x with mon.ded := (x.mon.ded.set 4 (800 ≤ vbc[i])).set 5 (3670 ≤ vbc[i]) })
    let s := (List.finRange 8).foldl one s
    let s := bad.foldl (fun (s : State) (x : Fin 8 × Fin 27) => s.badComparator q x) s
    { s with phase := .release }

/-- The repair map is re-applied to a berth at its release (R391). -/
def reapply (s : State) (b : BerthId) : State :=
  let r := s.repair.berths[b]
  s.atBerth b (fun _ x =>
    let x : Berth := { x with mon.fence := x.mon.fence ||| r.fence, st.phyFenced := x.st.phyFenced || r.phy, id.fenced := x.id.fenced || r.fenced }
    if r.crowbar && !x.reg.cbLatch then { x with path.state := .locked, path.lock := .crowbar }
    else if r.lock ≠ .none then { x with path.state := .locked, path.lock := r.lock }
    else x)

/-- The release of one berth with its quay (R65, R66). -/
def releaseOne (s : State) (b : BerthId) : State :=
  let s := s.reapply b
  let x := s.berths[b]
  if x.id.fenced then s.atBerth b (fun _ y => { y.toDisabled s.now with enabled := y.enabled })
  else if !(b.val < s.berthsOn) then s.atBerth b (fun e y => y.doRelease e s.now)
  else
    let s := if x.cc.state = .backFeed then (s.recordDevice Cause.backFeed.code (quayOf b).val s.now []).2 else s
    s.releaseBerth b .release

/-- Every quay that can be released has been. -/
def allReleased (s : State) : Bool := (List.finRange 6).all (fun (q : Fin 6) => !s.quayReady q || s.quays[q].released)

/-- The FAULT events that stayed held through a reset take the numbers that follow RESET_REPORT, in their order (R305, R307;
log entry 48). -/
def renumberHeld (s : State) : State :=
  let n := s.nextSeq
  let k := s.retained.held.length
  { s with retained.held := ((List.range k).zip s.retained.held).map (fun (x : Nat × EvEntry) => { x.2 with seq := n + x.1, sent := none })
           retained.heldSlots := ((List.range s.retained.heldSlots.length).zip s.retained.heldSlots).map
             (fun (x : Nat × (Nat × Nat)) => (x.2.1, n + k + x.1))
           nextSeq := n + k + s.retained.heldSlots.length }

/-- RESET_REPORT with SEQ 1 opens the events; held FAULT events follow; PWRGD is released (Table 14.7 step 8). -/
def running (s : State) : State :=
  let s := { s with phase := .running }
  if s.reported then s
  else
    let n := s.retained.held.length + s.retained.heldSlots.length
    let e : EvBody := .resetReport s.resetCause.toNat 0 (flag s.harbour.coreB 0) (flag s.retValid 0 + flag (0 < n) 1 + flag s.bkpValid 2)
      (sat16 n) (sat16 s.unsealed) s.retained.backup[0].toNat s.bringupMs
    ({ s with reported := true, pwrgd := true }.publish e).renumberHeld

/-- A quay that was reset while running answers for it at its release (R387, R347, Table 11.3). -/
def answerQuay (s : State) (q : QuayId) : State :=
  let k := s.quays[q]
  let s := match k.hotAt with
    | some (t, peak) => (s.recordDevice 0x13 q.val t (leBytes 1 q.val ++ [0] ++ leBytes 2 (sgn 16 peak))).2
    | none => s
  let s := match k.why with
    | some c => s.partReport c 1 q.val
    | none => s
  let s := match k.resetBy with
    | some (o, code) => s.respond o code .ok
    | none => s
  s.atQuay q (fun x => { x with why := none, hotAt := none, resetBy := none })

/-- BERTH_RELEASE: the quay's berths are released at one round boundary, 1 ms or more after the previous quay's (Table 14.7
step 7, R65). -/
def berthRelease (s : State) (q : QuayId) : State :=
  let early := match s.lastRelease with
    | some t => decide (s.ticks < t + 40)
    | none => false
  if s.inReset || !s.quays[q].up || s.quays[q].released || s.roundPhase ≠ 0 || early then s
  else
    let s := if s.lastRelease.isNone then { s with bringupMs := (s.startUs + 25 * (s.ticks - 1)) / 1000 } else s
    let s := { s with lastRelease := some s.ticks }.atQuay q (fun x => { x with released := true, releasedAt := s.ticks })
    let s := (State.berthsOf q).foldl releaseOne s
    let s := s.answerQuay q
    if s.allReleased then s.running else s

end State

/-! ### The commands -/

/-- SUPPLY_VALID (R380). -/
def execSupplyValid (k : Supply) (mv heldNs : Nat) (s : State) : Host.Outcome State Fault Refusal :=
  .next (if State.risen k mv heldNs then s.supplyValid k else s)

/-- SUPPLY_INVALID (R380, Table 14.2). -/
def execSupplyInvalid (k : Supply) (mv heldNs : Nat) (_at : Stamp) (s : State) : Host.Outcome State Fault Refusal :=
  .next (if s.fallen k mv heldNs then s.supplyInvalid k else s)

/-- POWER_ON_RESET (R387): VIO below 2.40 V selects the 1.8 V range (R380). -/
def execPowerOnReset (vioMv : Nat) (s : State) : Host.Outcome State Fault Refusal := .next (s.powerOn (decide (vioMv < 2400)))

/-- RESET_N_PULSE (R388). -/
def execResetNPulse (widthNs : Nat) (taken : Bool) (s : State) : Host.Outcome State Fault Refusal := .next (s.resetPulse widthNs taken)

/-- WATCHDOG_EXPIRY (R449). -/
def execWatchdogExpiry (at_ : Stamp) (s : State) : Host.Outcome State Fault Refusal := .next (s.watchdog at_)

/-- KICK (WDOG.KICK, Table 14.11). -/
def execKick (s : State) : Host.Outcome State Fault Refusal := .next { s with harbour.unkicked := 0 }

/-- HARBOUR_THERMAL_SHUTDOWN (Table 14.4). -/
def execHarbourThermalShutdown (_at : Stamp) (peak : Int) (heldUs : Nat) (s : State) : Host.Outcome State Fault Refusal :=
  .next (s.harbourHot peak heldUs)

/-- QUAY_THERMAL_SHUTDOWN (Table 14.4). -/
def execQuayThermalShutdown (q : QuayId) (at_ : Stamp) (peak : Int) (heldUs : Nat) (s : State) : Host.Outcome State Fault Refusal :=
  .next (s.quayHot q at_ peak heldUs)

/-- THERMAL_SHUTDOWN_END (Table 14.4). -/
def execThermalShutdownEnd (q : Option QuayId) (temp : Int) (s : State) : Host.Outcome State Fault Refusal :=
  .next (s.coolDown q temp)

/-- OSCILLATOR_START (Table 14.7 step 1). -/
def execOscillatorStart (xtal : Bool) (s : State) : Host.Outcome State Fault Refusal :=
  .next (if s.inReset || s.phase ≠ .brittle || s.oscillator.isSome then s else { s with oscillator := some xtal })

/-- BRITTLE_LOAD (R412). -/
def execBrittleLoad (addr : BitVec 4) (s : State) : Host.Outcome State Fault Refusal := .next (s.brittleLoad addr)

/-- PLL_LOCK (Table 14.7 step 3). -/
def execPllLock (sinceUs : Nat) (s : State) : Host.Outcome State Fault Refusal := .next (s.pllLock sinceUs)

/-- HARBOURMASTER_BOOT (Table 14.7 step 4). -/
def execHarbourmasterBoot (release : Word) (s : State) : Host.Outcome State Fault Refusal := .next (s.harbourBoot release)

/-- HOLD_SCRUB (Table 14.7 step 5). -/
def execHoldScrub (rtc : Option Nat) (s : State) : Host.Outcome State Fault Refusal := .next (s.holdScrub rtc)

/-- QUAY_BRINGUP (Table 14.7 step 6). -/
def execQuayBringup (q : QuayId) (vconnMv : Nat) (vbc : Vector Nat 8) (bad : List (Fin 8 × Fin 27)) (s : State) : Host.Outcome State Fault Refusal :=
  .next (s.quayBringup q vconnMv vbc bad)

/-- BERTH_RELEASE (R65). -/
def execBerthRelease (q : QuayId) (s : State) : Host.Outcome State Fault Refusal := .next (s.berthRelease q)

/-- TIME_CORRECTION (R407). -/
def execTimeCorrection (rtc : Nat) (s : State) : Host.Outcome State Fault Refusal := .next (s.correctTime rtc)

/-- STANDBY_READY (R448). -/
def execStandbyReady (s : State) : Host.Outcome State Fault Refusal := .next s.standbyReady

/-- STANDBY_READY_TIMEOUT (R450). -/
def execStandbyReadyTimeout (s : State) : Host.Outcome State Fault Refusal := .next s.standbyTimeout

/-- CORE_TEST_DONE (R449). -/
def execCoreTestDone (pass : Bool) (s : State) : Host.Outcome State Fault Refusal := .next (s.coreTestDone pass)

/-- ALLOCATION_ROUND_START (R138, R450 step 3). -/
def execAllocationRoundStart (s : State) : Host.Outcome State Fault Refusal :=
  .next (if s.roundPhase = 0 then s.switchCores.roundStart else s)

end Sys2Proof.Machine
end

