-- ==== Sys2Proof/Machine/Links.lean ====
section
/-!
DEFINITION. The Xehus links (R287–R300): frames and their acknowledgement, training, tags as frames take and free them
(R301), responses (R298), events (R304–R309).  A frame that the device sends is appended to its link's line at once.
-/

namespace Sys2Proof.Machine

/-- The index of a link. -/
def linkIdx : LinkId → Fin 2
  | .xla => 0
  | .xlb => 1

/-- The other link. -/
def otherLink : LinkId → LinkId
  | .xla => .xlb
  | .xlb => .xla

/-- LINK_STATUS.STATE and the link states of the LINK event (Table 11.4). -/
def LinkState.code : LinkState → Nat
  | .down => 0 | .up => 1 | .retrain => 2 | .lost => 3 | .off => 4

/-- Every command code of Tables 11.3–11.13. -/
def commandCodes : List Nat :=
  [0x0101, 0x0102, 0x0103, 0x0104, 0x0105, 0x0201, 0x0202, 0x0203, 0x0204, 0x0205, 0x0206, 0x0207, 0x0208, 0x0209, 0x020A, 0x020B,
   0x0301, 0x0302, 0x0303, 0x0304, 0x0401, 0x0402, 0x0403, 0x0404, 0x0501, 0x0502, 0x0503, 0x0504, 0x0505]
  ++ [0x0601, 0x0602, 0x0603, 0x0604, 0x0605, 0x0606, 0x0607, 0x0701, 0x0702, 0x0703, 0x0704, 0x0705, 0x0801, 0x0802, 0x0803, 0x0804,
      0x0901, 0x0902, 0x0903, 0x0904, 0x0905, 0x0A01, 0x0A02, 0x0A03, 0x0B01, 0x0B02]

namespace Link

/-- The device puts a frame on the line. -/
def put (x : Link) (f : Frame) : Link := { x with line := x.line ++ [f] }

/-- An ACK frame with the receive count and flags (Tables 10.1, 10.2). -/
def ack (x : Link) (flags : Byte) : Link := x.put { type := .ack, flags := flags, code := x.rxCount }

/-- A sequenced frame is sent and its copy kept (R292, R294). -/
def send (x : Link) (f : Frame) (event : Option Nat) : Link :=
  let f : Frame := { f with seq := BitVec.ofNat 4 (x.sendCount.toNat % 16) }
  { x with sendCount := x.sendCount + 1, unacked := x.unacked ++ [{ count := x.sendCount, frame := f, event := event }]
           line := x.line ++ [f] }

/-- Fewer than 16 sequenced frames are held. -/
def room (x : Link) : Bool := decide (x.unacked.length < 16)

/-- The number of held frames that a count acknowledges, none when it lies outside the range of R294. -/
def acked (x : Link) (count : BitVec 16) : Option Nat :=
  let n := (count - (x.sendCount - BitVec.ofNat 16 x.unacked.length)).toNat
  if n ≤ x.unacked.length then some n else none

/-- The held frames are sent again from the oldest. -/
def resend (x : Link) : Link :=
  { x with line := x.line ++ x.unacked.map (fun (h : Held) => h.frame), resent := x.resent + BitVec.ofNat 32 x.unacked.length }

/-- A RETRAIN frame with READY: the receive count, or 0 with FRESH (R297). -/
def sendReady (x : Link) : Link :=
  x.put { type := .retrain, flags := if x.fresh then 0x60 else 0x20, code := if x.fresh then 0 else x.rxCount }

end Link

end Sys2Proof.Machine

namespace Sys2Proof

open Machine

/-- What was received is a frame error (R291): a bad CRC, a violation, a wrong character count, a LENGTH above 512, a reserved TYPE, no EOF
within 530 characters. -/
def Received.isError : Received → Bool
  | .checked body crc => crc ≠ crc32 body
  | .violation => true
  | .counted chars length => chars ≠ 12 + length || 512 < length
  | .typed t => t = 0 || 7 < t.toNat
  | .endless chars => 530 ≤ chars

/-- What was received is a good frame of a type that the device never accepts: RSP, EVT or CREDIT (R291). -/
def Received.isForeign : Received → Bool
  | .typed t => t = 2 || t = 3 || t = 6
  | _ => false

end Sys2Proof

namespace Sys2Proof.Machine

/-- A frame's type is RSP. -/
def Frame.isRsp (f : Frame) : Bool := f.type = .rsp

namespace State

/-! ### Links -/

/-- A link. -/
def link (s : State) (l : LinkId) : Link := s.links[linkIdx l]

/-- Change one link. -/
def atLink (s : State) (l : LinkId) (f : Link → Link) : State := { s with links := s.links.set (linkIdx l) (f (s.link l)) }

/-- The link is UP. -/
def isUp (s : State) (l : LinkId) : Bool := (s.link l).state = .up

/-- The link is LOST or OFF. -/
def isOut (s : State) (l : LinkId) : Bool := (s.link l).state = .lost || (s.link l).state = .off

/-- Tags of R301 not in use; Pilot's tags stand outside (R328). -/
def freeTags (s : State) : Nat := 4096 - (s.tags.filter (fun (t : TagEntry) => t.origin.path ≠ .pilot)).length

/-- A CREDIT frame on each UP link (R299). -/
def credit (s : State) : State :=
  let f : Frame := { type := .credit, code := BitVec.ofNat 16 s.freeTags }
  { s with links := s.links.map (fun (x : Link) => if x.state = .up then x.put f else x) }

/-- A change of the tags in use, with its CREDIT frame when the number of free tags crosses a multiple of 256 (R299). -/
def withCredit (s : State) (f : State → State) : State :=
  let t := f s
  if s.freeTags / 256 = t.freeTags / 256 then t else t.credit

/-- ATTN_N and the condition of R309 follow the links' states and the held FAULT events. -/
def linkFlags (s : State) : State :=
  let out := s.isOut .xla && s.isOut .xlb
  let clear := (s.isUp .xla || s.isUp .xlb) && s.retained.held.isEmpty && s.retained.heldSlots.isEmpty
  { s with linksDown := out, attn := out || (s.attn && (s.factoryBad || !clear)) }

/-- A link enters a state, and LINK reports it (R296). -/
def toState (s : State) (l : LinkId) (new : LinkState) : State :=
  let x := s.link l
  if x.state = new then s
  else
    ((s.atLink l (fun (y : Link) => { y with state := new })).devEvent
      (.link (linkIdx l).val x.state.code new.code x.inverted x.frameErrs.toNat)).linkFlags

/-! ### Tags and responses (R298, R301) -/

/-- The path of a response that stood on a link: its own link, or the other when it was rerouted. -/
def rspPath (l : LinkId) (f : Frame) : CmdPath := .link (if f.flags.getLsbD 1 then otherLink l else l)

/-- What a held frame was sent for, back as a response. -/
def rspOf (l : LinkId) (f : Frame) : Response :=
  { origin := { path := rspPath l f, tag := f.tag }, code := f.code.toNat, reject := f.flags.getLsbD 2, payload := f.payload }

/-- A tag is free again. -/
def freeTag (s : State) (tag : Nat) : State :=
  s.withCredit (fun (s : State) => { s with tags := s.tags.filter (fun (t : TagEntry) => t.origin.tag ≠ tag || t.origin.path = .pilot) })

/-- Sequence state restarts: unacknowledged responses go back to the front of their links' queues, events become unsent
(R298, R308). -/
def requeue (s : State) (l : LinkId) : State :=
  let held := (s.link l).unacked
  let rs := (held.filter (fun (h : Held) => h.frame.isRsp)).map (fun (h : Held) => rspOf l h.frame)
  let own := rs.filter (fun (r : Response) => r.origin.path = .link l)
  let foreign := rs.filter (fun (r : Response) => r.origin.path ≠ .link l)
  let s := s.atLink l (fun (x : Link) => { x with unacked := [], sendCount := 0, rxCount := 0, polls := 0, nakDue := false, queue := own ++ x.queue })
  let s := s.atLink (otherLink l) (fun (x : Link) => { x with queue := foreign ++ x.queue })
  let unsend (e : EvEntry) : EvEntry := if e.sent = some l && !e.acked then { e with sent := none } else e
  { s with events := s.events.map unsend, retained.held := s.retained.held.map unsend }

/-- A link leaves service for LOST, OFF or DOWN: what it had not delivered waits for a link (R298, R308, R393). -/
def failLink (s : State) (l : LinkId) (new : LinkState) : State :=
  let s := (s.requeue l).toState l new
  s.atLink l (fun (x : Link) => { x with fresh := true, locked := false, ready := false, fails := 0 })

/-- A RSP frame is acknowledged at link level: its tag is free, and what waited for it goes on (R300, R301, Table 11.3). -/
def rspAcked (s : State) (f : Frame) : State :=
  if f.flags.getLsbD 2 then s
  else
    let s := s.freeTag f.tag
    let s := if f.code = 0x0A01#16 then
        [LinkId.xla, LinkId.xlb].foldl (fun (s : State) (l : LinkId) =>
          if (s.link l).closing then (s.failLink l .off).atLink l (fun (x : Link) => { x with closing := false, enabled := false }) else s) s
      else s
    match s.resetDue with
    | some o => if o.tag = f.tag && o.path ≠ .pilot then s.deviceReset 7 else s
    | none => s

/-! ### Held FAULT events (R307) -/

/-- The cause of a code of Table 11.16. -/
def causeOf (n : Nat) : Cause :=
  ([Cause.fastTrip, .limitTimeout, .ovCrowbar, .hiccupLatch, .passFetShort, .sinkFetShort, .backFeed, .vinUv, .vinOv, .stageFlt, .thermal,
    .ccOv, .vconnOc, .tugFault, .quayLost, .hardResetLimit, .tideOverrun, .watchdog, .dieThermal].find? (fun c => c.code = n)).getD .fastTrip

/-- The lock cause of a code of Table 6.13. -/
def lockOf (n : Nat) : LockCause :=
  ([LockCause.none, .passFetShort, .sinkFetShort, .tripLimit, .testFail, .crowbar].find? (fun c => c.code = n)).getD .none

/-- A FAULT body rebuilt from the first bytes of its Manifest record (Table 12.5). -/
def faultOfRecord (slot : Nat) (l : List Byte) : FaultBody :=
  { cause := causeOf (leAt l 0x10 1), lock := lockOf (leAt l 0x11 1), also := BitVec.ofNat 16 (leAt l 0x12 2), slot := slot
    quay := leAt l 0x14 1, stamp := leAt l 0x18 8, volt := leAt l 0x30 2, curr := leAt l 0x32 2, vbc := leAt l 0x4A 2, vbr := leAt l 0x4C 2
    ipath := (BitVec.ofNat 16 (leAt l 0x4E 2)).toInt, vin := leAt l 0x48 2
    detail := (List.range 4).map (fun (i : Nat) => BitVec.ofNat 32 (leAt l (0xC0 + 4 * i) 4)) }

/-- The bytes of the record of a slot, written or waiting. -/
def recordBytes (s : State) (slot : Nat) : List Byte := match s.records.find? (fun (r : PendRec) => r.slot = slot) with
  | some r => r.head
  | none => match s.slotAt slot with
    | some m => m.data
    | none => []

/-- While there is room, the oldest event held as a slot number is rebuilt. -/
def refillHeld (s : State) : State := match s.retained.heldSlots with
  | [] => s
  | (slot, seq) :: r =>
    if 64 ≤ s.retained.held.length then s
    else
      let l := s.recordBytes slot
      let e : EvEntry := { seq := seq, tide := leAt l 0x20 6, berth := leAt l 7 1, body := .fault (faultOfRecord slot l), held := true }
      { s with retained.held := s.retained.held ++ [e], retained.heldSlots := r }

/-- An EVT frame is acknowledged at link level. -/
def evtAcked (s : State) (seq : Nat) : State :=
  if s.retained.held.any (fun (e : EvEntry) => e.seq = seq) then
    { s with retained.held := s.retained.held.filter (fun (e : EvEntry) => e.seq ≠ seq) }.refillHeld
  else { s with events := s.events.map (fun (e : EvEntry) => if e.seq = seq then { e with acked := true } else e) }

/-! ### Counts (R294) -/

/-- One held frame is acknowledged. -/
def heldAcked (s : State) (h : Held) : State :=
  if h.frame.isRsp then s.rspAcked h.frame else match h.event with
    | some n => s.evtAcked n
    | none => s

/-- A count acknowledges held frames; one outside the range is ignored and counted. -/
def acknowledge (s : State) (l : LinkId) (count : BitVec 16) : State :=
  let x := s.link l
  match x.acked count with
  | none => s.atLink l (fun (y : Link) => { y with badCounts := y.badCounts + 1 })
  | some n =>
    let s := s.atLink l (fun (y : Link) => { y with unacked := y.unacked.drop n })
    ((x.unacked.take n).foldl heldAcked s).linkFlags

/-- An ACK or IDLE count arrives; after a POLL it answers the POLL, and the sender resends from it. -/
def ackFrame (s : State) (l : LinkId) (count : BitVec 16) : State :=
  if !s.isUp l then s
  else
    let polled := decide (0 < (s.link l).polls) && ((s.link l).acked count).isSome
    let s := s.acknowledge l count
    if polled && s.isUp l then s.atLink l (fun (y : Link) => { y.resend with polls := 0 }) else s

/-- A NAK arrives: resend from its count. -/
def nakFrame (s : State) (l : LinkId) (count : BitVec 16) : State :=
  if !s.isUp l || ((s.link l).acked count).isNone then (if s.isUp l then s.acknowledge l count else s)
  else
    let s := s.acknowledge l count
    if s.isUp l then s.atLink l (fun (y : Link) => { y.resend with polls := 0 }) else s

/-! ### Training (R296, R297) -/

/-- A retrain starts: one RETRAIN frame, then training sets. -/
def retrain (s : State) (l : LinkId) : State :=
  let s := s.toState l .retrain
  s.atLink l (fun (x : Link) => { x.put { type := .retrain, code := x.rxCount } with
                                    retrains := x.retrains + 1, locked := false, ready := false, polls := 0, nakDue := false, errs := [] })

/-- A link that is reset by a host has returned: the commands that wait for it are answered (Table 11.3). -/
def linkBack (s : State) (l : LinkId) : State := match (s.link l).resetBy with
  | some o => (s.atLink l (fun (x : Link) => { x with resetBy := none })).respond o 0x0104 .ok
  | none => s

/-- Training is complete once the end has locked and received READY: the link is UP, with both counts 0 when FRESH. -/
def trained (s : State) (l : LinkId) : State :=
  let x := s.link l
  if !x.locked || !x.ready then s
  else
    let s := if x.fresh then s.requeue l else s.atLink l (fun (y : Link) => y.resend)
    let s := s.atLink l (fun (y : Link) => { y with fresh := false, fails := 0, ready := false, errs := [] })
    (s.toState l .up).linkBack l

/-- The link is in training. -/
def training (s : State) (l : LinkId) : Bool :=
  (s.link l).state = .down || (s.link l).state = .retrain || (s.link l).state = .lost

/-- A RETRAIN frame arrives: without READY it takes an UP link to RETRAIN; with READY it carries the other end's count (log
entry 47). -/
def retrainFrame (s : State) (l : LinkId) (count : BitVec 16) (ready fresh : Bool) : State :=
  if s.isUp l then (if ready then s else s.retrain l)
  else if !s.training l || !ready then s
  else
    let s := s.atLink l (fun (x : Link) => { x with ready := true, fresh := x.fresh || fresh })
    let s := if (s.link l).fresh then s else s.acknowledge l count
    s.trained l

/-- The receiver has locked; READY frames start. -/
def trainLock (s : State) (l : LinkId) (inverted : Bool) : State :=
  if !s.training l then s
  else (s.atLink l (fun (x : Link) => { x with locked := true, inverted := inverted }.sendReady)).trained l

/-- A retrain was not complete within 2 ms: it starts again, or the link is LOST at the third failure in a row. -/
def retrainLate (s : State) (l : LinkId) : State :=
  let x := s.link l
  if x.state ≠ .retrain then s
  else if 3 ≤ x.fails + 1 then s.failLink l .lost
  else (s.retrain l).atLink l (fun (y : Link) => { y with fails := x.fails + 1 })

/-! ### Frames received (R291–R293, R301) -/

/-- A NAK is sent for the first of the frames discarded before the expected one is accepted. -/
def nakOnce (s : State) (l : LinkId) : State :=
  if (s.link l).nakDue then s else s.atLink l (fun (x : Link) => { (x.ack 0x10) with nakDue := true })

/-- A frame error (R291, Table 10.4). -/
def frameError (s : State) (l : LinkId) (at_ : Stamp) : State :=
  if !s.isUp l then s
  else
    let errs := ((s.link l).errs.filter (fun (t : Stamp) => decide (at_ < t + ms 1))) ++ [at_]
    let s := (s.atLink l (fun (x : Link) => { x with frameErrs := x.frameErrs + 1, errs := errs })).nakOnce l
    if 8 ≤ errs.length then s.retrain l else s

/-- Something that is not accepted arrives (R291). -/
def received (s : State) (l : LinkId) (x : Received) (at_ : Stamp) : State :=
  if x.isError then s.frameError l at_
  else if x.isForeign && s.isUp l then s.atLink l (fun (y : Link) => { y with discards := y.discards + 1 })
  else s

/-- A response that goes back without a tag (R301). -/
def tagReject (s : State) (o : Origin) (code : Nat) (st : Status) : State :=
  s.queueResponse { origin := o, code := code, reject := true, payload := leBytes 4 st.code }

/-- A tag is in use, on whatever path but Pilot. -/
def tagUsed (s : State) (tag : Nat) : Bool := s.tags.any (fun (t : TagEntry) => t.origin.tag = tag && t.origin.path ≠ .pilot)

/-- The command takes its tag. -/
def enterTag (s : State) (o : Origin) (code : Nat) (fence : Bool) (payload : Option (List Byte)) (t : Stamp) : State :=
  s.withCredit (fun (s : State) =>
    { s with tags := s.tags ++ [{ origin := o, code := code, fence := fence, order := s.nextOrder, payload := payload, at_ := t, level := s.pilot.level }]
             nextOrder := s.nextOrder + 1 })

/-- The checks of R301 for a command from a link or the tunnel; a code outside the tables completes at once (R313). -/
def tagCheck (s : State) (o : Origin) (code : Nat) (fence : Bool) (payload : List Byte) (t : Stamp) : State :=
  if s.freeTags = 0 then s.tagReject o code .noResource
  else if s.tagUsed o.tag then s.tagReject o code .tagInUse
  else
    let s := s.enterTag o code fence (some payload) t
    if commandCodes.contains code then s else s.respond o code .unknownCmd

/-- A CMD frame: in sequence it is accepted, acknowledged and its tag checked; otherwise it is discarded. -/
def cmdFrame (s : State) (l : LinkId) (t : Stamp) (seq : BitVec 4) (fence : Bool) (tag : BitVec 12) (code : BitVec 16) (payload : List Byte) :
    State :=
  if !s.isUp l then s
  else if seq.toNat ≠ (s.link l).rxCount.toNat % 16 then s.nakOnce l
  else
    let s := s.atLink l (fun (x : Link) => { ({ x with rxCount := x.rxCount + 1 } : Link).ack 0 with nakDue := false })
    s.tagCheck { path := .link l, tag := tag.toNat } code.toNat fence payload t

/-! ### Responses and events sent (R298, R305, R307, R308) -/

/-- The link on which the responses of a link go now, when they can. -/
def rspLink (s : State) (l : LinkId) : Option LinkId :=
  if s.isUp l then some l
  else if (s.link l).state = .retrain then none
  else if s.isUp (otherLink l) then some (otherLink l)
  else none

/-- The oldest response of a link is sent. -/
def sendResponse (s : State) (l : LinkId) : State := match (s.link l).queue, s.rspLink l with
  | r :: rest, some k =>
    if !(s.link k).room then s
    else
      let flags : BitVec 8 := BitVec.ofNat 8 (flag (k ≠ l) 1 + flag r.reject 2)
      let s := s.atLink l (fun (x : Link) => { x with queue := rest })
      s.atLink k (fun (x : Link) => x.send { type := .rsp, flags := flags, tag := r.origin.tag, code := BitVec.ofNat 16 r.code, payload := r.payload } none)
  | _, _ => s

/-- No event on a link awaits acknowledgement. -/
def evtClear (s : State) (l : LinkId) : Bool := (s.link l).unacked.all (fun (h : Held) => h.event.isNone)

/-- The link to which events go now (R308). -/
def evtLink (s : State) : Option LinkId :=
  let e := s.eventLink
  let o := otherLink e
  if s.isUp e then (if s.evtClear o then some e else if s.isUp o then some o else none)
  else if s.isOut e && s.isUp o then some o
  else none

/-- The earliest event not yet sent, held ones among them. -/
def nextEvent (s : State) : Option EvEntry :=
  ((s.retained.held ++ s.events).filter (fun (e : EvEntry) => e.sent.isNone)).foldl (fun (x : Option EvEntry) (e : EvEntry) => match x with
    | none => some e
    | some y => if laterSeq y.seq e.seq then some e else some y) none

/-- An event held as a slot number is earlier than the one to be sent. -/
def slotFirst (s : State) (seq : Nat) : Bool := s.retained.heldSlots.any (fun (x : Nat × Nat) => laterSeq seq x.2)

/-- The next event goes to the event link once its number lies within the window. -/
def sendEvent (s : State) : State :=
  let s := s.refillHeld
  match s.nextEvent, s.evtLink with
  | some e, some l =>
    if laterSeq e.seq ((s.ackSeq + s.evWindow) % 2 ^ 32) || !(s.link l).room || s.slotFirst e.seq then s
    else
      let stale := if h : e.berth < 48 then s.tele[e.berth].stale else false
      let e2 : EvEntry := { e with sent := some l, resync := e.resync || stale }
      let upd (x : EvEntry) : EvEntry := if x.seq = e.seq then e2 else x
      let s := if h : e.berth < 48 then s.atTele ⟨e.berth, h⟩ (fun t => { t with stale := false }) else s
      let s := { s with events := s.events.map upd, retained.held := s.retained.held.map upd
                        lastSent := if laterSeq e.seq s.lastSent then e.seq else s.lastSent }
      let flags : BitVec 8 := BitVec.ofNat 8 (flag (l ≠ s.eventLink) 1)
      s.atLink l (fun (x : Link) => x.send { type := .evt, flags := flags, code := BitVec.ofNat 16 e2.body.code, payload := e2.payload } (some e.seq))
  | _, _ => s

end State

/-! ### The commands -/

/-- CMD_FRAME_RECEIVED (R292, R301). -/
def execCmdFrameReceived (l : LinkId) (at_ : Stamp) (seq : BitVec 4) (fence : Bool) (tag : BitVec 12) (code : BitVec 16) (payload : List Byte)
    (s : State) : Host.Outcome State Fault Refusal := .next (s.cmdFrame l at_ seq fence tag code payload)

/-- FRAME_ERROR (R291). -/
def execFrameError (l : LinkId) (what : Received) (at_ : Stamp) (s : State) : Host.Outcome State Fault Refusal := .next (s.received l what at_)

/-- ACK_FRAME_RECEIVED (R294). -/
def execAckFrameReceived (l : LinkId) (_at : Stamp) (count : BitVec 16) (s : State) : Host.Outcome State Fault Refusal :=
  .next (s.ackFrame l count)

/-- NAK_RECEIVED (R294). -/
def execNakReceived (l : LinkId) (_at : Stamp) (count : BitVec 16) (s : State) : Host.Outcome State Fault Refusal := .next (s.nakFrame l count)

/-- POLL_RECEIVED (R293): the poll's own count acts as any other, and the answer carries the receive count. -/
def execPollReceived (l : LinkId) (_at : Stamp) (count : BitVec 16) (s : State) : Host.Outcome State Fault Refusal :=
  .next (if s.isUp l then (let t := s.ackFrame l count
                           if t.isUp l then t.atLink l (fun (x : Link) => x.ack 0) else t) else s)

/-- RETRAIN_FRAME_RECEIVED (R296, R297). -/
def execRetrainFrameReceived (l : LinkId) (_at : Stamp) (count : BitVec 16) (ready fresh : Bool) (s : State) : Host.Outcome State Fault Refusal :=
  .next (s.retrainFrame l count ready fresh)

/-- ACK_WAIT_TIMEOUT (R294): a POLL, or a retrain after four unanswered. -/
def execAckWaitTimeout (l : LinkId) (_at : Stamp) (s : State) : Host.Outcome State Fault Refusal :=
  .next (if !s.isUp l || (s.link l).unacked.isEmpty then s
         else if 4 ≤ (s.link l).polls then s.retrain l
         else s.atLink l (fun (x : Link) => { (x.ack 0x08) with polls := x.polls + 1 }))

/-- NAK_REPEAT (R293). -/
def execNakRepeat (l : LinkId) (s : State) : Host.Outcome State Fault Refusal :=
  .next (if s.isUp l && (s.link l).nakDue then s.atLink l (fun (x : Link) => x.ack 0x10) else s)

/-- IDLE_FRAME_TIMER (R293). -/
def execIdleFrameTimer (l : LinkId) (s : State) : Host.Outcome State Fault Refusal :=
  .next (if s.isUp l then s.atLink l (fun (x : Link) => x.put { type := .idle, code := x.rxCount }) else s)

/-- LINK_SILENCE_TIMEOUT (R296). -/
def execLinkSilenceTimeout (l : LinkId) (_at : Stamp) (s : State) : Host.Outcome State Fault Refusal :=
  .next (if s.isUp l then s.retrain l else s)

/-- TRAINING_LOCK (R297). -/
def execTrainingLock (l : LinkId) (_at : Stamp) (inverted : Bool) (s : State) : Host.Outcome State Fault Refusal :=
  .next (s.trainLock l inverted)

/-- RETRAIN_TIMEOUT (R296). -/
def execRetrainTimeout (l : LinkId) (s : State) : Host.Outcome State Fault Refusal := .next (s.retrainLate l)

/-- CREDIT_TIMER (R299). -/
def execCreditTimer (s : State) : Host.Outcome State Fault Refusal := .next (if s.freeTags < 256 then s.credit else s)

/-- RESPONSE_SEND (R298). -/
def execResponseSend (l : LinkId) (_at : Stamp) (s : State) : Host.Outcome State Fault Refusal := .next (s.sendResponse l)

/-- EVENT_SEND (R305, R308). -/
def execEventSend (_at : Stamp) (s : State) : Host.Outcome State Fault Refusal := .next s.sendEvent

/-- DEV_RESET_RESPONSE_TIMEOUT (Table 11.3). -/
def execDevResetResponseTimeout (s : State) : Host.Outcome State Fault Refusal :=
  .next (if s.resetDue.isSome then s.deviceReset 7 else s)

end Sys2Proof.Machine
end

