-- ==== Sys2Proof/Machine/PathCommands.lean ====
section
/-!
DEFINITION. The commands of the power path and of the VIN_BUS window (R181–R207).
-/

namespace Sys2Proof.Machine

namespace State

/-- The VIN_BUS window of a quay closes or opens again (R195). -/
def vinFlags (s : State) (q : QuayId) (uv ov : Bool) : State :=
  s.atQuay q (fun x => { x with uvNow := uv, ovNow := ov, vinOk := !uv && !ov })

/-- The ranges of VIN_WIN and VIN_TIME (Table 6.15). -/
def vinWinClamp (v : Word) : Word := clampFld (clampFld (v &&& 0x03FF03FF#32) 0 10 400 560) 16 10 580 660
@[inherit_doc vinWinClamp] def vinTimeClamp (v : Word) : Word := clampFld (v &&& 0x7F#32) 0 7 1 100

/-- A write to VIN_WIN or VIN_TIME waits for the next boundary (R207). -/
def vinWrite (s : State) (q : QuayId) (time : Bool) (v : Word) : State :=
  s.atQuay q (fun x =>
    let h := x.vinHeld.getD (x.vinWin, x.vinTime)
    { x with vinHeld := some (if time then (h.1, vinTimeClamp v) else (vinWinClamp v, h.2)) })

/-- The gate-drive and sense-offset test ends: a failure is a lasting fault of the path (R188, R439), and a host that asked
the test has its answer. -/
def gateTest (s : State) (b : BerthId) (t : Stamp) (r : GateReadings) : State :=
  if !s.berths[b].path.testBusy || s.berths[b].path.testKind ≠ 2 then s
  else
    let pass := Berth.gatePass r
    let host := s.testWanted 6 b.val 0
    let j := s.judge (.path b) pass host true
    let s := j.2.atEvent b t (fun e x => (x.gateTestDone e t r).stEnd pass j.1)
    s.answerTests 6 b.val 0 pass j.1 (if s.berths[b].path.state = .locked then 3 else 0)

/-- The pass-transistor test ends (R200, R201), and a host that asked it has its answer: a shorted pair is a lasting fault. -/
def passTest (s : State) (b : BerthId) (t : Stamp) (r : PassReadings) : State :=
  if s.berths[b].path.state ≠ .test then s
  else
    let res := Berth.judgePass s.berths[b].path.testOk s.berths[b].path.testIdle r
    let ok := res ≠ Berth.PassResult.srcShort && res ≠ Berth.PassResult.snkShort
    let host := s.testWanted 5 b.val 0
    let j := if host then s.judge (.path b) ok host true else (0, s)
    let s := j.2.atEvent b t (fun e x => (x.passTestDone e t r).stEnd ok (if ok then 0 else 2))
    (if host then s.devEvent (.selftest 5 b 0 2 (if ok then .ok else .selftestFail) j.1 (if ok then 0 else 3)) b.val else s).answerTests
      5 b.val 0 ok j.1 (if ok then 0 else 3)

end State

/-- A close case in OFF closes the source path (SOURCE_PATH_CLOSE; R182, R183). -/
def execSourcePathClose (b : BerthId) (at_ : Stamp) (vbrMv : Nat) (s : State) : Host.Outcome State Fault Refusal :=
  .next (s.atEvent b at_ (fun e x => x.sourcePathClose e at_ vbrMv))

/-- The ramp completes (RAMP_COMPLETE; R184). -/
def execRampComplete (b : BerthId) (at_ : Stamp) (s : State) : Host.Outcome State Fault Refusal :=
  .next (s.atEvent b at_ (fun _ x => { x with path.flt := 0, path.fltAt := at_ }.rampComplete))

/-- INRUSH_TO elapses (INRUSH_TIMEOUT; R185). -/
def execInrushTimeout (b : BerthId) (s : State) : Host.Outcome State Fault Refusal :=
  .next (s.atBerth b (fun e x => x.inrushTimeout e))

/-- Reverse current with the sink path closed (SINK_REVERSE_CURRENT; R186). -/
def execSinkReverseCurrent (b : BerthId) (at_ : Stamp) (s : State) : Host.Outcome State Fault Refusal :=
  .next (s.atEvent b at_ (fun _ x => x.sinkReverse))

/-- Over-voltage with the sink path closed (SINK_OVER_VOLTAGE; R186). -/
def execSinkOverVoltage (b : BerthId) (at_ : Stamp) (s : State) : Host.Outcome State Fault Refusal :=
  .next (s.atEvent b at_ (fun _ x => x.sinkOv))

/-- The fast trip (FAST_TRIP; R187). -/
def execFastTrip (b : BerthId) (at_ : Stamp) (s : State) : Host.Outcome State Fault Refusal :=
  .next (s.atEvent b at_ (fun e x => x.fastTrip e at_))

/-- The gate-drive test ends (GATE_DRIVE_TEST_DONE; R188, R194). -/
def execGateDriveTestDone (b : BerthId) (at_ : Stamp) (r : GateReadings) (s : State) : Host.Outcome State Fault Refusal :=
  .next (s.gateTest b at_ r)

/-- The fault timer is accounted for up to a stamp, and expires where it reaches TFLT (FAULT_TIMER_EXPIRY; R190). -/
def execFaultTimerExpiry (b : BerthId) (at_ : Stamp) (segs : List LimSeg) (s : State) : Host.Outcome State Fault Refusal :=
  .next (s.atEvent b at_ (fun e x => x.faultTimer e at_ segs))

/-- VIN_BUS has been below UV for 50 µs (VIN_UV_FILTER; R195, R196). -/
def execVinUvFilter (q : QuayId) (at_ : Stamp) (s : State) : Host.Outcome State Fault Refusal :=
  .next ((s.vinFlags q true s.quays[q].ovNow).atBerths (State.berthsOf q) (fun e x => (x.catchUp e at_).vinUvFilter at_))

/-- VIN_BUS has been below UV for UV_TIME (VIN_UV_SUSTAINED; R197). -/
def execVinUvSustained (q : QuayId) (at_ : Stamp) (s : State) : Host.Outcome State Fault Refusal :=
  .next ((s.vinFlags q true s.quays[q].ovNow).atBerths (State.berthsOf q) (fun e x => (x.catchUp e at_).vinUvSustained e at_))

/-- VIN_BUS has been above OV for 2 µs (VIN_OV; R198). -/
def execVinOv (q : QuayId) (at_ : Stamp) (s : State) : Host.Outcome State Fault Refusal :=
  .next ((s.vinFlags q s.quays[q].uvNow true).atBerths (State.berthsOf q) (fun e x => (x.catchUp e at_).vinOv e at_))

/-- Qq_VINS has stayed inside the window for 10 ms (VIN_OK_RESTORED; R195, Table 7.7). -/
def execVinOkRestored (q : QuayId) (at_ : Stamp) (s : State) : Host.Outcome State Fault Refusal :=
  .next ((s.vinFlags q false false).atBerths (State.berthsOf q) (fun e x => (x.catchUp e at_).vinOkBack))

/-- VBC is below 0.80 V (DISCHARGE_COMPLETE; R199). -/
def execDischargeComplete (b : BerthId) (at_ : Stamp) (s : State) : Host.Outcome State Fault Refusal :=
  .next (s.atEvent b at_ (fun _ x => x.dischargeComplete at_))

/-- 650 ms of discharge (DISCHARGE_TIMEOUT; R199). -/
def execDischargeTimeout (b : BerthId) (s : State) : Host.Outcome State Fault Refusal :=
  .next (s.atBerth b (fun _ x => x.dischargeTimeout))

/-- The pass-transistor test ends (PASS_TRANSISTOR_TEST_DONE; R200, R201). -/
def execPassTransistorTestDone (b : BerthId) (at_ : Stamp) (r : PassReadings) (s : State) :
    Host.Outcome State Fault Refusal :=
  .next (s.passTest b at_ r)

/-- PATH_TEST.RUN (PATH_TEST_RUN; R200). -/
def execPathTestRun (_w : Writer) (b : BerthId) (s : State) : Host.Outcome State Fault Refusal :=
  .next (s.regWrite b (fun _ x => x.addPend .pathTest))

/-- PATH_SAFE.SRC_OPEN (SRC_OPEN; R206). -/
def execSrcOpen (_w : Writer) (b : BerthId) (s : State) : Host.Outcome State Fault Refusal :=
  .next (s.regWrite b (fun _ x => x.addPend .srcOpen))

/-- PATH_SAFE.SNK_OPEN (SNK_OPEN; R206). -/
def execSnkOpen (_w : Writer) (b : BerthId) (s : State) : Host.Outcome State Fault Refusal :=
  .next (s.regWrite b (fun _ x => x.addPend .snkOpen))

/-- PATH_SAFE.DIS_ON (DIS_ON; R206). -/
def execDisOn (_w : Writer) (b : BerthId) (s : State) : Host.Outcome State Fault Refusal :=
  .next (s.regWrite b (fun _ x => x.addPend .disOn))

/-- PATH_SAFE.LOWER_ILIM (LOWER_ILIM; R206). -/
def execLowerIlim (_w : Writer) (b : BerthId) (n : BitVec 10) (s : State) : Host.Outcome State Fault Refusal :=
  .next (s.regWrite b (fun _ x => x.addPend (.lowerIlim n)))

/-- A write to VIN_WIN or VIN_TIME (VIN_WIN_WRITE; R207). -/
def execVinWinWrite (q : QuayId) (time : Bool) (v : Word) (s : State) : Host.Outcome State Fault Refusal :=
  .next (s.vinWrite q time v)

end Sys2Proof.Machine
end

