-- ==== Sys2Proof/Machine/RegCommands.lean ====
section
/-!
DEFINITION. The commands of the regulator (R213–R238).
-/

namespace Sys2Proof.Machine

/-- VREF_NOW reaches the target of a soft start (SOFTSTART_COMPLETE; R220). -/
def execSoftstartComplete (b : BerthId) (at_ : Stamp) (s : State) : Host.Outcome State Fault Refusal :=
  .next (s.atEvent b at_ (fun _ x => x.softstartComplete))

/-- VREF_NOW reaches the target of a slew (SLEW_COMPLETE; R217). -/
def execSlewComplete (b : BerthId) (at_ : Stamp) (s : State) : Host.Outcome State Fault Refusal :=
  .next (s.atEvent b at_ (fun _ x => x.slewComplete))

/-- The stage current exceeds HOLD_ILIM (HOLD_ENGAGE; R227). -/
def execHoldEngage (b : BerthId) (at_ : Stamp) (s : State) : Host.Outcome State Fault Refusal :=
  .next (s.atEvent b at_ (fun _ x => x.holdEngage))

/-- The stage current falls below HOLD_ILIM (HOLD_RELEASE; R227). -/
def execHoldRelease (b : BerthId) (at_ : Stamp) (s : State) : Host.Outcome State Fault Refusal :=
  .next (s.atEvent b at_ (fun _ x => x.holdRelease))

/-- HIC_N current-limited cycles (HICCUP_ENTRY; R229). -/
def execHiccupEntry (b : BerthId) (at_ : Stamp) (s : State) : Host.Outcome State Fault Refusal :=
  .next (s.atEvent b at_ (fun e x => x.hiccupEntry e at_))

/-- HIC_TIME elapses (HICCUP_TIME_EXPIRY; R229). -/
def execHiccupTimeExpiry (b : BerthId) (s : State) : Host.Outcome State Fault Refusal :=
  .next (s.atBerth b (fun _ x => x.hiccupTimeExpiry))

/-- A second without a hiccup entry (HIC_COUNT_CLEAR; R229). -/
def execHicCountClear (b : BerthId) (s : State) : Host.Outcome State Fault Refusal :=
  .next (s.atBerth b (fun _ x => x.hicCountClear))

/-- TRIM has sat at its bound (INTEGRATOR_SATURATION; R214). -/
def execIntegratorSaturation (b : BerthId) (s : State) : Host.Outcome State Fault Refusal :=
  .next (s.atBerth b (fun _ x => x.integratorSaturation))

/-- TSETTLE expires (SETTLE_TIMEOUT; R225). -/
def execSettleTimeout (b : BerthId) (s : State) : Host.Outcome State Fault Refusal :=
  .next (s.atBerth b (fun _ x => x.settleTimeout))

/-- The crowbar comparator trips (CROWBAR_TRIP; R232). -/
def execCrowbarTrip (b : BerthId) (at_ : Stamp) (s : State) : Host.Outcome State Fault Refusal :=
  .next (s.atEvent b at_ (fun e x => x.crowbarTrip e at_))

/-- The regulator check of a crowbar clear ends (CROWBAR_CLEAR_CHECK; R203, R233). -/
def execCrowbarClearCheck (b : BerthId) (vbrMv : Nat) (s : State) : Host.Outcome State Fault Refusal :=
  .next (s.atBerth b (fun e x => x.crowbarCheck e vbrMv))

/-- More than 8 minimum off-times in a row (DROPOUT_SET; R234). -/
def execDropoutSet (b : BerthId) (s : State) : Host.Outcome State Fault Refusal :=
  .next (s.atBerth b (fun _ x => x.dropoutSet))

/-- FLT_N low for 1 µs (STAGE_FAULT; Table 7.7). -/
def execStageFault (b : BerthId) (at_ : Stamp) (s : State) : Host.Outcome State Fault Refusal :=
  .next (s.atEvent b at_ (fun e x => x.stageFault e at_))

/-- FLT_N high again (STAGE_FAULT_RELEASE; Table 7.7). -/
def execStageFaultRelease (b : BerthId) (at_ : Stamp) (s : State) : Host.Outcome State Fault Refusal :=
  .next (s.atEvent b at_ (fun _ x => x.stageFaultRelease))

/-- TMON beyond W9 for 100 µs (THERMAL_STOP; Table 7.7). -/
def execThermalStop (b : BerthId) (at_ : Stamp) (s : State) : Host.Outcome State Fault Refusal :=
  .next (s.atEvent b at_ (fun e x => x.thermalStop e at_))

/-- TMON back within W9 for 1 s (THERMAL_RELEASE; Table 7.7). -/
def execThermalRelease (b : BerthId) (at_ : Stamp) (s : State) : Host.Outcome State Fault Refusal :=
  .next (s.atEvent b at_ (fun _ x => x.thermalRelease))

/-- A write to REG_CFG (REG_CFG_WRITE; R238). -/
def execRegCfgWrite (_w : Writer) (b : BerthId) (v : Word) (s : State) : Host.Outcome State Fault Refusal :=
  .next (s.regWrite b (fun _ x => x.regCfgWrite v))

/-- A write to REG_WIN (REG_WIN_WRITE; R223). -/
def execRegWinWrite (_w : Writer) (b : BerthId) (v : Word) (s : State) : Host.Outcome State Fault Refusal :=
  .next (s.regWrite b (fun _ x => x.regWinWrite v))

/-- REG_SAFE.STANDBY (STANDBY; R221, Table 7.12). -/
def execStandby (_w : Writer) (b : BerthId) (s : State) : Host.Outcome State Fault Refusal :=
  .next (s.regWrite b (fun _ x => x.addPend .regStandby))

/-- REG_SAFE.IDLE (IDLE; Table 7.12). -/
def execIdle (_w : Writer) (b : BerthId) (s : State) : Host.Outcome State Fault Refusal :=
  .next (s.regWrite b (fun _ x => x.addPend .regIdle))

/-- REG_SAFE.LOWER_HOLD (LOWER_HOLD; Table 7.12). -/
def execLowerHold (_w : Writer) (b : BerthId) (n : BitVec 10) (s : State) : Host.Outcome State Fault Refusal :=
  .next (s.regWrite b (fun _ x => x.addPend (.lowerHold n)))

end Sys2Proof.Machine
end

