-- ==== Sys2Proof/Machine/MonCommands.lean ====
section
/-!
DEFINITION. The commands of the window monitors, the rolling audit, parking, the slot sequencer and the general-purpose
timers (R246–R262).
-/

namespace Sys2Proof.Machine

/-! ### The slot-sequencer table (R257) -/

/-- The entries of one pass: up to the first with END. -/
def seqPass : List Word → List Word
  | [] => []
  | w :: r => if w.getLsbD 9 then [w] else w :: seqPass r

/-- A source code of Table 8.6. -/
def seqSrcOk (n : Nat) : Bool := n ≤ 3 || (0x10 ≤ n && n ≤ 0x16) || n = 0x1E || n = 0x1F

/-- An entry of a pass takes a slow source of a berth by local index. -/
def seqTakes (w : Word) (src l : Nat) : Bool := fld w 0 5 = src && (w.getLsbD 8 || fld w 5 3 = l)

/-- A slot-sequencer table is accepted (R257). -/
def seqOk (t : Vector Word 32) : Bool :=
  let p := seqPass t.toList
  let slots := p.foldl (fun n w => n + fld w 16 8 * (if w.getLsbD 8 then 8 else 1)) 0
  p.all (fun w => seqSrcOk (fld w 0 5) && fld w 16 8 ≠ 0) && slots ≤ 200
    && [0x00, 0x01, 0x03].all (fun src => (List.range 8).all (fun l => p.any (fun w => seqTakes w src l)))
    && p.any (fun w => fld w 0 5 = 0x1E)

/-! ### The audit (R249–R253) -/

/-- The 23 comparators of a berth in audit order (R251). -/
def auditComps : List (Fin 27) := [0, 1, 2, 3, 4, 6, 7, 8, 9, 10, 11, 12, 13, 14, 18, 19, 20, 21, 22, 23, 24, 25, 26]

/-- The comparator at an index of the fixed order of a quay's 187 (R251). -/
def auditAt (i : Nat) : CompTest :=
  if h : i < 184 then
    { local_ := ⟨i / 23, by omega⟩, wide := false, comp := (auditComps[i % 23]?).getD 0, targeted := false, origin := 0 }
  else { local_ := 0, wide := true, comp := if i = 184 then 16 else if i = 185 then 17 else 26, targeted := false, origin := 0 }

namespace State

/-- The berth of a quay by local index (R17). -/
def localBerth (q : QuayId) (l : Fin 8) : BerthId := ⟨q.val * 8 + l.val, by omega⟩

/-- A comparator can be tested now: its stand-in is free, its berth neither in reset nor unpowered (R251). -/
def testable (s : State) (q : QuayId) (c : CompTest) : Bool :=
  let b := localBerth q c.local_
  !s.quays[q].test.any (fun x => x.wide = c.wide && (c.wide || x.local_ = c.local_))
    && (c.wide || (!s.berths[b].mon.parked && !s.berths[b].id.fenced && s.tele[b].reset.isNone))

/-- The audit passes over a comparator: it is fenced, or its stand-in holds a fenced duty (R253). -/
def auditSkips (s : State) (q : QuayId) (c : CompTest) : Bool :=
  let x := s.berths[localBerth q c.local_]
  if c.wide then x.mon.fence.getLsbD c.comp && c.comp ≠ 26
  else x.mon.fence.getLsbD c.comp || (x.standInHeld && c.comp ≠ 4 && c.comp ≠ 26)

/-- The next comparator of the audit from index `i` on that the audit does not pass over, within `n` indices. -/
def auditNext (s : State) (q : QuayId) : Nat → Nat → Option (Nat × CompTest)
  | 0, _ => none
  | n + 1, i => if s.auditSkips q (auditAt i) then auditNext s q n ((i + 1) % 187) else some (i, auditAt i)

/-- A targeted test that may start: that of the lowest local index (R252). -/
def targetedTest (s : State) (q : QuayId) : Option (BerthId × CompTest) :=
  (List.finRange 8).findSome? (fun l =>
    let b := localBerth q l
    match s.berths[b].mon.wanted with
    | [] => none
    | (c, o) :: _ =>
      let x : CompTest := { local_ := l, wide := c = 16 || c = 17, comp := c, targeted := true, origin := o }
      if s.testable q x then some (b, x) else none)

/-- A test runs from now on (R250). -/
def runTest (s : State) (q : QuayId) (x : CompTest) : State :=
  let s := s.atQuay q (fun k => { k with test := k.test ++ [x] })
  if x.wide && x.comp = 26 then s
  else if x.wide && !x.targeted then s.atBerths (State.berthsOf q) (fun _ b => b.testStart x.comp false)
  else s.atBerth (localBerth q x.local_) (fun _ b => b.testStart x.comp x.targeted)

/-- A pending test starts at an AUDIT slot: a targeted one first, then the one its pacer selected (R251, R252). -/
def startTest (s : State) (q : QuayId) : State := match s.targetedTest q with
  | some (_, x) => s.runTest q x
  | none =>
    if !s.quays[q].paced then s
    else match s.auditNext q 187 s.quays[q].audit with
      | none => s.atQuay q (fun k => { k with paced := false })
      | some (i, x) =>
        if s.testable q x then (s.runTest q x).atQuay q (fun k => { k with paced := false, audit := (i + 1) % 187 }) else s

/-- The location of a tested comparator (R435). -/
def testLoc (q : QuayId) (x : CompTest) : Loc :=
  if x.wide && x.comp = 26 then .quayStandIn q
  else if x.wide then .comp (localBerth q 0) x.comp else .comp (localBerth q x.local_) x.comp

/-- A test ends: its result, its class, its event, and a lasting fault's fence at the next boundary (R253, R439, R440). -/
def endTest (s : State) (q : QuayId) (l : Fin 8) (wide inverts near at20 at80 : Bool) : State :=
  match s.quays[q].test.find? (fun x => x.wide = wide && (wide || x.local_ = l)) with
  | none => s
  | some x =>
    let pass := Berth.testPass x.comp inverts near at20 at80
    let b := localBerth q x.local_
    let s := s.atQuay q (fun k => { k with test := k.test.filter (fun y => y ≠ x) })
    let s := if wide && x.comp = 26 then s
      else if wide && !x.targeted then s.atBerths (State.berthsOf q) (fun _ y => y.testDone x.comp pass)
      else s.atBerth b (fun _ y => y.testDone x.comp pass)
    let loc := testLoc q x
    let j := s.judge loc pass (x.origin = 2) (x.origin = 0)
    let act := if j.1 = 2 then 1 else 0
    let s := j.2
    let s := if wide && !x.targeted then s else s.atBerth b (fun _ y => y.stEnd pass j.1)
    let e : EvBody := .selftest 0 b x.comp x.origin (if pass then .ok else .selftestFail) j.1 act
    let s := if x.targeted || j.1 = 2 then s.report loc j.1 e b else s
    s.answerTests 0 b x.comp pass j.1 act

/-- A change of a comparator's output, told from the berth as it was before it, that is an edge (R246, R248): it may trigger a
capture (R342). -/
def triggerEdge (s : State) (was : Berth) (b : BerthId) (c : Fin 27) (on : Bool) (t : Stamp) : State :=
  let covered := if h : c.val < 20 then was.blankedAt ⟨c.val / 2, by omega⟩ (c.val % 2 = 0) t else false
  if covered || was.output c = on then s else s.capEdge b c on t

end State

/-- An unblanked comparator change (COMPARATOR_EDGE; R246). -/
def execComparatorEdge (b : BerthId) (c : Fin 27) (on : Bool) (at_ : Stamp) (s : State) : Host.Outcome State Fault Refusal :=
  .next ((s.atEvent b at_ (fun e x => x.comparatorEdge e c on at_)).triggerEdge (s.caughtUp b at_) b c on at_)

/-- A blanking interval ends (BLANKING_END; R248). -/
def execBlankingEnd (b : BerthId) (c : Fin 27) (on : Bool) (at_ : Stamp) (s : State) : Host.Outcome State Fault Refusal :=
  .next ((s.atEvent b at_ (fun e x => x.blankingEnd e c on at_)).triggerEdge (s.caughtUp b at_) b c on at_)

/-- An unexpected edge (UNEXPECTED_EDGE; R252). -/
def execUnexpectedEdge (b : BerthId) (c : Fin 27) (sample : Nat) (at_ : Stamp) (s : State) : Host.Outcome State Fault Refusal :=
  .next (s.atEvent b at_ (fun _ x => x.unexpectedEdge c sample))

/-- The pacer selects the next comparator (AUDIT_PACER; R251). -/
def execAuditPacer (q : QuayId) (s : State) : Host.Outcome State Fault Refusal :=
  .next (s.atQuay q (fun k => { k with paced := true }))

/-- A pending comparator test starts (COMPARATOR_TEST_START; R250). -/
def execComparatorTestStart (q : QuayId) (s : State) : Host.Outcome State Fault Refusal := .next (s.startTest q)

/-- A comparator test ends with what its steps 3 and 4 found (COMPARATOR_TEST_DONE; R250, R253): that of the berth with the local
index, or that of W8 or the quay's stand-in. -/
def execComparatorTestDone (q : QuayId) (l : Fin 8) (wide inverts near at20 at80 : Bool) (s : State) : Host.Outcome State Fault Refusal :=
  .next (s.endTest q l wide inverts near at20 at80)

/-- MON_TEST.RUN (MON_TEST_RUN; R252). -/
def execMonTestRun (w : Writer) (b : BerthId) (sel : BitVec 5) (s : State) : Host.Outcome State Fault Refusal :=
  .next (s.regWrite b (fun _ x => x.monTestWrite w sel.toNat))

/-- A Tug's write to a threshold register (MON_THRESHOLD_WRITE_IGNORED; R243): one with no Tug source is ignored and
counted. -/
def execMonThresholdWriteIgnored (b : BerthId) (n : Fin 10) (low : Bool) (v : Word) (s : State) :
    Host.Outcome State Fault Refusal :=
  .next (s.regWrite b (fun _ x => if low then x.monLowWrite n v else x.monThrWrite n v))

/-- A berth is parked (BERTH_PARK; R254, R384). -/
def execBerthPark (b : BerthId) (s : State) : Host.Outcome State Fault Refusal := .next (s.atBerth b (fun _ x => x.park))

/-- A parked berth wakes (BERTH_WAKE; R254). -/
def execBerthWake (b : BerthId) (at_ : Stamp) (s : State) : Host.Outcome State Fault Refusal :=
  .next (s.atEvent b at_ (fun _ x => x.wake at_))

/-- The Harbourmaster writes MON_WAKE.PARK_EN (PARK_EN_WRITE; R254). -/
def execParkEnWrite (b : BerthId) (en : Bool) (s : State) : Host.Outcome State Fault Refusal :=
  .next (if s.reaches b then s.atBerth b (fun _ x => x.addPend (.parkEn en)) else s)

/-- The Harbourmaster writes the slot-sequencer table (SEQ_ENTRY_WRITE; R257): applied at the next boundary, or refused. -/
def execSeqEntryWrite (q : QuayId) (table : Vector Word 32) (s : State) : Host.Outcome State Fault Refusal :=
  .next (if seqOk table then s.atQuay q (fun k => { k with seqHeld := some (table.map (· &&& 0x00FF03FF#32)) }) else s)

/-- GP_CTRL.GP0_START (GP0_START; R262). -/
def execGp0Start (_w : Writer) (b : BerthId) (s : State) : Host.Outcome State Fault Refusal :=
  .next (s.regWrite b (fun _ x => x.addPend (.gpStart false)))

/-- GP_CTRL.GP0_STOP (GP0_STOP; R262). -/
def execGp0Stop (_w : Writer) (b : BerthId) (s : State) : Host.Outcome State Fault Refusal :=
  .next (s.regWrite b (fun _ x => x.addPend (.gpStop false)))

/-- GP_CTRL.GP1_START (GP1_START; R262). -/
def execGp1Start (_w : Writer) (b : BerthId) (s : State) : Host.Outcome State Fault Refusal :=
  .next (s.regWrite b (fun _ x => x.addPend (.gpStart true)))

/-- GP_CTRL.GP1_STOP (GP1_STOP; R262). -/
def execGp1Stop (_w : Writer) (b : BerthId) (s : State) : Host.Outcome State Fault Refusal :=
  .next (s.regWrite b (fun _ x => x.addPend (.gpStop true)))

/-- GP0 or GP1 expires (GP_TIMER_EXPIRY; R262). -/
def execGpTimerExpiry (b : BerthId) (gp1 : Bool) (s : State) : Host.Outcome State Fault Refusal :=
  .next (s.atBerth b (fun _ x => x.gpExpiry gp1))

end Sys2Proof.Machine
end

