-- ==== Sys2Proof/Machine/Mailbox.lean ====
section
/-!
DEFINITION. How a host command runs (R301–R303, R310, R311–R317, R326–R328), and the DEVICE and LINK classes (Tables 11.3–11.5,
11.13).

A row of a host command stands for the command as it starts on the Harbourmaster.  Where its frame or message has been
accepted before, the command is the waiting one with its origin and code, and it runs on the payload that came with it; where
no such command waits, the row accepts it first (log entry 2).
-/

namespace Sys2Proof.Machine

/-- A check of R313: the condition that fails it, and its status. -/
abbrev Check := Bool × Status

/-- The status of the first check that fails. -/
def firstBad (l : List Check) : Option Status := (l.find? (fun (c : Check) => c.1)).map (fun (c : Check) => c.2)

/-- The berth set at an offset of a payload (R312). -/
def setAt (q : List Byte) (o : Nat) : BitVec 48 := BitVec.ofNat 48 (leAt q o 6)

/-- The bytes of a berth set. -/
def setBytes8 (m : BitVec 48) : List Byte := leBytes 8 m.toNat

/-- The command does no more than read, so that Pilot may issue it at level L1 (R328). -/
def levelOne (code : Nat) (q : List Byte) : Bool :=
  [0x0101, 0x0102, 0x0205, 0x0304, 0x0403, 0x0503, 0x0601, 0x0602, 0x0607, 0x0705, 0x0801, 0x0803, 0x0905, 0x0A02, 0x0B01].contains code
    || (code = 0x0501 && leAt q 3 1 % 2 = 0)

namespace State

/-! ### Acceptance and start (R301, R303, R327, R328) -/

/-- The command tag area marks the command as started. -/
def start (s : State) (o : Origin) : State :=
  { s with tags := s.tags.map (fun (t : TagEntry) => if t.origin = o then { t with started := true } else t) }

/-- A fence holds the command back (R303). -/
def heldBack (s : State) (e : TagEntry) : Bool :=
  s.tags.any (fun (x : TagEntry) => x.origin.path = e.origin.path && !x.done && decide (x.order < e.order) && (e.fence || x.fence))

/-- Tags in use on a path. -/
def tagsOn (s : State) (p : CmdPath) : Nat := (s.tags.filter (fun (t : TagEntry) => t.origin.path = p)).length

/-- Why a command takes no tag (R301, R327, R328). -/
def tagBar (s : State) (o : Origin) : Option Status := match o.path with
  | .pilot => if 4 ≤ s.tagsOn .pilot then some .noResource else none
  | .tunnel =>
    if s.freeTags = 0 then some .noResource
    else if s.tagUsed o.tag then some .tagInUse
    else if 8 ≤ s.tagsOn .tunnel then some .noResource
    else none
  | .link _ => if s.freeTags = 0 then some .noResource else if s.tagUsed o.tag then some .tagInUse else none

/-- The answer to a command that takes no tag. -/
def noTag (s : State) (o : Origin) (code : Nat) (st : Status) : State := match o.path with
  | .pilot => s.say [.err st, .prompt s.pilot.level]
  | _ => s.tagReject o code st

/-- The command that a row runs, with its payload; none when it is held back by a fence or takes no tag. -/
def takeCmd (s : State) (o : Origin) (code : Nat) (p : List Byte) : State × Option (List Byte) :=
  match s.tags.find? (fun (t : TagEntry) => t.origin = o && t.code = code && !t.started && !t.done) with
  | some e => if s.heldBack e then (s, none) else (s.start o, some (e.payload.getD p))
  | none =>
    if 4096 ≤ o.tag then (s, none)
    else match s.tagBar o with
      | some st => (s.noTag o code st, none)
      | none =>
        let s := s.enterTag o code false (some p) s.now
        if s.tags.any (fun (t : TagEntry) => t.origin = o && s.heldBack t) then (s, none) else (s.start o, some p)

/-- The issuing path forbids the command (R313 check 6, R327, R328). -/
def pathBars (s : State) (o : Origin) (code : Nat) (q : List Byte) : Bool := match o.path with
  | .link _ => false
  | .tunnel => code = 0x0A03
  | .pilot =>
    let level := ((s.tags.find? (fun (t : TagEntry) => t.origin = o)).map (fun (t : TagEntry) => t.level)).getD s.pilot.level
    code = 0x0A03 || decide (level < (if levelOne code q then 1 else 2))

/-- A command runs: the checks of R313 from the length on, in order; then its effect. -/
def runCmd (s : State) (o : Origin) (code : Nat) (p : List Byte) (checks : State → List Byte → List Check)
    (go : State → List Byte → State) : State :=
  match s.takeCmd o code p with
  | (s, none) => s
  | (s, some q) => match firstBad (checks s q ++ [(s.pathBars o code q, .notPermitted)]) with
    | some st => s.respond o code st
    | none => go s q

/-! ### What the checks look at (R5, R310, R312, R313) -/

/-- The payload has the length of its layout. -/
def lenCheck (q : List Byte) (n : Nat) : Check := (q.length ≠ n, .badLength)

/-- Reserved bytes of a request are nonzero (R311). -/
def reserved (q : List Byte) (o n : Nat) : Check := (leAt q o n ≠ 0, .badArg)

/-- A berth is fenced for commands: itself, its quay, or its quay in harbour-less mode (R313, R443, R454). -/
def isFenced (s : State) (b : BerthId) : Bool := s.berths[b].id.fenced || s.quays[quayOf b].fenced || s.quays[quayOf b].hless

/-- A quay is fenced for commands. -/
def quayFenced (s : State) (q : QuayId) : Bool := s.quays[q].fenced || s.quays[q].hless

/-- The berth has been released (R310). -/
def isReleased (s : State) (b : BerthId) : Bool := s.quays[quayOf b].released && s.berths[b].cc.release

/-- Checks 3–5 over a berth set at an offset; `fenced` when check 4 is made. -/
def setChecks (s : State) (q : List Byte) (o : Nat) (fenced : Bool) : List Check :=
  let l := setOf (setAt q o)
  [(l.any (fun b => decide (s.berthsOn ≤ b.val)), .berthAbsent), (fenced && l.any s.isFenced, .berthFenced),
   (setAt q o = 0 || leAt q (o + 6) 2 ≠ 0, .badArg)]

/-- The berth that a byte names. -/
def berthAt (q : List Byte) (o : Nat) : BerthId := if h : leAt q o 1 < 48 then ⟨leAt q o 1, h⟩ else 0

/-- Checks 3–5 of one berth named by a byte. -/
def berthChecks (s : State) (q : List Byte) (o : Nat) (fenced : Bool) : List Check :=
  let n := leAt q o 1
  [(decide (n < 48) && decide (s.berthsOn ≤ n), .berthAbsent), (decide (n < 48) && fenced && s.isFenced (berthAt q o), .berthFenced),
   (decide (48 ≤ n), .badArg)]

/-- The quay that a number names. -/
def quayNo (n : Nat) : QuayId := if h : n < 6 then ⟨n, h⟩ else 0

/-- A command over a set is started and some of its berths have their outcomes at once. -/
def runJob (s : State) (o : Origin) (code : Nat) (m : BitVec 48) (f : State → BerthId → State) : State :=
  (setOf m).foldl f (s.startJob o code m)

/-! ### DEV_IDENTIFY and DEV_GET_STATE -/

/-- An ASCII string as bytes. -/
def ascii (x : String) : List Byte := x.toList.map (fun (c : Char) => BitVec.ofNat 8 c.toNat)

/-- A list of bytes padded with zeros to `n`. -/
def padTo (n : Nat) (l : List Byte) : List Byte := (l ++ List.replicate (n - l.length) 0).take n

/-- The order code of the member (R3, Table 0.1). -/
def orderCode (s : State) : List Byte :=
  let n := s.berthsOn
  ascii "SKV-" ++ [BitVec.ofNat 8 (0x30 + n / 10), BitVec.ofNat 8 (0x30 + n % 10)] ++ ascii (if s.eprOn then "E" else "S")

/-- The release of the program of an image slot as loaded: that of BP 4.0 has major 4 and minor 0, and the build of its image (R1, Table
9.17). -/
def slotRelease (s : State) (slot : Nat) : Word :=
  if slot = 0 then BitVec.ofNat 32 (0x04000000 + s.imageWord 0 8 % 65536) else match s.harbour.slots[slot]? with
    | some x => x.curRelease
    | none => 0

/-- The standby core can take over. -/
def standby (s : State) : Bool := s.harbour.ready

/-- The body of DEV_IDENTIFY (Table 11.3). -/
def identifyBody (s : State) : List Byte :=
  padTo 16 s.orderCode ++ padTo 4 (ascii "B0") ++ leBytes 4 s.activeRelease.toNat
    ++ [s.fuse 1, s.fuse 2, s.fuse 3, s.fuse 4].flatMap (fun (w : Word) => leBytes 4 w.toNat)
    ++ setBytes8 (maskOf (fun b => decide (b.val < s.berthsOn))) ++ leBytes 1 s.addrPins.toNat ++ leBytes 1 (flag s.harbour.coreB 0)
    ++ leBytes 2 (flag s.standby 0 + flag s.eprOn 1)
    ++ (List.finRange 48).flatMap (fun (b : BerthId) =>
        leBytes 4 (if b.val < s.berthsOn then (s.slotRelease s.tele[b].slot).toNat else 0))

/-- PHASE codes (Table 11.4). -/
def phaseCode : Phase7 → Nat
  | .brittle => 1 | .plls => 2 | .boot => 3 | .scrub => 4 | .quays => 5 | .release => 6 | .running => 7

/-- The body of DEV_GET_STATE (Table 11.3). -/
def stateBody (s : State) : List Byte :=
  leBytes 1 (phaseCode s.phase)
    ++ leBytes 1 (flag (!s.follower) 0 + flag s.syncLost 1 + flag s.attn 2 + flag s.standby 3 + flag s.supplies.vfuse 4)
    ++ leBytes 6 s.tideCount ++ leBytes 8 s.time ++ s.quays.toList.flatMap (fun (x : Quay) => leBytes 2 (sat16 (x.vins / 10)))
    ++ leBytes 2 (sgn 16 s.temp) ++ s.quays.toList.flatMap (fun (x : Quay) => leBytes 2 (sgn 16 x.temp))
    ++ leBytes 1 ((s.link .xla).state.code + 8 * (s.link .xlb).state.code) ++ leBytes 1 s.resetCause.toNat
    ++ leBytes 4 (s.ticks * 25 / 1000000)

/-! ### DEV_SET_TIME, DEV_RESET -/

/-- A Tide number lies in the future (R31). -/
def future (s : State) (n : Nat) : Bool :=
  let d := (n + 2 ^ 48 - s.tideCount % 2 ^ 48) % 2 ^ 48
  1 ≤ d && d < 2 ^ 47

/-- The boundary that a Tide field names: 0 is the next one. -/
def tideNamed (s : State) (n : Nat) : Nat := if n = 0 then (s.tideCount + 1) % 2 ^ 48 else n

/-- The link that an index names. -/
def linkNo (n : Nat) : LinkId := if n = 1 then .xlb else .xla

/-- A quay or gangway is named by a reset of that scope. -/
def resetChecks (s : State) (o : Origin) (q : List Byte) : List Check :=
  let sc := leAt q 0 1
  let i := leAt q 1 1
  let part := (sc = 1 || sc = 2) && decide (i < 6)
  [(part && decide (s.quaysOn ≤ i), .berthAbsent),
   (part && (s.quays[quayNo i].fenced || (sc = 2 && s.quays[quayNo i].gwFenced)), .berthFenced),
   (4 ≤ sc || leAt q 2 2 ≠ 0x5253 || ((sc = 1 || sc = 2) && decide (6 ≤ i)) || (sc = 3 && decide (2 ≤ i)), .badArg),
   ((sc = 1 || sc = 2) && !s.quays[quayNo i].released, .notPermitted),
   (sc = 3 && (o.path = .link (linkNo i) || (s.link (linkNo i)).state = .off), .notPermitted)]

/-- DEV_RESET starts (Table 11.3, Table 14.5). -/
def goReset (s : State) (o : Origin) (q : List Byte) : State :=
  let i := leAt q 1 1
  let over_ (s : State) (x : Option Origin) : State := match x with
    | some p => s.respond p 0x0104 .superseded
    | none => s
  match leAt q 0 1 with
  | 0 => { s with resetDue := some o }.respond o 0x0104 .ok
  | 1 => (s.resetQuay (quayNo i) false).atQuay (quayNo i) (fun (x : Quay) => { x with why := some 7, resetBy := some (o, 0x0104) })
  | 2 => (((over_ s s.quays[quayNo i].gwBy).gwCount (quayNo i)).2.atQuay (quayNo i)
      (fun (x : Quay) => { x with retrain := true, trained := false, gwBy := some o })).partReport 7 2 i
  | _ => (((over_ s (s.link (linkNo i)).resetBy).failLink (linkNo i) .down).atLink (linkNo i) (fun (x : Link) => { x with resetBy := some o })).partReport 7 3 i

/-! ### DEV_CONFIG (R319, Table 11.5) -/

/-- The items of a configuration command, each an ID and a value padded to 4 bytes; none where they do not fill it exactly. -/
def itemsOf : Nat → List Byte → Option (List (Nat × List Byte))
  | 0, l => if l = [] then some [] else none
  | n + 1, l =>
    let k := (leAt l 2 2 + 3) / 4 * 4
    if l.length < 4 + k then none
    else (itemsOf n (l.drop (4 + k))).map (fun (r : List (Nat × List Byte)) => (leAt l 0 2, (l.drop 4).take (leAt l 2 2)) :: r)

/-- The word at an index of a value. -/
def wordAt (v : List Byte) (i : Nat) : Word := BitVec.ofNat 32 (leAt v (4 * i) 4)

/-- A value of a VIN_q item lies in the ranges of Table 6.15. -/
def vinOkItem (v : List Byte) : Bool :=
  let a := wordAt v 0
  let n := fld (wordAt v 1) 0 7
  400 ≤ fld a 0 10 && fld a 0 10 ≤ 560 && 580 ≤ fld a 16 10 && fld a 16 10 ≤ 660 && 1 ≤ n && n ≤ 100

/-- The quay that an item names. -/
def itemQuay (id : Nat) : Option QuayId :=
  if h : 0x10 ≤ id ∧ id < 0x16 then some ⟨id - 0x10, by omega⟩
  else if h : 0x20 ≤ id ∧ id < 0x26 then some ⟨id - 0x20, by omega⟩ else none

/-- The slot-sequencer table of a value. -/
def seqOf (v : List Byte) : Vector Word 32 := Vector.ofFn (fun (i : Fin 32) => wordAt v i.val)

/-- An item is known and its own rule takes it. -/
def itemOk (s : State) (x : Nat × List Byte) : Bool := match x.1 with
  | 0x01 => x.2.length = 4 && leAt x.2 0 4 ≤ 1
  | 0x02 => x.2.length = 4 && leAt x.2 0 4 = 1 && !s.follower
  | 0x30 => x.2.length = 8 && setAt x.2 0 ≠ 0 && leAt x.2 6 2 = 0
  | id =>
    if 0x10 ≤ id && id < 0x16 then x.2.length = 8 && vinOkItem x.2
    else if 0x20 ≤ id && id < 0x26 then x.2.length = 128 && seqOk (seqOf x.2)
    else false

/-- The checks of DEV_CONFIG's items. -/
def configChecks (s : State) (q : List Byte) : List Check :=
  let l := (itemsOf (leAt q 1 1) (q.drop 4)).getD []
  let quays := l.filterMap (fun (x : Nat × List Byte) => itemQuay x.1)
  let park := (l.filter (fun (x : Nat × List Byte) => x.1 = 0x30)).flatMap (fun (x : Nat × List Byte) => setOf (setAt x.2 0))
  [((itemsOf (leAt q 1 1) (q.drop 4)).isNone, .badLength),
   (quays.any (fun (k : QuayId) => decide (s.quaysOn ≤ k.val)) || park.any (fun (b : BerthId) => decide (s.berthsOn ≤ b.val)), .berthAbsent),
   (quays.any s.quayFenced || park.any s.isFenced, .berthFenced),
   (2 ≤ leAt q 0 1 || leAt q 1 1 = 0 || 16 < leAt q 1 1 || leAt q 2 2 ≠ 0 || l.any (fun (x : Nat × List Byte) => !s.itemOk x), .badArg)]

/-- The items are persisted one by one; false when the area has no free slot (R353). -/
def saveItems (s : State) : List (Nat × List Byte) → Bool × State
  | [] => (true, s)
  | x :: r =>
    if x.1 = 2 then s.saveItems r
    else
      let y := s.saveConfig x.1 x.2
      if y.1 then y.2.saveItems r else (false, s)

/-- DEV_CONFIG: persisted at once, applied at the next boundary. -/
def goConfig (s : State) (o : Origin) (q : List Byte) : State :=
  let l := (itemsOf (leAt q 1 1) (q.drop 4)).getD []
  let x := if leAt q 0 1 % 2 = 1 then s.saveItems l else (true, s)
  if x.1 then { x.2 with later := x.2.later ++ [.devConfig l o] } else s.respond o 0x0105 .noResource

/-! ### LINK class (R299, R300, R305) -/

/-- A link is named by ENABLE. -/
def linkOn (q : List Byte) (l : LinkId) : Bool := (BitVec.ofNat 8 (leAt q 0 1)).getLsbD (linkIdx l).val

/-- The change would leave no link in UP. -/
def lastUp (s : State) (q : List Byte) : Bool :=
  [LinkId.xla, .xlb].any s.isUp && !([LinkId.xla, .xlb].any (fun (l : LinkId) => s.isUp l && linkOn q l))

/-- LINK_CONFIG (R300): a change that disables the command's own link waits for its response. -/
def goLinkConfig (s : State) (o : Origin) (q : List Byte) : State :=
  if leAt q 0 1 = 0 then s.respond o 0x0A01 .notPermitted
  else if s.lastUp q then s.respond o 0x0A01 .linkLost
  else
    let s := { s with eventLink := linkNo (leAt q 1 1) }
    let one (s : State) (l : LinkId) : State :=
      let x := s.link l
      if linkOn q l then
        (if x.state = .off then (s.atLink l (fun (y : Link) => { y with enabled := true, closing := false, fresh := true })).toState l .down
         else s.atLink l (fun (y : Link) => { y with enabled := true, closing := false }))
      else if x.state = .off then s.atLink l (fun (y : Link) => { y with enabled := false })
      else if o.path = .link l then s.atLink l (fun (y : Link) => { y with closing := true })
      else (s.failLink l .off).atLink l (fun (y : Link) => { y with enabled := false })
    ([LinkId.xla, .xlb].foldl one s).respond o 0x0A01 .ok

/-- The body of LINK_STATUS. -/
def linkBody (s : State) : List Byte :=
  leBytes 2 s.freeTags ++ leBytes 1 (linkIdx s.eventLink).val ++ [0]
    ++ s.links.toList.flatMap (fun (x : Link) => leBytes 1 x.state.code ++ leBytes 1 (flag x.inverted 0) ++ [0, 0]
        ++ leBytes 4 x.frameErrs.toNat ++ leBytes 4 x.retrains.toNat ++ leBytes 4 x.resent.toNat)

/-- LINK_EVENT_ACK (R305). -/
def goEventAck (s : State) (o : Origin) (q : List Byte) : State :=
  let n := leAt q 0 4
  if laterSeq n s.lastSent then s.respond o 0x0A03 .badArg
  else
    let ack := if laterSeq n s.ackSeq then n else s.ackSeq
    let s : State := { s with ackSeq := ack, evWindow := leAt q 4 2
                              events := s.events.filter (fun (e : EvEntry) => e.sent.isNone || laterSeq e.seq ack)
                              retained.held := s.retained.held.filter (fun (e : EvEntry) => e.sent.isNone || laterSeq e.seq ack) }
    (s.refillHeld.linkFlags).respond o 0x0A03 .ok (leBytes 4 s.lastSent)

end State

/-! ### The commands -/

/-- DEV_IDENTIFY (0x0101). -/
def execDevIdentify (o : Origin) (p : List Byte) (s : State) : Host.Outcome State Fault Refusal :=
  .next (s.runCmd o 0x0101 p (fun _ q => [State.lenCheck q 0]) (fun s _ => s.respond o 0x0101 .ok s.identifyBody))

/-- DEV_GET_STATE (0x0102): TIDE_SYNC_LOST is cleared by the read (R34). -/
def execDevGetState (o : Origin) (p : List Byte) (s : State) : Host.Outcome State Fault Refusal :=
  .next (s.runCmd o 0x0102 p (fun _ q => [State.lenCheck q 0])
    (fun s _ => { s with syncLost := false }.respond o 0x0102 .ok s.stateBody))

/-- DEV_SET_TIME (0x0103). -/
def execDevSetTime (o : Origin) (p : List Byte) (s : State) : Host.Outcome State Fault Refusal :=
  .next (s.runCmd o 0x0103 p (fun s q => [State.lenCheck q 16, State.reserved q 14 2, (leAt q 8 6 ≠ 0 && !s.future (leAt q 8 6), .badArg)])
    (fun s q => { s with later := s.later ++ [.setTime (s.tideNamed (leAt q 8 6)) (leAt q 0 8) o] }))

/-- DEV_RESET (0x0104). -/
def execDevReset (o : Origin) (p : List Byte) (s : State) : Host.Outcome State Fault Refusal :=
  .next (s.runCmd o 0x0104 p (fun s q => State.lenCheck q 4 :: s.resetChecks o q) (fun s q => s.goReset o q))

/-- DEV_CONFIG (0x0105). -/
def execDevConfig (o : Origin) (p : List Byte) (s : State) : Host.Outcome State Fault Refusal :=
  .next (s.runCmd o 0x0105 p (fun s q => (decide (q.length < 4), .badLength) :: s.configChecks q) (fun s q => s.goConfig o q))

/-- LINK_CONFIG (0x0A01). -/
def execLinkConfig (o : Origin) (p : List Byte) (s : State) : Host.Outcome State Fault Refusal :=
  .next (s.runCmd o 0x0A01 p (fun _ q => [State.lenCheck q 4, State.reserved q 2 2, (4 ≤ leAt q 0 1 || 2 ≤ leAt q 1 1, .badArg)])
    (fun s q => s.goLinkConfig o q))

/-- LINK_STATUS (0x0A02). -/
def execLinkStatus (o : Origin) (p : List Byte) (s : State) : Host.Outcome State Fault Refusal :=
  .next (s.runCmd o 0x0A02 p (fun _ q => [State.lenCheck q 0]) (fun s _ => s.respond o 0x0A02 .ok s.linkBody))

/-- LINK_EVENT_ACK (0x0A03). -/
def execLinkEventAck (o : Origin) (p : List Byte) (s : State) : Host.Outcome State Fault Refusal :=
  .next (s.runCmd o 0x0A03 p (fun _ q => [State.lenCheck q 8, State.reserved q 6 2, (leAt q 4 2 = 0 || 1024 < leAt q 4 2, .badArg)])
    (fun s q => s.goEventAck o q))

end Sys2Proof.Machine
end

