-- ==== Sys2Proof/Machine/HostPolicy.lean ====
section
/-!
DEFINITION. The POLICY and POWER classes of host commands (R8, R9, R116–R119, R128–R130, R138, R141, R146, R150,
Tables 11.11, 11.12).
-/

namespace Sys2Proof.Machine

/-- The bytes of table 0 (R116) in the layout of Tables 4.1 and 4.2. -/
def builtinBytes : List Byte :=
  let t := PolicyTable.builtin
  let head : List Byte := leBytes 2 0x5054 ++ leBytes 1 4 ++ leBytes 1 0 ++ leBytes 2 40 ++ leBytes 1 t.role.toNat ++ leBytes 1 t.flags.toNat
    ++ leBytes 1 t.cls ++ leBytes 1 t.decWindow ++ leBytes 1 t.waitLimit ++ [0] ++ leBytes 2 t.gmin ++ leBytes 2 t.pmax
    ++ leBytes 4 t.defaults.toNat ++ [1, 0, 0, 0, 0, 0, 0, 0]
  let body : List Byte := t.src.flatMap (fun (x : Template) =>
    leBytes 1 x.kind ++ [0] ++ leBytes 2 x.vlo ++ leBytes 2 x.vhi ++ leBytes 1 x.imax ++ leBytes 1 x.imin)
  head ++ leBytes 4 (crc32 (head ++ [0, 0, 0, 0] ++ body)).toNat ++ body

namespace State

/-! ### POLICY_LOAD (R8, R116–R118) -/

/-- The member has no place for an EPR template (R8). -/
def eprBarred (s : State) (t : PolicyTable) : Bool := !s.eprOn && (t.src ++ t.snk).any (fun (x : Template) => x.isEpr)

/-- R141 holds once the changes already accepted and one more have applied. -/
def fitsAfter (s : State) (l : Later) : Bool :=
  let t := ({ s with rounds := s.rounds ++ [l] } : State).ahead
  t.gminFits t.gminOf (fun (b : BerthId) => t.berths[b].enabled) t.budgetB

/-- The loading copy of a table with a segment written (R117; Table 11.11). -/
def loadSegment (s : State) (id off : Nat) (data : List Byte) : State :=
  if h : id < 64 then
    let x := s.tables[id]
    { s with tables := s.tables.set id { x with loading := splice (if off = 0 then [] else x.loading) off data } }
  else s

/-- The last segment has arrived: the checks of R117 in order, then persistence. -/
def checkTable (s : State) (o : Origin) (id : Nat) (persist : Bool) : State :=
  let all := padTo 4096 (((s.tables[id]?).map (fun (x : PolSlot) => x.loading)).getD [])
  let raw := all.take (leAt all 4 2)
  let t := PolicyTable.ofBytes raw
  if !tableCrcOk all then s.respond o 0x0301 .integrity
  else if !headerOk raw id s.eprOn || !bodyOk raw then s.respond o 0x0301 .badArg
  else if s.eprBarred t then s.respond o 0x0301 .notPermitted
  else if !s.fitsAfter (.policy id raw t o) then s.respond o 0x0301 .badArg
  else
    let x := if persist then s.saveTable id raw else (true, s)
    if x.1 then { x.2 with rounds := x.2.rounds ++ [.policy id raw t o] } else s.respond o 0x0301 .noResource

/-- POLICY_LOAD. -/
def goLoad (s : State) (o : Origin) (q : List Byte) : State :=
  let id := leAt q 0 1
  let s := s.loadSegment id (leAt q 2 2) (q.drop 8)
  if leAt q 1 1 < 2 then s.respond o 0x0301 .ok else s.checkTable o id (leAt q 1 1 % 2 = 1)

/-! ### POLICY_BIND, POLICY_DECIDE, POLICY_GET -/

/-- A table ID has a current copy. -/
def hasTable (s : State) (id : Nat) : Bool := id = 0 || (((s.tables[id]?).bind (fun (x : PolSlot) => x.tbl)).isSome)

/-- POLICY_BIND (R118, R119). -/
def goBind (s : State) (o : Origin) (q : List Byte) : State :=
  let id := leAt q 0 1
  let m := setAt q 4
  let p := leAt q 1 1 % 2 = 1
  if !s.fitsAfter (.bind id m p o) then s.respond o 0x0302 .badArg
  else
    let x := if p then s.saveBindings id m else (true, s)
    if x.1 then ({ x.2 with rounds := x.2.rounds ++ [.bind id m p o] } : State).startJob o 0x0302 m else s.respond o 0x0302 .noResource

/-- The stamp at which a command's frame arrived. -/
def arrival (s : State) (o : Origin) : Stamp := ((s.tags.find? (fun (t : TagEntry) => t.origin = o)).map (fun (t : TagEntry) => t.at_)).getD s.now

/-- A decision that arrived in time takes the place of the default that its window's end stored (R129). -/
def lateStore (x : Berth) (w : DecWindow) (accept : Bool) : Berth :=
  { x with pol.oldIds := x.pol.oldIds.map (fun (y : BitVec 16 × DecEnd) => if y.1 = w.id then (y.1, DecEnd.decided) else y)
           pol.stored := x.pol.stored.map (fun (y : Stored) => if y.kind = w.kind && y.content = w.content then { y with accept := accept } else y) }

/-- POLICY_DECIDE (R129). -/
def goDecide (s : State) (o : Origin) (q : List Byte) : State :=
  let id := BitVec.ofNat 16 (leAt q 0 2)
  let accept := leAt q 2 1 = 0
  let t := s.arrival o
  match (List.finRange 48).find? (fun (b : BerthId) => s.berths[b].pol.windows.any (fun (w : DecWindow) => w.id = id)) with
  | some b =>
    if s.berths[b].pol.windows.any (fun (w : DecWindow) => w.id = id && decide (t < w.ends)) then
      (s.atBerth b (fun _ x => match x.pol.windows.find? (fun (w : DecWindow) => w.id = id) with
        | some w => x.storeOutcome w accept .decided
        | none => x)).respond o 0x0303 .ok
    else (s.atBerth b (fun _ x => x.windowEnd id)).respond o 0x0303 .deferredExpired
  | none =>
    match (List.finRange 48).find? (fun (b : BerthId) => s.berths[b].pol.oldIds.any (fun (y : BitVec 16 × DecEnd) => y.1 = id)) with
    | none => s.respond o 0x0303 .badArg
    | some b => match (s.berths[b].pol.oldIds.find? (fun (y : BitVec 16 × DecEnd) => y.1 = id)).map (fun (y : BitVec 16 × DecEnd) => y.2) with
      | some .lapsed => s.respond o 0x0303 .superseded
      | some (.ended w) =>
        if t < w.ends then (s.atBerth b (fun _ x => lateStore x w accept)).respond o 0x0303 .ok else s.respond o 0x0303 .deferredExpired
      | _ => s.respond o 0x0303 .badArg

/-- The bytes of a current copy, zeros beyond the table. -/
def tableBytes (s : State) (id : Nat) : List Byte :=
  padTo 4096 (if id = 0 then builtinBytes else ((s.tables[id]?).map (fun (x : PolSlot) => x.raw)).getD [])

/-- The bindings as POLICY_GET returns them. -/
def bindingBytes (s : State) : List Byte :=
  let set (f : Nat → Bool) : Nat := (List.range 64).foldl (fun (n : Nat) (i : Nat) => n + flag (f i) i) 0
  s.berths.toList.map (fun (x : Berth) => BitVec.ofNat 8 x.pol.table) ++ leBytes 8 (set s.hasTable) ++ leBytes 8 (set s.persisted)

/-! ### POWER_SET_BUDGET, POWER_SET_PRIORITY -/

/-- A field is marked in VALID. -/
def marked (q : List Byte) (i : Nat) : Bool := (BitVec.ofNat 16 (leAt q 0 2)).getLsbD i

/-- A field that VALID does not mark, or one in its range. -/
def inRange (q : List Byte) (i lo hi v : Nat) : Bool := !marked q i || decide (lo ≤ v ∧ v ≤ hi)

/-- The quay budgets of the payload, in W. -/
def quayBudgets (q : List Byte) : Vector Nat 6 := Vector.ofFn (fun (i : Fin 6) => leAt q (0x10 + 2 * i.val) 2)

/-- The fields of POWER_SET_BUDGET are in range. -/
def budgetOk (q : List Byte) : Bool :=
  leAt q 0 2 < 128 && leAt q 2 1 < 2 && inRange q 3 80 120 (leAt q 3 1) && inRange q 0 0 120000 (leAt q 4 4) && inRange q 1 100 200 (leAt q 8 2)
    && inRange q 4 500 560 (leAt q 0xA 2) && inRange q 5 2 50 (leAt q 0xC 1) && inRange q 6 5 100 (leAt q 0xD 1) && leAt q 0xE 2 = 0
    && (quayBudgets q).toList.all (fun (n : Nat) => inRange q 2 0 2000 n)

/-- The settings with the marked fields replaced. -/
def budgetWith (x : Budget) (q : List Byte) : Budget :=
  let x : Budget := if marked q 0 then { x with b := some (leAt q 4 4) } else x
  let x : Budget := if marked q 1 then { x with k := leAt q 8 2 } else x
  let x : Budget := if marked q 2 then { x with qb := quayBudgets q } else x
  let x : Budget := if marked q 3 then { x with tD := leAt q 3 1 } else x
  let x : Budget := if marked q 4 then { x with droopV := leAt q 0xA 2 } else x
  let x : Budget := if marked q 5 then { x with grace := leAt q 0xC 1 } else x
  if marked q 6 then { x with holdToHr := leAt q 0xD 1 } else x

/-- POWER_SET_BUDGET (R9, R118, R141). -/
def goBudget (s : State) (o : Origin) (q : List Byte) : State :=
  let n := budgetWith s.ahead.alloc.budget q
  let p := leAt q 2 1 % 2 = 1
  if !s.fitsAfter (.budget n p o) then s.respond o 0x0401 .badArg
  else
    let x := if p then s.saveBudget n else (true, s)
    if x.1 then { x.2 with rounds := x.2.rounds ++ [.budget n p o] } else s.respond o 0x0401 .noResource

/-- POWER_SET_PRIORITY (R119, R141). -/
def goPriority (s : State) (o : Origin) (q : List Byte) : State :=
  let l : Later := .priority (berthAt q 0) (leAt q 1 1) (leAt q 2 2) o
  if s.fitsAfter l then { s with rounds := s.rounds ++ [l] } else s.respond o 0x0402 .badArg

/-! ### POWER_GET_ALLOC (R150, Table 11.12) -/

/-- An emergency in force of a kind and scope. -/
def inForce (s : State) (p : Emergency → Bool) : Bool := s.alloc.ems.any (fun (e : Emergency) => !e.ended && p e)

/-- One berth's record. -/
def allocRecord (s : State) (n : Nat) : List Byte :=
  if h : n < 48 then
    let b : BerthId := ⟨n, h⟩
    let t := s.alloc.granted[b]
    let x := s.berths[b]
    leBytes 1 n ++ leBytes 1 t.cls
      ++ leBytes 1 (flag t.hist 0 + flag x.pol.share.isSome 1 + flag (s.isFenced b) 2 + flag x.pol.reserved.isSome 3)
      ++ leBytes 1 x.pol.lastDecision ++ leBytes 2 (sat16 t.cB) ++ leBytes 2 (sat16 t.counted) ++ leBytes 2 (sat16 t.c) ++ leBytes 2 (sat16 t.d)
      ++ leBytes 2 (sat16 x.pol.offer) ++ leBytes 2 (x.pol.share.getD 0xFFFF) ++ leBytes 2 t.g ++ [0, 0]
  else []

/-- The body of POWER_GET_ALLOC. -/
def allocBody (s : State) (first count : Nat) : List Byte :=
  let a := s.alloc
  let q (i : Nat) : Bool := s.inForce (fun (e : Emergency) => e.kind ≠ EmKind.overdraw && e.scope.getLsbD i)
  leBytes 4 a.grantSeq.toNat ++ leBytes 6 a.grantTide
    ++ leBytes 1 (flag (s.inForce (fun (e : Emergency) => e.kind = EmKind.host && e.scope = 0)) 0
        + flag (s.inForce (fun (e : Emergency) => e.kind = EmKind.overdraw)) 1)
    ++ leBytes 1 ((List.range 6).foldl (fun (n : Nat) (i : Nat) => n + flag (q i) i) 0)
    ++ leBytes 4 a.grantEff ++ leBytes 2 a.grantK ++ [0, 0] ++ leBytes 4 (sgn 32 a.hc) ++ leBytes 4 (sgn 32 a.hd)
    ++ a.grantPq.toList.flatMap (fun (n : Nat) => leBytes 2 (n / 10))
    ++ (List.range count).flatMap (fun (i : Nat) => s.allocRecord (first + i))

/-- A range names a berth that the member does not enable (R5). -/
def rangeAbsent (s : State) (first count : Nat) : Bool :=
  (List.range count).any (fun (i : Nat) => decide (first + i < 48) && decide (s.berthsOn ≤ first + i))

/-- A range of berths is empty, too long, or runs past the last one. -/
def rangeBad (first count most : Nat) : Bool := count = 0 || decide (most < count) || decide (48 < first + count)

end State

/-! ### The commands -/

/-- POLICY_LOAD (0x0301). -/
def execPolicyLoad (o : Origin) (p : List Byte) (s : State) : Host.Outcome State Fault Refusal :=
  .next (s.runCmd o 0x0301 p
    (fun _ q => [(decide (q.length < 8) || q.length ≠ 8 + leAt q 4 2, .badLength),
      (64 ≤ leAt q 0 1 || 4 ≤ leAt q 1 1 || leAt q 4 2 = 0 || 504 < leAt q 4 2 || 4096 < leAt q 2 2 + leAt q 4 2 || leAt q 6 2 ≠ 0, .badArg),
      (leAt q 0 1 = 0, .notPermitted)])
    (fun s q => s.goLoad o q))

/-- POLICY_BIND (0x0302). -/
def execPolicyBind (o : Origin) (p : List Byte) (s : State) : Host.Outcome State Fault Refusal :=
  .next (s.runCmd o 0x0302 p
    (fun s q => [State.lenCheck q 12] ++ s.setChecks q 4 false ++ [(2 ≤ leAt q 1 1 || leAt q 2 2 ≠ 0 || !s.hasTable (leAt q 0 1), .badArg)])
    (fun s q => s.goBind o q))

/-- POLICY_DECIDE (0x0303). -/
def execPolicyDecide (o : Origin) (p : List Byte) (s : State) : Host.Outcome State Fault Refusal :=
  .next (s.runCmd o 0x0303 p (fun _ q => [State.lenCheck q 4, (2 ≤ leAt q 2 1 || leAt q 3 1 ≠ 0, .badArg)]) (fun s q => s.goDecide o q))

/-- POLICY_GET (0x0304). -/
def execPolicyGet (o : Origin) (p : List Byte) (s : State) : Host.Outcome State Fault Refusal :=
  .next (s.runCmd o 0x0304 p
    (fun s q => [State.lenCheck q 8,
      (leAt q 1 1 ≠ 0 || leAt q 6 2 ≠ 0 || leAt q 4 2 = 0 || 504 < leAt q 4 2
        || (leAt q 0 1 ≠ 0xFF && (64 ≤ leAt q 0 1 || !s.hasTable (leAt q 0 1) || 4096 < leAt q 2 2 + leAt q 4 2)), .badArg)])
    (fun s q => s.respond o 0x0304 .ok
      (if leAt q 0 1 = 0xFF then s.bindingBytes else ((s.tableBytes (leAt q 0 1)).drop (leAt q 2 2)).take (leAt q 4 2))))

/-- POWER_SET_BUDGET (0x0401). -/
def execPowerSetBudget (o : Origin) (p : List Byte) (s : State) : Host.Outcome State Fault Refusal :=
  .next (s.runCmd o 0x0401 p (fun _ q => [State.lenCheck q 28, (!State.budgetOk q, .badArg)]) (fun s q => s.goBudget o q))

/-- POWER_SET_PRIORITY (0x0402). -/
def execPowerSetPriority (o : Origin) (p : List Byte) (s : State) : Host.Outcome State Fault Refusal :=
  .next (s.runCmd o 0x0402 p
    (fun s q => [State.lenCheck q 4] ++ s.berthChecks q 0 false ++ [(8 ≤ leAt q 1 1 || 2400 < leAt q 2 2, .badArg)])
    (fun s q => s.goPriority o q))

/-- POWER_GET_ALLOC (0x0403). -/
def execPowerGetAlloc (o : Origin) (p : List Byte) (s : State) : Host.Outcome State Fault Refusal :=
  .next (s.runCmd o 0x0403 p (fun s q => [State.lenCheck q 4, (s.rangeAbsent (leAt q 0 1) (leAt q 1 1), .berthAbsent),
      (State.rangeBad (leAt q 0 1) (leAt q 1 1) 16 || leAt q 2 2 ≠ 0, .badArg)])
    (fun s q => s.respond o 0x0403 .ok (s.allocBody (leAt q 0 1) (leAt q 1 1))))

/-- POWER_EMERGENCY (0x0404). -/
def execPowerEmergency (o : Origin) (p : List Byte) (s : State) : Host.Outcome State Fault Refusal :=
  .next (s.runCmd o 0x0404 p
    (fun s q =>
      let named (i : QuayId) : Bool := (BitVec.ofNat 8 (leAt q 1 1)).getLsbD i.val
      [State.lenCheck q 8, ((List.finRange 6).any (fun (i : QuayId) => named i && decide (s.quaysOn ≤ i.val)), .berthAbsent),
       ((List.finRange 6).any (fun (i : QuayId) => named i && s.quayFenced i), .berthFenced),
       (2 ≤ leAt q 0 1 || 64 ≤ leAt q 1 1 || leAt q 2 2 ≠ 0 || s.bEffOf < leAt q 4 4, .badArg)])
    (fun s q => { s with later := s.later ++ [.emergency (leAt q 0 1 = 1) (BitVec.ofNat 6 (leAt q 1 1)) (leAt q 4 4) o] }))

end Sys2Proof.Machine
end

