-- ==== Sys2Proof/Machine/HostTel.lean ====
section
/-!
DEFINITION. The TELEMETRY and MANIFEST classes of host commands (R321, R322, R330–R333, R338, R339, R342–R355, R432, R433,
Table 11.13).
-/

namespace Sys2Proof.Machine

namespace State

/-! ### TEL_READ (R330–R333) -/

/-- One berth's record of TEL_READ: `avg` for the averaged set with peaks. -/
def telRecord (s : State) (avg : Bool) (n : Nat) : List Byte :=
  if h : n < 48 then
    let b : BerthId := ⟨n, h⟩
    let t := s.tele[b]
    let c := s.berths[b].id.contract
    let v (k : Fin 4) : Int := if avg then t.out[k] else t.now[k].getD 0
    let pk (k : Fin 4) : Int := if avg then t.peaks[k].getD 0 else 0
    let bad := if avg then t.invalid else t.now.any (fun (x : Option Int) => x.isNone)
    leBytes 1 n ++ leBytes 1 (flag bad 0 + flag c.isSome 1 + flag s.berths[b].id.powerSource 2)
      ++ leBytes 2 (sgn 16 (v 0)) ++ leBytes 2 (sgn 16 (v 1)) ++ leBytes 2 (sgn 16 (v 2)) ++ leBytes 2 (sgn 16 (v 3))
      ++ leBytes 2 (sgn 16 (pk 0)) ++ leBytes 2 (sgn 16 (pk 1)) ++ leBytes 2 (sgn 16 (pk 2)) ++ leBytes 2 (sgn 16 (pk 3))
      ++ [0, 0, 0, 0, 0, 0]
  else []

/-- The peaks of a range of berths are reset (R333). -/
def clearPeaks (s : State) (first count : Nat) : State :=
  { s with tele := Vector.ofFn (fun (b : Fin 48) =>
      if first ≤ b.val && b.val < first + count then s.tele[b].resetPeaks else s.tele[b]) }

/-- TEL_READ. -/
def goTelRead (s : State) (o : Origin) (q : List Byte) : State :=
  let first := leAt q 0 1
  let count := leAt q 1 1
  let body := leBytes 6 s.tideCount ++ [0, 0] ++ (List.range count).flatMap (fun (i : Nat) => s.telRecord (leAt q 2 1 = 1) (first + i))
  (if leAt q 3 1 % 2 = 1 then s.clearPeaks first count else s).respond o 0x0501 .ok body

/-! ### Snapshots (R338, R339) -/

/-- The lowest number from the next one on that names no bank. -/
def newSnapId (s : State) : Nat :=
  (((List.range 5).map (fun (i : Nat) => (s.nextSnap + i) % 256)).find? (fun (n : Nat) => !s.snaps.any (fun (x : Snap) => x.id = n))).getD 0

/-- How long ago a held snapshot was taken. -/
def snapAge (s : State) (x : Snap) : Nat := (s.tideCount + 2 ^ 48 - x.tide % 2 ^ 48) % 2 ^ 48

/-- The held snapshot with the oldest Tide. -/
def oldestSnap (s : State) : Option Snap :=
  (s.snaps.filter (fun (x : Snap) => x.taken && x.pendingFor = [])).foldl (fun (m : Option Snap) (x : Snap) => match m with
    | none => some x
    | some y => if s.snapAge y < s.snapAge x then some x else some y) none

/-- The snapshot of a Tide. -/
def snapOf (s : State) (n : Nat) : Option Snap := s.snaps.find? (fun (x : Snap) => x.tide = n)

/-- TEL_SNAPSHOT. -/
def goSnapshot (s : State) (o : Origin) (q : List Byte) : State :=
  let n := s.tideNamed (leAt q 0 6)
  match s.snapOf n with
  | some x =>
    if x.taken && x.pendingFor = [] then s.respond o 0x0502 .ok (snapBody x)
    else { s with snaps := s.snaps.map (fun (y : Snap) => if y.id = x.id then { y with pendingFor := y.pendingFor ++ [o] } else y) }
  | none =>
    let new : Snap := { id := s.newSnapId, tide := n, pendingFor := [o] }
    let s1 : State := { s with nextSnap := (new.id + 1) % 256 }
    if s.snaps.length < 4 then { s1 with snaps := s.snaps ++ [new] }
    else match s.oldestSnap with
      | none => s.respond o 0x0502 .noResource
      | some x => { s1 with snaps := s.snaps.map (fun (y : Snap) => if y.id = x.id then new else y) }

/-- A held snapshot by its number. -/
def heldSnap (s : State) (id : Nat) : Option Snap := s.snaps.find? (fun (x : Snap) => x.id = id && x.taken)

/-- The body of TEL_READ_SNAPSHOT. -/
def snapshotBody (s : State) (id first count : Nat) : List Byte := match s.heldSnap id with
  | none => []
  | some x =>
    leBytes 1 x.id ++ [0] ++ leBytes 6 x.tide
      ++ (List.range count).flatMap (fun (i : Nat) => leBytes 1 (first + i) ++ [0, 0, 0] ++ ((x.vals[first + i]?).getD {}).bytes)

/-! ### Manifest commands (R344–R355) -/

/-- The bytes that the manual leaves unstated in a slot's first 0xFE0, steady while the slot is not written again. -/
def slotFree (slot key : Nat) : List Byte := (List.range 0xFE0).map (fun (i : Nat) => Config.firmwareByte key (0x60000000 + slot * 0x1000 + i))

/-- The slot's content is laid out by the manual: a record or a Glaze image. -/
def knownItem (i : ManItem) : Bool := match i with
  | .record .. => true
  | .glaze => true
  | _ => false

/-- The last 0x20 bytes of a slot: WCOUNT, CRC and SEAL (Table 12.5). -/
def slotTail (body : List Byte) (wcount : Word) (sealed : Bool) : List Byte :=
  let c := crc32 body
  leBytes 4 wcount.toNat ++ leBytes 4 c.toNat ++ List.replicate 8 0 ++ leBytes 4 (if sealed then (c ^^^ 0x5EA15EA1#32).toNat else 0)
    ++ List.replicate 12 0

/-- The 4,096 bytes of a Manifest slot. -/
def slotBytes (s : State) (slot : Nat) : List Byte := match s.slotAt slot with
  | none =>
    let body := slotFree slot 0
    body ++ slotTail body 0 false
  | some m => match m.raw with
    | some l => padTo 4096 l
    | none =>
      let body := if m.sealed && knownItem m.item then padTo 0xFE0 m.data
        else slotFree slot (2 * m.seq + (if m.sealed then 1 else 2))
      body ++ slotTail body m.wcount m.sealed

/-- The slots that MAN_LIST shows for an area: its own, then the successors of those retired (R354). -/
def areaSlots (s : State) (a : Nat) : List Nat :=
  let r := areaRange a
  let own := (List.range r.2).map (fun (i : Nat) => i + r.1)
  own ++ (own.filterMap (fun (k : Nat) => (s.repair.succ.find? (fun (p : Nat × Nat) => p.1 = k)).map (fun (p : Nat × Nat) => p.2)))

/-- BERTH, CAUSE and TIDE of a slot. -/
def slotOwner (s : State) (n : Nat) : Nat × Nat × Nat := match (s.slotAt n).map (fun (m : ManSlot) => m.item) with
  | some (.record b c t) => (b, c, t)
  | _ => (if n < 768 then n / 16 else 0xFF, 0, 0)

/-- A slot's write count. -/
def wcountOf (s : State) (n : Nat) : Nat := ((s.slotAt n).map (fun (m : ManSlot) => m.wcount.toNat)).getD 0

/-- One slot of MAN_LIST. -/
def listEntry (s : State) (n : Nat) : List Byte :=
  let x := s.slotOwner n
  leBytes 2 n ++ leBytes 1 x.1 ++ leBytes 1 x.2.1 ++ leBytes 6 x.2.2
    ++ leBytes 1 (if s.slotRetired n then 2 else if s.slotSealed n then 1 else 0) ++ [0]
    ++ leBytes 4 (s.wcountOf n)

/-- The body of MAN_LIST. -/
def listBody (s : State) (area berth first count : Nat) : List Byte :=
  let l := (s.areaSlots area).filter (fun (n : Nat) => berth = 0xFF || (s.slotOwner n).1 = berth)
  leBytes 2 l.length ++ [0, 0] ++ ((l.drop first).take count).flatMap s.listEntry

/-- A sealed record that MAN_CLEAR frees. -/
def clears (area berth before : Nat) (m : ManSlot) : Bool := match m.item with
  | .record b _ t => m.sealed && !m.retired && (b = 0xFF) = (area = 1) && (berth = 0xFF || b = berth) && t < before
  | _ => false

/-- MAN_CLEAR. -/
def goClearMan (s : State) (o : Origin) (q : List Byte) : State :=
  let p := clears (leAt q 0 1) (leAt q 1 1) (leAt q 4 6)
  (s.freeSlot p).respond o 0x0603 .ok (leBytes 2 (s.man.countP p))

/-- Check 3 and 4 of a berth named by a byte that may be 0xFF. -/
def anyBerth (s : State) (q : List Byte) (o : Nat) (fenced : Bool) : List Check :=
  if leAt q o 1 = 0xFF then [] else s.berthChecks q o fenced

/-! ### Capture (R321, R342, R343) -/

/-- The trigger fields of CAP_ARM fit. -/
def capFits (q : List Byte) : Bool :=
  let c := leAt q 2 1
  let e := leAt q 3 1
  leAt q 1 1 ≤ 3 && leAt q 4 2 + leAt q 6 2 ≤ 200 && leAt q 10 2 = 0
    && (leAt q 1 1 ≠ 1 || (c < 27 && c ≠ 5 && c ≠ 15 && (if c < 20 then e < 4 && e / 2 = c % 2 else e < 2)))

/-- The comparator that a number names. -/
def compNo (n : Nat) : Fin 27 := if h : n < 27 then ⟨n, h⟩ else 0

/-- CAP_ARM: it is delivered at the next boundary. -/
def goCapArm (s : State) (o : Origin) (q : List Byte) : State :=
  let at_ := s.now + tideLen
  let trig := leAt q 1 1
  let wait := leAt q 8 2
  let arm : CapArm := { origin := o, pre := leAt q 4 2, post := leAt q 6 2, at_ := at_
                        trig := if trig = 0 then .now else if trig = 1 then .edge (compNo (leAt q 2 1)) (leAt q 3 1 % 2 = 0) else .fault
                        until_ := if wait = 0 then none else some (at_ + wait * 100000000)
                        stamp := if trig = 0 then some at_ else none }
  { s with later := s.later ++ [.capArm (berthAt q 0) arm (trig = 3)] }

/-- CAP_ARM at its delivery boundary: a capture that is still pending ends, the frozen window is released, and the new one is
armed; a disarm completes (R321, R342). -/
def armCapture (s : State) (b : BerthId) (arm : CapArm) (disarm : Bool) : State :=
  let s := match s.tele[b].arm with
    | some a => (s.atTele b (fun (t : Tele) => { t with arm := none })).respond a.origin 0x0604 .superseded
    | none => s
  let s := s.atTele b (fun (t : Tele) => t.releaseWindow s.usNow)
  if disarm then { s with freeCtr := s.freeCtr + 1 }.respond arm.origin 0x0604 .ok (freeBytes s.freeCtr 0 16)
  else s.atTele b (fun (t : Tele) => { t with arm := some arm })

/-- The frozen window's bytes from an offset (R343). -/
def windowBytes (s : State) (b : BerthId) (f : CapFrozen) (off len : Nat) : List Byte :=
  (((List.range ((off % 8 + len + 7) / 8)).flatMap (fun (i : Nat) => s.ringRead b (f.first + off / 8 + i))).drop (off % 8)).take len

/-- CAP_READ. -/
def goCapRead (s : State) (o : Origin) (q : List Byte) : State :=
  let b := berthAt q 0
  match s.tele[b].frozen with
  | none => s.respond o 0x0605 .notPermitted
  | some f =>
    let body := s.windowBytes b f (leAt q 4 4) (leAt q 8 2)
    (if leAt q 1 1 % 2 = 1 then s.atTele b (fun (t : Tele) => t.releaseWindow s.usNow) else s).respond o 0x0605 .ok body

/-- A read beyond the frozen window. -/
def capBeyond (s : State) (q : List Byte) : Bool := match s.tele[berthAt q 0].frozen with
  | some f => decide (8 * f.size < leAt q 4 4 + leAt q 8 2)
  | none => false

/-! ### Glaze (R432–R434) -/

/-- An entry of a Glaze image is in range (Table 15.9). -/
def glazeEntryOk (e : List Byte) : Bool :=
  let u := leAt e 0 1
  let c := leAt e 1 1
  let off := (BitVec.ofNat 16 (leAt e 4 2)).toInt
  (if c < 8 then u < 48 else c < 10 && u < 6) && 0x7333 ≤ leAt e 2 2 && leAt e 2 2 ≤ 0x8CCC && -1000 ≤ off && off ≤ 1000 && leAt e 6 2 = 0

/-- The entries of an image. -/
def glazeEntries (l : List Byte) : List (List Byte) := pieces 8 (min 396 (leAt l 6 2)) (l.drop 16)

/-- An image is in order (R433 step 2). -/
def glazeOk (l : List Byte) : Bool :=
  let n := leAt l 6 2
  let names := (glazeEntries l).map (fun (e : List Byte) => leAt e 0 2)
  leAt l 0 4 = 0x474C5A45 && leAt l 4 2 = 4 && n ≤ 396 && leAt l 8 2 = 16 + 8 * n && leAt l 10 2 = 0 && (glazeEntries l).all glazeEntryOk
    && decide names.Nodup

/-- The last segment has arrived. -/
def checkGlaze (s : State) (o : Origin) : State :=
  let l := padTo 3184 s.glazeStage
  if !glazeCrcOk l then s.respond o 0x0606 .integrity
  else if !glazeOk l then s.respond o 0x0606 .badArg
  else
    let img := l.take (leAt l 8 2)
    let x := s.writeVersion 2 .glaze (fun (i : ManItem) => i = .glaze) img
    if x.1 then { x.2 with later := x.2.later ++ [.glaze img o] } else s.respond o 0x0606 .noResource

/-- GLAZE_WRITE. -/
def goGlaze (s : State) (o : Origin) (q : List Byte) : State :=
  let off := leAt q 2 2
  let s : State := { s with glazeStage := splice (if off = 0 then [] else s.glazeStage) off (q.drop 8) }
  if leAt q 0 1 = 0 then s.respond o 0x0606 .ok else s.checkGlaze o

end State

/-! ### The commands -/

/-- TEL_READ (0x0501). -/
def execTelRead (o : Origin) (p : List Byte) (s : State) : Host.Outcome State Fault Refusal :=
  .next (s.runCmd o 0x0501 p
    (fun s q => [State.lenCheck q 4, (s.rangeAbsent (leAt q 0 1) (leAt q 1 1), .berthAbsent),
      (State.rangeBad (leAt q 0 1) (leAt q 1 1) 16 || 2 ≤ leAt q 2 1 || 2 ≤ leAt q 3 1, .badArg)])
    (fun s q => s.goTelRead o q))

/-- TEL_SNAPSHOT (0x0502): a Tide in the past is taken only where a snapshot of it stands. -/
def execTelSnapshot (o : Origin) (p : List Byte) (s : State) : Host.Outcome State Fault Refusal :=
  .next (s.runCmd o 0x0502 p
    (fun s q => [State.lenCheck q 8,
      (leAt q 6 2 ≠ 0 || (leAt q 0 6 ≠ 0 && (s.snapOf (leAt q 0 6)).isNone && !s.future (leAt q 0 6)), .badArg)])
    (fun s q => s.goSnapshot o q))

/-- TEL_READ_SNAPSHOT (0x0503). -/
def execTelReadSnapshot (o : Origin) (p : List Byte) (s : State) : Host.Outcome State Fault Refusal :=
  .next (s.runCmd o 0x0503 p
    (fun s q => [State.lenCheck q 4, (s.rangeAbsent (leAt q 1 1) (leAt q 2 1), .berthAbsent),
      (State.rangeBad (leAt q 1 1) (leAt q 2 1) 12 || leAt q 3 1 ≠ 0 || (s.heldSnap (leAt q 0 1)).isNone, .badArg)])
    (fun s q => s.respond o 0x0503 .ok (s.snapshotBody (leAt q 0 1) (leAt q 1 1) (leAt q 2 1))))

/-- TEL_SUBSCRIBE (0x0504). -/
def execTelSubscribe (o : Origin) (p : List Byte) (s : State) : Host.Outcome State Fault Refusal :=
  .next (s.runCmd o 0x0504 p
    (fun s q => [State.lenCheck q 12] ++ s.setChecks q 0 true ++ [State.reserved q 10 2])
    (fun s q =>
      let s1 : State := { s with later := s.later ++ [.subscribe (setAt q 0) (BitVec.ofNat 16 (leAt q 8 2)) o] }
      s1.startJob o 0x0504 (setAt q 0)))

/-- TEL_CONFIG (0x0505). -/
def execTelConfig (o : Origin) (p : List Byte) (s : State) : Host.Outcome State Fault Refusal :=
  .next (s.runCmd o 0x0505 p
    (fun s q => [State.lenCheck q 12] ++ s.setChecks q 0 true
      ++ [(leAt q 8 2 = 0 || 4000 < leAt q 8 2 || 2 ≤ leAt q 10 1 || leAt q 11 1 ≠ 0, .badArg)])
    (fun s q =>
      let s1 : State := { s with later := s.later ++ [.telConfig (setAt q 0) (leAt q 8 2) (leAt q 10 1 = 1) (some o)] }
      s1.startJob o 0x0505 (setAt q 0)))

/-- MAN_READ (0x0601). -/
def execManRead (o : Origin) (p : List Byte) (s : State) : Host.Outcome State Fault Refusal :=
  .next (s.runCmd o 0x0601 p
    (fun _ q => [State.lenCheck q 8,
      (1024 ≤ leAt q 0 2 || leAt q 4 2 = 0 || 496 < leAt q 4 2 || 4096 < leAt q 2 2 + leAt q 4 2 || leAt q 6 2 ≠ 0, .badArg)])
    (fun s q =>
      let n := leAt q 0 2
      s.respond o 0x0601 .ok (leBytes 1 (flag (s.slotSealed n) 0) ++ [0, 0, 0]
        ++ leBytes 4 (s.wcountOf n)
        ++ ((s.slotBytes n).drop (leAt q 2 2)).take (leAt q 4 2))))

/-- MAN_LIST (0x0602). -/
def execManList (o : Origin) (p : List Byte) (s : State) : Host.Outcome State Fault Refusal :=
  .next (s.runCmd o 0x0602 p
    (fun s q => [State.lenCheck q 8] ++ s.anyBerth q 1 false
      ++ [(6 ≤ leAt q 0 1 || leAt q 4 1 = 0 || 30 < leAt q 4 1 || leAt q 5 3 ≠ 0, .badArg)])
    (fun s q => s.respond o 0x0602 .ok (s.listBody (leAt q 0 1) (leAt q 1 1) (leAt q 2 2) (leAt q 4 1))))

/-- MAN_CLEAR (0x0603). -/
def execManClear (o : Origin) (p : List Byte) (s : State) : Host.Outcome State Fault Refusal :=
  .next (s.runCmd o 0x0603 p
    (fun s q => [State.lenCheck q 12] ++ s.anyBerth q 1 true ++ [(2 ≤ leAt q 0 1 || leAt q 2 2 ≠ 0 || leAt q 10 2 ≠ 0, .badArg)])
    (fun s q => s.goClearMan o q))

/-- CAP_ARM (0x0604). -/
def execCapArm (o : Origin) (p : List Byte) (s : State) : Host.Outcome State Fault Refusal :=
  .next (s.runCmd o 0x0604 p
    (fun s q => [State.lenCheck q 12] ++ s.berthChecks q 0 true
      ++ [(decide (leAt q 0 1 < 48) && s.ringOut (State.berthAt q 0), .berthFenced), (!State.capFits q, .badArg)])
    (fun s q => s.goCapArm o q))

/-- CAP_READ (0x0605). -/
def execCapRead (o : Origin) (p : List Byte) (s : State) : Host.Outcome State Fault Refusal :=
  .next (s.runCmd o 0x0605 p
    (fun s q => [State.lenCheck q 12] ++ s.berthChecks q 0 false
      ++ [(2 ≤ leAt q 1 1 || leAt q 2 2 ≠ 0 || leAt q 8 2 = 0 || 496 < leAt q 8 2 || leAt q 8 2 % 8 ≠ 0 || leAt q 10 2 ≠ 0 || s.capBeyond q, .badArg)])
    (fun s q => s.goCapRead o q))

/-- GLAZE_WRITE (0x0606). -/
def execGlazeWrite (o : Origin) (p : List Byte) (s : State) : Host.Outcome State Fault Refusal :=
  .next (s.runCmd o 0x0606 p
    (fun _ q => [(decide (q.length < 8) || q.length ≠ 8 + leAt q 4 2, .badLength),
      (2 ≤ leAt q 0 1 || leAt q 1 1 ≠ 0 || leAt q 4 2 = 0 || 504 < leAt q 4 2 || 3184 < leAt q 2 2 + leAt q 4 2 || leAt q 6 2 ≠ 0, .badArg)])
    (fun s q => s.goGlaze o q))

/-- GLAZE_READ (0x0607): the image in force, with zero bytes beyond it. -/
def execGlazeRead (o : Origin) (p : List Byte) (s : State) : Host.Outcome State Fault Refusal :=
  .next (s.runCmd o 0x0607 p
    (fun _ q => [State.lenCheck q 4, (leAt q 2 2 = 0 || 504 < leAt q 2 2, .badArg)])
    (fun s q => s.respond o 0x0607 .ok (State.padTo (leAt q 2 2) (s.glaze.drop (leAt q 0 2)))))

end Sys2Proof.Machine
end

