-- ==== Sys2Proof/Machine/Debug.lean ====
section
/-!
DEFINITION. The Harbourmaster and debug view of the device (R38–R41, Table 1.9), and the DEBUG class of host commands (R40, R99,
R101, R419, Table 11.13).
-/

namespace Sys2Proof.Machine

namespace State

/-! ### Addresses (Table 1.9) -/

/-- A berth of the window region cannot be reached: absent, fenced, or its quay in reset. -/
def windowBar (s : State) (n : Nat) : Option Status :=
  if h : n < 48 then
    (if s.berthsOn ≤ n then some .berthAbsent else if s.isFenced ⟨n, h⟩ then some .berthFenced
     else if !s.reaches ⟨n, h⟩ then some .badArg else none)
  else some .badArg

/-- A quay's common registers cannot be reached. -/
def quayBar (s : State) (n : Nat) : Option Status :=
  if h : n < 6 then
    (if s.quaysOn ≤ n then some .berthAbsent else if s.quayFenced ⟨n, h⟩ then some .berthFenced
     else if !s.quays[(⟨n, h⟩ : QuayId)].up then some .badArg else none)
  else some .badArg

/-- Why an access of one word ends with an error (R40). -/
def viewError (s : State) (a : Nat) : Option Status :=
  if a % 4 ≠ 0 then some .badArg
  else if a < 0x1000000 || (0x20000000 ≤ a && a < 0x20340000) then none
  else if 0x40000000 ≤ a && a < 0x40030000 then s.windowBar ((a - 0x40000000) / 0x1000)
  else if 0x50000000 ≤ a && a < 0x50060000 then s.quayBar ((a - 0x50000000) / 0x10000)
  else if (0x60000000 ≤ a && a < 0x60400000) || (0x70000000 ≤ a && a < 0x70010000) || (0x7F000000 ≤ a && a < 0x7F004080) then none
  else some .badArg

/-- The addresses of a run of words. -/
def wordsAt (a n : Nat) : List Nat := (List.range n).map (fun (i : Nat) => a + 4 * i)

/-- The first error over a run of words. -/
def runError (s : State) (a n : Nat) : Option Status := (wordsAt a n).findSome? s.viewError

/-! ### Device control (Tables 14.3, 14.11) -/

/-- A switched power domain is on (R382, R383). -/
def domainOn (s : State) (d : Nat) : Bool :=
  if d < 2 then !(s.repair.coreFenced && (s.markOf (.core (d = 1))).lasting) && s.harbour.testing ≠ some (decide (d = 1))
  else if d < 15 then
    let cluster := (List.finRange 52).filter (fun (t : TugId) => t.val / 4 = d - 2)
    cluster.any (fun (t : TugId) => s.tugs[t].berth.isSome || s.tugs[t].mode = .testing)
      || (d = 14 && cluster.any (fun (t : TugId) => !s.tugs[t].fenced))
  else if d < 23 then !s.repair.banks.getLsbD (d - 15)
  else if d = 23 then true
  else if d < 26 then (s.link (linkNo (d - 24))).state ≠ .off
  else
    let q := quayNo ((d - 26) / 9)
    let i := (d - 26) % 9
    decide (q.val < s.quaysOn) && s.supplies.vq5.getLsbD q.val
      && (i = 0 || (let b : BerthId := ⟨(8 * q.val + (i - 1)) % 48, by omega⟩
                    !s.berths[b].mon.parked && !s.berths[b].id.fenced))

/-- 32 domains as a word. -/
def domainWord (s : State) (base : Nat) : Word :=
  BitVec.ofNat 32 ((List.range 32).foldl (fun (n : Nat) (i : Nat) => n + flag (base + i < 80 && s.domainOn (base + i)) i) 0)

/-- A register of the device-control block (Table 14.11). -/
def controlWord (s : State) (o : Nat) : Word :=
  let held := (maskOf (fun (b : BerthId) => s.tele[b].held)).toNat
  match o with
  | 0x000 => BitVec.ofNat 32 (s.resetCause.toNat + flag s.retValid 8 + flag s.bkpValid 9 + flag s.supplies.vio18 10 + flag s.wdogCore 11)
  | 0x004 =>
    let p := s.supplies
    BitVec.ofNat 32 (flag p.vaon 0 + flag p.vcore 1 + flag p.vio 2 + p.vq5.toNat * 8 + p.vconn.toNat * 512 + flag p.vfuse 15 + flag p.vbak 16)
  | 0x008 => s.domainWord 0
  | 0x00C => s.domainWord 32
  | 0x010 => s.domainWord 64
  | 0x014 => BitVec.ofNat 32 held
  | 0x018 => BitVec.ofNat 32 (held / 2 ^ 32)
  | _ => 0

/-! ### Retained SRAM (Table 14.9) -/

/-- Bytes that the manual leaves unstated in a range of the retained SRAM. -/
def retFree (s : State) (o n : Nat) : List Byte := (List.range n).map (fun (i : Nat) => Config.firmwareByte s.freeCtr (0x7F000000 + o + i))

/-- One copy of the checkpoint: 48 records of 32 bytes; what follows them has no stated places (R337). -/
def checkBytes (s : State) (i : Fin 2) : List Byte := match s.retained.check[i] with
  | none => s.retFree (0x800 * i.val) 0x800
  | some c => c.berths.toList.flatMap (fun (x : Counts) => x.bytes.take 32) ++ s.retFree (0x800 * i.val + 0x600) 0x200

/-- The content of retained SRAM. -/
def retainedBytes (s : State) : List Byte :=
  let r := s.retained
  let held := r.held.flatMap (fun (e : EvEntry) => padTo 64 e.payload)
  let slots := r.heldSlots.flatMap (fun (x : Nat × Nat) => leBytes 2 x.1)
  let hist := r.history.flatMap (fun (x : Nat × Nat × Nat × Nat × Nat) =>
    leBytes 6 x.1 ++ leBytes 1 x.2.1 ++ leBytes 1 x.2.2.1 ++ leBytes 1 x.2.2.2.1 ++ [0] ++ leBytes 6 x.2.2.2.2)
  let head := leBytes 4 0x52455431 ++ leBytes 4 r.backup[0].toNat ++ [0, 0, 0, 0]
  s.checkBytes 0 ++ s.checkBytes 1
    ++ (held ++ s.retFree (0x1000 + held.length) (0x1000 - held.length)).take 0x1000
    ++ (slots ++ List.replicate 0x100 0xFF).take 0x100
    ++ (hist ++ s.retFree (0x2100 + hist.length) (0x100 - hist.length)).take 0x100
    ++ s.retFree 0x2200 0x1D00 ++ List.replicate 0xF0 0
    ++ (if r.valid then head ++ leBytes 4 (crc32 head).toNat else s.retFree 0x3FF0 16)

/-! ### Reads -/

/-- Offsets of staging registers of a berth window (R96, R97), and of its transmit buffers while one is armed (R99). -/
def speculative (s : State) (b : BerthId) (o : Nat) : Bool :=
  [0x01C, 0x028, 0x120, 0x300, 0x304, 0x308, 0x30C, 0x404, 0x408, 0x40C, 0x410, 0x504, 0x508, 0x584, 0x624, 0x628, 0x904, 0x918].contains o
    || (0x280 ≤ o && o < 0x300 && s.berths[b].phy.arm.getLsbD ((o - 0x280) / 0x20))

/-- The berth of a window address. -/
def windowBerth (a : Nat) : BerthId := ⟨(a - 0x40000000) / 0x1000 % 48, by omega⟩

/-- An address is read as speculative (R99): a staging register, an armed buffer, an exchange area. -/
def specAt (s : State) (a : Nat) : Bool :=
  if 0x40000000 ≤ a && a < 0x40030000 then s.speculative (windowBerth a) (a % 0x1000)
  else (List.finRange 52).any (fun (t : TugId) => exchangeBase t ≤ a && a < exchangeBase t + 0x1000)

/-- A quay's common registers (Tables 6.15, 8.5). -/
def quayWord (s : State) (q : QuayId) (o : Nat) : Word :=
  let x := s.quays[q]
  if o = 0x100 then x.vinWin
  else if o = 0x104 then BitVec.ofNat 32 (fld x.vinTime 0 8 + flag x.uvNow 8 + flag x.ovNow 9)
  else if h : 0x200 ≤ o ∧ o < 0x280 then x.seq[(o - 0x200) / 4]
  else 0

/-- The word at an address of the view. -/
def viewWord (s : State) (a : Nat) : Word :=
  if a < 0x1000000 then BitVec.ofNat 32 (s.holdLe a 4)
  else if a < 0x20340000 then BitVec.ofNat 32 (Memory.readLe s.mem a 4)
  else if a < 0x40030000 then s.berths[windowBerth a].winRead (s.env (windowBerth a)) (a % 0x1000)
  else if a < 0x50060000 then s.quayWord (quayNo ((a - 0x50000000) / 0x10000)) (a % 0x10000)
  else if a < 0x60400000 then BitVec.ofNat 32 (leAt (s.slotBytes ((a - 0x60000000) / 0x1000)) (a % 0x1000) 4)
  else if a < 0x70010000 then s.controlWord (a - 0x70000000)
  else if a < 0x7F004000 then BitVec.ofNat 32 (leAt s.retainedBytes (a - 0x7F000000) 4)
  else if h : (a - 0x7F004000) / 4 < 32 then s.retained.backup[(a - 0x7F004000) / 4] else 0

/-- One word is read; a read of RX_DATA takes an entry of the receive FIFO. -/
def readOne (x : List Word × State) (a : Nat) : List Word × State :=
  let s := x.2
  let w := s.viewWord a
  let pops := decide (0x40000000 ≤ a ∧ a < 0x40030000 ∧ a % 0x1000 = 0x21C) && !s.berths[windowBerth a].mon.parked
  (x.1 ++ [w], if pops then s.atBerth (windowBerth a) (fun _ y => y.rxDataRead) else s)

/-- A run of words is read: the words, whether any is speculative, and the state after. -/
def viewRead (s : State) (a n : Nat) : List Word × Bool × State :=
  let r := (wordsAt a n).foldl readOne ([], s)
  (r.1, (wordsAt a n).any s.specAt, { r.2 with freeCtr := r.2.freeCtr + 1 })

/-! ### Writes -/

/-- COMMIT_ARG and COMMIT of a berth are closed to the Harbourmaster while its Tug runs (R101). -/
def commitBar (s : State) (a : Nat) : Bool :=
  0x40000000 ≤ a && a < 0x40030000 && (a % 0x1000 = 0x01C || a % 0x1000 = 0x020) && s.hasTug (windowBerth a)

/-- The seal test of R351 over a slot's bytes. -/
def sealHolds (l : List Byte) : Bool :=
  leAt l 0xFE4 4 = (crc32 (l.take 0xFE0)).toNat && BitVec.ofNat 32 (leAt l 0xFF0 4) = BitVec.ofNat 32 (leAt l 0xFE4 4) ^^^ 0x5EA15EA1#32

/-- What a slot whose bytes pass the seal test holds. -/
def itemOfBytes (slot : Nat) (l : List Byte) (old : ManItem) : ManItem :=
  if slot < 896 then .record (leAt l 7 1) (leAt l 0x10 1) (leAt l 0x20 6)
  else if slot < 912 then .glaze
  else old

/-- A word of a Manifest slot is written. -/
def manWrite (s : State) (slot o : Nat) (w : Word) : State :=
  let l := (splice (s.slotBytes slot) o (leBytes 4 w.toNat)).take 4096
  let old : ManSlot := (s.slotAt slot).getD { slot := slot, item := .free, sealed := false, seq := 0, wcount := 0 }
  let on := sealHolds l
  let m : ManSlot := { old with raw := some l, wcount := BitVec.ofNat 32 (leAt l 0xFE0 4), sealed := on
                                item := if on then itemOfBytes slot l old.item else .free
                                data := if on && slot < 912 then l.take 0xFE0 else if on then old.data else []
                                seq := if on && slot < 896 then leAt l 8 4 else old.seq }
  { s with man := s.man.filter (fun (x : ManSlot) => x.slot ≠ slot) ++ [m] }

/-- A word of a quay's common registers is written (R207, R257). -/
def quayWrite (s : State) (q : QuayId) (o : Nat) (w : Word) : State :=
  if o = 0x100 then s.vinWrite q false w
  else if o = 0x104 then s.vinWrite q true w
  else if h : 0x200 ≤ o ∧ o < 0x280 then
    let t : Vector Word 32 := (s.quays[q].seqHeld.getD s.quays[q].seq).set ((o - 0x200) / 4) (w &&& 0x00FF03FF#32)
    if seqOk t then s.atQuay q (fun (x : Quay) => { x with seqHeld := some t }) else s
  else s

/-- One word is written; what is read-only ignores it (R15, R404, R406). -/
def writeOne (s : State) (x : Nat × Word) : State :=
  let a := x.1
  let w := x.2
  if a < 0x20340000 then { s with mem := Memory.writeBytes s.mem a (leBytes 4 w.toNat) }
  else if a < 0x40030000 then s.windowWrite .harbour (windowBerth a) (a % 0x1000) w
  else if a < 0x50060000 then s.quayWrite (quayNo ((a - 0x50000000) / 0x10000)) (a % 0x10000) w
  else if a < 0x60400000 then s.manWrite ((a - 0x60000000) / 0x1000) (a % 0x1000) w
  else if a < 0x70010000 then (if a = 0x7000001C && w.getLsbD 0 then { s with harbour.unkicked := 0 } else s)
  else if h : 8 ≤ (a - 0x7F004000) / 4 ∧ (a - 0x7F004000) / 4 < 32 then
    { s with retained.backup := s.retained.backup.set ((a - 0x7F004000) / 4) w }
  else s

/-- A run of words is written. -/
def viewWrite (s : State) (a : Nat) (ws : List Word) : State := ((wordsAt a ws.length).zip ws).foldl writeOne s

/-! ### DBG_PEEK, DBG_POKE -/

/-- Checks 3–5 of a debug access: its errors under R40. -/
def viewChecks (s : State) (q : List Byte) : List Check :=
  let e := s.runError (leAt q 0 4) (leAt q 4 2)
  [(e.isSome, e.getD .badArg), (leAt q 4 2 = 0 || 124 < leAt q 4 2 || leAt q 6 2 ≠ 0, .badArg)]

/-- Backup registers 8–12 read from Pilot as zero (R465). -/
def hideBackup (a : Nat) (ws : List Word) : List Word :=
  ((wordsAt a ws.length).zip ws).map (fun (x : Nat × Word) => if 0x7F004020 ≤ x.1 && x.1 ≤ 0x7F004030 then 0 else x.2)

/-- DBG_PEEK. -/
def goPeek (s : State) (o : Origin) (q : List Byte) : State :=
  let r := s.viewRead (leAt q 0 4) (leAt q 4 2)
  let ws := if o.path = .pilot then hideBackup (leAt q 0 4) r.1 else r.1
  r.2.2.respond o 0x0B01 .ok (leBytes 1 (flag r.2.1 0) ++ [0, 0, 0] ++ ws.flatMap (fun (w : Word) => leBytes 4 w.toNat))

/-- DBG_POKE. -/
def goPoke (s : State) (o : Origin) (q : List Byte) : State :=
  (s.viewWrite (leAt q 0 4) ((List.range (leAt q 4 2)).map (fun (i : Nat) => wordAt (q.drop 8) i))).respond o 0x0B02 .ok

end State

/-! ### The commands -/

/-- DBG_PEEK (0x0B01). -/
def execDbgPeek (o : Origin) (p : List Byte) (s : State) : Host.Outcome State Fault Refusal :=
  .next (s.runCmd o 0x0B01 p
    (fun s q => [State.lenCheck q 8] ++ s.viewChecks q ++ [(decide (2 ≤ s.debugLevel), .notPermitted)])
    (fun s q => s.goPeek o q))

/-- DBG_POKE (0x0B02). -/
def execDbgPoke (o : Origin) (p : List Byte) (s : State) : Host.Outcome State Fault Refusal :=
  .next (s.runCmd o 0x0B02 p
    (fun s q => [(decide (q.length < 8) || q.length ≠ 8 + 4 * leAt q 4 2, .badLength)] ++ s.viewChecks q
      ++ [(decide (1 ≤ s.debugLevel) || (State.wordsAt (leAt q 0 4) (leAt q 4 2)).any s.commitBar, .notPermitted)])
    (fun s q => s.goPoke o q))

end Sys2Proof.Machine
end

