-- ==== Sys2Proof/Machine/HostBerth.lean ====
section
/-!
DEFINITION. The BERTH class of host commands (R75, R103, R154, R202, R203, R233, R314, R320, R394, R395, Tables 11.6–11.10).
-/

namespace Sys2Proof.Machine

namespace Berth

/-! ### BERTH_CONFIG items (Table 11.7) -/

/-- The value of an item as a word. -/
def itemWord (v : List Byte) : Word := BitVec.ofNat 32 (leAt v 0 4)

/-- An item is known, has its length, and its value lies in the ranges of its register (R56, R57, R61, R83, R158). -/
def itemFits (x : Nat × List Byte) : Bool :=
  let v := itemWord x.2
  let lo16 (w : Word) : Word := w &&& 0xFFFF#32
  (x.2.length = if x.1 = 0x0F then 8 else 4) && (match x.1 with
    | 0x01 => insClamp (ccTimeClamp 0 v) = v
    | 0x02 => ccTimeClamp 1 v = v
    | 0x03 => ccTimeClamp 2 v = lo16 v
    | 0x04 => clampFld (clampFld v 0 8 25 150) 8 4 1 15 = v
    | 0x05 => phyTimeClamp 0 v = v &&& 0xFFFFFF#32
    | 0x06 => phyTimeClamp 1 v = v &&& 0xFFFFFF#32
    | 0x07 => phyTimeClamp 2 v = v &&& 0xFFFFFF#32
    | 0x08 => clampFld (clampFld (clampFld v 0 8 75 92) 8 8 39 48) 16 8 100 200 = v
    | 0x09 => clampFld (clampFld (clampFld v 0 6 1 40) 8 6 2 50) 16 8 60 200 = v
    | 0x0A => clampFld (clampFld v 0 8 1 100) 8 8 1 100 = v
    | 0x0B => clampFld (clampFld v 0 7 20 80) 8 3 1 7 = v
    | 0x0C => clampFld (clampFld v 0 8 8 255) 8 8 1 255 = v
    | 0x0D => clampFld (clampFld (clampFld v 0 5 4 20) 8 5 4 20) 16 10 100 500 = v
    | 0x0E => clampFld (clampFld (clampFld v 0 5 2 20) 8 5 0 20) 16 5 0 25 = v
    | 0x0F => leAt x.2 0 2 ≤ 1023 && leAt x.2 2 2 ≤ 1023 && leAt x.2 4 2 ≤ 4095 && leAt x.2 6 2 ≤ 4095
    | 0x10 => 750 ≤ leAt x.2 0 2 && leAt x.2 0 2 ≤ 1000 && leAt x.2 0 2 % 10 = 0 && 250 ≤ leAt x.2 2 2 && leAt x.2 2 2 ≤ 500
        && leAt x.2 2 2 % 5 = 0
    | 0x11 => true
    | _ => false)

/-- The masks of a commit that an item needs: PATH for 0x09 and 0x0A, MON for 0x0C and 0x0F. -/
def itemMask (id : Nat) : BitVec 8 := if id = 0x09 || id = 0x0A then 4 else if id = 0x0C || id = 0x0F then 8 else 0

/-- The item is a register of the CC block, which stays powered while the berth is parked (R254). -/
def itemOfCc (id : Nat) : Bool := decide (id ≤ 4)

/-- The committed values of the PATH and MON registers are staged, so that a commit changes no more than the items name. -/
def stageCommitted (b : Berth) : Berth :=
  { b with
    stg.pathCfg := b.path.cfg, stg.pathLimit := b.path.limit, stg.snkLimit := b.path.snkLimit, stg.frsCfg := b.mux.frsCfg
    stg.pathStage := 0, stg.monThr := #v[b.mon.ch[0].thr, b.mon.ch[4].thr, b.mon.ch[9].thr]
    stg.monLow := #v[b.mon.ch[0].low, b.mon.ch[9].low], stg.w0High := b.mon.ch[0].cfg.getLsbD 8
    stg.regOvp := BitVec.ofNat 32 b.reg.cbThr.toNat, stg.regProt := b.reg.prot }

/-- One item is written to its register, or staged. -/
def itemWrite (b : Berth) (x : Nat × List Byte) : Berth :=
  let v := itemWord x.2
  match x.1 with
  | 0x01 => b.ccTimeWrite 0 v
  | 0x02 => b.ccTimeWrite 1 v
  | 0x03 => b.ccTimeWrite 2 v
  | 0x04 => b.vconnCfgWrite v
  | 0x05 => b.phyTimeWrite 0 v
  | 0x06 => b.phyTimeWrite 1 v
  | 0x07 => b.phyTimeWrite 2 v
  | 0x08 => b.swapTimeWrite v
  | 0x09 => { b with stg.pathCfg := v &&& 0x00FF3F3F#32 }
  | 0x0A =>
    { b with stg.pathLimit := setFld b.stg.pathLimit 16 7 (fld v 0 8), stg.snkLimit := setFld b.stg.snkLimit 16 7 (fld v 8 8) }
  | 0x0B => b.regCfgWrite v
  | 0x0C => { b with stg.regProt := v &&& 0xFFFFF#32 }
  | 0x0D => b.regWinWrite v
  | 0x0E => b.monBlankWrite v
  | 0x0F =>
    { b with stg.monThr := b.stg.monThr.set 2 (BitVec.ofNat 10 (leAt x.2 0 2)), stg.monLow := b.stg.monLow.set 1 (BitVec.ofNat 10 (leAt x.2 2 2)) }.addPend
      (.tmonCal (BitVec.ofNat 32 (leAt x.2 4 2 + leAt x.2 6 2 * 65536)))
  | 0x10 => { b with pol.eprSrcKa := leAt x.2 0 2, pol.eprSnkKa := leAt x.2 2 2 }
  | _ => b.muxCfgWrite v

/-- The items of a BERTH_CONFIG on one berth: its Tug commits what needs a commit under the current grant.  The outcome is none
where it is decided at the next boundary. -/
def configure (b : Berth) (e : Env) (l : List (Nat × List Byte)) : Option Status × Berth :=
  if b.mon.parked && l.any (fun (x : Nat × List Byte) => !itemOfCc x.1) then (some .notPermitted, b)
  else
    let m : BitVec 8 := l.foldl (fun (m : BitVec 8) (x : Nat × List Byte) => m ||| itemMask x.1) 0
    let b := l.foldl itemWrite (if m = 0 then b else b.stageCommitted)
    if m = 0 then (none, b)
    else
      let v : Word := BitVec.ofNat 32 (m.toNat + 2 * 2 ^ 8)
      let b : Berth := { b with id.commitArg := b.id.grantSeq }
      let refused := (b.commitReason e.tide (CommitWord.ofWord v)).isSome
      (if refused then some .notPermitted else none, b.commitWrite e.tide v)

/-! ### BERTH_CLEAR_LATCH (Table 11.6) -/

/-- The crowbar latch stands, or the lock that it left (R233). -/
def crowbarHeld (b : Berth) : Bool := b.reg.cbLatch || (b.path.state = .locked && b.path.lock = .crowbar)

/-- The latches that are set, by MASK bit. -/
def latches (b : Berth) : BitVec 5 :=
  BitVec.ofNat 5 (flag b.crowbarHeld 0 + flag (b.reg.state = .latched) 1 + flag b.cc.vconnLatch 2 + flag (b.path.state = .locked) 3
    + flag (b.cc.state = .ccFault && b.cc.ccFaultLatched) 4)

/-- The regulator check of the crowbar starts, below 0.80 V only (R233). -/
def clearCrowbar (b : Berth) : Berth :=
  if 800 ≤ b.adc.vbr then
    (b.finishClear 0 .notPermitted).finishClear 3 .notPermitted
  else
    let b : Berth := { b with reg.cbLatch := false, path.trips := if b.path.state = PathState.locked then [] else b.path.trips }
    b.regIdle.addPend .cbStart

/-- A LOCKED path reruns the test of its cause (R203). -/
def clearPath (b : Berth) (t : Stamp) : Berth :=
  if b.path.state = .test then b
  else
    let b : Berth := { b with path.trips := [] }
    match b.path.lock with
    | .passFetShort => b.startPassTest t true
    | .sinkFetShort => b.startPassTest t true
    | .crowbar => b
    | .none => b.finishClear 3 .ok
    | _ => { b with path.testKind := 2, path.testBusy := true, path.testResult := 0, path.testClear := true
                    st.kind := 6, st.busy := true, st.result := 0 }

/-- One latch of the mask is cleared; a latch that is not set has nothing to clear. -/
def clearOne (b : Berth) (t : Stamp) (bit : Nat) : Berth :=
  if !b.latches.getLsbD bit && !(bit = 3 && b.path.state = .test && b.path.testClear) then b.finishClear bit .ok
  else match bit with
    | 0 => b.clearCrowbar
    | 1 => b.regIdle.finishClear 1 .ok
    | 2 => (b.addPend .vconnRearm).finishClear 2 (if b.cc.state = .attachedSrc && b.raSeen then .ok else .notPermitted)
    | 3 => if b.path.state = .locked && b.path.lock = .crowbar then
             (match b.pol.clear with
              | some j => if j.mask.getLsbD 0 then b else b.clearCrowbar
              | none => b)
           else b.clearPath t
    | _ => b.addPend .ccFaultClear

/-- BERTH_CLEAR_LATCH on one berth; an earlier one that still runs there is superseded. -/
def clearLatches (b : Berth) (o : Origin) (mask : BitVec 5) (t : Stamp) : Berth :=
  let b : Berth := match b.pol.clear with
    | some j => { b with pol.clear := none, done := b.done ++ [{ origin := j.origin, code := 0x0206, status := .superseded }] }
    | none => b
  let m := if mask = 0 then b.latches else mask
  if m = 0 then { b with done := b.done ++ [{ origin := o, code := 0x0206, status := .ok }] }
  else
    (List.range 5).foldl (fun (b : Berth) (i : Nat) => if m.getLsbD i then b.clearOne t i else b)
      { b with pol.clear := some { origin := o, mask := m } }

/-! ### FIFO commands (R103, R154, R320) -/

/-- A command enters the berth's command FIFO. -/
def enqueueCmd (b : Berth) (o : Origin) (code : Nat) (k : FifoKind) (t : Stamp) : Berth :=
  { b with pol.fifo := b.pol.fifo ++ [{ origin := o, code := code, kind := k, due := t + ms 2000 }] }

/-- The message types that the host may send (Table 11.10; numbers of log entry 15). -/
def mayType (kind ty : Nat) (h : Word) : Bool := match kind with
  | 0 => [7, 8, 18, 20, 21, 17, 22, 24].contains ty
  | 1 => [6, 7].contains ty
  | 2 => [3, 4, 6].contains ty
  | 3 => ty = 15 && h.getLsbD 15 && ([1, 2, 3, 6].contains (fld h 0 5) || 16 ≤ fld h 0 5)
  | 4 => ty = 15 && !h.getLsbD 15
  | _ => true

end Berth

namespace State

/-- The SOP kind of a code. -/
def sopNo (n : Nat) : SopKind := if n = 1 then .sopP else if n = 2 then .sopPP else .sop

/-! ### Checks -/

/-- Every berth of a set has a property. -/
def allOf (q : List Byte) (o : Nat) (f : BerthId → Bool) : Bool := (setOf (setAt q o)).all f

/-- The checks of BERTH_CONFIG. -/
def berthConfigChecks (s : State) (q : List Byte) : List Check :=
  let x := itemsOf (leAt q 8 1) (q.drop 12)
  [(decide (q.length < 12) || x.isNone, .badLength)] ++ s.setChecks q 0 true
    ++ [(leAt q 8 1 = 0 || 16 < leAt q 8 1 || leAt q 9 3 ≠ 0 || (x.getD []).any (fun (y : Nat × List Byte) => !Berth.itemFits y), .badArg),
        (!allOf q 0 s.isReleased, .notPermitted)]

/-- The sum of R141 once the berths of a set are enabled. -/
def enableFits (s : State) (m : BitVec 48) : Bool :=
  let t := ({ s with berths := Vector.ofFn (fun (b : Fin 48) => if m.getLsbD b then { s.berths[b] with enabled := true } else s.berths[b]) } : State).ahead
  t.gminFits t.gminOf (fun b => t.berths[b].enabled) t.budgetB

/-- A berth in Held may be enabled only once it is held by R395 and has been disabled (R75, R395). -/
def enableOk (s : State) (b : BerthId) : Bool :=
  s.quays[quayOf b].released && (if s.tele[b].held then !s.berths[b].enabled else s.berths[b].cc.state ≠ .held)

/-! ### Effects -/

/-- The berths of a running command that have no outcome yet have it at the next boundary. -/
def atBoundary (s : State) (o : Origin) (m : BitVec 48) : State :=
  if s.jobs.any (fun (j : SetJob) => j.origin = o) then { s with later := s.later ++ [.finish o m] } else s

/-- BERTH_CONFIG. -/
def goBerthConfig (s : State) (o : Origin) (q : List Byte) : State :=
  let l := (itemsOf (leAt q 8 1) (q.drop 12)).getD []
  let m := setAt q 0
  let one (s : State) (b : BerthId) : State :=
    let r := s.berths[b].configure (s.env b) l
    let s := s.setBerth b r.2
    match r.1 with
    | some st => s.jobDone o b st
    | none => s
  (s.runJob o 0x0201 m one).atBoundary o m

/-- CAPACITY with CAUSE 0 when the enabled set has changed (R149). -/
def ifEnabledMoved (s : State) (old : BitVec 48) : State := if s.enabledSet = old then s else s.capacity 0

/-- BERTH_ENABLE (R75, R141, R202, R395). -/
def goEnable (s : State) (o : Origin) (q : List Byte) : State :=
  let m := setAt q 0
  if !s.enableFits m then s.respond o 0x0202 .badArg
  else
    let one (s : State) (b : BerthId) : State :=
      let x := s.berths[b]
      if s.tele[b].held then
        let s := (s.atBerth b (fun _ y => { y with enabled := true })).atTele b (fun t => { t with held := false, resets := [] })
        (s.releaseBerth b .berthReset).jobDone o b .ok
      else if x.enabled || x.cc.state = .lockedOut then
        (s.atBerth b (fun _ y => { y with enabled := true })).jobDone o b .ok
      else s.atBerth b (fun _ y => { y with enabled := true }.addPend .enable)
    ((s.runJob o 0x0202 m one).ifEnabledMoved s.enabledSet).atBoundary o m

/-- BERTH_DISABLE (R75, R202, R395). -/
def goDisable (s : State) (o : Origin) (q : List Byte) : State :=
  let m := setAt q 0
  let one (s : State) (b : BerthId) : State :=
    let x := s.berths[b]
    if x.cc.state = .lockedOut || s.tele[b].held || x.cc.state = .disabled && !x.enabled then
      (s.atBerth b (fun _ y => { y with enabled := false })).jobDone o b .ok
    else s.atBerth b (fun _ y => { y with enabled := false }.addPend .disable)
  ((s.runJob o 0x0203 m one).ifEnabledMoved s.enabledSet).atBoundary o m

/-- BERTH_RESET (R394, R395). -/
def goBerthReset (s : State) (o : Origin) (q : List Byte) : State :=
  s.runJob o 0x0204 (setAt q 0) (fun (s : State) (b : BerthId) =>
    if s.tele[b].held then s.jobDone o b .notPermitted else s.startReset b (some o))

/-- BERTH_CLEAR_LATCH. -/
def goClear (s : State) (o : Origin) (q : List Byte) : State :=
  (s.runJob o 0x0206 (setAt q 0) (fun (s : State) (b : BerthId) =>
    s.atBerth b (fun _ x => x.clearLatches o (BitVec.ofNat 5 (leAt q 8 1)) s.now))).collect

/-- BERTH_FORCE_DETACH (R52, R75). -/
def goForce (s : State) (o : Origin) (q : List Byte) : State :=
  let m := setAt q 0
  let one (s : State) (b : BerthId) : State :=
    let x := s.berths[b]
    if !x.errRecTaken then s.jobDone o b .notPermitted
    else if x.cc.state = .errorRecovery then s.jobDone o b .ok
    else s.atBerth b (fun _ y => y.addPend .errorRecovery)
  (s.runJob o 0x0207 m one).atBoundary o m

/-- The body of BERTH_GET_STATE (Table 11.8), from the latest latch. -/
def berthBody (s : State) (b : BerthId) : List Byte :=
  let x := s.berths[b]
  let l := x.lat
  let c := x.id.contract
  leBytes 1 b.val ++ leBytes 1 (fld l.ccStatus 0 5) ++ leBytes 1 (fld l.pathStatus 0 3) ++ leBytes 1 (fld l.regStatus 0 4)
    ++ leBytes 4 l.berthStatus.toNat ++ leBytes 4 l.ccStatus.toNat ++ leBytes 1 (fld l.swapStatus 0 4) ++ leBytes 1 x.pol.table
    ++ leBytes 1 ((x.id.tug.map (fun (t : TugId) => t.val)).getD 0xFF)
    ++ leBytes 1 (flag (x.id.fenced || s.quays[quayOf b].fenced) 0 + flag x.mon.parked 1 + flag s.quays[quayOf b].hless 2
        + flag (x.cc.state = .lockedOut) 3 + flag s.tele[b].stale 4)
    ++ leBytes 2 (sat16 ((c.map (fun (y : Contract) => y.volt)).getD 0)) ++ leBytes 2 (sat16 ((c.map (fun (y : Contract) => y.curr)).getD 0))
    ++ leBytes 4 ((c.map (fun (y : Contract) => y.rdo)).getD 0).toNat ++ leBytes 4 ((c.map (fun (y : Contract) => y.pdo)).getD 0).toNat
    ++ leBytes 4 l.adcV.toNat ++ leBytes 2 (fld l.adcI 0 16) ++ leBytes 2 (fld l.adcAux 16 16) ++ leBytes 2 (sat16 x.pol.offer)
    ++ leBytes 1 (fld l.muxStatus 0 8) ++ leBytes 1 x.path.lock.code ++ leBytes 6 l.tide.toNat ++ [0, 0]

/-- A command of one berth's FIFO. -/
def goFifo (s : State) (o : Origin) (code : Nat) (q : List Byte) (k : FifoKind) : State :=
  s.atBerth (berthAt q 0) (fun _ x => x.enqueueCmd o code k s.now)

/-- The PHY of the named berth is fenced (Table 16.3). -/
def phyOut (s : State) (q : List Byte) : Check := (decide (leAt q 0 1 < 48) && s.berths[berthAt q 0].st.phyFenced, .berthFenced)

/-- The data length of BERTH_SEND_MESSAGE fits its kind (Table 11.9). -/
def dlenOk (kind n : Nat) : Bool := match kind with
  | 0 => n = 0
  | 2 => 1 ≤ n && n ≤ 260
  | 5 => n = 0
  | 6 => n = 0
  | _ => 4 ≤ n && n ≤ 28 && n % 4 = 0

/-- The checks of BERTH_SEND_MESSAGE (R320). -/
def messageChecks (s : State) (q : List Byte) : List Check :=
  let kind := leAt q 1 1
  let n := leAt q 8 2
  [(decide (q.length < 12) || q.length ≠ 12 + n, .badLength)] ++ s.berthChecks q 0 true ++
    [s.phyOut q,
     (6 < kind || 2 < leAt q 2 1 || 31 < leAt q 3 1 || 3 < leAt q 4 1 || 3 < leAt q 5 1 || 7 < leAt q 6 1 || leAt q 7 1 ≠ 0
        || leAt q 10 2 ≠ 0 || !dlenOk kind n || (5 ≤ kind && leAt q 3 1 ≠ 0), .badArg),
     (!Berth.mayType kind (leAt q 3 1) (BitVec.ofNat 32 (leAt q 12 4)) || (kind = 4 && leAt q 2 1 ≠ 0)
        || !s.isReleased (berthAt q 0) || !s.berths[berthAt q 0].attached, .notPermitted)]

end State

/-! ### The commands -/

/-- BERTH_CONFIG (0x0201). -/
def execBerthConfig (o : Origin) (p : List Byte) (s : State) : Host.Outcome State Fault Refusal :=
  .next (s.runCmd o 0x0201 p (fun s q => s.berthConfigChecks q) (fun s q => s.goBerthConfig o q))

/-- BERTH_ENABLE (0x0202). -/
def execBerthEnable (o : Origin) (p : List Byte) (s : State) : Host.Outcome State Fault Refusal :=
  .next (s.runCmd o 0x0202 p
    (fun s q => [State.lenCheck q 8] ++ s.setChecks q 0 true ++ [(!State.allOf q 0 s.enableOk, .notPermitted)])
    (fun s q => s.goEnable o q))

/-- BERTH_DISABLE (0x0203). -/
def execBerthDisable (o : Origin) (p : List Byte) (s : State) : Host.Outcome State Fault Refusal :=
  .next (s.runCmd o 0x0203 p
    (fun s q => [State.lenCheck q 8] ++ s.setChecks q 0 false
      ++ [(!State.allOf q 0 (fun b => s.quays[State.quayOf b].released), .notPermitted)])
    (fun s q => s.goDisable o q))

/-- BERTH_RESET (0x0204). -/
def execBerthReset (o : Origin) (p : List Byte) (s : State) : Host.Outcome State Fault Refusal :=
  .next (s.runCmd o 0x0204 p
    (fun s q => [State.lenCheck q 8] ++ s.setChecks q 0 true
      ++ [(!State.allOf q 0 (fun b => s.isReleased b || s.tele[b].held), .notPermitted)])
    (fun s q => s.goBerthReset o q))

/-- BERTH_GET_STATE (0x0205). -/
def execBerthGetState (o : Origin) (p : List Byte) (s : State) : Host.Outcome State Fault Refusal :=
  .next (s.runCmd o 0x0205 p (fun s q => [State.lenCheck q 4] ++ s.berthChecks q 0 false ++ [State.reserved q 1 3])
    (fun s q => s.respond o 0x0205 .ok (s.berthBody (State.berthAt q 0))))

/-- BERTH_CLEAR_LATCH (0x0206). -/
def execBerthClearLatch (o : Origin) (p : List Byte) (s : State) : Host.Outcome State Fault Refusal :=
  .next (s.runCmd o 0x0206 p
    (fun s q => [State.lenCheck q 12] ++ s.setChecks q 0 true
      ++ [(32 ≤ leAt q 8 1 || leAt q 9 3 ≠ 0, .badArg), (!State.allOf q 0 s.isReleased, .notPermitted)])
    (fun s q => s.goClear o q))

/-- BERTH_FORCE_DETACH (0x0207). -/
def execBerthForceDetach (o : Origin) (p : List Byte) (s : State) : Host.Outcome State Fault Refusal :=
  .next (s.runCmd o 0x0207 p
    (fun s q => [State.lenCheck q 8] ++ s.setChecks q 0 true ++ [(!State.allOf q 0 s.isReleased, .notPermitted)])
    (fun s q => s.goForce o q))

/-- BERTH_REQUEST_SWAP (0x0208). -/
def execBerthRequestSwap (o : Origin) (p : List Byte) (s : State) : Host.Outcome State Fault Refusal :=
  .next (s.runCmd o 0x0208 p
    (fun s q => [State.lenCheck q 4] ++ s.berthChecks q 0 true
      ++ [s.phyOut q, (3 ≤ leAt q 1 1 || 2 ≤ leAt q 2 1 || leAt q 3 1 ≠ 0, .badArg), (!s.isReleased (State.berthAt q 0), .notPermitted)])
    (fun s q => s.goFifo o 0x0208 q (.swap (leAt q 1 1) (leAt q 2 1))))

/-- BERTH_SEND_MESSAGE (0x0209). -/
def execBerthSendMessage (o : Origin) (p : List Byte) (s : State) : Host.Outcome State Fault Refusal :=
  .next (s.runCmd o 0x0209 p (fun s q => s.messageChecks q)
    (fun s q => s.goFifo o 0x0209 q
      (.message (leAt q 1 1) (State.sopNo (leAt q 2 1)) (leAt q 3 1) (leAt q 4 1 % 2 = 1) (2 ≤ leAt q 4 1) (leAt q 5 1) (leAt q 6 1)
        (q.drop 12))))

/-- BERTH_ENTER_MODE (0x020A). -/
def execBerthEnterMode (o : Origin) (p : List Byte) (s : State) : Host.Outcome State Fault Refusal :=
  .next (s.runCmd o 0x020A p
    (fun s q => [State.lenCheck q 8] ++ s.berthChecks q 0 true
      ++ [(leAt q 1 1 ≠ 0 || leAt q 4 1 = 0 || 7 < leAt q 4 1 || leAt q 5 3 ≠ 0, .badArg), (!s.isReleased (State.berthAt q 0), .notPermitted)])
    (fun s q => s.goFifo o 0x020A q (.enterMode (BitVec.ofNat 16 (leAt q 2 2)) (leAt q 4 1))))

/-- BERTH_EXIT_MODE (0x020B). -/
def execBerthExitMode (o : Origin) (p : List Byte) (s : State) : Host.Outcome State Fault Refusal :=
  .next (s.runCmd o 0x020B p
    (fun s q => [State.lenCheck q 4] ++ s.berthChecks q 0 true
      ++ [State.reserved q 1 3, (!s.isReleased (State.berthAt q 0), .notPermitted)])
    (fun s q => s.goFifo o 0x020B q .exitMode))

end Sys2Proof.Machine
end

