-- ==== Sys2Proof/Machine/HostService.lean ====
section
/-!
DEFINITION. The FIRMWARE, OTP and SERVICE classes of host commands (R281–R283, R409–R428, R435–R446, R450–R452,
Tables 11.11–11.13).
-/

namespace Sys2Proof.Machine

namespace State

/-! ### Images (R282, R283, Table 9.17) -/

/-- Where a staged image lies in Hold (R282, R450): the inactive Harbourmaster region, or a slot of the staged region. -/
def stageBase (s : State) (target : Nat) : Nat :=
  if target = 0 then (if s.harbour.imageB ≠ s.harbour.slots[0].current then 0 else 0x100000) else 0x280000 + target * 0x12000

/-- The size of a staging place. -/
def stageSize (target : Nat) : Nat := if target = 0 then 0x100000 else 0x12000

/-- One image slot. -/
def slotOf7 (s : State) (n : Nat) : FwSlot := (s.harbour.slots[n]?).getD {}

/-- Replace one image slot. -/
def setSlot (s : State) (n : Nat) (x : FwSlot) : State :=
  if h : n < 7 then { s with harbour.slots := s.harbour.slots.set n x } else s

/-- FW_STAGE: the first segment clears the target; a segment ends an earlier verification. -/
def goStage (s : State) (o : Origin) (q : List Byte) : State :=
  let t := leAt q 0 1
  let first := leAt q 1 1 = 1
  let off := leAt q 4 4
  let old := s.slotOf7 t
  let fresh := first || (t = 0 && old.current)
  let x : FwSlot := { old with verified := false, staged := max (if fresh then 0 else old.staged) (off + leAt q 8 2)
                               current := if t = 0 then false else old.current }
  let s := s.setSlot t x
  let a := s.stageBase t
  let m := if fresh then Memory.setRange s.mem a (stageSize t) [] else s.mem
  { s with mem := Memory.writeBytes m (a + off) (q.drop 12) }.respond o 0x0701 .ok

/-- Header fields in their ranges (order 1 of Table 9.18). -/
def headerGood (h : List Byte) : Bool :=
  let code := leAt h 0x10 4
  let dat := leAt h 0x14 4
  let stack (n : Nat) : Bool := n % 4 = 0 && 0x8000 ≤ n && n ≤ 0x10000
  leAt h 0 4 = 0x5A504731 && leAt h 4 2 = 4 && leAt h 6 2 < 2 && leAt h 0x34 12 = 0 && leAt h 0xC0 64 = 0
    && 4 ≤ code && code ≤ 32768 && code % 4 = 0 && dat ≤ 32768 && dat % 4 = 0
    && leAt h 0x18 4 % 4 = 0 && leAt h 0x18 4 < code && leAt h 0x1C 4 % 4 = 0 && leAt h 0x1C 4 < code
    && leAt h 0x20 4 % 128 = 0 && leAt h 0x20 4 < code && stack (leAt h 0x24 4) && stack (leAt h 0x28 4)
    && leAt h 0x2C 4 ≤ 4064 && leAt h 0x2C 4 % 32 = 0

/-- The bytes of eight fuse rows from one on, each row big-endian (Tables 15.1, 15.4). -/
def digestRows (s : State) (r : Nat) : List Byte :=
  (List.range 8).flatMap (fun (i : Nat) => beBytes ((s.brittle.shadow[r + i]?).getD 0))

/-- The checks of Table 9.18 on a staged berth-program image, in order. -/
def tugImage (s : State) (t : Nat) : Option Status :=
  let h := Memory.readBytes s.mem (s.stageBase t) 256
  let customer := leAt h 6 2 % 2 = 1
  let pub := (h.drop 0x40).take 64
  let noKey := leAt h 0x40 64 = 0
  if !headerGood h then some .badArg
  else if customer = noKey then some .badArg
  else if customer && (s.digestRows 130).all (fun (x : Byte) => x = 0) then some .notPermitted
  else
    let key := if customer then pub else Config.vendorKey
    if sha256 key ≠ s.digestRows (if customer then 130 else 6) then some .integrity
    else
      let n := leAt h 0x10 4 + leAt h 0x14 4
      let img := h.take 0x80 ++ List.replicate 64 0 ++ h.drop 0xC0 ++ Memory.readBytes s.mem (s.stageBase t + 256) n
      if !ecdsaOk key (sha256 img) ((h.drop 0x80).take 64) then some .integrity
      else if s.activeRelease.toNat < leAt h 0x30 4 then some .notPermitted
      else none

/-- What FW_VERIFY finds, with the release, the key and the length that it reports. -/
def verifyImage (s : State) (t : Nat) : Option Status × Word × Nat × Nat :=
  if t = 0 then
    let l := Memory.readBytes s.mem (s.stageBase 0) s.harbour.slots[0].staged
    (match Config.hmCheck l with
      | 0 => none
      | 1 => some .badArg
      | 2 => some .notPermitted
      | _ => some .integrity, Config.hmRelease l, Config.hmKey l % 256, Config.hmLength l % 2 ^ 32)
  else
    let h := Memory.readBytes s.mem (s.stageBase t) 256
    (s.tugImage t, BitVec.ofNat 32 (leAt h 8 4), leAt h 6 2 % 2, 256 + leAt h 0x10 4 + leAt h 0x14 4)

/-- FW_VERIFY (R283). -/
def goVerify (s : State) (o : Origin) (q : List Byte) : State :=
  let t := leAt q 0 1
  let r := s.verifyImage t
  match r.1 with
  | some st => s.respond o 0x0702 st
  | none =>
    let x : FwSlot := { s.slotOf7 t with verified := true, release := r.2.1, customer := r.2.2.1 = 1 }
    (s.setSlot t x).respond o 0x0702 .ok (leBytes 4 r.2.1.toNat ++ leBytes 1 r.2.2.1 ++ [0, 0, 0] ++ leBytes 4 r.2.2.2)

/-- The MIN_HM of the program bound to a berth is above a release (R450 step 1). -/
def needsNewer (s : State) (b : BerthId) (rel : Word) : Bool :=
  s.berths[b].id.tug.isSome && decide (rel.toNat < s.imageWord s.tele[b].slot 0x30)

/-- FW_COMMIT_HM (R450). -/
def goCommitHm (s : State) (o : Origin) : State :=
  let x := s.harbour.slots[0]
  if x.verified && x.current then s.respond o 0x0703 .ok (leBytes 4 s.activeRelease.toNat ++ leBytes 1 (flag s.harbour.coreB 0))
  else if !x.verified || !s.harbour.ready || (List.finRange 48).any (fun (b : BerthId) => s.needsNewer b x.release) then
    s.respond o 0x0703 .notPermitted
  else { s with harbour.commit := some (o, false), harbour.ready := false, harbour.followed := 0 }

/-! ### FW_SWAP_TUG (R451, R452) -/

/-- The staged image of a slot differs from its current one, by release and signature. -/
def slotDiffers (s : State) (n : Nat) : Bool :=
  let x := s.slotOf7 n
  !x.current || x.release ≠ x.curRelease
    || Memory.readBytes s.mem (s.stageBase n + 0x80) 64 ≠ Memory.readBytes s.mem (slotBase n + 0x80) 64

/-- A verified staged image is to be copied into the current region. -/
def copyDue (s : State) (n : Nat) : Bool := n ≠ 0 && (s.slotOf7 n).verified && s.slotDiffers n

/-- A berth runs the content of a current slot: its loaded image is that content, or it is about to be. -/
def runsSlot (s : State) (b : BerthId) (n : Nat) : Bool := match s.berths[b].id.tug with
  | none => false
  | some t =>
    let k := s.tugs[t]
    k.slot = n && (n = 0 || k.entry.isSome
      || (k.release.toNat = s.imageWord n 0x08 && decide (k.sig = s.imageBytes n 0x80 64)))

/-- R451 refuses the swap. -/
def swapBars (s : State) (m : BitVec 48) (n : Nat) : Bool :=
  n ≠ 0 && ((!(s.slotOf7 n).verified && !(s.slotOf7 n).current)
    || (s.copyDue n && (List.finRange 48).any (fun (b : BerthId) => !m.getLsbD b && s.runsSlot b n)))

/-- The staged image becomes the current one of its slot. -/
def copySlot (s : State) (n : Nat) : State :=
  if s.copyDue n then
    let l := Memory.readBytes s.mem (s.stageBase n) 0x12000
    let x := s.slotOf7 n
    let y : FwSlot := { current := true, curRelease := x.release, curCustomer := x.customer, minHm := BitVec.ofNat 32 (leAt l 0x30 4) }
    { s with mem := Memory.setRange s.mem (slotBase n) 0x12000 l }.setSlot n y
  else s

/-- A named berth has a pending swap from the delivery boundary on; one that already runs the slot is done. -/
def swapPending (s : State) (n : Nat) (force : Bool) (o : Origin) (b : BerthId) : State :=
  if s.runsSlot b n then s.jobDone o b .ok
  else
    let s := match s.tele[b].swap with
      | some (_, _, _, p) => s.jobDone p b .superseded
      | none => s
    let s := match s.berths[b].id.tug with
      | some t => s.atTug t (fun (k : Tug) => { k with moorHeld := false })
      | none => s
    s.atTele b (fun (x : Tele) => { x with swap := some (n, force, s.ticks + 80000, o) })

/-- FW_SWAP_TUG at its delivery boundary. -/
def deliverSwap (s : State) (m : BitVec 48) (n : Nat) (force : Bool) (o : Origin) : State :=
  (setOf m).foldl (fun (s : State) (b : BerthId) => s.swapPending n force o b) (s.copySlot n)

/-- FW_SWAP_TUG starts. -/
def goSwapTug (s : State) (o : Origin) (q : List Byte) : State :=
  let l : State := { s with later := s.later ++ [.swapTug (setAt q 0) (leAt q 8 1) (leAt q 9 1 = 1) o] }
  l.startJob o 0x0704 (setAt q 0)

/-! ### FW_GET_INFO -/

/-- A slot's record: a staged image is shown before the current one. -/
def slotRecord (s : State) (n : Nat) : List Byte :=
  let x := s.slotOf7 n
  let h := Memory.readBytes s.mem (s.stageBase n) 12
  let r : Nat × Nat × Nat :=
    if n = 0 then (s.imageWord 0 8, 0, 3)
    else if x.staged ≠ 0 then (leAt h 8 4, leAt h 6 2 % 2, if x.verified then 2 else 1)
    else if x.current then (x.curRelease.toNat, flag x.curCustomer 0, 3)
    else (0, 0, 0)
  let bound := maskOf (fun (b : BerthId) => s.berths[b].id.tug.isSome && s.tele[b].slot = n)
  leBytes 4 r.1 ++ leBytes 1 r.2.1 ++ leBytes 1 r.2.2 ++ leBytes 6 bound.toNat

/-- The body of FW_GET_INFO. -/
def fwInfo (s : State) : List Byte :=
  leBytes 4 s.harbour.relA.toNat ++ leBytes 4 s.harbour.relB.toNat
    ++ leBytes 1 (flag s.harbour.imageB 0 + flag s.harbour.coreB 1) ++ [0, 0, 0] ++ (List.range 7).flatMap s.slotRecord

/-! ### Burning fuses (R421–R426) -/

/-- A fuse word being burned: the bits that read 1 at normal margin, those of them or of the new ones that read 0 at tight
margin, pulses counted, pulses left before VFUSE is lost. -/
structure Burning where
  val   : Word
  weak  : Word
  count : Nat
  left  : Option Nat
  deriving DecidableEq, Repr

/-- Up to `n` pulses are given. -/
def takePulses (n : Nat) (left : Option Nat) : Nat × Option Nat := match left with
  | none => (n, none)
  | some k => (min n k, some (k - n))

/-- What the burn finds of a bit. -/
def bitOf (l : List BurnBit) (i : Fin 32) : Nat × Bool := match l.find? (fun (x : BurnBit) => x.bit = i) with
  | some x => (x.weak, x.dead)
  | none => (0, false)

/-- The margins of a bit after its `n`-th pulse. -/
def afterPulse (x : Burning) (l : List BurnBit) (i : Fin 32) (n : Nat) (was : Bool) : Burning :=
  let r := bitOf l i
  let m := BitVec.ofNat 32 (2 ^ i.val)
  if r.1 < n then { x with val := x.val ||| m, weak := x.weak &&& ~~~ m }
  else { x with val := if r.2 && !was then x.val &&& ~~~ m else x.val ||| m, weak := x.weak ||| m }

/-- Step 1 of R423 on one bit: one pulse where the bit is to be set. -/
def firstPulse (l : List BurnBit) (target : Word) (x : Burning) (i : Fin 32) : Burning :=
  if target.getLsbD i && !x.val.getLsbD i then
    let p := takePulses 1 x.left
    let y : Burning := { x with count := x.count + p.1, left := p.2 }
    if p.1 = 0 then y else afterPulse y l i 1 false
  else x

/-- Step 2 of R423 on one bit: a weak bit gets up to 3 further pulses, each followed by a read. -/
def morePulses (l : List BurnBit) (target old : Word) (x : Burning) (i : Fin 32) : Burning :=
  if target.getLsbD i && x.weak.getLsbD i then
    let first := if old.getLsbD i then 0 else 1
    let p := takePulses (min 3 ((bitOf l i).1 + 1 - first)) x.left
    let y : Burning := { x with count := x.count + p.1, left := p.2 }
    if p.1 = 0 then y else afterPulse y l i (first + p.1) (old.getLsbD i)
  else x

/-- A word is burned to a target (steps 1 and 2 of R423). -/
def burnWord (l : List BurnBit) (target : Word) (x : Burning) : Burning :=
  let old := x.val
  (List.finRange 32).foldl (morePulses l target old) ((List.finRange 32).foldl (firstPulse l target) x)

/-- The word reads its target at both margins. -/
def burnGood (x : Burning) (target : Word) : Bool := x.val = target && x.weak &&& target = 0

/-- The bits of redirection entry `i` that a mask names are burned in all three copies (R423 step 3). -/
def burnEntry (x : Brittle) (i bits : Nat) (left : Option Nat) : Brittle × Option Nat :=
  let at_ (c j : Nat) : Nat × Nat := (6 * c + i / 3, 10 * (i % 3) + j)
  let todo := (List.range 3).flatMap (fun (c : Nat) => ((List.range 10).filter (fun (j : Nat) => bits / 2 ^ j % 2 = 1)).map (at_ c))
  todo.foldl (fun (y : Brittle × Option Nat) (k : Nat × Nat) =>
    let w := (y.1.table[k.1]?).getD 0
    if w.getLsbD k.2 then y
    else
      let p := takePulses 1 y.2
      let t : Brittle := { y.1 with table := y.1.table.setIfInBounds k.1 (bitOn w k.2) }
      (if p.1 = 0 then y.1 else t, p.2)) (x, left)

/-- Spares without an entry whose VALID is set (R428). -/
def freeSpares (x : Brittle) : List Nat := (List.range 16).filter (fun (i : Nat) => redirect x i / 256 % 2 = 0)

/-- What a burn has come to: the array, the pulses counted and left, the last spare used, what is still to be read of the burns,
and whether the row reads its value. -/
structure BurnRun where
  array : Brittle
  count : Nat
  left  : Option Nat
  spare : Nat := 0xFF
  burns : List (List BurnBit)
  good  : Bool := false

/-- The row moves to the next free spares until one verifies (R423 step 3). -/
def redirectTo (r : Nat) (value : Word) : List Nat → BurnRun → BurnRun
  | [], x => x
  | i :: rest, x =>
    if x.good || x.left = some 0 then x
    else
      let e := burnEntry x.array i (r + 256) x.left
      let b := burnWord (x.burns.headD []) value
        { val := (e.1.spares[i]?).getD 0, weak := (e.1.spareWeak[i]?).getD 0, count := x.count, left := e.2 }
      let a : Brittle := { e.1 with spares := e.1.spares.setIfInBounds i b.val, spareWeak := e.1.spareWeak.setIfInBounds i b.weak }
      let good := burnGood b value
      let k := if good then burnEntry a i 512 b.left else (a, b.left)
      let done := good && redirect k.1 i / 512 % 2 = 1
      redirectTo r value rest { array := k.1, count := b.count, left := k.2, spare := i, burns := x.burns.drop 1, good := done }

/-- A logical row is burned to a value (R423): the row or the spare that governs it, then free spares. -/
def burnRow (x : Brittle) (r : Fin 256) (value : Word) (burns : List (List BurnBit)) (cut : Option Nat) : BurnRun :=
  let w := rowRead x r
  let b := burnWord (burns.headD []) value { val := w.1, weak := w.2, count := 0, left := cut }
  let a : Brittle := match entryFor x r true with
    | some i => { x with spares := x.spares.setIfInBounds i b.val, spareWeak := x.spareWeak.setIfInBounds i b.weak }
    | none => { x with rows := x.rows.set r b.val, weak := x.weak.set r b.weak }
  redirectTo r value (freeSpares a)
    { array := a, count := b.count, left := b.left, burns := burns.drop 1, good := burnGood b value }

/-- The field code of a customer row's bit (Table 15.4). -/
def fieldOf (r i : Nat) : Nat :=
  if r = 129 then (if i < 8 then 1 else 2)
  else if r < 138 then 3 else if r < 140 then 4 else if r < 156 then 5 else if r < 158 then 6 else 7

/-- Reserved bits of a customer row (Tables 15.4, 15.5). -/
def reservedBits (r : Nat) : Word :=
  if r = 129 then 0xFFFF00F0#32
  else if r = 138 || r = 139 then 0xC0000000#32
  else if 140 ≤ r && r ≤ 155 then 0xF8000000#32
  else if r = 157 then 0xFFFF0000#32
  else 0

/-- A pin-map code of the row is reserved (R418). -/
def badCodes (r : Nat) (v : Word) : Bool :=
  let n := if r = 138 || r = 139 then 10 else if 140 ≤ r && r ≤ 155 then 9 else 0
  (List.range n).any (fun (j : Nat) => decide (6 ≤ fld v (3 * j) 3))

/-- R421 refuses a value. -/
def badValue (r : Nat) (v : Word) : Bool :=
  v &&& reservedBits r ≠ 0 || badCodes r v
    || (r = 129 && v.getLsbD 15 && (fld v 8 7 < 0x08 || 0x77 < fld v 8 7 || fld v 8 7 = 0x0C))

/-- The row that a byte names. -/
def rowNo (n : Nat) : Fin 256 := ⟨n % 256, Nat.mod_lt _ (by omega)⟩

/-- The present content of a row (R422). -/
def rowNow (s : State) (n : Nat) : Word := (rowRead s.brittle (rowNo n)).1

/-- The quays whose DEADBATT byte gains bits, with the byte (R424). -/
def gains (s : State) (r : Nat) (v : Word) : List (QuayId × Nat) :=
  if r = 156 || r = 157 then
    (List.finRange 6).filterMap (fun (q : QuayId) =>
      if q.val / 4 = r - 156 then
        let lo := 8 * (q.val % 4)
        if fld (v &&& ~~~ s.rowNow r) lo 8 ≠ 0 then some (q, fld v lo 8) else none
      else none)
  else []

/-- A burn is forbidden now (R422 check 2). -/
def burnBars (s : State) : Bool := !s.supplies.vfuse || decide (1000 < s.temp)

/-- The customer field of a row's bit is locked. -/
def lockedBit (s : State) (r i : Nat) : Bool := (s.rowNow 128).getLsbD (fieldOf r i - 1)

/-- Checks 1 and 2 of OTP_PROGRAM (R422). -/
def programChecks (s : State) (q : List Byte) : List Check :=
  let r := leAt q 0 1
  let v := BitVec.ofNat 32 (leAt q 4 4)
  [lenCheck q 8, reserved q 1 3, (decide (129 ≤ r) && badValue r v, .badArg),
   (r ≤ 128 || s.burnBars || (s.gains r v).any (fun (x : QuayId × Nat) => !s.supplies.vq5.getLsbD x.1.val), .notPermitted)]

/-- Checks 3 and 4 of OTP_PROGRAM (R422). -/
def programLater (s : State) (r : Nat) (v : Word) : List Check :=
  let old := s.rowNow r
  [((List.range 32).any (fun (i : Nat) => (v ^^^ old).getLsbD i && s.lockedBit r i), .otpLocked), (old &&& ~~~ v ≠ 0, .otpConflict)]

/-- The quay's own row is burned to its byte (R424); false when a bit stays weak. -/
def burnQuay (x : State × List (List BurnBit) × Option Nat × Bool) (g : QuayId × Nat) : State × List (List BurnBit) × Option Nat × Bool :=
  let s := x.1
  let b := burnWord (x.2.1.headD []) (BitVec.ofNat 32 g.2)
    { val := s.quays[g.1].row.setWidth 32, weak := 0, count := 0, left := x.2.2.1 }
  let s := s.atQuay g.1 (fun (y : Quay) => { y with row := b.val.setWidth 8 })
  (s, x.2.1.drop 1, b.left, x.2.2.2 && burnGood b (BitVec.ofNat 32 g.2))

/-- The highest Pilot level that the debug lock allows (Table 15.6a). -/
def pilotCap (s : State) : Nat := if s.debugLevel = 0 then 2 else if s.debugLevel = 1 then 1 else 0

/-- An open Pilot session above the cap drops to it (Table 15.6). -/
def capPilot (s : State) : State := { s with pilot.level := min s.pilot.level s.pilotCap }

/-- A row is burned for a command: its shadow is updated once it verifies, then quay rows follow (R412, R423–R425). -/
def goBurn (s : State) (o : Origin) (code r : Nat) (v : Word) (burns : List (List BurnBit)) (cut : Option Nat)
    (body : Nat → Nat → List Byte) : State :=
  let gain := s.gains r v
  let x := burnRow s.brittle (rowNo r) v burns cut
  let s : State := { s with brittle := x.array }
  if !x.good then s.respond o code .otpWeak
  else
    let s : State := { s with brittle.shadow := s.brittle.shadow.set (rowNo r) v }
    let y := gain.foldl burnQuay (s, x.burns, x.left, true)
    if y.2.2.2 then y.1.capPilot.respond o code .ok (body (min 255 x.count) x.spare) else y.1.capPilot.respond o code .otpWeak

/-- OTP_PROGRAM (R422, R423). -/
def goProgram (s : State) (o : Origin) (r : Nat) (v : Word) (burns : List (List BurnBit)) (cut : Option Nat) : State :=
  match firstBad (s.programLater r v) with
  | some st => s.respond o 0x0802 st
  | none => s.goBurn o 0x0802 r v burns cut (fun (n k : Nat) => leBytes 1 n ++ leBytes 1 k ++ [0, 0])

/-- OTP_LOCK (R426). -/
def goLock (s : State) (o : Origin) (q : List Byte) (burns : List (List BurnBit)) (cut : Option Nat) : State :=
  let i := leAt q 0 1 - 1
  let old := s.rowNow 128
  if old.getLsbD i then s.respond o 0x0804 .ok
  else if s.burnBars then s.respond o 0x0804 .notPermitted
  else s.goBurn o 0x0804 128 (bitOn old i) burns cut (fun _ _ => [])

/-- OTP_MARGIN of one row (R428). -/
def marginOf (s : State) (n : Nat) : Byte :=
  let w := rowRead s.brittle (rowNo n)
  if w.2 ≠ 0 then 1 else if (entryFor s.brittle (rowNo n).val true).isSome then 2 else 0

/-! ### SVC_SELFTEST (R435, R439, R443, Table 11.13) -/

/-- The berth of an index. -/
def berthNo (n : Nat) : BerthId := ⟨n % 48, Nat.mod_lt _ (by omega)⟩
/-- The Tug of an index. -/
def tugNo (n : Nat) : TugId := ⟨n % 52, Nat.mod_lt _ (by omega)⟩

/-- Tests whose index is a berth. -/
def ofBerth (kind : Nat) : Bool := [0, 3, 5, 6].contains kind

/-- The test's own rule forbids the state. -/
def testBars (s : State) (kind i sel : Nat) : Bool :=
  let b := berthNo i
  let x := s.berths[b]
  let open_ := x.path.state = PathState.off && !x.attached && !x.path.testBusy
  match kind with
  | 1 => s.tugs[tugNo i].berth.isSome
  | 2 =>
    let k := s.quays[quayNo i]
    k.gwFenced || k.fenced || !k.up || (k.hless && !k.trained) || k.removed.getLsbD sel
  | 4 => false
  | _ => !s.reaches b || x.id.fenced || x.mon.parked || (decide (5 ≤ kind) && !open_) || (kind = 3 && x.st.phyFenced)

/-- The checks of SVC_SELFTEST. -/
def selfChecks (s : State) (q : List Byte) : List Check :=
  let k := leAt q 0 1
  let i := leAt q 1 1
  let sel := leAt q 2 1
  [lenCheck q 4, (ofBerth k && decide (i < 48 ∧ s.berthsOn ≤ i), .berthAbsent), (k = 2 && decide (i < 6 ∧ s.quaysOn ≤ i), .berthAbsent),
   (7 ≤ k || leAt q 3 1 ≠ 0 || (ofBerth k && 48 ≤ i) || (k = 1 && 52 ≤ i) || (k = 2 && (6 ≤ i || 4 ≤ sel)) || (k = 4 && 8 ≤ i)
      || (k = 0 && !(decide (sel < 27) && Berth.isComparator ⟨sel % 27, Nat.mod_lt _ (by omega)⟩)), .badArg),
   (s.testBars k i sel, .notPermitted)]

/-- The march of a Hold bank (kind 4): an error at an address is a lasting fault of its row (R437, R442). -/
def bankTest (s : State) (o : Origin) (bank : Nat) (bad : Option Nat) : State := match bad with
  | none => (s.selfEvent 4 bank 0 2 true 0 0).respond o 0x0901 .ok [0, 0, 0, 0]
  | some a =>
    let a := bank * 0x200000 + a % 0x200000
    let row := Config.holdRow a
    (((s.markLasting (.holdRow row)).replaceRow row (subOf a)).selfEvent 4 bank 0 2 false 2 0).respond o 0x0901 .selftestFail

/-- The gate-drive and sense-offset test starts on an open path (R188). -/
def gateStart (x : Berth) : Berth :=
  { x with path.testBusy := true, path.testKind := 2, path.testResult := 0, st.kind := 6, st.busy := true, st.result := 0 }

/-- SVC_SELFTEST starts its test; the command completes when the test ends. -/
def goSelftest (s : State) (o : Origin) (q : List Byte) (bad : Option Nat) : State :=
  let k := leAt q 0 1
  let i := leAt q 1 1
  let sel := leAt q 2 1
  let b := berthNo i
  if k = 4 then s.bankTest o i bad
  else
    let y : State := { s with tests := s.tests ++ [{ origin := o, code := 0x0901, kind := k, index := i, sel := if k = 0 || k = 2 then sel else 0 }] }
    match k with
    | 0 => y.atBerth b (fun _ x => x.wantTest ⟨sel % 27, Nat.mod_lt _ (by omega)⟩ 2)
    | 1 => y.coreTest (tugNo i)
    | 2 => y.wantLane (quayNo i) ⟨sel % 4, Nat.mod_lt _ (by omega)⟩ 2
    | 3 => y.atBerth b (fun _ x => if x.st.want.isSome then x else { x with st.want := some (none, 2) })
    | 5 => y.atBerth b (fun _ x => x.startPassTest y.now false)
    | _ => y.atBerth b (fun _ x => gateStart x)

/-! ### SVC_FENCE, SVC_UNFENCE, SVC_REMAP_TUG (R443, R446) -/

/-- The part of SVC_FENCE and SVC_UNFENCE is not enabled, or its index is out of range. -/
def partChecks (s : State) (q : List Byte) : List Check :=
  let k := leAt q 0 1
  let i := leAt q 1 1
  [lenCheck q 4, (k = 0 && decide (i < 48 ∧ s.berthsOn ≤ i), .berthAbsent),
   ((k = 1 || k = 2) && decide (i < 6 ∧ s.quaysOn ≤ i), .berthAbsent)]

/-- Its ranges. -/
def partRange (q : List Byte) : Check :=
  let k := leAt q 0 1
  let i := leAt q 1 1
  (4 ≤ k || leAt q 2 2 ≠ 0 || (k = 0 && 48 ≤ i) || ((k = 1 || k = 2) && 6 ≤ i) || (k = 3 && 52 ≤ i), .badArg)

/-- The quay of a named berth or gangway is fenced; a part that is itself fenced is no failure (R443). -/
def fenceBar (s : State) (q : List Byte) : Check :=
  let k := leAt q 0 1
  let i := leAt q 1 1
  let qb := s.quays[quayOf (berthNo i)]
  (match k with
    | 0 => decide (i < 48) && (qb.fenced || qb.hless)
    | 2 => decide (i < 6) && s.quays[quayNo i].fenced
    | _ => false, .berthFenced)

/-- SVC_FENCE at its boundary. -/
def doFence (s : State) (kind i : Nat) (o : Origin) : State :=
  (match kind with
    | 0 => s.fenceBerth (berthNo i)
    | 1 => s.fenceQuay (quayNo i)
    | 2 => s.fenceGangway (quayNo i)
    | _ => s.fenceTug (tugNo i)).respond o 0x0902 .ok

/-- A host waits for a part's return to service. -/
def awaitBack (s : State) (o : Origin) (kind i : Nat) : State :=
  { s with tests := s.tests ++ [{ origin := o, code := 0x0903, kind := kind, index := i, sel := 0 }] }

/-- A berth returns: its block is reset and it is released with a Tug; a fenced PHY by its loopback (Table 16.3). -/
def unfenceBerth (s : State) (o : Origin) (b : BerthId) : State :=
  let x := s.berths[b]
  let k := s.quays[quayOf b]
  if x.id.fenced then
    if !k.up || k.hless || !k.released then s.respond o 0x0903 .notPermitted
    else if s.freeTug.isNone then s.respond o 0x0903 .noResource
    else
      let s := s.atBerth b (fun _ y => { y with id.fenced := false, st.phyFenced := false })
      ((s.saveRepair.capacity 1).startReset b none).awaitBack o 7 b
  else if x.st.phyFenced then
    if !s.reaches b then s.respond o 0x0903 .notPermitted
    else (s.atBerth b (fun _ y => if y.st.want.isSome then y else { y with st.want := some (none, 2) })).awaitBack o 3 b
  else s.respond o 0x0903 .ok

/-- A gangway returns: every lane is tested anew before the release (Table 16.3, R455). -/
def unfenceGangway (s : State) (o : Origin) (q : QuayId) : State :=
  if !s.quays[q].gwFenced then s.respond o 0x0903 .ok
  else
    ((s.atQuay q (fun (x : Quay) => { x with gwFenced := false, removed := 0, trained := false })).saveRepair.capacity 1).awaitBack o 2 q

/-- A quay returns: its bring-up and release follow (Table 16.3). -/
def unfenceQuay (s : State) (o : Origin) (q : QuayId) : State :=
  if !s.quays[q].fenced then s.respond o 0x0903 .ok
  else ((s.atQuay q (fun (x : Quay) => { x with fenced := false, resetBy := some (o, 0x0903) })).saveRepair).capacity 1

/-- A Tug returns: its core test decides (Table 16.3). -/
def unfenceTug (s : State) (o : Origin) (t : TugId) : State :=
  if !s.tugs[t].fenced then s.respond o 0x0903 .ok else (s.coreTest t).awaitBack o 1 t

/-- SVC_UNFENCE. -/
def goUnfence (s : State) (o : Origin) (q : List Byte) : State :=
  let i := leAt q 1 1
  match leAt q 0 1 with
  | 0 => s.unfenceBerth o (berthNo i)
  | 1 => s.unfenceQuay o (quayNo i)
  | 2 => s.unfenceGangway o (quayNo i)
  | _ => s.unfenceTug o (tugNo i)

/-- The Tug that SVC_REMAP_TUG names. -/
def wantTug (q : List Byte) : Option TugId := if leAt q 1 1 = 0xFF then none else some (tugNo (leAt q 1 1))

/-- SVC_REMAP_TUG starts. -/
def goRemap (s : State) (o : Origin) (q : List Byte) : State :=
  let b := berthNo (leAt q 0 1)
  let w := wantTug q
  if w.isSome && s.berths[b].id.tug = w then s.respond o 0x0904 .ok (leBytes 1 (leAt q 1 1))
  else if (s.remapTarget w).isNone then s.respond o 0x0904 .noResource
  else { s with later := s.later ++ [.remapTug b w o] }

/-- SVC_REMAP_TUG at its delivery boundary: the remap is pending (R446). -/
def deliverRemap (s : State) (b : BerthId) (w : Option TugId) (o : Origin) : State :=
  let s := match s.tele[b].remap with
    | some (_, _, some p) => s.respond p 0x0904 .superseded
    | _ => s
  let s := match s.berths[b].id.tug with
    | some t => s.atTug t (fun (k : Tug) => { k with moorHeld := false })
    | none => s
  s.atTele b (fun (x : Tele) => { x with remap := some (w, s.ticks + 80000, some o) })

/-! ### SVC_HEALTH -/

/-- Manifest spare slots that no area has taken. -/
def spareSlots (s : State) : Nat :=
  ((List.range 32).filter (fun (i : Nat) =>
    let k := 992 + i
    !s.slotSealed k && !s.slotRetired k && !s.repair.succ.any (fun (p : Nat × Nat) => p.2 = k))).length

/-- The body of SVC_HEALTH (Table 11.13). -/
def healthBody (s : State) : List Byte :=
  let spare := ((List.finRange 52).filter (fun (t : TugId) => s.tugs[t].berth.isNone && !s.tugs[t].fenced && s.tugs[t].mode = .empty)).length
  let fenced := (List.finRange 52).foldl (fun (n : Nat) (t : TugId) => n + flag s.tugs[t].fenced t.val) 0
  let rows := s.repair.used.toList.foldl (fun (n : Nat) (u : Nat) => n + (2 - u)) 0
  leBytes 1 spare ++ leBytes 1 s.spareSlots ++ leBytes 1 (freeSpares s.brittle).length ++ [0] ++ leBytes 8 fenced ++ leBytes 2 rows ++ [0, 0]
    ++ leBytes 4 s.repair.transients.toNat ++ leBytes 4 s.repair.lasting.toNat ++ leBytes 4 s.repair.corrected.toNat
    ++ leBytes 4 s.repair.moorMiss.toNat ++ s.quays.toList.flatMap (fun (x : Quay) => leBytes 4 x.crcCount.toNat)

end State

/-! ### The commands -/

/-- FW_STAGE (0x0701). -/
def execFwStage (o : Origin) (p : List Byte) (s : State) : Host.Outcome State Fault Refusal :=
  .next (s.runCmd o 0x0701 p
    (fun _ q => [(decide (q.length < 12) || q.length ≠ 12 + leAt q 8 2, .badLength),
      (6 < leAt q 0 1 || 1 < leAt q 1 1 || leAt q 2 2 ≠ 0 || leAt q 10 2 ≠ 0 || leAt q 8 2 < 4 || 496 < leAt q 8 2 || leAt q 8 2 % 4 ≠ 0
        || State.stageSize (leAt q 0 1) < leAt q 4 4 + leAt q 8 2, .badArg)])
    (fun s q => s.goStage o q))

/-- FW_VERIFY (0x0702). -/
def execFwVerify (o : Origin) (p : List Byte) (s : State) : Host.Outcome State Fault Refusal :=
  .next (s.runCmd o 0x0702 p (fun _ q => [State.lenCheck q 4, (6 < leAt q 0 1 || leAt q 1 3 ≠ 0, .badArg)]) (fun s q => s.goVerify o q))

/-- FW_COMMIT_HM (0x0703). -/
def execFwCommitHm (o : Origin) (p : List Byte) (s : State) : Host.Outcome State Fault Refusal :=
  .next (s.runCmd o 0x0703 p (fun _ q => [State.lenCheck q 4, State.reserved q 0 4]) (fun s _ => s.goCommitHm o))

/-- FW_SWAP_TUG (0x0704). -/
def execFwSwapTug (o : Origin) (p : List Byte) (s : State) : Host.Outcome State Fault Refusal :=
  .next (s.runCmd o 0x0704 p
    (fun s q => [State.lenCheck q 12] ++ s.setChecks q 0 true ++ [(6 < leAt q 8 1 || 1 < leAt q 9 1 || leAt q 10 2 ≠ 0, .badArg),
      ((State.setOf (setAt q 0)).any (fun (b : BerthId) => !s.isReleased b || s.berths[b].id.tug.isNone) || s.swapBars (setAt q 0) (leAt q 8 1),
        .notPermitted)])
    (fun s q => s.goSwapTug o q))

/-- FW_GET_INFO (0x0705). -/
def execFwGetInfo (o : Origin) (p : List Byte) (s : State) : Host.Outcome State Fault Refusal :=
  .next (s.runCmd o 0x0705 p (fun _ q => [State.lenCheck q 0]) (fun s _ => s.respond o 0x0705 .ok s.fwInfo))

/-- The range of rows that OTP_READ and OTP_MARGIN name. -/
def otpRange (q : List Byte) : Check := (leAt q 1 1 = 0 || 64 < leAt q 1 1 || 256 < leAt q 0 1 + leAt q 1 1, .badArg)

/-- OTP_READ (0x0801). -/
def execOtpRead (o : Origin) (p : List Byte) (s : State) : Host.Outcome State Fault Refusal :=
  .next (s.runCmd o 0x0801 p (fun _ q => [State.lenCheck q 2, otpRange q])
    (fun s q => s.respond o 0x0801 .ok ((List.range (leAt q 1 1)).flatMap (fun (i : Nat) => leBytes 4 (s.rowNow (leAt q 0 1 + i)).toNat))))

/-- OTP_PROGRAM (0x0802). -/
def execOtpProgram (o : Origin) (p : List Byte) (burns : List (List BurnBit)) (cut : Option Nat) (s : State) : Host.Outcome State Fault Refusal :=
  .next (s.runCmd o 0x0802 p (fun s q => s.programChecks q)
    (fun s q => s.goProgram o (leAt q 0 1) (BitVec.ofNat 32 (leAt q 4 4)) burns cut))

/-- OTP_MARGIN (0x0803). -/
def execOtpMargin (o : Origin) (p : List Byte) (s : State) : Host.Outcome State Fault Refusal :=
  .next (s.runCmd o 0x0803 p (fun _ q => [State.lenCheck q 2, otpRange q])
    (fun s q => s.respond o 0x0803 .ok ((List.range (leAt q 1 1)).map (fun (i : Nat) => s.marginOf (leAt q 0 1 + i)))))

/-- OTP_LOCK (0x0804). -/
def execOtpLock (o : Origin) (p : List Byte) (burns : List (List BurnBit)) (cut : Option Nat) (s : State) : Host.Outcome State Fault Refusal :=
  .next (s.runCmd o 0x0804 p (fun _ q => [State.lenCheck q 4, (leAt q 0 1 = 0 || 7 < leAt q 0 1 || leAt q 1 3 ≠ 0, .badArg)])
    (fun s q => s.goLock o q burns cut))

/-- SVC_SELFTEST (0x0901): `bad` is the address within a Hold bank at which its march fails. -/
def execSvcSelftest (o : Origin) (p : List Byte) (bad : Option Nat) (s : State) : Host.Outcome State Fault Refusal :=
  .next (s.runCmd o 0x0901 p (fun s q => s.selfChecks q) (fun s q => s.goSelftest o q bad))

/-- SVC_FENCE (0x0902). -/
def execSvcFence (o : Origin) (p : List Byte) (s : State) : Host.Outcome State Fault Refusal :=
  .next (s.runCmd o 0x0902 p (fun s q => s.partChecks q ++ [s.fenceBar q, State.partRange q])
    (fun s q => { s with later := s.later ++ [.svcFence (leAt q 0 1) (leAt q 1 1) o] }))

/-- SVC_UNFENCE (0x0903). -/
def execSvcUnfence (o : Origin) (p : List Byte) (s : State) : Host.Outcome State Fault Refusal :=
  .next (s.runCmd o 0x0903 p (fun s q => s.partChecks q ++ [State.partRange q]) (fun s q => s.goUnfence o q))

/-- SVC_REMAP_TUG (0x0904). -/
def execSvcRemapTug (o : Origin) (p : List Byte) (s : State) : Host.Outcome State Fault Refusal :=
  .next (s.runCmd o 0x0904 p
    (fun s q => [State.lenCheck q 4] ++ s.berthChecks q 0 true ++ [(leAt q 2 2 ≠ 0 || (52 ≤ leAt q 1 1 && leAt q 1 1 ≠ 0xFF), .badArg),
      (!s.isReleased (State.berthAt q 0) || s.berths[State.berthAt q 0].id.tug.isNone, .notPermitted)])
    (fun s q => s.goRemap o q))

/-- SVC_HEALTH (0x0905). -/
def execSvcHealth (o : Origin) (p : List Byte) (s : State) : Host.Outcome State Fault Refusal :=
  .next (s.runCmd o 0x0905 p (fun _ q => [State.lenCheck q 0]) (fun s _ => s.respond o 0x0905 .ok s.healthBody))

end Sys2Proof.Machine
end

