-- ==== Sys2Proof/Machine/Smbus.lean ====
section
/-!
DEFINITION. The two-wire target (R357–R377) and the tunnel of host commands (R326, R327).

A row of a command code stands for one whole transaction: a write ends with its STOP, and carries the PEC byte that followed
its data, if any.  `Smb.out` holds what the target sent in the last transaction, each read followed by its PEC byte; none when
the target did not acknowledge.
-/

namespace Sys2Proof.Machine

/-! ### Byte logic (R368) -/

namespace BusPhase

/-- The target holds SDA: it acknowledges, or it sends a byte. -/
def drives : BusPhase → Bool
  | .ack _ _ => true
  | .send _ => true
  | _ => false

/-- The number that bits spell, the first one highest. -/
def bitsNat (l : List Bool) : Nat := l.foldl (fun (n : Nat) (x : Bool) => 2 * n + flag x 0) 0

/-- After the address byte: acknowledged when it is the target's address, whose last bit says whether the target sends, or a
read from the Alert Response Address while SMBALERT_N is low (R358, R373). -/
def addressed (addr : BitVec 7) (alert : Bool) (bits : List Bool) : BusPhase :=
  let n := bitsNat bits
  if n / 2 = addr.toNat then .ack (n % 2 = 1) true else if alert && n = 0x19 then .ack true false else .idle

/-- The command codes of Table 13.5. -/
def codes : List Nat :=
  [0x00, 0x01, 0x02, 0x03, 0x04, 0x05, 0x08, 0x09, 0x10, 0x11, 0x12, 0x13, 0x18, 0x19, 0x1A, 0x1B, 0x1C, 0x1D, 0x20, 0x21, 0x22, 0x23,
   0x24, 0x28, 0x29, 0xE0, 0xF0, 0xF1]

/-- A START or a STOP returns the byte logic to its start; a clock takes it one bit on.  In the middle of a byte that it sends it
shifts out the rest; at the ACK slot that follows, SDA high is a NACK, after which it waits.  A command code that the table does
not list is not acknowledged (R363). -/
def next (addr : BitVec 7) (alert : Bool) : BusPhase → BusEvent → BusPhase
  | _, .start => .address []
  | _, .stop => .idle
  | .idle, .clock _ => .idle
  | .address l, .clock sda => if l.length < 7 then .address (l ++ [sda]) else addressed addr alert (l ++ [sda])
  | .ack true _, .clock _ => .send 0
  | .ack false c, .clock _ => .receive c []
  | .receive c l, .clock sda =>
    if l.length < 7 then .receive c (l ++ [sda]) else if c && !codes.contains (bitsNat (l ++ [sda])) then .idle else .ack false false
  | .send n, .clock _ => if n < 7 then .send (n + 1) else .answer
  | .answer, .clock sda => if sda then .idle else .send 0

/-- The clock that ends a command code byte that is not acknowledged (R363). -/
def nacks : BusPhase → BusEvent → Bool
  | .receive true l, .clock sda => decide (7 ≤ l.length) && !codes.contains (bitsNat (l ++ [sda]))
  | _, _ => false

/-- A stretch of bus traffic: where it leaves the byte logic, and the codes that were not acknowledged. -/
def run (addr : BitVec 7) (alert : Bool) (x : BusPhase) (l : List BusEvent) : BusPhase × Nat :=
  l.foldl (fun (y : BusPhase × Nat) (e : BusEvent) => (next addr alert y.1 e, y.2 + (if nacks y.1 e then 1 else 0))) (x, 0)

end BusPhase

namespace State

/-! ### Transactions (R361–R365) -/

/-- The Harbourmaster has booted (R360). -/
def smbBooted (s : State) : Bool := s.phase ≠ .brittle && s.phase ≠ .plls && s.phase ≠ .boot

/-- The target counts in one of its four counters (R375). -/
def smbCount (s : State) (k : Fin 4) : State :=
  let r := satInc s.smb.cnt[k]
  let s : State := { s with smb.cnt := s.smb.cnt.set k r.1 }
  if r.2 then { s with smb.ovf := s.smb.ovf ||| BitVec.ofNat 4 (2 ^ k.val) }.devEvent (.manifest 3 0 0xFFFF 0xFFFF (0x2000 + k.val)) else s

/-- A code or a data byte is not acknowledged (R363). -/
def smbNack (s : State) : State := { s with smb.out := none }.smbCount 1

/-- The address byte of a write. -/
def addrW (s : State) : Byte := s.smb.addr.setWidth 8 <<< 1

/-- A read is answered: its data, then its PEC byte (R365). -/
def smbRead (s : State) (code : Byte) (data : List Byte) : State :=
  { s with smb.out := some (data ++ [pecOf ([s.addrW, code, s.addrW ||| 1#8] ++ data)]) }

/-- A valid write reaches its STOP: its PEC byte decides whether it has its effect (R362, R365). -/
def smbWrite (s : State) (code : Byte) (data : List Byte) (pec : Option Byte) (f : State → State) : State := match pec with
  | none => if s.smb.timing.getLsbD 24 then { s with smb.out := none } else f { s with smb.out := some [] }
  | some x =>
    if x = pecOf ([s.addrW, code] ++ data) then f { s with smb.out := some [] }
    else { s with smb.out := none, smb.sticky := s.smb.sticky ||| 0x20#6 }.smbCount 0

/-- The target answers at all: from the end of the Brittle load (R360). The START of a transaction returns its byte logic to the
start wherever it stood, and the STOP leaves it there (R368). -/
def smbOn (s : State) (f : State → State) : State := if s.smb.on then f { s with smb.bus := .idle } else s

/-- The selected berth; none while all are selected. -/
def smbBerth (s : State) : Option BerthId := if h : s.smb.select.toNat < 48 then some ⟨s.smb.select.toNat, h⟩ else none

/-- A single-berth read (R372). -/
def smbSingle (s : State) (code : Byte) (f : BerthId → List Byte) (g : State → BerthId → State) : State :=
  s.smbOn (fun (s : State) => match s.smbBerth with
    | none => s.smbNack
    | some b => g (s.smbRead code (f b)) b)

/-- The enabled berths that a write applies to (R372). -/
def smbTargets (s : State) : BitVec 48 := match s.smbBerth with
  | some b => BitVec.ofNat 48 (2 ^ b.val)
  | none => maskOf (fun (b : BerthId) => decide (b.val < s.berthsOn))

/-- A word, low byte first. -/
def word2 (n : Nat) : List Byte := leBytes 2 n

/-! ### BERTH_SELECT, SMB_TIMING (R369–R371) -/

/-- BERTH_SELECT. -/
def smbSelect (s : State) (wr pec : Option Byte) : State := match wr with
  | none => s.smbRead 0x00 [s.smb.select]
  | some v =>
    if v.toNat < s.berthsOn || v = 0xFF then s.smbWrite 0x00 [v] pec (fun (s : State) => { s with smb.select := v }) else s.smbNack

/-- tLOW(min), tHIGH(min) and tSU;DAT(min) of a mode (Table 13.3), ns. -/
def smbMinima (mode : Nat) : Nat × Nat × Nat := match mode with
  | 0 => (4700, 4000, 250)
  | 1 => (1300, 600, 100)
  | _ => (500, 260, 50)

/-- SMB_TIMING as accepted: clamped under R370, with TIMING_INVALID. -/
def timingClamp (v : Word) : Word :=
  let m := smbMinima (fld v 22 2)
  let hold := fld v 0 6
  let rise := 20 * fld v 16 6
  let h := if m.1 < 20 * hold + rise + m.2.2 then (m.1 - rise - m.2.2) / 20 else hold
  let f := if m.2.1 < 20 * fld v 8 6 then m.2.1 / 20 else fld v 8 6
  let w := setFld (setFld (v &&& 0x01FF3F3F#32) 0 6 h) 8 6 f
  if h ≠ hold || f ≠ fld v 8 6 then bitOn w 25 else w

/-- The codes of SMB_TIMING lie in their ranges (Table 13.2). -/
def timingOk (v : Word) : Bool :=
  5 ≤ fld v 8 6 && fld v 8 6 ≤ 50 && 1 ≤ fld v 16 6 && fld v 16 6 ≤ 50 && fld v 22 2 ≠ 3

/-- SMB_TIMING: a counted block of 4 bytes. -/
def smbTime (s : State) (wr : Option Word) (pec : Option Byte) : State := match wr with
  | none => s.smbRead 0xE0 (4#8 :: leBytes 4 s.smb.timing.toNat)
  | some v =>
    if !timingOk v then s.smbNack
    else s.smbWrite 0xE0 (4#8 :: leBytes 4 v.toNat) pec (fun (s : State) =>
      let w := timingClamp v
      { s with smb.timing := w, smb.sticky := if w.getLsbD 25 then s.smb.sticky ||| 4#6 else s.smb.sticky })

/-! ### Alerts (R373, Table 13.4) -/

/-- ALERT_STATUS. -/
def alertBits (s : State) : BitVec 16 :=
  (s.smb.sticky.setWidth 16 &&& 0x36#16) ||| BitVec.ofNat 16 (flag (s.smb.rsps ≠ []) 0 + flag s.attn 3)

/-- SMBALERT_N is driven low. -/
def alerting (s : State) : Bool := s.alertBits &&& s.smb.mask ≠ 0

/-! ### The forerunner command set (Table 13.5) -/

/-- IDENTIFY (R374, R416). -/
def smbIdentify (s : State) : List Byte :=
  [4#8] ++ leBytes 1 (if s.factoryBad then 0 else s.berthsOn) ++ ascii "B0" ++ leBytes 4 s.activeRelease.toNat ++ padTo 8 s.orderCode

/-- The averages of a berth carry INVALID (R332). -/
def avgInvalid (s : State) (b : BerthId) : Bool := decide (s.tele[b].total < Tele.segCount s.tele[b].window)

/-- STATUS of a berth (Table 13.6). -/
def smbStatus (s : State) (b : BerthId) : Nat :=
  let x := s.berths[b]
  let q := s.quays[quayOf b]
  flag (s.avgInvalid b || s.factoryBad || !s.smbBooted) 0 + flag x.attached 1 + flag x.id.contract.isSome 2 + flag x.id.powerSource 3
    + flag x.id.eprMode 4 + flag (x.cc.state = CcState.lockedOut) 5 + flag (x.id.fenced || q.fenced) 6 + flag q.hless 7
    + flag (s.tele[b].peaks.any (fun (p : Option Int) => p.isNone)) 8

/-- An average of a berth: 0 VBUS, 1 CURR, 2 POWER, 3 TEMP. -/
def smbAvg (s : State) (b : BerthId) (k : Fin 4) : List Byte := word2 (sgn 16 s.tele[b].out[k])

/-- A peak of a berth. -/
def smbPeak (s : State) (b : BerthId) (k : Fin 4) : List Byte := word2 (sgn 16 (s.tele[b].peaks[k].getD 0))

/-- One peak is reset. -/
def clearPeak (s : State) (b : BerthId) (k : Fin 4) : State := s.atTele b (fun (t : Tele) => { t with peaks := t.peaks.set k none })

/-- CONTRACT of a berth (R329). -/
def smbContract (s : State) (b : BerthId) : List Byte := match s.berths[b].id.contract with
  | none => [0, 0, 0, 0]
  | some c => word2 (sat16 (10 * c.volt)) ++ word2 (sat16 (10 * c.curr))

/-- An average of all 48 berths, zero for absent ones. -/
def smbAll (s : State) (k : Fin 4) : List Byte :=
  96#8 :: (List.finRange 48).flatMap (fun (b : BerthId) => if b.val < s.berthsOn then s.smbAvg b k else [0, 0])

/-- VALID_ALL. -/
def smbValid (s : State) : List Byte :=
  8#8 :: setBytes8 (maskOf (fun (b : BerthId) => decide (b.val < s.berthsOn) && !s.avgInvalid b))

/-- DEVICE_POWER, in 10 mW. -/
def smbPower (s : State) : List Byte :=
  4#8 :: leBytes 4 (((List.finRange 48).filter (fun (b : BerthId) => decide (b.val < s.berthsOn))).foldl
    (fun (n : Nat) (b : BerthId) => n + s.tele[b].out[(2 : Fin 4)].toNat) 0)

/-- VIN: Qq_VINS of each quay in mV, zero for absent quays. -/
def smbVin (s : State) : List Byte :=
  12#8 :: (List.finRange 6).flatMap (fun (q : QuayId) => word2 (if q.val < s.quaysOn then sat16 s.quays[q].vins else 0))

/-- SMB_COUNTS: the block, and its overflowed counters restart (R375). -/
def smbCounters (s : State) : State :=
  let k := s.smb
  let s := s.smbRead 0x05 (k.cnt.toList.flatMap (fun (w : Word) => leBytes 4 w.toNat) ++ [k.ovf.setWidth 8, 0, 0, 0])
  { s with smb.cnt := Vector.ofFn (fun (i : Fin 4) => if k.ovf.getLsbD i.val then 0 else k.cnt[i]), smb.ovf := 0 }

/-- WINDOW: a write acts as TEL_CONFIG at the next boundary (R362). -/
def smbWindow (s : State) (wr : Option (BitVec 16)) (pec : Option Byte) : State := match wr with
  | none => (match s.smbBerth with
    | none => s.smbNack
    | some b => s.smbRead 0x08 (word2 s.tele[b].window))
  | some v =>
    if !s.smbBooted || v.toNat = 0 || 4000 < v.toNat then s.smbNack
    else s.smbWrite 0x08 (word2 v.toNat) pec (fun (s : State) =>
      { s with later := s.later ++ [.telConfig s.smbTargets v.toNat false none] })

/-- FILTER_RESET: as TEL_CONFIG with RESET_FILTER, each berth keeping its window. -/
def smbFilter (s : State) (pec : Option Byte) : State :=
  if !s.smbBooted then s.smbNack
  else s.smbWrite 0x09 [] pec (fun (s : State) => { s with later := s.later ++ [.telConfig s.smbTargets 0 true none] })

/-! ### The tunnel (R326, R327, R376, R377) -/

/-- A partly received message is discarded and counted. -/
def dropPart (s : State) : State := match s.smb.part with
  | none => s
  | some _ => { s with smb.part := none }.smbCount 3

/-- A whole message: its header is checked and the command takes its tag, or it is discarded. -/
def tunnelMessage (s : State) (m : List Byte) (t : Stamp) : State :=
  let tag := leAt m 2 2
  if m.length < 8 || leAt m 0 1 ≠ 1 || 2 ≤ leAt m 1 1 || 4096 ≤ tag || 512 < leAt m 6 2 || m.length ≠ 8 + leAt m 6 2 then s.smbCount 3
  else
    let o : Origin := { path := .tunnel, tag := tag }
    let code := leAt m 4 2
    if s.freeTags = 0 then s.tagReject o code .noResource
    else if s.tagUsed tag then s.tagReject o code .tagInUse
    else if 8 ≤ s.tagsOn .tunnel then s.tagReject o code .noResource
    else s.tagCheck o code (leAt m 1 1 = 1) (m.drop 8) t

/-- A fragment arrives. -/
def fragment (s : State) (l : List Byte) (t : Stamp) : State :=
  let i := leAt l 0 1 % 128
  let s := if i = 0 then s.dropPart else s
  let next := match s.smb.part with
    | some p => p.1
    | none => 0
  let have_ := match s.smb.part with
    | some p => p.2
    | none => []
  if i ≠ next then (match s.smb.part with
    | some _ => s.dropPart
    | none => s.smbCount 3)
  else
    let m := have_ ++ l.drop 1
    if 128 ≤ leAt l 0 1 then { s with smb.part := none }.tunnelMessage m t
    else { s with smb.part := some (i + 1, m) }

/-- TUNNEL_CMD. -/
def tunnelIn (s : State) (block : List Byte) (pec : Option Byte) (t : Stamp) : State :=
  if !s.smbBooted || block = [] || 255 < block.length then s.smbNack
  else s.smbWrite 0xF0 (BitVec.ofNat 8 block.length :: block) pec (fun (s : State) => s.fragment block t)

/-- The message of a response (Table 10.1). -/
def responseBytes (r : Response) : List Byte :=
  [2#8] ++ leBytes 1 (flag r.reject 2) ++ leBytes 2 r.origin.tag ++ leBytes 2 r.code ++ leBytes 2 r.payload.length ++ r.payload

/-- TUNNEL_RSP: one fragment of the oldest response; delivered, the next one's turn comes, and the last frees the tag (R327,
R377). -/
def tunnelOut (s : State) (done : Bool) : State :=
  if !s.smbBooted then s.smbNack
  else match s.smb.rsps with
    | [] => s.smbRead 0xF1 [1, 0xFF]
    | (r, i) :: rest =>
      let m := responseBytes r
      let last := m.length ≤ 254 * (i + 1)
      let f := leBytes 1 (i + flag last 7) ++ (m.drop (254 * i)).take 254
      let s := s.smbRead 0xF1 (BitVec.ofNat 8 f.length :: f)
      if !done then s
      else if !last then { s with smb.rsps := (r, i + 1) :: rest }
      else
        let s : State := { s with smb.rsps := rest }
        if r.reject then s else s.freeTag r.origin.tag

end State

/-! ### The commands -/

/-- TUNNEL_CMD (0xF0; R326, R376). -/
def execTunnelCmd (block : List Byte) (pec : Option Byte) (at_ : Stamp) (s : State) : Host.Outcome State Fault Refusal :=
  .next (s.smbOn (fun (s : State) => s.tunnelIn block pec at_))

/-- TUNNEL_RSP (0xF1; R377). -/
def execTunnelRsp (done : Bool) (s : State) : Host.Outcome State Fault Refusal := .next (s.smbOn (fun (s : State) => s.tunnelOut done))

/-- BERTH_SELECT (0x00; R371). -/
def execBerthSelect (wr pec : Option Byte) (s : State) : Host.Outcome State Fault Refusal := .next (s.smbOn (fun (s : State) => s.smbSelect wr pec))

/-- IDENTIFY (0x01). -/
def execIdentify (s : State) : Host.Outcome State Fault Refusal := .next (s.smbOn (fun (s : State) => s.smbRead 0x01 s.smbIdentify))

/-- STATUS (0x02). -/
def execStatus (s : State) : Host.Outcome State Fault Refusal :=
  .next (s.smbSingle 0x02 (fun (b : BerthId) => State.word2 (s.smbStatus b)) (fun (s : State) _ => s))

/-- ALERT_STATUS (0x03): the sticky causes clear (R373). -/
def execAlertStatus (s : State) : Host.Outcome State Fault Refusal :=
  .next (s.smbOn (fun (s : State) => { s.smbRead 0x03 (State.word2 s.alertBits.toNat) with smb.sticky := 0 }))

/-- ALERT_MASK (0x04). -/
def execAlertMask (wr : Option (BitVec 16)) (pec : Option Byte) (s : State) : Host.Outcome State Fault Refusal :=
  .next (s.smbOn (fun (s : State) => match wr with
    | none => s.smbRead 0x04 (State.word2 s.smb.mask.toNat)
    | some v => if !s.smbBooted then s.smbNack
      else s.smbWrite 0x04 (State.word2 v.toNat) pec (fun (s : State) => { s with smb.mask := (v &&& 0x3E#16) ||| 1#16 })))

/-- SMB_COUNTS (0x05; R375). -/
def execSmbCounts (s : State) : Host.Outcome State Fault Refusal := .next (s.smbOn (fun (s : State) => s.smbCounters))

/-- WINDOW (0x08). -/
def execWindow (wr : Option (BitVec 16)) (pec : Option Byte) (s : State) : Host.Outcome State Fault Refusal :=
  .next (s.smbOn (fun (s : State) => s.smbWindow wr pec))

/-- FILTER_RESET (0x09). -/
def execFilterReset (pec : Option Byte) (s : State) : Host.Outcome State Fault Refusal := .next (s.smbOn (fun (s : State) => s.smbFilter pec))

/-- VBUS_AVG (0x10). -/
def execVbusAvg (s : State) : Host.Outcome State Fault Refusal :=
  .next (s.smbSingle 0x10 (fun (b : BerthId) => s.smbAvg b 0) (fun (s : State) _ => s))

/-- CURR_AVG (0x11). -/
def execCurrAvg (s : State) : Host.Outcome State Fault Refusal :=
  .next (s.smbSingle 0x11 (fun (b : BerthId) => s.smbAvg b 1) (fun (s : State) _ => s))

/-- POWER_AVG (0x12). -/
def execPowerAvg (s : State) : Host.Outcome State Fault Refusal :=
  .next (s.smbSingle 0x12 (fun (b : BerthId) => s.smbAvg b 2) (fun (s : State) _ => s))

/-- TEMP_AVG (0x13). -/
def execTempAvg (s : State) : Host.Outcome State Fault Refusal :=
  .next (s.smbSingle 0x13 (fun (b : BerthId) => s.smbAvg b 3) (fun (s : State) _ => s))

/-- VBUS_PEAK (0x18): that peak is reset. -/
def execVbusPeak (s : State) : Host.Outcome State Fault Refusal :=
  .next (s.smbSingle 0x18 (fun (b : BerthId) => s.smbPeak b 0) (fun (s : State) (b : BerthId) => s.clearPeak b 0))

/-- CURR_PEAK (0x19). -/
def execCurrPeak (s : State) : Host.Outcome State Fault Refusal :=
  .next (s.smbSingle 0x19 (fun (b : BerthId) => s.smbPeak b 1) (fun (s : State) (b : BerthId) => s.clearPeak b 1))

/-- POWER_PEAK (0x1A). -/
def execPowerPeak (s : State) : Host.Outcome State Fault Refusal :=
  .next (s.smbSingle 0x1A (fun (b : BerthId) => s.smbPeak b 2) (fun (s : State) (b : BerthId) => s.clearPeak b 2))

/-- TEMP_PEAK (0x1B). -/
def execTempPeak (s : State) : Host.Outcome State Fault Refusal :=
  .next (s.smbSingle 0x1B (fun (b : BerthId) => s.smbPeak b 3) (fun (s : State) (b : BerthId) => s.clearPeak b 3))

/-- PEAKS (0x1C): all four are reset. -/
def execPeaks (s : State) : Host.Outcome State Fault Refusal :=
  .next (s.smbSingle 0x1C (fun (b : BerthId) => s.smbPeak b 0 ++ s.smbPeak b 1 ++ s.smbPeak b 2 ++ s.smbPeak b 3)
    (fun (s : State) (b : BerthId) => s.atTele b (fun (t : Tele) => t.resetPeaks)))

/-- CONTRACT (0x1D). -/
def execContract (s : State) : Host.Outcome State Fault Refusal :=
  .next (s.smbSingle 0x1D (fun (b : BerthId) => s.smbContract b) (fun (s : State) _ => s))

/-- VBUS_ALL (0x20). -/
def execVbusAll (s : State) : Host.Outcome State Fault Refusal := .next (s.smbOn (fun (s : State) => s.smbRead 0x20 (s.smbAll 0)))

/-- CURR_ALL (0x21). -/
def execCurrAll (s : State) : Host.Outcome State Fault Refusal := .next (s.smbOn (fun (s : State) => s.smbRead 0x21 (s.smbAll 1)))

/-- POWER_ALL (0x22). -/
def execPowerAll (s : State) : Host.Outcome State Fault Refusal := .next (s.smbOn (fun (s : State) => s.smbRead 0x22 (s.smbAll 2)))

/-- TEMP_ALL (0x23). -/
def execTempAll (s : State) : Host.Outcome State Fault Refusal := .next (s.smbOn (fun (s : State) => s.smbRead 0x23 (s.smbAll 3)))

/-- VALID_ALL (0x24). -/
def execValidAll (s : State) : Host.Outcome State Fault Refusal := .next (s.smbOn (fun (s : State) => s.smbRead 0x24 s.smbValid))

/-- DEVICE_POWER (0x28). -/
def execDevicePower (s : State) : Host.Outcome State Fault Refusal := .next (s.smbOn (fun (s : State) => s.smbRead 0x28 s.smbPower))

/-- VIN (0x29). -/
def execVin (s : State) : Host.Outcome State Fault Refusal := .next (s.smbOn (fun (s : State) => s.smbRead 0x29 s.smbVin))

/-- SMB_TIMING (0xE0; R369, R370). -/
def execSmbTiming (wr : Option Word) (pec : Option Byte) (s : State) : Host.Outcome State Fault Refusal :=
  .next (s.smbOn (fun (s : State) => s.smbTime wr pec))

/-- A read from the Alert Response Address while SMBALERT_N is low (R373): `won` when the target won the arbitration. -/
def execAlertResponseAddress (won : Bool) (s : State) : Host.Outcome State Fault Refusal :=
  .next (s.smbOn (fun (s : State) => { s with smb.out := if s.alerting && won then some [s.addrW, pecOf [0x19, s.addrW]] else none }))

/-- SCL has been low for 30 ms (R367): after the traffic of a transaction that never came to its end, and of any recovery clocks
(R368), the interface is reset. -/
def execSmbusTimeout (traffic : List BusEvent) (s : State) : Host.Outcome State Fault Refusal :=
  .next (if s.smb.on then
      let p := s.smb.bus.run s.smb.addr s.alerting traffic
      let s := (List.replicate p.2 ()).foldl (fun (s : State) _ => s.smbCount 1) s
      if p.1 = .idle then { s with smb.bus := .idle }.smbCount 2 else { s with smb.out := none, smb.bus := .idle }.smbCount 2
    else s)

end Sys2Proof.Machine
end

