-- ==== Sys2Proof/Machine/Pilot.lean ====
section
/-!
DEFINITION. The Pilot monitor (R459–R469).

A row of a Pilot command stands for its whole input line.  `Pilot.out` holds what has entered Pilot's output buffer, line by line: values, the final
line, the prompt.  The text of a printed value is not modelled; its content is.
-/

namespace Sys2Proof.Machine

namespace State

/-! ### Lines (R461, R463, R467) -/

/-- The final line and the prompt. -/
def sayOk (s : State) (l : List PilotOut) : State := s.say (l ++ [.ok, .prompt s.pilot.level])
@[inherit_doc sayOk] def sayErr (s : State) (st : Status) : State := s.say [.err st, .prompt s.pilot.level]

/-- An input line arrives: a new baud rate stands from then on (R459). -/
def pilotLine (s : State) (f : State → State) : State := if s.pilot.on then f { s with pilot.revert := false } else s

/-- A line that a level allows. -/
def pilotAt (s : State) (need : Nat) (f : State → State) : State :=
  s.pilotLine (fun (s : State) => if s.pilot.level < need then s.sayErr .notPermitted else f s)

/-- The lowest of Pilot's four tags that is free (R328). -/
def pilotTag (s : State) : Nat :=
  ((List.range 4).find? (fun (n : Nat) => !s.tags.any (fun (t : TagEntry) => decide (t.origin = { path := .pilot, tag := n })))).getD 4

/-- A mailbox command is accepted under a Pilot tag with its level, and goes on (R328, R420, R467). -/
def pilotTake (s : State) (code level : Nat) (p : List Byte) (f : Origin → State → State) : State :=
  if 4 ≤ s.tagsOn .pilot then s.sayErr .noResource
  else
    let o : Origin := { path := .pilot, tag := s.pilotTag }
    let s := s.enterTag o code false (some p) s.now
    f o { s with tags := s.tags.map (fun (t : TagEntry) => if t.origin = o then { t with level := level } else t) }

/-- The state that an outcome answers. -/
def landed (s : State) (x : Host.Outcome State Fault Refusal) : State := match x with
  | .next t => t
  | _ => s

/-- A Pilot command that is a mailbox command: accepted and run. -/
def pilotRun (s : State) (need code : Nat) (p : List Byte) (run : Origin → List Byte → State → Host.Outcome State Fault Refusal) : State :=
  s.pilotAt need (fun (s : State) => s.pilotTake code (max 1 s.pilot.level) p (fun (o : Origin) (s : State) => s.landed (run o p s)))

/-! ### Sessions (R463–R466, Table 17.1) -/

/-- The 16 UID bytes in DEV_IDENTIFY order. -/
def uidBytes (s : State) : List Byte := [s.fuse 1, s.fuse 2, s.fuse 3, s.fuse 4].flatMap (fun (w : Word) => leBytes 4 w.toNat)

/-- The code that `unlock` takes. -/
def unlockCode (s : State) : Word := if s.retained.backup[8] ≠ 0 then s.retained.backup[8] else crc32 s.uidBytes

/-- The code that answers a challenge. -/
def respondCode (s : State) (c : Word) : Word :=
  let k := s.retained.backup
  BitVec.ofNat 32 (beNat ((sha256 (beBytes c ++ s.uidBytes
    ++ [k[9], k[10], k[11], k[12]].flatMap (fun (w : Word) => leBytes 4 w.toNat))).take 4))

/-- A failed attempt: the third in a row blocks both commands (R464). -/
def pilotFail (s : State) : State :=
  let n := s.pilot.fails + 1
  { s with pilot.fails := if 3 ≤ n then 0 else n, pilot.blocked := s.pilot.blocked || 3 ≤ n }.sayErr .notPermitted

/-- A right code: the session rises. -/
def pilotRise (s : State) (level : Nat) : State := { s with pilot.level := max s.pilot.level level, pilot.fails := 0 }.sayOk []

/-- `unlock`. -/
def pilotUnlockCode (s : State) (code : Word) : State :=
  if s.pilot.blocked || s.pilotCap < 1 then s.sayErr .notPermitted
  else if code = s.unlockCode then s.pilotRise 1 else s.pilotFail

/-- `challenge`. -/
def pilotDraw (s : State) : State :=
  let c : Word := BitVec.ofNat 32 (Config.pilotChallenge s.pilot.draws).toNat
  { s with pilot.challenge := some c, pilot.draws := s.pilot.draws + 1 }.sayOk [.words [c.toNat]]

/-- `respond`: a challenge answers one attempt. -/
def pilotAnswerCode (s : State) (code : Word) : State :=
  if s.pilot.blocked || s.pilotCap < 2 then s.sayErr .notPermitted
  else
    let c := s.pilot.challenge
    let s : State := { s with pilot.challenge := none }
    match c with
    | some x => if code = s.respondCode x then s.pilotRise 2 else s.pilotFail
    | none => s.pilotFail

/-- The session drops to L0 (R466). -/
def pilotDrop (s : State) : State := { s with pilot.level := 0 }

/-! ### Views (Table 17.2) -/

/-- The commands that a level allows. -/
def helpFor (level : Nat) : List String :=
  ["help", "id", "baud", "unlock", "challenge", "respond", "lock"]
    ++ (if 1 ≤ level then ["state", "berth", "regs", "tug", "peek", "alloc", "health", "man list", "man read", "trace", "mb"] else [])
    ++ (if 2 ≤ level then ["poke", "cap"] else [])

/-- The registers of a berth-window block (Table 1.8), as offsets. -/
def blockRegs : Nat → List Nat
  | 0x0 => [0x000, 0x004, 0x008, 0x00C, 0x010, 0x014, 0x018, 0x01C, 0x020, 0x024, 0x028, 0x02C, 0x030, 0x034, 0x038, 0x03C]
  | 0x1 => [0x100, 0x104, 0x108, 0x10C, 0x110, 0x114, 0x118, 0x11C, 0x120, 0x124, 0x128, 0x12C, 0x130, 0x134, 0x138]
  | 0x2 => (List.range 21).map (fun (i : Nat) => 0x200 + 4 * i) ++ (List.range 32).map (fun (i : Nat) => 0x280 + 4 * i)
  | 0x3 => (List.range 16).map (fun (i : Nat) => 0x300 + 4 * i)
  | 0x4 => (List.range 18).map (fun (i : Nat) => 0x400 + 4 * i)
  | 0x5 => (List.range 10).flatMap (fun (n : Nat) => (List.range 7).map (fun (i : Nat) => 0x500 + 0x20 * n + 4 * i))
      ++ (List.range 11).map (fun (i : Nat) => 0x640 + 4 * i)
  | 0x7 => (List.range 7).map (fun (i : Nat) => 0x700 + 4 * i)
  | 0x8 => (List.range 11).map (fun (i : Nat) => 0x800 + 4 * i)
  | 0x9 => (List.range 16).map (fun (i : Nat) => 0x900 + 4 * i)
  | 0xA => (List.range 7).map (fun (i : Nat) => 0xA00 + 4 * i)
  | _ => []

/-- The debug lock closes Pilot's reads of the view (R419). -/
def peekBars (s : State) (a n : Nat) : Option Status :=
  firstBad [((s.runError a n).isSome, (s.runError a n).getD .badArg), (n = 0 || 124 < n, .badArg), (2 ≤ s.debugLevel, .notPermitted)]

/-- One line of words, marked where one of them is speculative (R461). -/
def wordLine (s : State) (x : List (Nat × Word)) : PilotOut :=
  let ws := x.map (fun (y : Nat × Word) => y.2.toNat)
  if x.any (fun (y : Nat × Word) => s.specAt y.1) then .spec ws else .words ws

/-- A list cut into lines of four. -/
def fours : Nat → List (Nat × Word) → List (List (Nat × Word))
  | 0, _ => []
  | n + 1, l => if l = [] then [] else l.take 4 :: fours n (l.drop 4)

/-- `peek`: n words, four per line. -/
def pilotWords (s : State) (a n : Nat) : State := match s.peekBars a n with
  | some st => s.sayErr st
  | none =>
    let r := s.viewRead a n
    let l := (wordsAt a n).zip (hideBackup a r.1)
    r.2.2.sayOk ((fours 31 l).map s.wordLine)

/-- `regs`: each register of a block, as its offset and value. -/
def pilotBlock (s : State) (b block : Nat) : State :=
  let l := blockRegs block
  match if l = [] || 48 ≤ b then some Status.badArg else s.peekBars (0x40000000 + 0x1000 * b) 1 with
  | some st => s.sayErr st
  | none =>
    let base := 0x40000000 + 0x1000 * b
    let r := l.foldl (fun (x : List PilotOut × State) (o : Nat) =>
      let y := x.2.viewRead (base + o) 1
      let ws := o :: y.1.map (fun (w : Word) => w.toNat)
      (x.1 ++ [if y.2.1 then .spec ws else .words ws], y.2.2)) ([], s)
    r.2.sayOk r.1

/-- `man list`: one slot per line. -/
def pilotSlots (s : State) (area berth : Nat) : State :=
  match firstBad ((if berth = 0xFF then [] else s.berthChecks [BitVec.ofNat 8 berth] 0 false) ++ [(6 ≤ area || 256 ≤ berth, .badArg)]) with
  | some st => s.sayErr st
  | none =>
    let l := (s.areaSlots area).filter (fun (n : Nat) => berth = 0xFF || (s.slotOwner n).1 = berth)
    s.sayOk (l.map (fun (n : Nat) => PilotOut.bytes (s.listEntry n)))

/-- `man read`: a slot without its excerpt. -/
def pilotSlot (s : State) (n : Nat) : State :=
  if 1024 ≤ n then s.sayErr .badArg
  else
    let l := s.slotBytes n
    s.sayOk [.bytes (l.take 0x230), .bytes (l.drop 0xFE0)]

/-- `cap dump`: one line per sample set of the frozen window (R469). -/
def pilotDump (s : State) (n : Nat) (release : Bool) : State :=
  match firstBad (s.berthChecks [BitVec.ofNat 8 n] 0 false ++ [((decide (256 ≤ n), Status.badArg) : Check)]) with
  | some st => s.sayErr st
  | none =>
    let b := berthNo n
    match s.tele[b].frozen with
    | none => s.sayErr .notPermitted
    | some f =>
      let l := (List.range f.size).map (fun (i : Nat) => PilotOut.capSet i (setOfBytes (s.ringRead b (f.first + i))))
      (s.say (l ++ if release then [.release b] else [])).sayOk []

/-- `tug`. -/
def pilotTugView (s : State) (t : Nat) : State :=
  if h : t < 52 then s.sayOk [.words s.tugs[t].shown] else s.sayErr .badArg

end State

/-! ### The commands -/

/-- A break on UART_RX (UART_BREAK; R460). -/
def execUartBreak (s : State) : Host.Outcome State Fault Refusal :=
  .next (if s.pilot.on then ({ s with pilot.baud := 115200, pilot.revert := false, pilot.marks := s.pilot.marks.filter (fun (m : Nat × PilotOut) => !m.2.isRate) }.pilotDrop).say [.banner] else s)

/-- 5 s without a character at a new rate (BAUD_REVERT; R459). -/
def execBaudRevert (s : State) : Host.Outcome State Fault Refusal :=
  .next (if s.pilot.revert then { s with pilot.baud := 115200, pilot.revert := false } else s)

/-- 15 min without an input line (SESSION_TIMEOUT; R466). -/
def execSessionTimeout (s : State) : Host.Outcome State Fault Refusal := .next s.pilotDrop

/-- The block of `unlock` and `respond` ends after 60 s (UNLOCK_BLOCK_END; R464). -/
def execUnlockBlockEnd (s : State) : Host.Outcome State Fault Refusal := .next { s with pilot.blocked := false }

/-- A challenge is 60 s old (CHALLENGE_EXPIRY; R464). -/
def execChallengeExpiry (s : State) : Host.Outcome State Fault Refusal := .next { s with pilot.challenge := none }

/-- A line longer than 256 characters (LINE_TOO_LONG; R461). -/
def execLineTooLong (s : State) : Host.Outcome State Fault Refusal := .next (s.pilotLine (fun (s : State) => s.sayErr .badLength))

/-- `help`. -/
def execPilotHelp (s : State) : Host.Outcome State Fault Refusal :=
  .next (s.pilotLine (fun (s : State) => s.sayOk ((State.helpFor s.pilot.level).map (fun (x : String) => PilotOut.bytes (State.ascii x)))))

/-- `id`: the cap, then DEV_IDENTIFY. -/
def execPilotId (s : State) : Host.Outcome State Fault Refusal :=
  .next ((if s.pilot.on then s.say [.words [s.pilotCap]] else s).pilotRun 0 0x0101 [] execDevIdentify)

/-- `baud` (R459). -/
def execPilotBaud (rate : Nat) (s : State) : Host.Outcome State Fault Refusal :=
  .next (s.pilotLine (fun (s : State) =>
    if [115200, 230400, 460800, 921600, 1500000, 3000000].contains rate then
      s.say [.ok, .rate rate, .prompt s.pilot.level]
    else s.sayErr .badArg))

/-- `unlock`. -/
def execPilotUnlock (code : Word) (s : State) : Host.Outcome State Fault Refusal := .next (s.pilotLine (fun (s : State) => s.pilotUnlockCode code))

/-- `challenge`. -/
def execPilotChallenge (s : State) : Host.Outcome State Fault Refusal := .next (s.pilotLine (fun (s : State) => s.pilotDraw))

/-- `respond`. -/
def execPilotRespond (code : Word) (s : State) : Host.Outcome State Fault Refusal := .next (s.pilotLine (fun (s : State) => s.pilotAnswerCode code))

/-- `lock` (R466). -/
def execPilotLock (s : State) : Host.Outcome State Fault Refusal := .next (s.pilotLine (fun (s : State) => s.pilotDrop.sayOk []))

/-- `state`. -/
def execPilotState (s : State) : Host.Outcome State Fault Refusal := .next (s.pilotRun 1 0x0102 [] execDevGetState)

/-- `berth`. -/
def execPilotBerth (b : Nat) (s : State) : Host.Outcome State Fault Refusal :=
  .next (if 256 ≤ b then s.pilotAt 1 (fun (s : State) => s.sayErr .badArg) else s.pilotRun 1 0x0205 (leBytes 1 b ++ [0, 0, 0]) execBerthGetState)

/-- `regs`. -/
def execPilotRegs (b block : Nat) (s : State) : Host.Outcome State Fault Refusal := .next (s.pilotAt 1 (fun (s : State) => s.pilotBlock b block))

/-- `tug`. -/
def execPilotTug (t : Nat) (s : State) : Host.Outcome State Fault Refusal := .next (s.pilotAt 1 (fun (s : State) => s.pilotTugView t))

/-- `peek`. -/
def execPilotPeek (addr n : Nat) (s : State) : Host.Outcome State Fault Refusal := .next (s.pilotAt 1 (fun (s : State) => s.pilotWords addr n))

/-- `poke`. -/
def execPilotPoke (addr : Nat) (ws : List Word) (s : State) : Host.Outcome State Fault Refusal :=
  .next (if 2 ^ 32 ≤ addr || 124 < ws.length then s.pilotAt 2 (fun (s : State) => s.sayErr .badArg)
    else s.pilotRun 2 0x0B02 (leBytes 4 addr ++ leBytes 2 ws.length ++ [0, 0] ++ ws.flatMap (fun (w : Word) => leBytes 4 w.toNat)) execDbgPoke)

/-- `alloc`. -/
def execPilotAlloc (first count : Nat) (s : State) : Host.Outcome State Fault Refusal :=
  .next (if 256 ≤ first || 256 ≤ count then s.pilotAt 1 (fun (s : State) => s.sayErr .badArg)
    else s.pilotRun 1 0x0403 (leBytes 1 first ++ leBytes 1 count ++ [0, 0]) execPowerGetAlloc)

/-- `health`. -/
def execPilotHealth (s : State) : Host.Outcome State Fault Refusal := .next (s.pilotRun 1 0x0905 [] execSvcHealth)

/-- `man list`. -/
def execPilotManList (area berth : Nat) (s : State) : Host.Outcome State Fault Refusal :=
  .next (s.pilotAt 1 (fun (s : State) => s.pilotSlots area berth))

/-- `man read`. -/
def execPilotManRead (slot : Nat) (s : State) : Host.Outcome State Fault Refusal := .next (s.pilotAt 1 (fun (s : State) => s.pilotSlot slot))

/-- `trace` (R468): a new selection replaces the previous one. -/
def execPilotTrace (set : BitVec 48) (kinds : BitVec 4) (s : State) : Host.Outcome State Fault Refusal :=
  .next (s.pilotAt 1 (fun (s : State) =>
    let t : Trace := { set := set, kinds := kinds }
    { s with pilot.trace := t }.sayOk []))

/-- `cap arm`: the trigger in bits 7–0, a comparator in bits 15–8 and its edge in bits 23–16. -/
def execPilotCapArm (b trigger pre post : Nat) (s : State) : Host.Outcome State Fault Refusal :=
  .next (if 256 ≤ b || 2 ^ 24 ≤ trigger || 2 ^ 16 ≤ pre || 2 ^ 16 ≤ post then s.pilotAt 2 (fun (s : State) => s.sayErr .badArg)
    else s.pilotRun 2 0x0604 (leBytes 1 b ++ leBytes 3 trigger ++ leBytes 2 pre ++ leBytes 2 post ++ [0, 0, 0, 0]) execCapArm)

/-- `cap dump` (R469). -/
def execPilotCapDump (b : Nat) (release : Bool) (s : State) : Host.Outcome State Fault Refusal :=
  .next (s.pilotAt 2 (fun (s : State) => s.pilotDump b release))

/-- `mb`: any mailbox command is accepted under a Pilot tag (R328); the row of its code runs it. -/
def execPilotMb (code : BitVec 16) (data : List Byte) (s : State) : Host.Outcome State Fault Refusal :=
  .next (s.pilotLine (fun (s : State) => s.pilotTake code.toNat s.pilot.level data (fun (o : Origin) (s : State) =>
    if commandCodes.contains code.toNat then s else s.respond o code.toNat .unknownCmd)))

end Sys2Proof.Machine
end

