-- ==== Sys2Proof/Machine/Jtag.lean ====
section
/-!
DEFINITION. The boundary scan (R419, R483): one row per public instruction, each with the scan that goes with it.
-/

namespace Sys2Proof.Machine

namespace State

/-- A cell is active: its quay is enabled and its gangway has trained; the 30 harbour cells always are (R483). -/
def cellOn (s : State) (i : Nat) : Bool :=
  if i < 30 then true
  else
    let b : BerthId := ⟨(i - 30) / 4 % 48, Nat.mod_lt _ (by omega)⟩
    decide (b.val < s.berthsOn) && s.reaches b

/-- The active cells. -/
def cells (s : State) : BitVec 222 :=
  BitVec.ofNat 222 ((List.range 222).foldl (fun (n : Nat) (i : Nat) => n + flag (s.cellOn i) i) 0)

/-- What EXTEST drives on the balls, cell by cell; an inactive cell drives nothing, and no class-S ball has one. -/
def scanDrive (s : State) : Option (BitVec 222) := if s.jtag.driven then some (s.jtag.preload &&& s.cells) else none

end State

/-- IDCODE: the register reads 0x1048_0E5F (R483). -/
def execJtagIdcode (s : State) : Host.Outcome State Fault Refusal :=
  .next { s with jtag.idcode := 0x10480E5F#32, jtag.bypass := false, jtag.driven := false }

/-- BYPASS (R419). -/
def execJtagBypass (s : State) : Host.Outcome State Fault Refusal := .next { s with jtag.bypass := true, jtag.driven := false }

/-- SAMPLE/PRELOAD: the active cells capture their balls, and the shifted bits become the cells' values (R483). -/
def execJtagSamplePreload (pins shift : BitVec 222) (s : State) : Host.Outcome State Fault Refusal :=
  .next { s with jtag.scan := pins &&& s.cells, jtag.preload := shift, jtag.bypass := false, jtag.driven := false }

/-- EXTEST: the preloaded values stand on the balls of the active cells (R483). -/
def execJtagExtest (s : State) : Host.Outcome State Fault Refusal := .next { s with jtag.driven := true, jtag.bypass := false }

end Sys2Proof.Machine
end

