-- ==== Sys2Proof/Machine/Tide.lean ====
section
/-!
DEFINITION. The Tide boundary (R21, Table 1.4): the counts, the latch of every berth with the changes that waited for it, the
changes of the Harbourmaster, the start of the Tugs' Tide, publication (R101, R306), telemetry (R330–R340) and the trace (R468).
-/

namespace Sys2Proof.Machine

namespace State

/-! ### Counts (R21 step 3, R30–R34, R261) -/

/-- TIDE_COUNT, ROUND_PHASE and the time base move on; the first boundary of the generator carries 0. -/
def advance (s : State) : State :=
  let first := s.ticks = 0
  let epoch := s.epochDue || (s.epochWant && !s.follower && !first && s.roundPhase = 39)
  let tide := if first then s.tideCount else if epoch then 0 else (s.tideCount + 1) % 2 ^ 48
  let phase := if first then s.roundPhase else if epoch || s.roundDue then 0 else (s.roundPhase + 1) % 40
  let kind := if epoch then 2 else if phase = 0 then 1 else 0
  { s with tideCount := tide, roundPhase := phase, ticks := s.ticks + 1, tb := max s.tb (tide * tideLen)
           epochDue := false, roundDue := false, epochWant := s.epochWant && !epoch
           tideOut := if s.follower && s.tideLocked then s.tideOut else some (pulseWidth kind) }

/-- What counts boundaries in the harbour: the watchdog (Table 14.4), the standby (R448), device time and the real-time counter
(R407). -/
def harbourTide (s : State) (inp : TideInput) : State :=
  let on := s.phase ≠ .brittle && s.phase ≠ .plls && s.phase ≠ .boot
  let standby := on && s.harbour.testing.isNone && !s.repair.coreFenced
  { s with harbour.unkicked := if on then s.harbour.unkicked + 1 else 0
           harbour.followed := if standby then s.harbour.followed + 1 else 0
           time := if s.time = 0 then 0 else (s.time + 25) % 2 ^ 64
           retained.rtc := s.retained.rtc + 25, temp := inp.temp }

/-! ### Berths (R21 steps 1 and 2) -/

/-- The latch of a berth for the Tide just ended, from what its quay measured: as calibrated by the factory alone for the
regulator, with Glaze for what is reported (R258, R431); the timers that expire in that Tide, and the two fault timers, come first
(R21, R36, R61, R190). In harbour-less mode no latch is taken by the harbour. -/
def latchBerth (e : Env) (t : Stamp) (fac cal : BerthSample) (b : Berth) : Berth :=
  let b : Berth := (b.takeBytes fac.rx).catchUp e (t - 1)
  let b : Berth := (b.faultTimer e t fac.path).vconnFault e t fac.vconn
  let b : Berth := Berth.regTide { b with smp := fac } t
  let b : Berth := { b.takeSample cal with smp := fac }
  let b : Berth := { b with tmr.tb := t }
  let b : Berth := if 5500 ≤ fac.cc1 || 5500 ≤ fac.cc2 then b.ccHigh t else b
  let b : Berth := if e.hless then b else b.takeLatch e
  { b with path.limiting := false }

/-- A change that a gangway retransmission may keep from its boundary: a commit (R42). -/
def isCommit (p : Pend) : Bool := match p with
  | .commit _ => true
  | _ => false

/-- What waited for the boundary takes effect in the order in which it was written (R21 step 2, R50, R60), after the timers that
expire at the boundary (R36); commits that a retransmission keeps wait for the next one (R42). -/
def commitBerth (e : Env) (t : Stamp) (b : Berth) : Berth :=
  let b := b.catchUp e t
  let was := b
  let kept (p : Pend) : Bool := b.id.lateCommit && isCommit p
  let l := b.id.pend.filter (fun (p : Pend) => !kept p)
  let b : Berth := { b with id.pend := b.id.pend.filter kept, id.lateCommit := false }
  let b := l.foldl (fun (b : Berth) (p : Pend) => b.applyPend e t p) b
  let b := (((b.applyHeldCc e t).applyVconnDue).regCfgTide).hrRecovered.outputsTide t
  let b := b.loadFollow.idleTide
  let b := if e.bp && !e.hless then b else b.flushOwed
  { b with phy.sopSeen := false, id.protActed := false }.settleFrom was t

/-- The hardware of one berth at the boundary; a quay in reset has none, nor has a berth whose own reset is asserted. -/
def berthTide (inp : TideInput) (s : State) (b : BerthId) : State :=
  let asserted := match s.tele[b].reset with
    | some (_, 2) => true
    | _ => false
  if !s.quays[quayOf b].up || asserted then s
  else
    let x := inp.berths[b]
    let fac := s.calBerth b false x
    let cal := s.calBerth b true x
    s.atBerth b (fun e y => commitBerth e s.now (latchBerth e s.now fac cal y))

/-- The quay's averages with UV_NOW and OV_NOW, which follow Qq_VINS, and its settings that take effect at a boundary (R207, R257). -/
def quayTide (inp : TideInput) (s : State) (q : QuayId) : State :=
  if !s.quays[q].up then s
  else
    let m := s.calQuay q inp.quays[q]
    let s := match s.quays[q].vinHeld with
      | some (w, _) => s.atBerths (berthsOf q) (fun _ (x : Berth) => x.loadW8 w)
      | none => s
    s.atQuay q (fun (x : Quay) =>
      let x : Quay := match x.vinHeld with
        | some (w, t) => { x with vinWin := w, vinTime := t, vinHeld := none }
        | none => x
      let x : Quay := match x.seqHeld with
        | some t => { x with seq := t, seqHeld := none }
        | none => x
      { x with vins := m.vins, snks := m.snks, temp := m.temp
               uvNow := decide (m.vins < 100 * fld x.vinWin 0 10), ovNow := decide (100 * fld x.vinWin 16 10 < m.vins) })

/-! ### Changes of the Harbourmaster -/

/-- One item of DEV_CONFIG (Table 11.5). -/
def applyItem (s : State) (x : Nat × List Byte) : State :=
  if x.1 = 1 then
    if leAt x.2 0 4 = 1 then (if s.follower then s else { s with follower := true, syncLost := true, tideLocked := false })
    else { s with follower := false, tideLocked := true }
  else if x.1 = 2 then { s with epochWant := true }
  else s.restoreItem x.1 x.2

/-- A berth's outcome that the boundary decides (Table 11.6). -/
def finishOne (o : Origin) (s : State) (b : BerthId) : State :=
  match s.jobs.find? (fun (j : SetJob) => j.origin = o) with
  | none => s
  | some j =>
    let ok := j.code ≠ 0x0207 || s.berths[b].cc.state = .errorRecovery
    s.jobDone o b (if ok then .ok else .notPermitted)

/-- TEL_CONFIG on one berth, or its two-wire equal, which keeps the window (R332). -/
def telSet (window : Nat) (reset : Bool) (s : State) (b : BerthId) : State :=
  s.atTele b (fun (t : Tele) =>
    let w := if window = 0 then t.window else window
    let n : Tele := { t with window := w }
    if reset || w ≠ t.window then n.restart else n)

/-- A change is due at this boundary: DEV_SET_TIME names its own (R31). -/
def isDue (s : State) (l : Later) : Bool := match l with
  | .setTime n _ _ => !s.future n
  | _ => true

/-- A change that is due. -/
def applyLater (s : State) (l : Later) : State := match l with
  | .setTime _ t o => (s.setTime t).respond o 0x0103 .ok
  | .devConfig items o => (items.foldl applyItem s).respond o 0x0105 .ok
  | .telConfig m w r o =>
    let s := (setOf m).foldl (telSet w r) s
    match o with
    | some x => s.jobAll x m .ok
    | none => s
  | .subscribe m k o => ((setOf m).foldl (fun (s : State) (b : BerthId) => s.atTele b (fun (t : Tele) => { t with mask := k })) s).jobAll o m .ok
  | .glaze img o => { s with glaze := img }.respond o 0x0606 .ok
  | .capArm b a off => s.armCapture b a off
  | .act loc e =>
    let berth := match loc with
      | .comp b _ => b.val
      | .path b => b.val
      | .phy b => b.val
      | _ => 0xFFFF
    (s.lastingAct loc).devEvent e berth
  | .emergency set quays target o => (s.hostEmergency set quays target).respond o 0x0404 .ok
  | .finish o m => (setOf m).foldl (finishOne o) s
  | .swapTug m n force o => s.deliverSwap m n force o
  | .remapTug b w o => s.deliverRemap b w o
  | .svcFence k i o => s.doFence k i o
  | .bind .. => s
  | .budget .. => s
  | .priority .. => s
  | .policy .. => s

/-- The changes that are due are applied in the order of their commands; at a round boundary those of the allocator's inputs
with them (R117, R119, R141). -/
def laterTide (s : State) : State :=
  let due := s.later.filter s.isDue
  let rest := s.later.filter (fun (l : Later) => !s.isDue l)
  let s := due.foldl applyLater { s with later := rest }
  if s.roundPhase = 0 then s.roundChanges else s

/-- Berths whose reset has been released are released at a round boundary (Table 14.6 step 4). -/
def resetTide (s : State) : State :=
  if s.roundPhase ≠ 0 then s
  else (List.finRange 48).foldl (fun (s : State) (b : BerthId) => match s.tele[b].reset with
    | some (_, 3) => s.finishReset b
    | _ => s) s

/-! ### Tugs (R21 step 4, R24–R26, R286) -/

/-- The latched snapshot shows a mooring point (R286). -/
def moorHolds (x : Berth) : Bool :=
  !x.lat.berthStatus.getLsbD 8 && !x.lat.berthStatus.getLsbD 10 && (fld x.lat.swapStatus 0 4 = 0 || fld x.lat.swapStatus 0 4 = 8)
    && !x.lat.regStatus.getLsbD 8 && !x.lat.regStatus.getLsbD 11

/-- A declaration of the Tide just ended holds, or is counted (R286). -/
def judgeMoor (s : State) (t : TugId) : State :=
  let k := s.tugs[t]
  match k.berth with
  | none => s
  | some b =>
    if !(k.mflag && k.mode = .moored) then s.atTug t (fun k => { k with moorHeld := false, mflag := false })
    else
      let held := moorHolds s.berths[b]
      let s := s.atTug t (fun k => { k with moorHeld := held, mflag := false })
      if held then s else { s with repair.moorMiss := (satInc s.repair.moorMiss).1 }

/-- A Tug at Tug cycle 0: a halted one hands its berth over (R444), BP 4.0 runs its Tide, another goes on where it slept or was
suspended, but for one that a fifth spilled Tide holds for TIDE_OVERRUN (R25, R26). -/
def tugTide (s : State) (t : TugId) : State :=
  let s := s.judgeMoor t
  let k := s.tugs[t]
  match k.mode, k.berth with
  | .halted, _ => s.doubleFault t
  | .loaded, _ => s.atTug t (fun k => { k with cycle := 0, sealed := false, mirNow := k.mirlen })
  | .empty, _ => s
  | .testing, _ => s
  | .suspended, _ =>
    if k.spill = 5 then s.atTug t (fun k => { k with sealed := false })
    else s.atTug t (fun k => { k with mode := .running, cycle := 0, sealed := false, mirNow := k.mirlen })
  | _, some b =>
    let s := s.atTug t (fun k => { k with mode := .running, cycle := 0, sealed := false, mirNow := k.mirlen })
    if k.slot = 0 then s.bpRun t b else s
  | _, none => s.atTug t (fun k => { k with mode := .running, cycle := 0, sealed := false, mirNow := k.mirlen })

/-! ### The trace (R468) -/

/-- Lines of a kind for a berth, where the trace selects them. -/
def traceLines (s : State) (b : BerthId) (kind : Nat) (l : List (Stamp × List Nat)) : List PilotOut :=
  if s.pilot.on && s.pilot.trace.set.getLsbD b && s.pilot.trace.kinds.getLsbD kind then
    l.map (fun (x : Stamp × List Nat) => PilotOut.trace (s.tideCount % 2 ^ 32) (x.1 % 2 ^ 32) b kind x.2)
  else []

/-- The counters that the trace watches: the seven of the PHY, refused and discarded commits. -/
def tracedCounts (x : Berth) : Vector Word 9 :=
  #v[x.phy.cnt[0], x.phy.cnt[1], x.phy.cnt[2], x.phy.cnt[3], x.phy.cnt[4], x.phy.cnt[5], x.phy.cnt[6], x.id.cntRefused, x.id.cntDiscarded]

/-- The trace lines of a berth for the Tide that began at stamp `from_`. -/
def traceBerth (old : State) (from_ : Stamp) (s : State) (b : BerthId) : State :=
  let x := s.berths[b]
  let was := old.berths[b].lat
  let now := tracedCounts x
  let seen := s.tele[b].seen
  let more (i : Fin 9) (l : List Nat) : List (Stamp × List Nat) := List.replicate (grown seen[i] now[i]) (s.now, l)
  let st (w : Word) : Nat := fld w 0 5
  let cc := if st was.ccStatus = st x.lat.ccStatus then [] else [(s.now, [st was.ccStatus, st x.lat.ccStatus])]
  let msgs := (s.tele[b].msgs.filter (fun (m : MsgLog) => decide (from_ ≤ m.stamp))).map (fun (m : MsgLog) =>
    (m.stamp, [flag m.rx 0, sopCode m.sop, m.hdr.toNat] ++ m.data.map (fun (y : Byte) => y.toNat)))
  let pd := msgs ++ ([0, 1, 2, 3, 4] : List (Fin 9)).flatMap (fun (i : Fin 9) => more i [i.val])
  let applied := if fld was.commitStatus 0 2 = 1 && fld x.lat.commitStatus 0 2 = 2 then [(s.now, [2])] else []
  let commit := applied ++ more 7 [3, x.id.reason.toNat] ++ more 8 [0]
  let fault := x.faults.map (fun (f : FaultBody) => (f.stamp, [f.cause.code]))
  let s := s.atTele b (fun (t : Tele) => { t with seen := now })
  let l := (s.traceLines b 0 cc ++ s.traceLines b 1 pd ++ s.traceLines b 2 commit ++ s.traceLines b 3 fault)
  { s with pilot := l.foldl Pilot.addTrace s.pilot }

/-! ### Pilot's output (R459, R462, R469) -/

/-- What was to wait until a line had been sent. -/
def pilotMark (s : State) (x : PilotOut) : State := match x with
  | .release b => s.atTele b (fun (t : Tele) => t.releaseWindow s.usNow)
  | .rate r => { s with pilot.baud := r, pilot.revert := true }
  | _ => s

/-- A Tide of UART_TX. -/
def pilotTide (s : State) : State :=
  let p := s.pilot.drain
  let now := p.marks.filter (fun (m : Nat × PilotOut) => decide (m.1 ≤ p.sent))
  let p : Pilot := { p with marks := p.marks.filter (fun (m : Nat × PilotOut) => decide (p.sent < m.1)) }
  now.foldl (fun (s : State) (m : Nat × PilotOut) => s.pilotMark m.2) { s with pilot := p }

/-! ### Publication (R101, R305, R306) -/

/-- The fault causes of a berth are recorded and its events published; what a customer program replaces is its own to publish
(R2). -/
def publishBerth (old s : State) (b : BerthId) : State :=
  let x := s.berths[b]
  let q := s.quays[quayOf b]
  if q.hless then s
  else
    let s : State := { s with berths := s.berths.set b { x with evOut := [], faults := [] } }
    let one (s : State) (f : FaultBody) : State :=
      ((s.recordFault old b f).atTele b (fun (t : Tele) => { t with newFaults := t.newFaults + 1 })).capFault b f.stamp
    let s := x.faults.foldl one s
    let mine (e : EvBody) : Bool := !e.ofProgram || s.tele[b].slot = 0 || !q.up
    (x.evOut.filter mine).foldl (fun (s : State) (e : EvBody) => s.publish e b.val) s

/-- The events of the device. -/
def publishDevice (s : State) : State :=
  let l := s.devOut
  l.foldl (fun (s : State) (x : EvBody × Nat) =>
    let s := if h : x.2 < 48 then
        (if x.1.isFault then s.atTele ⟨x.2, h⟩ (fun (t : Tele) => { t with newFaults := t.newFaults + 1 }) else s)
      else s
    s.publish x.1 x.2) { s with devOut := [] }

/-- Everything that is due is published, once RESET_REPORT has opened the events (R310). -/
def publishTide (old s : State) : State :=
  if s.reported then ((List.finRange 48).foldl (publishBerth old) s).publishDevice else s

/-! ### What the repair map keeps of the berths (R441) -/

/-- A berth's entries. -/
def repairOf (x : Berth) : RepBerth :=
  { lock := x.path.lock, fence := x.mon.fence, crowbar := x.reg.cbRepair, phy := x.st.phyFenced, fenced := x.id.fenced }

/-- The map follows the berths of released quays, and is written when it changes. -/
def repairTide (s : State) : State :=
  let keep (b : Fin 48) : RepBerth :=
    let q := s.quays[quayOf b]
    if q.released && q.up && !q.hless then repairOf s.berths[b] else s.repair.berths[b]
  let l := Vector.ofFn keep
  if l = s.repair.berths then s else { s with repair.berths := l }.saveRepair

/-! ### Telemetry -/

/-- A berth's Tide values, counters and ring (R330–R340): the sets of a Tide that the harbour did not hear are written without a
sample. -/
def telTide (inp : TideInput) (from_ : Stamp) (s : State) (b : BerthId) : State :=
  if s.berthsOn ≤ b.val then s
  else
    let l := if s.heard b then (s.calBerth b true inp.berths[b]).sets else List.replicate 25 none
    (s.telBerth b from_ l).writeSets b (from_ / 100) l

/-! ### The boundary -/

/-- Steps 1–4 of Table 1.4 and what the Harbourmaster does at the boundary. -/
def tideBoundary (s : State) (inp : TideInput) : State :=
  if !s.ticking then s
  else
    let from_ := s.tb
    let n := s.advance.harbourTide inp
    let n := (List.finRange 48).foldl (berthTide inp) n
    let n := (List.finRange 6).foldl (quayTide inp) n
    let n := n.laterTide.resetTide
    let n := (List.finRange 52).foldl tugTide n
    let n := (List.finRange 48).foldl (traceBerth s from_) n
    let n := (publishTide s n.collect).repairTide
    let n := (List.finRange 48).foldl (telTide inp from_) n
    n.pilotTide.allocTide.takeSnaps.checkpoint

end State

/-- TIDE_BOUNDARY (R21). -/
def execTideBoundary (inp : TideInput) (s : State) : Host.Outcome State Fault Refusal := .next (s.tideBoundary inp)

end Sys2Proof.Machine
end

