-- ==== Sys2Proof/Machine/Dispatch.lean ====
section
/-!
DEFINITION. `exec`: one arm per command, each a direct call of the command's meaning.
-/

namespace Sys2Proof.Machine

/-- The effect of a command on everything but the queue. -/
def exec (i : Instr) (s : State) : Host.Outcome State Fault Refusal :=
  match i with
  | .tideBoundary inp => Sys2Proof.Machine.execTideBoundary inp s
  | .snapshotDelivery b => Sys2Proof.Machine.execSnapshotDelivery b s
  | .tugSuspend t => Sys2Proof.Machine.execTugSuspend t s
  | .mirrorSeal t => Sys2Proof.Machine.execMirrorSeal t s
  | .tideOverrun t => Sys2Proof.Machine.execTideOverrun t s
  | .allocationRoundStart => Sys2Proof.Machine.execAllocationRoundStart s
  | .grantCommit => Sys2Proof.Machine.execGrantCommit s
  | .tideInPulse widthNs intervalNs => Sys2Proof.Machine.execTideInPulse widthNs intervalNs s
  | .tideSyncLost => Sys2Proof.Machine.execTideSyncLost s
  | .gangwayFrameDiscard q lane late => Sys2Proof.Machine.execGangwayFrameDiscard q lane late s
  | .tideStrobeMissed q => Sys2Proof.Machine.execTideStrobeMissed q s
  | .harbourLessEntry q at_ => Sys2Proof.Machine.execHarbourLessEntry q at_ s
  | .harbourLessRelease q at_ => Sys2Proof.Machine.execHarbourLessRelease q at_ s
  | .gangwayRetrainAttempt q trained => Sys2Proof.Machine.execGangwayRetrainAttempt q trained s
  | .ccLevelChange b at_ cc1 cc2 => Sys2Proof.Machine.execCcLevelChange b at_ cc1 cc2 s
  | .ccDebounceExpiry b => Sys2Proof.Machine.execCcDebounceExpiry b s
  | .pdDebounceExpiry b => Sys2Proof.Machine.execPdDebounceExpiry b s
  | .sinkDetach b at_ => Sys2Proof.Machine.execSinkDetach b at_ s
  | .errorRecoveryExpiry b => Sys2Proof.Machine.execErrorRecoveryExpiry b s
  | .insertionDelayExpiry b => Sys2Proof.Machine.execInsertionDelayExpiry b s
  | .drpToggleSwitch b => Sys2Proof.Machine.execDrpToggleSwitch b s
  | .drpTryExpiry b => Sys2Proof.Machine.execDrpTryExpiry b s
  | .tryDebounceExpiry b => Sys2Proof.Machine.execTryDebounceExpiry b s
  | .tryWaitExpiry b => Sys2Proof.Machine.execTryWaitExpiry b s
  | .tryTimeout b => Sys2Proof.Machine.execTryTimeout b s
  | .accessorySeen b => Sys2Proof.Machine.execAccessorySeen b s
  | .accessoryEnded b => Sys2Proof.Machine.execAccessoryEnded b s
  | .backfeedClear b => Sys2Proof.Machine.execBackfeedClear b s
  | .backfeedDetect b => Sys2Proof.Machine.execBackfeedDetect b s
  | .ccOverVoltage b at_ => Sys2Proof.Machine.execCcOverVoltage b at_ s
  | .ccOvClear b since => Sys2Proof.Machine.execCcOvClear b since s
  | .vconnFaultTimerExpiry b at_ segs => Sys2Proof.Machine.execVconnFaultTimerExpiry b at_ segs s
  | .vconnSwitchover q => Sys2Proof.Machine.execVconnSwitchover q s
  | .vconnSupplyReturn q => Sys2Proof.Machine.execVconnSupplyReturn q s
  | .ccCfgWrite w b v => Sys2Proof.Machine.execCcCfgWrite w b v s
  | .ccTimeWrite w b ix v => Sys2Proof.Machine.execCcTimeWrite w b ix v s
  | .ccRpWrite w b v => Sys2Proof.Machine.execCcRpWrite w b v s
  | .vconnCfgWrite w b v => Sys2Proof.Machine.execVconnCfgWrite w b v s
  | .errorRecovery w b => Sys2Proof.Machine.execErrorRecovery w b s
  | .vconnOff w b => Sys2Proof.Machine.execVconnOff w b s
  | .vconnRearm w b => Sys2Proof.Machine.execVconnRearm w b s
  | .swapToRd w b => Sys2Proof.Machine.execSwapToRd w b s
  | .swapToRp w b => Sys2Proof.Machine.execSwapToRp w b s
  | .release w b => Sys2Proof.Machine.execRelease w b s
  | .sopDetected b at_ k => Sys2Proof.Machine.execSopDetected b at_ k s
  | .messageEnd b at_ crcOk hdr data => Sys2Proof.Machine.execMessageEnd b at_ crcOk hdr data s
  | .transmissionEnd b at_ => Sys2Proof.Machine.execTransmissionEnd b at_ s
  | .goodcrcReceived b at_ id => Sys2Proof.Machine.execGoodcrcReceived b at_ id s
  | .treceiveExpiry b => Sys2Proof.Machine.execTreceiveExpiry b s
  | .responseTimerExpiry b => Sys2Proof.Machine.execResponseTimerExpiry b s
  | .sourceCapsRepeatExpiry b => Sys2Proof.Machine.execSourceCapsRepeatExpiry b s
  | .srcTransitionExpiry b => Sys2Proof.Machine.execSrcTransitionExpiry b s
  | .sinkTxExpiry b => Sys2Proof.Machine.execSinkTxExpiry b s
  | .hardResetSent b at_ => Sys2Proof.Machine.execHardResetSent b at_ s
  | .hardResetReceived b at_ data => Sys2Proof.Machine.execHardResetReceived b at_ data s
  | .psHardResetExpiry b => Sys2Proof.Machine.execPsHardResetExpiry b s
  | .srcRecoverExpiry b => Sys2Proof.Machine.execSrcRecoverExpiry b s
  | .sinkHardResetTimeout b => Sys2Proof.Machine.execSinkHardResetTimeout b s
  | .commit w b v => Sys2Proof.Machine.execCommit w b v s
  | .phyCfgWrite w b v => Sys2Proof.Machine.execPhyCfgWrite w b v s
  | .phyTimeWrite w b ix v => Sys2Proof.Machine.execPhyTimeWrite w b ix v s
  | .txCtrlWrite w b v => Sys2Proof.Machine.execTxCtrlWrite w b v s
  | .rxDataRead b => Sys2Proof.Machine.execRxDataRead b s
  | .hardReset w b => Sys2Proof.Machine.execHardReset w b s
  | .cableReset w b => Sys2Proof.Machine.execCableReset w b s
  | .flushRx w b => Sys2Proof.Machine.execFlushRx w b s
  | .cancelTx w b => Sys2Proof.Machine.execCancelTx w b s
  | .ovfClear w b off v => Sys2Proof.Machine.execOvfClear w b off v s
  | .commandFifoStart b => Sys2Proof.Machine.execCommandFifoStart b s
  | .commandFifoTimeout b => Sys2Proof.Machine.execCommandFifoTimeout b s
  | .decisionWindowEnd b k => Sys2Proof.Machine.execDecisionWindowEnd b k s
  | .decisionLapse b at_ => Sys2Proof.Machine.execDecisionLapse b at_ s
  | .reservationExpiry b => Sys2Proof.Machine.execReservationExpiry b s
  | .offerChangeCapabilities b => Sys2Proof.Machine.execOfferChangeCapabilities b s
  | .eprKeepaliveTimeout b => Sys2Proof.Machine.execEprKeepaliveTimeout b s
  | .sinkEprKeepalive b => Sys2Proof.Machine.execSinkEprKeepalive b s
  | .emergencyGraceExpiry b => Sys2Proof.Machine.execEmergencyGraceExpiry b s
  | .emergencyHoldToHr b => Sys2Proof.Machine.execEmergencyHoldToHr b s
  | .psSourceOffExpiry b => Sys2Proof.Machine.execPsSourceOffExpiry b s
  | .psSourceOnExpiry b => Sys2Proof.Machine.execPsSourceOnExpiry b s
  | .vconnSourceTimeout b => Sys2Proof.Machine.execVconnSourceTimeout b s
  | .swapSourceStartExpiry b => Sys2Proof.Machine.execSwapSourceStartExpiry b s
  | .swapRetryAfterWait b => Sys2Proof.Machine.execSwapRetryAfterWait b s
  | .vconnOn w b => Sys2Proof.Machine.execVconnOn w b s
  | .frsSignalQualified b at_ => Sys2Proof.Machine.execFrsSignalQualified b at_ s
  | .frsSignalTooLong b at_ => Sys2Proof.Machine.execFrsSignalTooLong b at_ s
  | .frsSourceTurnOn b at_ vbrMv => Sys2Proof.Machine.execFrsSourceTurnOn b at_ vbrMv s
  | .discoveryStart b => Sys2Proof.Machine.execDiscoveryStart b s
  | .vdmResponseTimeout b => Sys2Proof.Machine.execVdmResponseTimeout b s
  | .vdmBusyResend b => Sys2Proof.Machine.execVdmBusyResend b s
  | .muxCfgWrite w b v => Sys2Proof.Machine.execMuxCfgWrite w b v s
  | .swapTimeWrite w b v => Sys2Proof.Machine.execSwapTimeWrite w b v s
  | .sourcePathClose b at_ vbrMv => Sys2Proof.Machine.execSourcePathClose b at_ vbrMv s
  | .rampComplete b at_ => Sys2Proof.Machine.execRampComplete b at_ s
  | .inrushTimeout b => Sys2Proof.Machine.execInrushTimeout b s
  | .sinkReverseCurrent b at_ => Sys2Proof.Machine.execSinkReverseCurrent b at_ s
  | .sinkOverVoltage b at_ => Sys2Proof.Machine.execSinkOverVoltage b at_ s
  | .fastTrip b at_ => Sys2Proof.Machine.execFastTrip b at_ s
  | .gateDriveTestDone b at_ r => Sys2Proof.Machine.execGateDriveTestDone b at_ r s
  | .faultTimerExpiry b at_ segs => Sys2Proof.Machine.execFaultTimerExpiry b at_ segs s
  | .vinUvFilter q at_ => Sys2Proof.Machine.execVinUvFilter q at_ s
  | .vinUvSustained q at_ => Sys2Proof.Machine.execVinUvSustained q at_ s
  | .vinOv q at_ => Sys2Proof.Machine.execVinOv q at_ s
  | .vinOkRestored q at_ => Sys2Proof.Machine.execVinOkRestored q at_ s
  | .dischargeComplete b at_ => Sys2Proof.Machine.execDischargeComplete b at_ s
  | .dischargeTimeout b => Sys2Proof.Machine.execDischargeTimeout b s
  | .passTransistorTestDone b at_ r => Sys2Proof.Machine.execPassTransistorTestDone b at_ r s
  | .pathTestRun w b => Sys2Proof.Machine.execPathTestRun w b s
  | .srcOpen w b => Sys2Proof.Machine.execSrcOpen w b s
  | .snkOpen w b => Sys2Proof.Machine.execSnkOpen w b s
  | .disOn w b => Sys2Proof.Machine.execDisOn w b s
  | .lowerIlim w b n => Sys2Proof.Machine.execLowerIlim w b n s
  | .vinWinWrite q time v => Sys2Proof.Machine.execVinWinWrite q time v s
  | .softstartComplete b at_ => Sys2Proof.Machine.execSoftstartComplete b at_ s
  | .slewComplete b at_ => Sys2Proof.Machine.execSlewComplete b at_ s
  | .holdEngage b at_ => Sys2Proof.Machine.execHoldEngage b at_ s
  | .holdRelease b at_ => Sys2Proof.Machine.execHoldRelease b at_ s
  | .hiccupEntry b at_ => Sys2Proof.Machine.execHiccupEntry b at_ s
  | .hiccupTimeExpiry b => Sys2Proof.Machine.execHiccupTimeExpiry b s
  | .hicCountClear b => Sys2Proof.Machine.execHicCountClear b s
  | .integratorSaturation b => Sys2Proof.Machine.execIntegratorSaturation b s
  | .settleTimeout b => Sys2Proof.Machine.execSettleTimeout b s
  | .crowbarTrip b at_ => Sys2Proof.Machine.execCrowbarTrip b at_ s
  | .crowbarClearCheck b vbrMv => Sys2Proof.Machine.execCrowbarClearCheck b vbrMv s
  | .dropoutSet b => Sys2Proof.Machine.execDropoutSet b s
  | .stageFault b at_ => Sys2Proof.Machine.execStageFault b at_ s
  | .stageFaultRelease b at_ => Sys2Proof.Machine.execStageFaultRelease b at_ s
  | .thermalStop b at_ => Sys2Proof.Machine.execThermalStop b at_ s
  | .thermalRelease b at_ => Sys2Proof.Machine.execThermalRelease b at_ s
  | .regCfgWrite w b v => Sys2Proof.Machine.execRegCfgWrite w b v s
  | .regWinWrite w b v => Sys2Proof.Machine.execRegWinWrite w b v s
  | .standby w b => Sys2Proof.Machine.execStandby w b s
  | .idle w b => Sys2Proof.Machine.execIdle w b s
  | .lowerHold w b n => Sys2Proof.Machine.execLowerHold w b n s
  | .comparatorEdge b c on at_ => Sys2Proof.Machine.execComparatorEdge b c on at_ s
  | .blankingEnd b c on at_ => Sys2Proof.Machine.execBlankingEnd b c on at_ s
  | .unexpectedEdge b c sample at_ => Sys2Proof.Machine.execUnexpectedEdge b c sample at_ s
  | .auditPacer q => Sys2Proof.Machine.execAuditPacer q s
  | .comparatorTestStart q => Sys2Proof.Machine.execComparatorTestStart q s
  | .comparatorTestDone q l wide inverts near at20 at80 => Sys2Proof.Machine.execComparatorTestDone q l wide inverts near at20 at80 s
  | .monTestRun w b sel => Sys2Proof.Machine.execMonTestRun w b sel s
  | .monThresholdWriteIgnored b n low v => Sys2Proof.Machine.execMonThresholdWriteIgnored b n low v s
  | .berthPark b => Sys2Proof.Machine.execBerthPark b s
  | .berthWake b at_ => Sys2Proof.Machine.execBerthWake b at_ s
  | .parkEnWrite b en => Sys2Proof.Machine.execParkEnWrite b en s
  | .seqEntryWrite q table => Sys2Proof.Machine.execSeqEntryWrite q table s
  | .gp0Start w b => Sys2Proof.Machine.execGp0Start w b s
  | .gp0Stop w b => Sys2Proof.Machine.execGp0Stop w b s
  | .gp1Start w b => Sys2Proof.Machine.execGp1Start w b s
  | .gp1Stop w b => Sys2Proof.Machine.execGp1Stop w b s
  | .gpTimerExpiry b gp1 => Sys2Proof.Machine.execGpTimerExpiry b gp1 s
  | .zAddi t rd ra imm => Sys2Proof.Machine.execZAddi t rd ra imm s
  | .zAndi t rd ra imm => Sys2Proof.Machine.execZAndi t rd ra imm s
  | .zOri t rd ra imm => Sys2Proof.Machine.execZOri t rd ra imm s
  | .zXori t rd ra imm => Sys2Proof.Machine.execZXori t rd ra imm s
  | .zCmpi t rd ra imm => Sys2Proof.Machine.execZCmpi t rd ra imm s
  | .zMovi t rd ra imm => Sys2Proof.Machine.execZMovi t rd ra imm s
  | .zMovh t rd zero imm => Sys2Proof.Machine.execZMovh t rd zero imm s
  | .zLdw t rd ra imm => Sys2Proof.Machine.execZLdw t rd ra imm s
  | .zLdh t rd ra imm => Sys2Proof.Machine.execZLdh t rd ra imm s
  | .zLdhu t rd ra imm => Sys2Proof.Machine.execZLdhu t rd ra imm s
  | .zLdb t rd ra imm => Sys2Proof.Machine.execZLdb t rd ra imm s
  | .zLdbu t rd ra imm => Sys2Proof.Machine.execZLdbu t rd ra imm s
  | .zStw t rd ra imm => Sys2Proof.Machine.execZStw t rd ra imm s
  | .zSth t rd ra imm => Sys2Proof.Machine.execZSth t rd ra imm s
  | .zStb t rd ra imm => Sys2Proof.Machine.execZStb t rd ra imm s
  | .zB t cond off => Sys2Proof.Machine.execZB t cond off s
  | .zBl t off => Sys2Proof.Machine.execZBl t off s
  | .zAdd t rd ra rb aux => Sys2Proof.Machine.execZAdd t rd ra rb aux s
  | .zAdc t rd ra rb aux => Sys2Proof.Machine.execZAdc t rd ra rb aux s
  | .zSub t rd ra rb aux => Sys2Proof.Machine.execZSub t rd ra rb aux s
  | .zSbc t rd ra rb aux => Sys2Proof.Machine.execZSbc t rd ra rb aux s
  | .zAnd t rd ra rb aux => Sys2Proof.Machine.execZAnd t rd ra rb aux s
  | .zOr t rd ra rb aux => Sys2Proof.Machine.execZOr t rd ra rb aux s
  | .zXor t rd ra rb aux => Sys2Proof.Machine.execZXor t rd ra rb aux s
  | .zAndn t rd ra rb aux => Sys2Proof.Machine.execZAndn t rd ra rb aux s
  | .zShl t rd ra rb aux => Sys2Proof.Machine.execZShl t rd ra rb aux s
  | .zShr t rd ra rb aux => Sys2Proof.Machine.execZShr t rd ra rb aux s
  | .zSar t rd ra rb aux => Sys2Proof.Machine.execZSar t rd ra rb aux s
  | .zRor t rd ra rb aux => Sys2Proof.Machine.execZRor t rd ra rb aux s
  | .zShli t rd ra rb aux => Sys2Proof.Machine.execZShli t rd ra rb aux s
  | .zShri t rd ra rb aux => Sys2Proof.Machine.execZShri t rd ra rb aux s
  | .zSari t rd ra rb aux => Sys2Proof.Machine.execZSari t rd ra rb aux s
  | .zRori t rd ra rb aux => Sys2Proof.Machine.execZRori t rd ra rb aux s
  | .zCmp t rd ra rb aux => Sys2Proof.Machine.execZCmp t rd ra rb aux s
  | .zTst t rd ra rb aux => Sys2Proof.Machine.execZTst t rd ra rb aux s
  | .zMov t rd ra rb aux => Sys2Proof.Machine.execZMov t rd ra rb aux s
  | .zMul t rd ra rb aux => Sys2Proof.Machine.execZMul t rd ra rb aux s
  | .zMulhu t rd ra rb aux => Sys2Proof.Machine.execZMulhu t rd ra rb aux s
  | .zMulhs t rd ra rb aux => Sys2Proof.Machine.execZMulhs t rd ra rb aux s
  | .zDivu t rd ra rb aux => Sys2Proof.Machine.execZDivu t rd ra rb aux s
  | .zRemu t rd ra rb aux => Sys2Proof.Machine.execZRemu t rd ra rb aux s
  | .zNot t rd ra rb aux => Sys2Proof.Machine.execZNot t rd ra rb aux s
  | .zNeg t rd ra rb aux => Sys2Proof.Machine.execZNeg t rd ra rb aux s
  | .zSextb t rd ra rb aux => Sys2Proof.Machine.execZSextb t rd ra rb aux s
  | .zSexth t rd ra rb aux => Sys2Proof.Machine.execZSexth t rd ra rb aux s
  | .zNop t rd ra rb aux => Sys2Proof.Machine.execZNop t rd ra rb aux s
  | .zBr t rd ra rb aux => Sys2Proof.Machine.execZBr t rd ra rb aux s
  | .zBlr t rd ra rb aux => Sys2Proof.Machine.execZBlr t rd ra rb aux s
  | .zRet t rd ra rb aux => Sys2Proof.Machine.execZRet t rd ra rb aux s
  | .zEret t rd ra rb aux => Sys2Proof.Machine.execZEret t rd ra rb aux s
  | .zMoor t rd ra rb aux => Sys2Proof.Machine.execZMoor t rd ra rb aux s
  | .zSvc t rd ra rb aux => Sys2Proof.Machine.execZSvc t rd ra rb aux s
  | .zBkpt t rd ra rb aux => Sys2Proof.Machine.execZBkpt t rd ra rb aux s
  | .zSync t rd ra rb aux => Sys2Proof.Machine.execZSync t rd ra rb aux s
  | .zCrcb t rd ra rb aux => Sys2Proof.Machine.execZCrcb t rd ra rb aux s
  | .zCrch t rd ra rb aux => Sys2Proof.Machine.execZCrch t rd ra rb aux s
  | .zCrcw t rd ra rb aux => Sys2Proof.Machine.execZCrcw t rd ra rb aux s
  | .zPar t rd ra rb aux => Sys2Proof.Machine.execZPar t rd ra rb aux s
  | .zBrev t rd ra rb aux => Sys2Proof.Machine.execZBrev t rd ra rb aux s
  | .zEnc5 t rd ra rb aux => Sys2Proof.Machine.execZEnc5 t rd ra rb aux s
  | .zDec5 t rd ra rb aux => Sys2Proof.Machine.execZDec5 t rd ra rb aux s
  | .zSmov t rd ra rb aux => Sys2Proof.Machine.execZSmov t rd ra rb aux s
  | .zSfill t rd ra rb aux => Sys2Proof.Machine.execZSfill t rd ra rb aux s
  | .zScmp t rd ra rb aux => Sys2Proof.Machine.execZScmp t rd ra rb aux s
  | .zScrc t rd ra rb aux => Sys2Proof.Machine.execZScrc t rd ra rb aux s
  | .zMfs t rd ra imm => Sys2Proof.Machine.execZMfs t rd ra imm s
  | .zMts t rd ra imm => Sys2Proof.Machine.execZMts t rd ra imm s
  | .interrupt t => Sys2Proof.Machine.execInterrupt t s
  | .programLoad t => Sys2Proof.Machine.execProgramLoad t s
  | .tugEntry t => Sys2Proof.Machine.execTugEntry t s
  | .programSwapAtMooring b => Sys2Proof.Machine.execProgramSwapAtMooring b s
  | .swapDeferTimeout b => Sys2Proof.Machine.execSwapDeferTimeout b s
  | .remapForceTimeout b => Sys2Proof.Machine.execRemapForceTimeout b s
  | .cmdFrameReceived l at_ seq fence tag code payload => Sys2Proof.Machine.execCmdFrameReceived l at_ seq fence tag code payload s
  | .frameError l what at_ => Sys2Proof.Machine.execFrameError l what at_ s
  | .ackFrameReceived l at_ count => Sys2Proof.Machine.execAckFrameReceived l at_ count s
  | .nakReceived l at_ count => Sys2Proof.Machine.execNakReceived l at_ count s
  | .pollReceived l at_ count => Sys2Proof.Machine.execPollReceived l at_ count s
  | .retrainFrameReceived l at_ count ready fresh => Sys2Proof.Machine.execRetrainFrameReceived l at_ count ready fresh s
  | .ackWaitTimeout l at_ => Sys2Proof.Machine.execAckWaitTimeout l at_ s
  | .nakRepeat l => Sys2Proof.Machine.execNakRepeat l s
  | .idleFrameTimer l => Sys2Proof.Machine.execIdleFrameTimer l s
  | .linkSilenceTimeout l at_ => Sys2Proof.Machine.execLinkSilenceTimeout l at_ s
  | .trainingLock l at_ inverted => Sys2Proof.Machine.execTrainingLock l at_ inverted s
  | .retrainTimeout l => Sys2Proof.Machine.execRetrainTimeout l s
  | .creditTimer => Sys2Proof.Machine.execCreditTimer s
  | .responseSend l at_ => Sys2Proof.Machine.execResponseSend l at_ s
  | .eventSend at_ => Sys2Proof.Machine.execEventSend at_ s
  | .devIdentify o p => Sys2Proof.Machine.execDevIdentify o p s
  | .devGetState o p => Sys2Proof.Machine.execDevGetState o p s
  | .devSetTime o p => Sys2Proof.Machine.execDevSetTime o p s
  | .devReset o p => Sys2Proof.Machine.execDevReset o p s
  | .devConfig o p => Sys2Proof.Machine.execDevConfig o p s
  | .berthConfig o p => Sys2Proof.Machine.execBerthConfig o p s
  | .berthEnable o p => Sys2Proof.Machine.execBerthEnable o p s
  | .berthDisable o p => Sys2Proof.Machine.execBerthDisable o p s
  | .berthReset o p => Sys2Proof.Machine.execBerthReset o p s
  | .berthResetDischargeEnd b => Sys2Proof.Machine.execBerthResetDischargeEnd b s
  | .berthResetRelease b => Sys2Proof.Machine.execBerthResetRelease b s
  | .berthGetState o p => Sys2Proof.Machine.execBerthGetState o p s
  | .berthClearLatch o p => Sys2Proof.Machine.execBerthClearLatch o p s
  | .berthForceDetach o p => Sys2Proof.Machine.execBerthForceDetach o p s
  | .berthRequestSwap o p => Sys2Proof.Machine.execBerthRequestSwap o p s
  | .berthSendMessage o p => Sys2Proof.Machine.execBerthSendMessage o p s
  | .berthEnterMode o p => Sys2Proof.Machine.execBerthEnterMode o p s
  | .berthExitMode o p => Sys2Proof.Machine.execBerthExitMode o p s
  | .policyLoad o p => Sys2Proof.Machine.execPolicyLoad o p s
  | .policyBind o p => Sys2Proof.Machine.execPolicyBind o p s
  | .policyDecide o p => Sys2Proof.Machine.execPolicyDecide o p s
  | .policyGet o p => Sys2Proof.Machine.execPolicyGet o p s
  | .powerSetBudget o p => Sys2Proof.Machine.execPowerSetBudget o p s
  | .powerSetPriority o p => Sys2Proof.Machine.execPowerSetPriority o p s
  | .powerGetAlloc o p => Sys2Proof.Machine.execPowerGetAlloc o p s
  | .powerEmergency o p => Sys2Proof.Machine.execPowerEmergency o p s
  | .telRead o p => Sys2Proof.Machine.execTelRead o p s
  | .telSnapshot o p => Sys2Proof.Machine.execTelSnapshot o p s
  | .snapshotComplete n => Sys2Proof.Machine.execSnapshotComplete n s
  | .telReadSnapshot o p => Sys2Proof.Machine.execTelReadSnapshot o p s
  | .telSubscribe o p => Sys2Proof.Machine.execTelSubscribe o p s
  | .telConfig o p => Sys2Proof.Machine.execTelConfig o p s
  | .filterSegmentEnd b => Sys2Proof.Machine.execFilterSegmentEnd b s
  | .manRead o p => Sys2Proof.Machine.execManRead o p s
  | .manList o p => Sys2Proof.Machine.execManList o p s
  | .manClear o p => Sys2Proof.Machine.execManClear o p s
  | .capArm o p => Sys2Proof.Machine.execCapArm o p s
  | .captureTrigger b at_ => Sys2Proof.Machine.execCaptureTrigger b at_ s
  | .captureFreeze b => Sys2Proof.Machine.execCaptureFreeze b s
  | .captureTimeout b => Sys2Proof.Machine.execCaptureTimeout b s
  | .capRead o p => Sys2Proof.Machine.execCapRead o p s
  | .glazeWrite o p => Sys2Proof.Machine.execGlazeWrite o p s
  | .glazeRead o p => Sys2Proof.Machine.execGlazeRead o p s
  | .fwStage o p => Sys2Proof.Machine.execFwStage o p s
  | .fwVerify o p => Sys2Proof.Machine.execFwVerify o p s
  | .fwCommitHm o p => Sys2Proof.Machine.execFwCommitHm o p s
  | .standbyReady => Sys2Proof.Machine.execStandbyReady s
  | .fwSwapTug o p => Sys2Proof.Machine.execFwSwapTug o p s
  | .fwGetInfo o p => Sys2Proof.Machine.execFwGetInfo o p s
  | .otpRead o p => Sys2Proof.Machine.execOtpRead o p s
  | .otpProgram o p burns cut => Sys2Proof.Machine.execOtpProgram o p burns cut s
  | .otpMargin o p => Sys2Proof.Machine.execOtpMargin o p s
  | .otpLock o p burns cut => Sys2Proof.Machine.execOtpLock o p burns cut s
  | .svcSelftest o p bad => Sys2Proof.Machine.execSvcSelftest o p bad s
  | .svcFence o p => Sys2Proof.Machine.execSvcFence o p s
  | .svcUnfence o p => Sys2Proof.Machine.execSvcUnfence o p s
  | .svcRemapTug o p => Sys2Proof.Machine.execSvcRemapTug o p s
  | .svcHealth o p => Sys2Proof.Machine.execSvcHealth o p s
  | .linkConfig o p => Sys2Proof.Machine.execLinkConfig o p s
  | .linkStatus o p => Sys2Proof.Machine.execLinkStatus o p s
  | .linkEventAck o p => Sys2Proof.Machine.execLinkEventAck o p s
  | .dbgPeek o p => Sys2Proof.Machine.execDbgPeek o p s
  | .dbgPoke o p => Sys2Proof.Machine.execDbgPoke o p s
  | .faultRecordCapture b => Sys2Proof.Machine.execFaultRecordCapture b s
  | .manifestRecordWrite => Sys2Proof.Machine.execManifestRecordWrite s
  | .tunnelCmd block pec at_ => Sys2Proof.Machine.execTunnelCmd block pec at_ s
  | .tunnelRsp done => Sys2Proof.Machine.execTunnelRsp done s
  | .berthSelect wr pec => Sys2Proof.Machine.execBerthSelect wr pec s
  | .identify => Sys2Proof.Machine.execIdentify s
  | .status => Sys2Proof.Machine.execStatus s
  | .alertStatus => Sys2Proof.Machine.execAlertStatus s
  | .alertMask wr pec => Sys2Proof.Machine.execAlertMask wr pec s
  | .smbCounts => Sys2Proof.Machine.execSmbCounts s
  | .window wr pec => Sys2Proof.Machine.execWindow wr pec s
  | .filterReset pec => Sys2Proof.Machine.execFilterReset pec s
  | .vbusAvg => Sys2Proof.Machine.execVbusAvg s
  | .currAvg => Sys2Proof.Machine.execCurrAvg s
  | .powerAvg => Sys2Proof.Machine.execPowerAvg s
  | .tempAvg => Sys2Proof.Machine.execTempAvg s
  | .vbusPeak => Sys2Proof.Machine.execVbusPeak s
  | .currPeak => Sys2Proof.Machine.execCurrPeak s
  | .powerPeak => Sys2Proof.Machine.execPowerPeak s
  | .tempPeak => Sys2Proof.Machine.execTempPeak s
  | .peaks => Sys2Proof.Machine.execPeaks s
  | .contract => Sys2Proof.Machine.execContract s
  | .vbusAll => Sys2Proof.Machine.execVbusAll s
  | .currAll => Sys2Proof.Machine.execCurrAll s
  | .powerAll => Sys2Proof.Machine.execPowerAll s
  | .tempAll => Sys2Proof.Machine.execTempAll s
  | .validAll => Sys2Proof.Machine.execValidAll s
  | .devicePower => Sys2Proof.Machine.execDevicePower s
  | .vin => Sys2Proof.Machine.execVin s
  | .smbTiming wr pec => Sys2Proof.Machine.execSmbTiming wr pec s
  | .alertResponseAddress won => Sys2Proof.Machine.execAlertResponseAddress won s
  | .smbusTimeout traffic => Sys2Proof.Machine.execSmbusTimeout traffic s
  | .supplyValid k mv heldNs => Sys2Proof.Machine.execSupplyValid k mv heldNs s
  | .supplyInvalid k mv heldNs at_ => Sys2Proof.Machine.execSupplyInvalid k mv heldNs at_ s
  | .powerOnReset vioMv => Sys2Proof.Machine.execPowerOnReset vioMv s
  | .resetNPulse widthNs taken => Sys2Proof.Machine.execResetNPulse widthNs taken s
  | .watchdogExpiry at_ => Sys2Proof.Machine.execWatchdogExpiry at_ s
  | .kick => Sys2Proof.Machine.execKick s
  | .harbourThermalShutdown at_ peak heldUs => Sys2Proof.Machine.execHarbourThermalShutdown at_ peak heldUs s
  | .quayThermalShutdown q at_ peak heldUs => Sys2Proof.Machine.execQuayThermalShutdown q at_ peak heldUs s
  | .thermalShutdownEnd q temp => Sys2Proof.Machine.execThermalShutdownEnd q temp s
  | .oscillatorStart xtal => Sys2Proof.Machine.execOscillatorStart xtal s
  | .brittleLoad addr => Sys2Proof.Machine.execBrittleLoad addr s
  | .pllLock sinceUs => Sys2Proof.Machine.execPllLock sinceUs s
  | .harbourmasterBoot release => Sys2Proof.Machine.execHarbourmasterBoot release s
  | .holdScrub rtc => Sys2Proof.Machine.execHoldScrub rtc s
  | .quayBringup q vconnMv vbc bad => Sys2Proof.Machine.execQuayBringup q vconnMv vbc bad s
  | .berthRelease q => Sys2Proof.Machine.execBerthRelease q s
  | .gangwayRetrainComplete q => Sys2Proof.Machine.execGangwayRetrainComplete q s
  | .timeCorrection rtc => Sys2Proof.Machine.execTimeCorrection rtc s
  | .holdEccSingle addr pass => Sys2Proof.Machine.execHoldEccSingle addr pass s
  | .holdEccDouble addr reader at_ => Sys2Proof.Machine.execHoldEccDouble addr reader at_ s
  | .holdBackgroundScrub => Sys2Proof.Machine.execHoldBackgroundScrub s
  | .phyLoopbackStart b => Sys2Proof.Machine.execPhyLoopbackStart b s
  | .phyLoopbackDone b good => Sys2Proof.Machine.execPhyLoopbackDone b good s
  | .phyLoopbackAbort b at_ => Sys2Proof.Machine.execPhyLoopbackAbort b at_ s
  | .phyLoopbackDeferred b => Sys2Proof.Machine.execPhyLoopbackDeferred b s
  | .stPhyLbRun w b => Sys2Proof.Machine.execStPhyLbRun w b s
  | .laneTestStart q => Sys2Proof.Machine.execLaneTestStart q s
  | .laneTestDone q pass => Sys2Proof.Machine.execLaneTestDone q pass s
  | .tugCoreTestDone t pass => Sys2Proof.Machine.execTugCoreTestDone t pass s
  | .coreTestDone pass => Sys2Proof.Machine.execCoreTestDone pass s
  | .uartBreak => Sys2Proof.Machine.execUartBreak s
  | .baudRevert => Sys2Proof.Machine.execBaudRevert s
  | .sessionTimeout => Sys2Proof.Machine.execSessionTimeout s
  | .unlockBlockEnd => Sys2Proof.Machine.execUnlockBlockEnd s
  | .challengeExpiry => Sys2Proof.Machine.execChallengeExpiry s
  | .lineTooLong => Sys2Proof.Machine.execLineTooLong s
  | .pilotHelp => Sys2Proof.Machine.execPilotHelp s
  | .pilotId => Sys2Proof.Machine.execPilotId s
  | .pilotBaud rate => Sys2Proof.Machine.execPilotBaud rate s
  | .pilotUnlock code => Sys2Proof.Machine.execPilotUnlock code s
  | .pilotChallenge => Sys2Proof.Machine.execPilotChallenge s
  | .pilotRespond code => Sys2Proof.Machine.execPilotRespond code s
  | .pilotLock => Sys2Proof.Machine.execPilotLock s
  | .pilotState => Sys2Proof.Machine.execPilotState s
  | .pilotBerth b => Sys2Proof.Machine.execPilotBerth b s
  | .pilotRegs b block => Sys2Proof.Machine.execPilotRegs b block s
  | .pilotTug t => Sys2Proof.Machine.execPilotTug t s
  | .pilotPeek addr n => Sys2Proof.Machine.execPilotPeek addr n s
  | .pilotPoke addr ws => Sys2Proof.Machine.execPilotPoke addr ws s
  | .pilotAlloc first count => Sys2Proof.Machine.execPilotAlloc first count s
  | .pilotHealth => Sys2Proof.Machine.execPilotHealth s
  | .pilotManList area berth => Sys2Proof.Machine.execPilotManList area berth s
  | .pilotManRead slot => Sys2Proof.Machine.execPilotManRead slot s
  | .pilotTrace set kinds => Sys2Proof.Machine.execPilotTrace set kinds s
  | .pilotCapArm b trigger pre post => Sys2Proof.Machine.execPilotCapArm b trigger pre post s
  | .pilotCapDump b release => Sys2Proof.Machine.execPilotCapDump b release s
  | .pilotMb code data => Sys2Proof.Machine.execPilotMb code data s
  | .jtagIdcode => Sys2Proof.Machine.execJtagIdcode s
  | .jtagBypass => Sys2Proof.Machine.execJtagBypass s
  | .jtagSamplePreload pins shift => Sys2Proof.Machine.execJtagSamplePreload pins shift s
  | .jtagExtest => Sys2Proof.Machine.execJtagExtest s
  | .registerWrite w b off v => Sys2Proof.Machine.execRegisterWrite w b off v s
  | .goodcrcSent b at_ => Sys2Proof.Machine.execGoodcrcSent b at_ s
  | .cableResetSent b at_ => Sys2Proof.Machine.execCableResetSent b at_ s
  | .lineError b at_ data => Sys2Proof.Machine.execLineError b at_ data s
  | .devResetResponseTimeout => Sys2Proof.Machine.execDevResetResponseTimeout s
  | .standbyReadyTimeout => Sys2Proof.Machine.execStandbyReadyTimeout s

end Sys2Proof.Machine
end

