-- ==== Sys2Proof/Machine/Balls.lean ====
section
/-!
DEFINITION. The balls: what stands on the class-S and class-D balls through resets and after them (R401–R403, R418, R478), and
the ball map of the package (R470–R477, R480).
-/

namespace Sys2Proof.Machine

/-! ### States of balls (Table 14.8, R418) -/

/-- A pin-map state, or the function that has taken the ball. -/
inductive BallState where
  | pullUp | pullDown | highZ | low | high
  /-- Tide pulses (R32), or characters of the UART (R459). -/
  | pulses | serial
  deriving DecidableEq, Repr

/-- The state of a pin-map code: unprogrammed means pull-up for harbour balls and pull-down for Bnn_MUX balls (R403, R418); the
reserved codes cannot be burned (R421). -/
def pinState (mux : Bool) (code : Nat) : BallState := match code with
  | 1 => .pullUp
  | 2 => .pullDown
  | 3 => .highZ
  | 4 => .low
  | 5 => .high
  | _ => if mux then .pullDown else .pullUp

namespace State

/-- The harbour ball `k` of Table 15.4 in its pin-map state: SMBALERT_N can only pull low (R478). -/
def mapPin (s : State) (k : Fin 20) : BallState :=
  let x := pinState false s.pinmap[k].toNat
  if k = 17 && x = .high then .highZ else x

/-- A harbour class-D ball (R403): UART_TX is taken at Pilot's start, TIDE_OUT when the Tide generator starts, ATTN_N and
SMBALERT_N at step 4 of Table 14.7; ATTN_N is low also when FACTORY_CRC fails (R416). No command configures the GPIO balls. -/
def harbourBall (s : State) (k : Fin 20) : BallState :=
  let booted := s.phase ≠ .brittle && s.phase ≠ .plls && s.phase ≠ .boot
  if k = 16 && s.factoryBad then .low
  else if k = 16 && booted then (if s.attn then .low else .high)
  else if k = 17 && booted then (if s.alerting then .low else .highZ)
  else if k = 18 && s.pilot.on then .serial
  else if k = 19 && s.ticking then .pulses
  else s.mapPin k

/-- Bnn_MUX`j`: pulled down until the quay's bring-up, then in its pin-map state until the release, then as committed, USB-safe
at first (R171, R401). -/
def muxBall (s : State) (b : BerthId) (j : Fin 3) : BallState :=
  let q := s.quays[quayOf b]
  if !q.up then .pullDown
  else if !q.released then pinState true (fld (s.muxmap[b].setWidth 32) (3 * j.val) 3)
  else if s.berths[b].muxBalls.testBit j.val then .high else .low

end State

/-- The class-S balls of a berth: PWM, EN, whether the gates of the source and the sink pair are driven, and DIS. -/
structure ClassS where
  pwm  : Berth.Pwm
  en   : Bool
  gsrc : Bool
  gsnk : Bool
  dis  : Bool
  deriving DecidableEq, Repr

/-- The class-S balls (R402): their safe state until the release, through resets and in harbour die resets of the quay, but for a
latched crowbar; as the path and the regulator drive them afterwards. -/
def State.classS (s : State) (b : BerthId) : ClassS :=
  let x := s.berths[b]
  let q := s.quays[State.quayOf b]
  let inReset := !q.up || !q.released || x.cc.state = .held || x.mon.parked || x.id.fenced
  let p := x.stageBalls inReset
  { pwm := if s.supplies.vq5.getLsbD (State.quayOf b).val then p.1 else .mid, en := p.2 && s.supplies.vq5.getLsbD (State.quayOf b).val
    gsrc := !inReset && (x.path.state = PathState.srcRamp || x.path.state = .srcOn)
    gsnk := !inReset && x.path.state = .snkOn, dis := !inReset && x.path.state = .discharge }

/-- PWRGD is low until PHASE first reaches 0x7 after a device reset (R399). -/
def State.pwrgdBall (s : State) : BallState := if s.pwrgd then .highZ else .low

/-! ### The ball map (R470–R477, R480) -/

/-- Row letters by index, from 1 (Table 18.2). -/
def rowLetters : List String :=
  ["A", "B", "C", "D", "E", "F", "G", "H", "J", "K", "L", "M", "N", "P", "T", "U", "V", "W", "Y", "AA", "AB", "AC", "AD", "AE", "AF", "AG",
   "AH", "AJ", "AK", "AL", "AM", "AN", "AP", "AT", "AU", "AV", "AW", "AY", "BA", "BB", "BC", "BD", "BE", "BF"]

/-- The name of the ball at a row index and a column (R471). -/
def ballName (r c : Nat) : String := (rowLetters[r - 1]?).getD "" ++ toString c

/-- The tile of a berth: lanes 1 and 2 by depth (Table 18.4). -/
def tileSignals : List (String × String) :=
  [("CC1", "CC2"), ("SBU1", "SBU2"), ("VBC", "DIS"), ("ISP", "ISN"), ("VBR", "AGND"), ("GSRC", "SSRC"), ("GSNK", "SSNK"),
   ("IMON", "TMON"), ("PWM", "EN"), ("SBUA", "SBUB"), ("FLT_N", "MUX0"), ("MUX1", "MUX2")]

/-- The row index and the column of a berth's tile at a depth and a lane, 1 or 2 (Table 18.5). -/
def tilePlace (b : BerthId) (d lane : Nat) : Nat × Nat :=
  let i := 2 * (b.val % 8) + lane - 1
  match b.val / 8 with
  | 0 => (d, 1 + i)
  | 1 => (d, 29 + i)
  | 2 => (15 + i, 45 - d)
  | 3 => (45 - d, 29 + i)
  | 4 => (45 - d, 1 + i)
  | _ => (15 + i, d)

/-- The signal at line `l` and position `p` of a quay's common block (Table 18.7). -/
def commonSignal (l p : Nat) : String := match l with
  | 1 => "PGND"
  | 2 => if p ≤ 6 then "VQ5" else "VCONN_IN"
  | 3 => if p = 6 then "VINS" else if p = 7 then "SNKS" else "AGND"
  | _ => if p ≤ 2 || 11 ≤ p then "AGND" else "PGND"

/-- The row indices of the four lines of a quay's common block (Table 18.8). -/
def commonRows (q : QuayId) : List Nat := match q.val with
  | 0 => [5, 6, 7, 8]
  | 1 => [9, 10, 11, 12]
  | 3 => [36, 35, 34, 33]
  | 4 => [40, 39, 38, 37]
  | _ => [13, 14, 31, 32]

/-- The column of a position of a quay's common block (Table 18.8). -/
def commonColumn (q : QuayId) (p : Nat) : Nat := if q.val = 2 then 45 - p else if q.val = 5 then p else 16 + p

/-- The device-level balls of columns 17–28 by row index (Table 18.9). -/
def deviceRow (r : Nat) : List String := match r with
  | 1 => ["VSS", "XLA_TXP", "XLA_TXN", "VSS", "XLA_RXP", "XLA_RXN", "VSS", "XLB_TXP", "XLB_TXN", "VSS", "XLB_RXP", "XLB_RXN"]
  | 3 => ["XTAL_IN", "VSS", "XTAL_OUT", "REFCLK_IN", "VSS", "X32_IN", "VSS", "X32_OUT", "TIDE_IN", "VSS", "TIDE_OUT", "RESET_N"]
  | 4 => ["PWRGD", "ATTN_N", "ADDR0", "ADDR1", "ADDR2", "ADDR3", "VSS", "SCL", "SDA", "SMBALERT_N", "VSS", "VSS"]
  | 42 => ["TRST_N", "VFUSE", "VBAK"] ++ List.replicate 9 "VSS"
  | 43 => ["GPIO12", "GPIO13", "GPIO14", "GPIO15", "VSS", "UART_TX", "UART_RX", "VSS", "TCK", "TMS", "TDI", "TDO"]
  | 44 => ["GPIO0", "GPIO1", "GPIO2", "GPIO3", "GPIO4", "GPIO5", "GPIO6", "GPIO7", "GPIO8", "GPIO9", "GPIO10", "GPIO11"]
  | _ => List.replicate 12 "VSS"

/-- The supply at a ball of the harbour supply field (Table 18.11). -/
def supplySignal (r c : Nat) : String :=
  if 15 ≤ r && r ≤ 30 then (if 15 ≤ c && c ≤ 30 && (r + c) % 2 = 0 then "VCORE" else "VSS")
  else if r = 13 || r = 14 then (if c % 2 = 1 then "VIO" else "VSS")
  else if c ≤ 16 then "VAON" else "VSS"

/-- The berth tile that holds a ball: berth, depth and lane. -/
def tileOf (r c : Nat) : Option (BerthId × Nat × Nat) :=
  let at_ (q i d : Nat) : Option (BerthId × Nat × Nat) :=
    some (⟨(8 * q + i / 2) % 48, Nat.mod_lt _ (by omega)⟩, d, i % 2 + 1)
  if r ≤ 12 && c ≤ 16 then at_ 0 (c - 1) r
  else if r ≤ 12 && 29 ≤ c then at_ 1 (c - 29) r
  else if 15 ≤ r && r ≤ 30 && 33 ≤ c then at_ 2 (r - 15) (45 - c)
  else if 33 ≤ r && 29 ≤ c then at_ 3 (c - 29) (45 - r)
  else if 33 ≤ r && c ≤ 16 then at_ 4 (c - 1) (45 - r)
  else if 15 ≤ r && r ≤ 30 && c ≤ 12 then at_ 5 (r - 15) c
  else none

/-- The quay common block that holds a ball outside the tiles: quay, line and position (Table 18.3). -/
def commonOf (r c : Nat) : Option (QuayId × Nat × Nat) :=
  let mid := decide (17 ≤ c ∧ c ≤ 28)
  if mid && 5 ≤ r && r ≤ 8 then some (0, r - 4, c - 16)
  else if mid && 9 ≤ r && r ≤ 12 then some (1, r - 8, c - 16)
  else if mid && 33 ≤ r && r ≤ 36 then some (3, 37 - r, c - 16)
  else if mid && 37 ≤ r && r ≤ 40 then some (4, 41 - r, c - 16)
  else if (r = 13 || r = 14 || r = 31 || r = 32) && (33 ≤ c || c ≤ 12) then
    let l := if r ≤ 14 then r - 12 else r - 28
    some (if 33 ≤ c then (2, l, 45 - c) else (5, l, c))
  else none

/-- The two digits of a berth's number. -/
def twoDigits (n : Nat) : String := (if n < 10 then "0" else "") ++ toString n

/-- The signal at a row index and a column, 1–44 each (Table 18.3). -/
def signalAt (r c : Nat) : String := match tileOf r c with
  | some (b, d, lane) =>
    let x := (tileSignals[d - 1]?).getD ("", "")
    let n := if lane = 1 then x.1 else x.2
    if n = "AGND" then n else "B" ++ twoDigits b.val ++ "_" ++ n
  | none => match commonOf r c with
    | some (q, l, p) =>
      let n := commonSignal l p
      if n = "AGND" || n = "PGND" then n else "Q" ++ toString q.val ++ "_" ++ n
    | none => if 13 ≤ r && r ≤ 32 then supplySignal r c else ((deviceRow r)[c - 17]?).getD ""

end Sys2Proof.Machine
end

