-- ==== Sys2Proof/Machine/LineCode.lean ====
section
/-!
DEFINITION. The characters on a Xehus line (R288–R290): the bytes of a frame, 8b/10b with running disparity, the ordered sets.
The manual names the coding and gives no table of it; the table is that of the coding's inventors, Widmer and Franaszek (PRESUMED,
log entry 75).  Bit 9 of a character is the coding's bit a, which goes first.
-/

namespace Sys2Proof.Machine

/-- A character before coding: a data byte Dx.y, or one of the special characters Kx.y. -/
structure Sym where
  special : Bool := false
  byte    : Byte
  deriving DecidableEq, Repr

/-- Kx.y and Dx.y. -/
def Sym.ofK (x y : Nat) : Sym := { special := true, byte := BitVec.ofNat 8 (32 * y + x) }
@[inherit_doc Sym.ofK] def Sym.ofD (x y : Nat) : Sym := { byte := BitVec.ofNat 8 (32 * y + x) }

/-! ### 8b/10b -/

/-- The 6 bits abcdei of D0–D31 when the running disparity is negative. -/
def sixes : List (BitVec 6) :=
  [0b100111, 0b011101, 0b101101, 0b110001, 0b110101, 0b101001, 0b011001, 0b111000,
   0b111001, 0b100101, 0b010101, 0b110100, 0b001101, 0b101100, 0b011100, 0b010111]
  ++ [0b011011, 0b100011, 0b010011, 0b110010, 0b001011, 0b101010, 0b011010, 0b111010,
   0b110011, 0b100110, 0b010110, 0b110110, 0b001110, 0b101110, 0b011110, 0b101011]

/-- The 4 bits fghj of D.0–D.7 when the running disparity is negative. -/
def fours : List (BitVec 4) := [0b1011, 0b1001, 0b0101, 0b1100, 0b1101, 0b1010, 0b0110, 0b1110]

/-- The ones of a group of bits. -/
def ones {w : Nat} (x : BitVec w) : Nat := ((List.range w).filter (fun (i : Nat) => x.getLsbD i)).length

/-- A group of bits with the running disparity (true: positive) after it. -/
structure Coded (w : Nat) where
  bits : BitVec w
  rd   : Bool
  deriving DecidableEq, Repr

/-- A group for the running disparity before it: one with as many ones as zeros is sent as it is unless `paired`, any other is
complemented when the disparity is positive, and turns the disparity over. -/
def codeGroup {w : Nat} (rd paired : Bool) (x : BitVec w) : Coded w :=
  let even := 2 * ones x = w
  { bits := if rd && (!even || paired) then ~~~ x else x, rd := if even then rd else !rd }

/-- The 6 bits of a character. -/
def codeSix (rd : Bool) (c : Sym) : Coded 6 :=
  let x := c.byte.toNat % 32
  if c.special && x = 28 then codeGroup rd false 0b001111#6 else codeGroup rd (x = 7) (sixes.getD x 0)

/-- Dx.7 takes its alternate form where five like bits would stand in a row. -/
def alternate (rd : Bool) (x : Nat) : Bool := if rd then [11, 13, 14].contains x else [17, 18, 20].contains x

/-- The 4 bits of a character, after its 6. -/
def codeFour (rd : Bool) (c : Sym) : Coded 4 :=
  let x := c.byte.toNat % 32
  let y := c.byte.toNat / 32
  if y = 7 && (c.special || alternate rd x) then codeGroup rd false 0b0111#4
  else if c.special && (y = 1 || y = 2 || y = 5 || y = 6) then
    { bits := if rd then fours.getD y 0 else ~~~ fours.getD y 0, rd := rd }
  else codeGroup rd (y = 3) (fours.getD y 0)

/-- A character of 10 bits. -/
def encode10 (rd : Bool) (c : Sym) : Coded 10 :=
  let a := codeSix rd c
  let b := codeFour a.rd c
  { bits := a.bits ++ b.bits, rd := b.rd }

/-- A run of characters, with the running disparity after it. -/
def encodeAll : Bool → List Sym → List (BitVec 10) × Bool
  | rd, [] => ([], rd)
  | rd, c :: l =>
    let x := encode10 rd c
    let r := encodeAll x.rd l
    (x.bits :: r.1, r.2)

/-! ### Frames and ordered sets -/

/-- The ordered sets I and TS, and the marks of a frame. -/
def idleSet : List Sym := [Sym.ofK 28 5, Sym.ofD 16 2]
@[inherit_doc idleSet] def trainSet : List Sym := [Sym.ofK 28 5, Sym.ofD 10 2, Sym.ofD 10 2, Sym.ofD 10 2]
@[inherit_doc idleSet] def startMark : Sym := Sym.ofK 27 7
@[inherit_doc idleSet] def endMark : Sym := Sym.ofK 29 7

/-- TYPE of a frame (Table 10.1). -/
def FrameType.code : FrameType → Nat
  | .cmd => 1 | .rsp => 2 | .evt => 3 | .ack => 4 | .idle => 5 | .credit => 6 | .retrain => 7

namespace Frame

/-- The header (Table 10.1) and the payload of a frame. -/
def body (f : Frame) : List Byte :=
  [BitVec.ofNat 8 (f.type.code + 16 * f.seq.toNat), f.flags] ++ leBytes 2 f.tag ++ leBytes 2 f.code.toNat ++ leBytes 2 f.payload.length ++ f.payload

/-- The bytes of a frame with its CRC, least significant byte first (R290). -/
def bytes (f : Frame) : List Byte := f.body ++ leBytes 4 (crc32 f.body).toNat

/-- The characters of a frame before coding: 14 + LENGTH of them. -/
def syms (f : Frame) : List Sym := startMark :: f.bytes.map (fun (x : Byte) => ({ byte := x } : Sym)) ++ [endMark]

end Frame

namespace Link

/-- What the transmitter sends while it has no frame: TS in training, I otherwise, nothing while OFF (R288, R296). -/
def filler (x : Link) : List Sym := match x.state with
  | .off => []
  | .up => idleSet
  | _ => trainSet

/-- The characters of the frames that the device has put on the line, with the least I that R288 asks for before each: how many more
stand between two frames is timing. -/
def lineSyms (x : Link) : List Sym := x.line.flatMap (fun (f : Frame) => idleSet ++ f.syms)

/-- The line as 10-bit characters, from negative disparity at its start, and then what fills it. -/
def lineChars (x : Link) : List (BitVec 10) := (encodeAll false (x.lineSyms ++ x.filler)).1

end Link

end Sys2Proof.Machine
end

