-- ==== Sys2Proof/Safety.lean ====
section
/-!
DEFINITION. What the statements speak of: when a Tug executes, what an answer leaves unchanged, and the canonical form of
memory.
-/

namespace Sys2Proof.Machine

/-- Memory is in its canonical form. -/
def State.memWf (s : State) : Prop := Memory.wf s.mem = true

/-! ### Tugs -/

/-- Tug `t` executes its next instruction: it runs within the budget of its Tide and its PCN is in local program memory
(R24, R269). -/
def State.Runs (s : State) (t : TugId) : Prop :=
  s.tugs[t].mode = .running ∧ s.tugs[t].cycle < 9000 ∧ s.tugs[t].pcn.toNat < 0x8000

/-- The command answers the state in which Tug `t` alone has changed, to a Tug of which `p` holds. -/
def State.TugStep (s : State) (c : Instr) (t : TugId) (p : Tug → Prop) : Prop :=
  ∃ y, exec c s = .next { s with tugs := s.tugs.set t y } ∧ p y

/-- Of a Tug nothing has changed but registers of the bank in use, flags, PCN and the cycle. -/
def Tug.OnlyRegs (x y : Tug) : Prop :=
  y = { x with z := y.z, user := y.user, exc := y.exc, fl := y.fl, pcn := y.pcn, cycle := y.cycle }
    ∧ (if x.bank then y.user = x.user else y.exc = x.exc)

/-- No register of the bank in use has changed but `rd`, which holds `v`. -/
def Tug.Writes (x y : Tug) (rd : ZReg) (v : Word) : Prop :=
  y.reg rd = v ∧ (∀ r, r ≠ rd → y.reg r = x.reg r) ∧ x.OnlyRegs y

/-- No register has changed. -/
def Tug.WritesNone (x y : Tug) : Prop := y = { x with fl := y.fl, pcn := y.pcn, cycle := y.cycle }

/-- The flags N, Z, C and V are these, and B is as before. -/
def Tug.Flags (x y : Tug) (n z c v : Bool) : Prop :=
  y.flN = n ∧ y.flZ = z ∧ y.flC = c ∧ y.flV = v ∧ y.flB = x.flB

/-- The flags N and Z are those of a result (R268), C and V these, and B is as before. -/
def Tug.FlagsOf (x y : Tug) (r : Word) (c v : Bool) : Prop := x.Flags y (r.getLsbD 31) (decide (r = 0)) c v

/-- The next instruction follows after `c` cycles. -/
def Tug.Goes (x y : Tug) (c : Nat) : Prop := y.pcn = x.pcn + 4 ∧ y.cycle = x.cycle + c

/-- A signed value that 32 bits do not hold. -/
def overflows (i : Int) : Bool := decide (i < -2147483648 ∨ 2147483647 < i)

/-- The exception of R276: EPC, EFL, ECAUSE and EADDR saved, the exception bank in use, PCN at the vector after 3 cycles. -/
def Tug.Excepts (x y : Tug) (cause : Word) (epc eaddr : Word) (vector : Nat) : Prop :=
  y = { x with epc := epc, efl := x.fl, ecause := cause, eaddr := eaddr, bank := true
               pcn := x.vbase + BitVec.ofNat 32 vector, cycle := x.cycle + 3 }

/-! ### Berths -/

/-- A berth that owes no decision number: the model's flag for one just taken (log entry 51) is clear. -/
def Berth.settled (x : Berth) : Berth := { x with pol.tookId := false }

/-- The command answers the state in which berth `b` alone has changed, to a berth of which `p` holds (and the number of
the next decision, where the berth opened one). -/
def State.BerthStep (s : State) (c : Instr) (b : BerthId) (p : Berth → Prop) : Prop :=
  ∃ y n, exec c s = .next { s with berths := s.berths.set b y, nextId := n } ∧ p y

/-- The same, with the berth's record of messages (R348). -/
def State.BerthLogStep (s : State) (c : Instr) (b : BerthId) (p : Berth → Prop) : Prop :=
  ∃ y n l, exec c s = .next { s with berths := s.berths.set b y, nextId := n, tele := s.tele.set b { s.tele[b] with msgs := l } } ∧ p y

/-- No hardware timer of the berth is due by stamp `t` (R36): an event of that stamp finds the berth as it stands. -/
def State.Quiet (s : State) (b : BerthId) (t : Stamp) : Prop := (s.berths[b].firstDue t).isNone = true

/-- The command answers a next state of which `p` holds. -/
def State.Gives (s : State) (c : Instr) (p : State → Prop) : Prop := ∃ t, exec c s = .next t ∧ p t

/-- The command answers the state itself: nothing changes. -/
def State.Stands (s : State) (c : Instr) : Prop := exec c s = .next s

/-- The device as a host command begins on a payload: its tag stands started (R301, R303, R327, R328). -/
def State.begun (s : State) (o : Origin) (code : Nat) (p : List Byte) : State := (s.takeCmd o code p).1

/-- The host command begins on its payload, and the path that it came by does not forbid it (R303, R313, R327, R328). -/
def State.starts (s : State) (o : Origin) (code : Nat) (p : List Byte) : Bool :=
  (s.takeCmd o code p).2 = some p && !(s.begun o code p).pathBars o code p

/-- Writes reach the berth's quay: it is up and not in harbour-less mode. -/
def State.Hears (s : State) (b : BerthId) : Prop := s.quays[State.quayOf b].up = true ∧ s.quays[State.quayOf b].hless = false

/-- The Unattached state of a berth's role (R53, Table 2.7): Unattached.SRC of a source-only berth, in harbour-less mode of
every berth that is not sink-only (R44), Unattached.SNK of the others. -/
def Berth.ofRole (x : Berth) (hless : Bool) : CcState :=
  if fld x.cc.cfg 0 2 = 1 then .unattachedSnk
  else if fld x.cc.cfg 0 2 = 0 ∨ hless = true then .unattachedSrc else .unattachedSnk

end Sys2Proof.Machine
end

