-- ==== Sys2Proof/Certificates/Slice0/Obligations.lean ====
section
/-!
DEFINITION. The statements for the provers.
-/

open Sys2Proof Sys2Proof.Machine

/-- R268 and Table 9.7: the sums with their flags, and what they leave. -/
def Obligations.ZAddition : Prop :=
  ∀ (s : State) (t : TugId) (rd ra rb : ZReg) (imm : BitVec 18), s.Runs t →
    let x := s.tugs[t]
    let sum (a b : Word) (c : Bool) (y : Tug) : Prop :=
      let n := a.toNat + b.toNat + (if c then 1 else 0)
      let i := a.toInt + b.toInt + (if c then 1 else 0)
      x.Writes y rd (BitVec.ofNat 32 n) ∧ x.FlagsOf y (BitVec.ofNat 32 n) (decide (2 ^ 32 ≤ n)) (overflows i) ∧ x.Goes y 1
    s.TugStep (.zAddi t rd ra imm) t (sum (x.reg ra) (imm.signExtend 32) false) ∧
    s.TugStep (.zAdd t rd ra rb 0) t (sum (x.reg ra) (x.reg rb) false) ∧
    s.TugStep (.zAdc t rd ra rb 0) t (sum (x.reg ra) (x.reg rb) x.flC)

/-- R268, Tables 9.2, 9.6 and 9.7: the differences and comparisons. -/
def Obligations.ZSubtraction : Prop :=
  ∀ (s : State) (t : TugId) (rd ra rb : ZReg) (imm : BitVec 18), s.Runs t →
    let x := s.tugs[t]
    let flags (a b : Word) (w : Bool) (y : Tug) : Prop :=
      let k := if w then 1 else 0
      x.FlagsOf y (a - b - BitVec.ofNat 32 k) (decide (b.toNat + k ≤ a.toNat)) (overflows (a.toInt - b.toInt - k)) ∧ x.Goes y 1
    let diff (a b : Word) (w : Bool) (y : Tug) : Prop :=
      x.Writes y rd (a - b - BitVec.ofNat 32 (if w then 1 else 0)) ∧ flags a b w y
    s.TugStep (.zSub t rd ra rb 0) t (diff (x.reg ra) (x.reg rb) false) ∧
    s.TugStep (.zSbc t rd ra rb 0) t (diff (x.reg ra) (x.reg rb) (!x.flC)) ∧
    s.TugStep (.zNeg t rd ra 0 0) t (diff 0 (x.reg ra) false) ∧
    s.TugStep (.zCmp t 0 ra rb 0) t (fun y => x.WritesNone y ∧ flags (x.reg ra) (x.reg rb) false y) ∧
    s.TugStep (.zCmpi t 0 ra imm) t (fun y => x.WritesNone y ∧ flags (x.reg ra) (imm.signExtend 32) false y)

/-- R268, Tables 9.6 and 9.7: the logic instructions. -/
def Obligations.ZLogic : Prop :=
  ∀ (s : State) (t : TugId) (rd ra rb : ZReg) (imm : BitVec 18), s.Runs t →
    let x := s.tugs[t]
    let a := x.reg ra
    let b := x.reg rb
    let i : Word := imm.setWidth 32
    let nz (r : Word) (y : Tug) : Prop := x.FlagsOf y r x.flC x.flV ∧ x.Goes y 1
    let res (r : Word) (y : Tug) : Prop := x.Writes y rd r ∧ nz r y
    s.TugStep (.zAndi t rd ra imm) t (res (a &&& i)) ∧ s.TugStep (.zOri t rd ra imm) t (res (a ||| i)) ∧
    s.TugStep (.zXori t rd ra imm) t (res (a ^^^ i)) ∧ s.TugStep (.zAnd t rd ra rb 0) t (res (a &&& b)) ∧
    s.TugStep (.zOr t rd ra rb 0) t (res (a ||| b)) ∧ s.TugStep (.zXor t rd ra rb 0) t (res (a ^^^ b)) ∧
    s.TugStep (.zAndn t rd ra rb 0) t (res (a &&& ~~~b)) ∧ s.TugStep (.zNot t rd ra 0 0) t (res (~~~a)) ∧
    s.TugStep (.zTst t 0 ra rb 0) t (fun y => x.WritesNone y ∧ nz (a &&& b) y)

/-- Table 9.7: the shifts. -/
def Obligations.ZShift : Prop :=
  ∀ (s : State) (t : TugId) (rd ra rb : ZReg) (aux : BitVec 8), s.Runs t → aux.toNat < 32 →
    let x := s.tugs[t]
    let a := x.reg ra
    let res (r : Word) (n : Nat) (c : Bool) (y : Tug) : Prop :=
      (n = 0 → r = a) ∧ x.Writes y rd r ∧ x.FlagsOf y r (if n = 0 then x.flC else c) x.flV ∧ x.Goes y 1
    let left (n : Nat) := res (a <<< n) n (a.getLsbD (32 - n))
    let right (n : Nat) := res (a >>> n) n (a.getLsbD (n - 1))
    let arith (n : Nat) := res (a.sshiftRight n) n (a.getLsbD (n - 1))
    let turn (n : Nat) := res (a.rotateRight n) n ((a.rotateRight n).getLsbD 31)
    let m := (x.reg rb).toNat % 32
    let k := aux.toNat
    s.TugStep (.zShl t rd ra rb 0) t (left m) ∧ s.TugStep (.zShr t rd ra rb 0) t (right m) ∧
    s.TugStep (.zSar t rd ra rb 0) t (arith m) ∧ s.TugStep (.zRor t rd ra rb 0) t (turn m) ∧
    s.TugStep (.zShli t rd ra 0 aux) t (left k) ∧ s.TugStep (.zShri t rd ra 0 aux) t (right k) ∧
    s.TugStep (.zSari t rd ra 0 aux) t (arith k) ∧ s.TugStep (.zRori t rd ra 0 aux) t (turn k)

/-- Table 9.7 and R280: multiplication and division. -/
def Obligations.ZMultiplyDivide : Prop :=
  ∀ (s : State) (t : TugId) (rd ra rb : ZReg), s.Runs t →
    let x := s.tugs[t]
    let a := x.reg ra
    let b := x.reg rb
    let res (c : Nat) (v : Bool) (p : Word → Prop) (y : Tug) : Prop :=
      ∃ r, p r ∧ x.Writes y rd r ∧ x.FlagsOf y r x.flC v ∧ x.Goes y c
    (x.cycle + 2 ≤ 9000 → s.TugStep (.zMul t rd ra rb 0) t (res 2 x.flV (fun r => r.toNat = a.toNat * b.toNat % 2 ^ 32))) ∧
    (x.cycle + 3 ≤ 9000 →
      s.TugStep (.zMulhu t rd ra rb 0) t (res 3 x.flV (fun r => r.toNat = a.toNat * b.toNat / 2 ^ 32)) ∧
      s.TugStep (.zMulhs t rd ra rb 0) t (res 3 x.flV (fun r => r.toInt = a.toInt * b.toInt / 2 ^ 32))) ∧
    (x.cycle + 34 ≤ 9000 →
      s.TugStep (.zDivu t rd ra rb 0) t (res 34 (decide (b = 0))
        (fun r => r.toNat = if b = 0 then 0xFFFFFFFF else a.toNat / b.toNat)) ∧
      s.TugStep (.zRemu t rd ra rb 0) t (res 34 (decide (b = 0))
        (fun r => r.toNat = if b = 0 then a.toNat else a.toNat % b.toNat)))

/-- Tables 9.6, 9.7 and 9.10, R270 and R271. -/
def Obligations.ZMovesAndCharacters : Prop :=
  (∀ m c, enc5 m = some c → c < 32 ∧ dec5 c = some m) ∧
  ∀ (s : State) (t : TugId) (rd ra : ZReg) (imm : BitVec 18) (half : BitVec 16), s.Runs t →
    let x := s.tugs[t]
    let a := x.reg ra
    let d := x.reg rd
    let res (c : Nat) (r : Word) (y : Tug) : Prop := x.Writes y rd r ∧ y.fl = x.fl ∧ x.Goes y c
    let byte (i : Nat) : Byte := BitVec.ofNat 8 (a.toNat / 256 ^ i)
    let st := crcStep x.crcsel
    let sym := a.toNat % 32
    s.TugStep (.zMovi t rd 0 imm) t (res 1 (imm.signExtend 32)) ∧
    s.TugStep (.zMovh t rd 0 half) t (fun y => ∃ r, r.toNat = half.toNat * 65536 + d.toNat % 65536 ∧ res 1 r y) ∧
    s.TugStep (.zMov t rd ra 0 0) t (res 1 a) ∧
    s.TugStep (.zSextb t rd ra 0 0) t (res 1 ((a.extractLsb' 0 8).signExtend 32)) ∧
    s.TugStep (.zSexth t rd ra 0 0) t (res 1 ((a.extractLsb' 0 16).signExtend 32)) ∧
    s.TugStep (.zCrcb t rd ra 0 0) t (res 1 (st d (byte 0))) ∧
    (x.cycle + 2 ≤ 9000 → s.TugStep (.zCrch t rd ra 0 0) t (res 2 (st (st d (byte 0)) (byte 1)))) ∧
    (x.cycle + 4 ≤ 9000 → s.TugStep (.zCrcw t rd ra 0 0) t (res 4 (st (st (st (st d (byte 0)) (byte 1)) (byte 2)) (byte 3)))) ∧
    s.TugStep (.zPar t rd ra 0 0) t (fun y =>
      let odd := decide (((List.range 32).filter a.getLsbD).length % 2 = 1)
      x.Writes y rd (if odd then 1 else 0) ∧ x.Flags y x.flN (!odd) x.flC x.flV ∧ x.Goes y 1) ∧
    (∀ aux : BitVec 8, aux.toNat < 3 → s.TugStep (.zBrev t rd ra 0 aux) t (fun y =>
      ∃ r, res 1 r y ∧ ∀ i < 32, r.getLsbD i = (decide (i < 8 * 2 ^ aux.toNat) && a.getLsbD (8 * 2 ^ aux.toNat - 1 - i)))) ∧
    s.TugStep (.zEnc5 t rd ra 0 0) t (fun y =>
      x.Writes y rd (BitVec.ofNat 32 ((enc5 sym).getD 0)) ∧ x.Flags y x.flN x.flZ x.flC (enc5 sym).isNone ∧ x.Goes y 1) ∧
    s.TugStep (.zDec5 t rd ra 0 0) t (fun y =>
      x.Writes y rd (BitVec.ofNat 32 ((dec5 sym).getD 0x1F)) ∧ x.Flags y x.flN x.flZ x.flC (dec5 sym).isNone ∧ x.Goes y 1)

/-- R264, Tables 9.4 and 9.6: loads from local memory. -/
def Obligations.ZLoads : Prop :=
  ∀ (s : State) (t : TugId) (rd ra : ZReg) (imm : BitVec 18), s.Runs t →
    let x := s.tugs[t]
    let a := (x.reg ra + imm.signExtend 32).toNat
    let byte (i : Nat) : Byte := Memory.read s.mem (localBase t + a + i)
    let res (r : Word) (y : Tug) : Prop := x.Writes y rd r ∧ y.fl = x.fl ∧ x.Goes y 3
    a < 0x10000 →
    (a % 4 = 0 → s.TugStep (.zLdw t rd ra imm) t (res (byte 3 ++ byte 2 ++ byte 1 ++ byte 0 : BitVec 32))) ∧
    (a % 2 = 0 → s.TugStep (.zLdh t rd ra imm) t (res ((byte 1 ++ byte 0 : BitVec 16).signExtend 32))) ∧
    (a % 2 = 0 → s.TugStep (.zLdhu t rd ra imm) t (res ((byte 1 ++ byte 0 : BitVec 16).setWidth 32))) ∧
    s.TugStep (.zLdb t rd ra imm) t (res ((byte 0).signExtend 32)) ∧
    s.TugStep (.zLdbu t rd ra imm) t (res ((byte 0).setWidth 32))

/-- R264, Tables 9.4 and 9.6: stores to local data memory. -/
def Obligations.ZStores : Prop :=
  ∀ (s : State) (t : TugId) (rd ra : ZReg) (imm : BitVec 18), s.Runs t → s.memWf →
    let x := s.tugs[t]
    let a := (x.reg ra + imm.signExtend 32).toNat
    let stored (n : Nat) (c : Instr) : Prop := a % n = 0 → ∃ m y,
      exec c s = .next { s with mem := m, tugs := s.tugs.set t y } ∧ x.WritesNone y ∧ y.fl = x.fl ∧ x.Goes y 1 ∧
      Memory.wf m = true ∧ (∀ i < n, Memory.read m (localBase t + a + i) = BitVec.ofNat 8 ((x.reg rd).toNat / 256 ^ i)) ∧
      ∀ b, (b < localBase t + a ∨ localBase t + a + n ≤ b) → Memory.read m b = Memory.read s.mem b
    0x8000 ≤ a → a < 0x10000 →
    stored 4 (.zStw t rd ra imm) ∧ stored 2 (.zSth t rd ra imm) ∧ stored 1 (.zStb t rd ra imm)

/-- Tables 9.6, 9.8 and 9.9: control flow. -/
def Obligations.ZBranches : Prop :=
  ∀ (s : State) (t : TugId) (ra : ZReg) (c : BitVec 4) (off : BitVec 22) (far : BitVec 26), s.Runs t →
    let x := s.tugs[t]
    let go (p : Word) (n : Nat) (y : Tug) : Prop := y = { x with pcn := p, cycle := x.cycle + n }
    let link (p : Word) (y : Tug) : Prop :=
      y = if x.bank then { x with lkExc := x.pcn + 4, pcn := p, cycle := x.cycle + 2 }
          else { x with lkUser := x.pcn + 4, pcn := p, cycle := x.cycle + 2 }
    let holds : Bool := [x.flZ, !x.flZ, x.flC, !x.flC, x.flN, !x.flN, x.flV, !x.flV, x.flC && !x.flZ, !x.flC || x.flZ,
      x.flN == x.flV, x.flN != x.flV, !x.flZ && x.flN == x.flV, x.flZ || x.flN != x.flV, true, false].getD c.toNat false
    s.TugStep (.zB t c off) t (if holds then go (x.pcn + 4 * off.signExtend 32) 2 else go (x.pcn + 4) 1) ∧
    s.TugStep (.zBl t far) t (link (x.pcn + 4 * far.signExtend 32)) ∧
    ((x.reg ra).toNat % 4 = 0 →
      s.TugStep (.zBr t 0 ra 0 0) t (go (x.reg ra) 2) ∧ s.TugStep (.zBlr t 0 ra 0 0) t (link (x.reg ra))) ∧
    (x.lk.toNat % 4 = 0 → s.TugStep (.zRet t 0 0 0 0) t (go x.lk 2)) ∧
    s.TugStep (.zNop t 0 0 0 0) t (go (x.pcn + 4) 1)

/-- R275 to R278, Tables 9.14 to 9.16. -/
def Obligations.ZExceptions : Prop :=
  ∀ (s : State) (t : TugId) (aux : BitVec 8), s.Runs t →
    let x := s.tugs[t]
    let svc : Word := BitVec.ofNat 32 (0x04 + 256 * aux.toNat)
    let halt (c : Word) (y : Tug) : Prop := y = { x with mode := .halted, dfcause := c, dfpc := x.pcn }
    (x.bank = false →
      s.TugStep (.zSvc t 0 0 0 aux) t (fun y => x.Excepts y svc (x.pcn + 4) 0 0) ∧
      s.TugStep (.zBkpt t 0 0 0 0) t (fun y => x.Excepts y 5 x.pcn 0 0) ∧
      s.TugStep (.zEret t 0 0 0 0) t (fun y => x.Excepts y 1 x.pcn 0 0) ∧
      ((s.ipend t &&& x.imask) ≠ 0 → s.TugStep (.interrupt t) t (fun y => x.Excepts y 0x10 x.pcn 0 0x40))) ∧
    (x.bank = true →
      s.TugStep (.zSvc t 0 0 0 aux) t (halt svc) ∧ s.TugStep (.zBkpt t 0 0 0 0) t (halt 5) ∧
      s.TugStep (.zMoor t 0 0 0 1) t (halt 1) ∧
      s.TugStep (.zEret t 0 0 0 0) t
        (fun y => y = { x with pcn := x.epc &&& 0xFFFFFFFC#32, fl := x.efl, bank := false, cycle := x.cycle + 3 }) ∧
      s.TugStep (.interrupt t) t (fun y => y = x)) ∧
    ((s.ipend t &&& x.imask) = 0 → s.TugStep (.interrupt t) t (fun y => y = x))

/-- R279, Table 9.8. -/
def Obligations.ZMoorAndSync : Prop :=
  ∀ (s : State) (t : TugId) (aux : BitVec 8), s.Runs t →
    let x := s.tugs[t]
    (x.bank = false → aux.toNat < 2 → s.TugStep (.zMoor t 0 0 0 aux) t (fun y =>
      x.Goes y 1 ∧ y.mode = .moored ∧ y.spill = 0 ∧ y.mflag = aux.getLsbD 0 ∧
      y = { x with pcn := y.pcn, cycle := y.cycle, mode := y.mode, spill := y.spill, mflag := y.mflag, shown := y.shown })) ∧
    ∃ n k, k ≤ 400 ∧ exec (.zSync t 0 0 0 0) s =
      .next { s with freeCtr := n, tugs := s.tugs.set t { x with pcn := x.pcn + 4, cycle := x.cycle + 1 + k } }

/-- R272 and R273, Table 9.12. -/
def Obligations.ZBlocks : Prop :=
  ∀ (s : State) (t : TugId) (aux : BitVec 8), s.Runs t → s.memWf → aux.toNat < 3 →
    let x := s.tugs[t]
    let n := 2 ^ aux.toNat
    let base := localBase t
    let src := x.z[1].toNat
    let dst := x.z[2].toNat
    let cnt := x.z[3].toNat
    let same (b : Nat) (m : List Host.Cell) : Prop := ∀ a, (a < base + dst ∨ base + dst + b ≤ a) → Memory.read m a = Memory.read s.mem a
    let elem (a : Nat) : Nat := Memory.readLe s.mem (base + a) n
    let word (a : Nat) : Word := BitVec.ofNat 32 (elem a)
    let z (i : Nat) (h : i < 12 := by omega) : Word := x.z[i]
    let step : Word := BitVec.ofNat 32 n
    let ends (c : Instr) (zs : Vector Word 12) (f : BitVec 5) (cost : Nat) (p : List Host.Cell → Prop) : Prop :=
      ∃ m, p m ∧ exec c s = .next
        { s with mem := m, tugs := s.tugs.set t { x with z := zs, fl := f, pcn := x.pcn + 4, cycle := x.cycle + cost } }
    let done : BitVec 5 := x.fl &&& 0x0F#5
    (cnt = 0 →
      ends (.zSmov t 0 0 0 aux) x.z done 1 (· = s.mem) ∧ ends (.zSfill t 0 0 0 aux) x.z done 1 (· = s.mem) ∧
      ends (.zScmp t 0 0 0 aux) x.z 0x06 1 (· = s.mem) ∧ ends (.zScrc t 0 0 0 aux) x.z done 1 (· = s.mem)) ∧
    (x.cycle + 1 + cnt ≤ 9000 → dst % n = 0 → 0x8000 ≤ dst → dst + cnt * n ≤ 0x10000 →
      ends (.zSfill t 0 0 0 aux) ((x.z.set 2 (z 2 + BitVec.ofNat 32 (cnt * n))).set 3 0) done (1 + cnt) (fun m =>
        Memory.wf m = true ∧ same (cnt * n) m ∧
        ∀ i < cnt, ∀ j < n, Memory.read m (base + dst + i * n + j) = BitVec.ofNat 8 (src / 256 ^ j))) ∧
    (cnt = 1 → x.cycle + 9 ≤ 9000 → src % n = 0 → src < 0x10000 → dst % n = 0 → dst < 0x10000 →
      (0x8000 ≤ dst → ends (.zSmov t 0 0 0 aux) (((x.z.set 1 (z 1 + step)).set 2 (z 2 + step)).set 3 0) done 4 (fun m =>
        Memory.wf m = true ∧ same n m ∧ ∀ j < n, Memory.read m (base + dst + j) = Memory.read s.mem (base + src + j))) ∧
      (elem src = elem dst →
        ends (.zScmp t 0 0 0 aux) (((x.z.set 1 (z 1 + step)).set 2 (z 2 + step)).set 3 0) 0x06 5 (· = s.mem)) ∧
      (elem src ≠ elem dst → s.TugStep (.zScmp t 0 0 0 aux) t (fun y => x.WritesNone y ∧ x.Goes y 5 ∧ y.flB = false ∧
        y.flC = decide (elem dst ≤ elem src) ∧ y.flZ = false ∧ y.flN = (word src - word dst).getLsbD 31 ∧
        y.flV = overflows ((word src).toInt - (word dst).toInt))) ∧
      ends (.zScrc t 0 0 0 aux) (((x.z.set 4 (crcSteps x.crcsel (z 4) (word src) n)).set 1 (z 1 + step)).set 3 0)
        done (3 + n) (· = s.mem))

/-- R274, Table 9.13: which register each number names is asked through a read after a write and through the state's fields. -/
def Obligations.ZSpecial : Prop :=
  ∀ (s : State) (t : TugId) (r : ZReg) (n : Nat), s.Runs t → n < 256 →
    let x := s.tugs[t]
    let v := x.reg r
    let num : BitVec 18 := BitVec.ofNat 18 n
    let ill (y : Tug) : Prop := if x.bank then y = { x with mode := .halted, dfcause := 1, dfpc := x.pcn } else x.Excepts y 1 x.pcn 0 0
    let reads : List Word := [x.fl.setWidth 32, x.crcsel.setWidth 32, x.vbase, x.epc, x.efl.setWidth 32, x.ecause, x.eaddr,
      x.imask.setWidth 32, (s.ipend t).setWidth 32, BitVec.ofNat 32 (x.cycle % 16384), BitVec.ofNat 32 s.tideCount,
      BitVec.ofNat 32 (t.val + (match x.berth with | some b => 256 * b.val | none => 32768)), x.mirlen.setWidth 32,
      BitVec.ofNat 32 (min 4 x.spill), (if x.bank then 1 else 0), x.dfcause,
      (if x.bank then x.user[0] else x.exc[0]), (if x.bank then x.user[1] else x.exc[1]), (if x.bank then x.user[2] else x.exc[2]),
      (if x.bank then x.user[3] else x.exc[3]), (if x.bank then x.lkUser else x.lkExc), x.dfpc]
    let other (i : Fin 4) : Tug := if x.bank then { x with user := x.user.set i v } else { x with exc := x.exc.set i v }
    let writes : List (Nat × Tug) :=
      [(0x00, { x with fl := v.setWidth 5 }), (0x02, { x with vbase := v &&& 0x7F80#32 }), (0x03, { x with epc := v }),
       (0x04, { x with efl := v.setWidth 5 }), (0x07, { x with imask := v.setWidth 8 }),
       (0x08, { x with grantPend := x.grantPend && !v.getLsbD 7 }),
       (0x0C, { x with mirlen := BitVec.ofNat 12 (min 4064 ((v.toNat + 31) / 32 * 32)) }),
       (0x10, other 0), (0x11, other 1), (0x12, other 2), (0x13, other 3),
       (0x14, if x.bank then { x with lkUser := v } else { x with lkExc := v })]
        ++ (if v.toNat % 4 = 3 then [] else [(0x01, { x with crcsel := v.setWidth 2 })])
    s.TugStep (.zMfs t r 0 num) t (fun y => match reads[n]? with
      | some w => x.Writes y r w ∧ y.fl = x.fl ∧ x.Goes y 1
      | none => ill y) ∧
    s.TugStep (.zMts t 0 r num) t (fun y => match writes.find? (fun p => p.1 = n) with
      | some p => y = { p.2 with pcn := x.pcn + 4, cycle := x.cycle + 1 }
      | none => ill y)

/-- R264, R267, R269 and Table 9.16. -/
def Obligations.ZFaultingForms : Prop :=
  ∀ (s : State) (t : TugId) (rd ra rb : ZReg) (aux : BitVec 8) (imm : BitVec 18) (zero : BitVec 6) (half : BitVec 16),
    s.Runs t → s.tugs[t].bank = false →
    let x := s.tugs[t]
    let ex (c : Instr) (cause eaddr : Word) : Prop := s.TugStep c t (fun y => x.Excepts y cause x.pcn eaddr 0)
    let a := x.reg ra + imm.signExtend 32
    (aux ≠ 0 → ex (.zAdd t rd ra rb aux) 1 0 ∧ ex (.zDivu t rd ra rb aux) 1 0 ∧ ex (.zNop t 0 0 0 aux) 1 0) ∧
    (rd ≠ 0 → ex (.zCmp t rd ra rb 0) 1 0 ∧ ex (.zCmpi t rd ra imm) 1 0 ∧ ex (.zMts t rd ra imm) 1 0) ∧
    (rb ≠ 0 → ex (.zShli t rd ra rb aux) 1 0 ∧ ex (.zMov t rd ra rb 0) 1 0 ∧ ex (.zCrcb t rd ra rb 0) 1 0) ∧
    (ra ≠ 0 → ex (.zMovi t rd ra imm) 1 0 ∧ ex (.zMfs t rd ra imm) 1 0) ∧
    (zero ≠ 0 → ex (.zMovh t rd zero half) 1 0) ∧
    (3 ≤ aux.toNat → ex (.zSmov t 0 0 0 aux) 1 0 ∧ ex (.zBrev t rd ra 0 aux) 1 0 ∧ ex (.zMoor t 0 0 0 aux) 1 0) ∧
    (a.toNat % 4 ≠ 0 → ex (.zLdw t rd ra imm) 2 a ∧ ex (.zStw t rd ra imm) 0x20002 a) ∧
    (a.toNat % 4 = 0 → a.toNat < 0x8000 → ex (.zStw t rd ra imm) 0x20003 a) ∧
    ((x.reg ra).toNat % 4 ≠ 0 → ex (.zBr t 0 ra 0 0) 2 0 ∧ ex (.zBlr t 0 ra 0 0) 2 0)

/-- R39. -/
def Obligations.ZUnboundWindow : Prop :=
  ∀ (s : State) (t : TugId) (rd ra : ZReg) (imm : BitVec 18), s.Runs t →
    let x := s.tugs[t]
    let a := x.reg ra + imm.signExtend 32
    x.berth = none → a.toNat % 4 = 0 → 0x10000 ≤ a.toNat → a.toNat < 0x11000 →
    s.TugStep (.zLdw t rd ra imm) t (fun y => x.Writes y rd 0 ∧ y.fl = x.fl ∧ x.Goes y 5) ∧
    (x.bank = false → s.TugStep (.zStw t rd ra imm) t (fun y => x.Excepts y 0x20003 x.pcn a 0)) ∧
    (x.bank = true → s.TugStep (.zStw t rd ra imm) t (fun y => y = { x with mode := .halted, dfcause := 0x20003, dfpc := x.pcn }))

/-- Table 9.5, R267: the round trip over every Zoade instruction. -/
def Obligations.ZDecodeEncode : Prop :=
  ∀ (i : Instr) (t : TugId) (w : Word), zEncode i = some (t, w) → zDecode t w = some i

/-- The worked words of R267 and words written out from Table 9.5. -/
def Obligations.ZDecodeWords : Prop :=
  zDecode 0 0x0513FFF8 = some (.zAddi 0 4 4 0x3FFF8) ∧ zDecode 0 0x407FFFFD = some (.zB 0 1 0x3FFFFD) ∧
  zDecode 3 0x1C40BEEF = some (.zMovh 3 1 0 0xBEEF) ∧ zDecode 3 0x34880010 = some (.zStw 3 2 2 0x10) ∧
  zDecode 3 0x47FFFFFF = some (.zBl 3 0x3FFFFFF) ∧ zDecode 3 0x0148010D = some (.zShri 3 5 2 0 4) ∧
  zDecode 3 0x49140002 = some (.zCrcw 3 4 5 0 0) ∧ zDecode 3 0x4C000080 = some (.zSmov 3 0 0 0 2) ∧
  zDecode 3 0x50000AC6 = some (.zSvc 3 0 0 0 0x2B) ∧ zDecode 3 0x54C00009 = some (.zMfs 3 3 0 9) ∧
  zDecode 3 0x5C000000 = none ∧ zDecode 3 0x0000001C = none ∧ zDecode 3 0x48000003 = none

/-- R53, R54, R59, R94 and Table 2.3: how a berth attaches. -/
def Obligations.CcAttach : Prop :=
  ∀ (s : State) (b : BerthId) (at_ d : Stamp) (c1 c2 : CcLvl),
    let x := s.berths[b]
    let hl := s.quays[State.quayOf b].hless
    let rp (c : CcLvl) : Prop := c = .rpDefault ∨ c = .rp15 ∨ c = .rp30
    let outside (y : Berth) : Prop := y = { x.settled with
      id := y.id, cc := y.cc, phy := y.phy, path := { x.path with restart := false }, mon := y.mon, tmr := y.tmr, tm := y.tm, mux := y.mux, pol := y.pol, evOut := y.evOut }
    let attached (src : Bool) (y : Berth) : Prop :=
      y.cc.state = (if src then .attachedSrc else .attachedSnk) ∧ y.cc.orient = x.orientOf src ∧ y.cc.attachAt = some d ∧
      y.cc.toggleAt = none ∧ y.id.epoch = x.id.epoch + 1 ∧ y.id.powerSource = src ∧ y.id.dataDfp = src ∧ y.id.vconnSrc = src ∧
      y.id.contract = none ∧ y.phy.txId = Vector.replicate 3 0 ∧ y.phy.rxId = Vector.replicate 3 none ∧ y.phy.hrCount = 0 ∧
      y.cc.evt.getLsbD 0 = true ∧ y.cc.cntAttach = (satInc x.cc.cntAttach).1 ∧
      (src = true → y.tm.ins = some (d + ms (fld x.cc.time0 16 8)) ∧ y.cc.rpNow = (if hl then 1 else BitVec.ofNat 2 (fld x.cc.cfg 4 2))) ∧
      outside y
    let tryOff (n : Nat) : Prop := fld x.cc.cfg 0 2 ≠ 2 ∨ hl = true ∨ fld x.cc.cfg 2 2 ≠ n
    (s.Quiet b at_ → x.cc.state = .unattachedSrc → x.cc.acc = 0 → (c1 = .rd ∧ c2 ≠ .rd ∨ c1 ≠ .rd ∧ c2 = .rd) →
      s.BerthStep (.ccLevelChange b at_ c1 c2) b (fun y => y = { x.settled with
        cc := { x.cc with lvl1 := c1, lvl2 := c2, state := .attachWaitSrc, toggleAt := none, debDone := false },
        tm := { x.tm with ccDeb := some (at_ + ms (fld x.cc.time0 0 8)), pdDeb := none } })) ∧
    (s.Quiet b at_ → x.cc.state = .unattachedSnk → (rp c1 ∧ ¬ rp c2 ∨ ¬ rp c1 ∧ rp c2) →
      s.BerthStep (.ccLevelChange b at_ c1 c2) b (fun y => y = { x.settled with
        cc := { x.cc with lvl1 := c1, lvl2 := c2, state := .attachWaitSnk, toggleAt := none, debDone := false },
        tm := { x.tm with ccDeb := some (at_ + ms (fld x.cc.time0 0 8)) } })) ∧
    (x.tm.ccDeb = some d → x.cc.state = .attachWaitSrc → x.vbcAbove08 = false → tryOff 2 →
      s.BerthStep (.ccDebounceExpiry b) b (attached true)) ∧
    (x.tm.ccDeb = some d → x.cc.state = .attachWaitSnk → x.vbcPresent = true → tryOff 1 →
      s.BerthStep (.ccDebounceExpiry b) b (attached false)) ∧
    (x.tm.tryDeb = some d → x.cc.state = .trySrc → x.rdCount = 1 → s.BerthStep (.tryDebounceExpiry b) b (attached true)) ∧
    (x.tm.tryDeb = some d → x.cc.state = .trySnk → x.rpCount = 1 → x.vbcPresent = true →
      s.BerthStep (.tryDebounceExpiry b) b (attached false)) ∧
    (x.tm.tryDeb = some d → x.cc.state = .trySnk → x.rpCount = 0 → s.BerthStep (.tryDebounceExpiry b) b (fun y =>
      y.cc.state = .tryWaitSrc ∧ y.cc.rpNow = BitVec.ofNat 2 (fld x.cc.cfg 4 2) ∧
      y.tm.tryWait = some (d + ms (10 * fld x.cc.time2 0 8)) ∧ outside y)) ∧
    (x.tm.drpTry = some d → x.cc.state = .trySrc → x.rdCount = 0 → s.BerthStep (.drpTryExpiry b) b (fun y =>
      y.cc.state = .tryWaitSnk ∧ y.cc.rpNow = 3 ∧ y.tm.drpTry = none ∧ outside y)) ∧
    (x.tm.tryTo = some d → x.cc.state = .trySrc → s.BerthStep (.tryTimeout b) b (fun y =>
      y.cc.state = .tryWaitSnk ∧ y.cc.rpNow = 3 ∧ y.tm.tryTo = none ∧ outside y)) ∧
    (x.tm.tryWait = some d → x.cc.state = .tryWaitSrc → s.BerthStep (.tryWaitExpiry b) b (fun y =>
      y.cc.state = x.ofRole hl ∧ y.cc.orient = .none ∧ y.tm.tryWait = none ∧ y.id = x.id ∧ y.phy = x.phy ∧ y.reg = x.reg ∧ y.mux = x.mux))

/-- R53, R68, R71 to R74. -/
def Obligations.CcDetach : Prop :=
  ∀ (s : State) (b : BerthId) (at_ d since : Stamp),
    let x := s.berths[b]
    let hl := s.quays[State.quayOf b].hless
    let keeps (y : Berth) : Prop := y.stg = x.stg ∧ y.lat = x.lat ∧ y.adc = x.adc ∧ y.smp = x.smp ∧ y.shadow = x.shadow ∧
      y.cc.cfg = x.cc.cfg ∧ y.cc.time0 = x.cc.time0
    let ended (y : Berth) : Prop :=
      y.cc.state = x.ofRole hl ∧ y.cc.orient = .none ∧ y.cc.vconnOn = false ∧ y.id.epoch = x.id.epoch + 1 ∧ y.id.contract = none ∧
      y.id.powerSource = false ∧ y.id.dataDfp = false ∧ y.cc.cntDetach = (satInc x.cc.cntDetach).1 ∧ y.cc.evt.getLsbD 1 = true ∧
      y.path.state ≠ .srcOn ∧ y.path.state ≠ .srcRamp ∧ y.path.state ≠ .snkOn ∧ keeps y
    (x.tm.pdDeb = some d → x.cc.state = .attachedSrc → s.BerthStep (.pdDebounceExpiry b) b ended) ∧
    (x.tm.pdDeb = some d → x.cc.state = .attachWaitSrc ∨ x.cc.state = .attachWaitSnk →
      s.BerthStep (.pdDebounceExpiry b) b (fun y => y.cc.state = x.ofRole hl ∧ y.tm.ccDeb = none ∧ y.id = x.id ∧ keeps y)) ∧
    (x.cc.state = .attachedSnk → x.id.expectLoss = false → x.mux.phase = .idle ∨ x.mux.phase = .frsArmed →
      s.BerthStep (.sinkDetach b at_) b ended) ∧
    (x.tm.err = some d → x.cc.state = .errorRecovery →
      s.BerthStep (.errorRecoveryExpiry b) b (fun y => y.cc.state = x.ofRole hl ∧ y.tm.err = none ∧ y.id = x.id ∧ keeps y)) ∧
    (x.tm.clr = some d → x.cc.state = .backFeed → x.cc.release = true →
      s.BerthStep (.backfeedClear b) b (fun y => y.cc.state = x.ofRole hl ∧ y.tm.clr = none ∧ y.id = x.id ∧ keeps y)) ∧
    (x.tm.backDet = some d → x.cc.state = .unattachedSrc ∨ x.cc.state = .unattachedSnk → x.path.state = .off →
      s.BerthStep (.backfeedDetect b) b (fun y => y.path.state = .test ∧ y.path.testKind = 1 ∧ y.path.testBusy = true ∧
        y.tm.backDet = none ∧ y.cc = x.cc ∧ y.id = x.id ∧ keeps y)) ∧
    (s.Quiet b at_ → s.BerthStep (.ccOverVoltage b at_) b (fun y => y.cc.ovActive = true ∧ y.cc.ovAt = at_ ∧ keeps y ∧
      (x.cc.state = .ccFault → y.cc.state = .ccFault ∧ y.cc.isolated = x.cc.isolated ∧ y.path = x.path ∧ y.faults = x.faults ∧
        y.tm.clr = (if x.cc.isolated then none else x.tm.clr)) ∧
      (x.cc.state ≠ .ccFault → y.cc.isolated = true ∧ y.cc.lvl1 = .notMeasured ∧ y.cc.lvl2 = .notMeasured ∧ y.cc.evt.getLsbD 4 = true ∧
        (∃ f ∈ y.faults, f.stamp = at_)) ∧
      (x.cc.state = .held ∨ x.cc.state = .disabled ∨ x.cc.state = .lockedOut → y.cc.state = x.cc.state ∧ y.path = x.path) ∧
      (x.cc.state ≠ .held → x.cc.state ≠ .disabled → x.cc.state ≠ .lockedOut → x.cc.state ≠ .ccFault →
        y.cc.state = .ccFault ∧ y.cc.vconnOn = false ∧ y.cc.rpNow = 3))) ∧
    (s.Quiet b (since + ms 100) → x.cc.isolated = true → x.cc.ovActive = false → x.cc.ovAt ≤ since → x.cc.state = .ccFault →
      x.cc.clearing = false → x.cc.ccFaultLatched = false →
      s.BerthStep (.ccOvClear b since) b (fun y => y.cc.state = .errorRecovery ∧ y.cc.isolated = false ∧
        y.tm.err = some (since + ms 100 + ms (fld x.cc.time0 24 8)) ∧ keeps y)) ∧
    (s.Quiet b (since + ms 100) → x.cc.isolated = true → x.cc.ovActive = false → x.cc.ovAt ≤ since → x.cc.state = .ccFault →
      x.cc.clearing = false → x.cc.ccFaultLatched = true →
      s.BerthStep (.ccOvClear b since) b (fun y => y = { x.settled with tm := { x.tm with clr := none } })) ∧
    (s.Quiet b (since + ms 100) → x.cc.isolated = true → x.cc.ovActive = false → x.cc.ovAt ≤ since →
      x.cc.state = .held ∨ x.cc.state = .disabled ∨ x.cc.state = .lockedOut →
      s.BerthStep (.ccOvClear b since) b (fun y => y.cc.isolated = false ∧ y.cc.state = x.cc.state ∧ y.tm.clr = none ∧ keeps y))

/-- R55, R57, R58, R61 and R62. -/
def Obligations.CcOther : Prop :=
  ∀ (s : State) (b : BerthId) (q : QuayId) (at_ d hit : Stamp) (segs : List LimSeg) (due : Nat) (vq5 : Bool),
    let x := s.berths[b]
    let qb := State.quayOf b
    let toggled (p : Berth → Prop) (t : State) : Prop :=
      t = { s with berths := s.berths.set b t.berths[b], nextId := t.nextId, quays := s.quays.set qb { s.quays[qb] with toggled := some s.ticks } } ∧
      t.berths[b] = { x.settled with cc := t.berths[b].cc, mon := t.berths[b].mon, tmr := t.berths[b].tmr } ∧ p t.berths[b]
    (x.tm.ins = some d → x.cc.state = .attachedSrc → x.path.restart = false → x.path.state ≠ .snkOn →
      s.BerthStep (.insertionDelayExpiry b) b (fun y => y = { x.settled with
        tm := { x.tm with ins := none }, tmr := { x.tmr with exp := x.tmr.exp ||| 4 }, path := { x.path with closeCase := some .attach } })) ∧
    (x.cc.toggleAt = some due → s.toggler qb = some b → x.cc.state = .unattachedSnk →
      s.Gives (.drpToggleSwitch b) (toggled (fun y => y.cc.state = .unattachedSrc ∧ y.cc.rpNow = BitVec.ofNat 2 (fld x.cc.cfg 4 2) ∧
        y.cc.toggleAt = some (due + fld x.cc.time1 8 8 * (40 * fld x.cc.time1 0 8) / 100)))) ∧
    (x.cc.toggleAt = some due → s.toggler qb = some b → x.cc.state = .unattachedSrc →
      s.Gives (.drpToggleSwitch b) (toggled (fun y => y.cc.state = .unattachedSnk ∧ y.cc.rpNow = 3 ∧
        (∃ j : Fin 4, y.cc.toggleAt = some (due + (40 * fld x.cc.time1 0 8 - fld x.cc.time1 8 8 * (40 * fld x.cc.time1 0 8) / 100 + j)))))) ∧
    (s.toggler qb ≠ some b → s.Stands (.drpToggleSwitch b)) ∧
    (x.tm.acc = some d → s.BerthStep (.accessorySeen b) b (fun y => y.cc.evt.getLsbD 6 = true ∧ y.tm.acc = none ∧
      y.pol = { x.settled.pol with owed := x.pol.owed ++ [.ev (.attach x.cc.state .none 2 x.cc.rpNow.toNat x.adc.vbc false x.cc.dbRd)] } ∧
      y = { x.settled with cc := y.cc, tm := y.tm, tmr := y.tmr, pol := y.pol })) ∧
    (x.tm.pdDeb = some d → x.cc.state = .unattachedSrc → x.cc.acc ≠ 0 → x.cc.accRaised = true → x.rdCount = 0 →
      x.cc.lvl1 ≠ .belowRa → s.BerthStep (.accessoryEnded b) b (fun y => y.cc.acc = 0 ∧ y.cc.accRaised = false ∧
        y.pol = { x.settled.pol with owed := x.pol.owed ++ [.ev (.detach .unattachedSrc 4 0)] } ∧ y.tm.pdDeb = none ∧
        y.cc.state = (if fld x.cc.cfg 0 2 = 2 ∧ s.quays[qb].hless = false then .unattachedSnk else .unattachedSrc) ∧
        y = { x.settled with cc := y.cc, tm := y.tm, tmr := y.tmr, mon := y.mon, pol := y.pol })) ∧
    (s.Quiet b at_ → x.cc.vconnOn = true → (segs.foldl (Berth.vconnSeg x.vconnFull) (x.cc.vflt, x.cc.vfltAt, none)).2.2 = none →
      s.BerthStep (.vconnFaultTimerExpiry b at_ segs) b (fun y => y.cc.vconnOn = true ∧ y.cc.vfltAt = at_ ∧
        y = { x.settled with cc := { x.cc with vflt := y.cc.vflt, vfltAt := at_ } })) ∧
    (s.Quiet b at_ → x.cc.vconnOn = true → (segs.foldl (Berth.vconnSeg x.vconnFull) (x.cc.vflt, x.cc.vfltAt, none)).2.2 = some hit →
      s.BerthStep (.vconnFaultTimerExpiry b at_ segs) b (fun y => y.cc.vconnOn = false ∧ y.cc.vconnLatch = true ∧
      y.cc.evt.getLsbD 3 = true ∧ (∃ f ∈ y.faults, f.stamp = hit ∧ (f.cause = .vconnOc ∨ f.also.getLsbD 12 = true)) ∧
      y = { x.settled with cc := y.cc, tmr := y.tmr, faults := y.faults })) ∧
    (s.quays[q].vconnVq5 = !vq5 → s.Gives (if vq5 then .vconnSwitchover q else .vconnSupplyReturn q) (fun t =>
      t = { s with quays := s.quays.set q { s.quays[q] with vconnVq5 := vq5 }, berths := t.berths, nextId := t.nextId } ∧
      ∀ c : BerthId, (State.quayOf c = q → t.berths[c] = { s.berths[c].settled with cc := { s.berths[c].cc with evt := s.berths[c].cc.evt ||| 0x200 } }) ∧
        (State.quayOf c ≠ q → t.berths[c] = s.berths[c])))

/-- R50 to R52, R56, R57, R61, R65 and R157. -/
def Obligations.CcWrites : Prop :=
  ∀ (s : State) (b : BerthId) (w : Writer) (v : Word) (i : Fin 3),
    let x := s.berths[b]
    let queued (p : Pend) (y : Berth) : Prop := y = { x.settled with id := { x.id with pend := x.id.pend ++ [p] } }
    let counted (y : Berth) : Prop := y.id.cntDiscarded = (satInc x.id.cntDiscarded).1 ∧ y.id.pend = x.id.pend ∧
      y = { x.settled with id := y.id, evOut := y.evOut }
    let r := clampFld (clampFld (v &&& 0xFFF#32) 0 8 25 150) 8 4 1 15
    let held (y : Berth) : Option Word := [y.cc.heldTime0, y.cc.heldTime1, y.cc.heldTime2].getD i none
    let inRange (r : Word) : Prop :=
      (i = 0 → 100 ≤ fld r 0 8 ∧ fld r 0 8 ≤ 200 ∧ 10 ≤ fld r 8 8 ∧ fld r 8 8 ≤ 20 ∧ fld r 0 8 + fld r 16 8 ≤ 250 ∧ 25 ≤ fld r 24 8 ∧ fld r 24 8 ≤ 100) ∧
      (i = 1 → 50 ≤ fld r 0 8 ∧ fld r 0 8 ≤ 100 ∧ 30 ≤ fld r 8 8 ∧ fld r 8 8 ≤ 70 ∧ 75 ≤ fld r 16 8 ∧ fld r 16 8 ≤ 150 ∧ 10 ≤ fld r 24 8 ∧ fld r 24 8 ≤ 20) ∧
      (i = 2 → 40 ≤ fld r 0 8 ∧ fld r 0 8 ≤ 80 ∧ 55 ≤ fld r 8 8 ∧ fld r 8 8 ≤ 110 ∧ fld r 16 16 = 0)
    (s.Hears b → s.BerthStep (.ccCfgWrite w b v) b (fun y => y = { x.settled with cc := { x.cc with heldCfg := y.cc.heldCfg } } ∧
      y.cc.heldCfg = some (y.cc.heldCfg.getD 0) ∧ (y.cc.heldCfg.getD 0).getLsbD 6 = v.getLsbD 6 ∧ fld (y.cc.heldCfg.getD 0) 7 25 = 0 ∧
      (fld v 0 2 ≠ 3 → fld (y.cc.heldCfg.getD 0) 0 2 = fld v 0 2) ∧ (fld v 2 2 ≠ 3 → fld (y.cc.heldCfg.getD 0) 2 2 = fld v 2 2) ∧
      (fld v 4 2 ≠ 3 → fld (y.cc.heldCfg.getD 0) 4 2 = fld v 4 2))) ∧
    (s.Hears b → s.BerthStep (.ccTimeWrite w b i v) b (fun y => held y = some ((held y).getD 0) ∧ inRange ((held y).getD 0) ∧
      ((held y).getD 0 ≠ (if i = 2 then v &&& 0xFFFF#32 else v) → y.cc.evt.getLsbD 7 = true) ∧ y = { x.settled with cc := y.cc } ∧
      y.cc.cfg = x.cc.cfg ∧ y.cc.time0 = x.cc.time0 ∧ y.cc.time1 = x.cc.time1 ∧ y.cc.time2 = x.cc.time2 ∧ y.cc.state = x.cc.state)) ∧
    (s.Hears b → fld v 0 2 = 3 → s.BerthStep (.ccRpWrite w b v) b (fun y => y = x.settled)) ∧
    (s.Hears b → fld v 0 2 ≠ 3 → x.id.contract = none → s.BerthStep (.ccRpWrite w b v) b (fun y =>
      y.cc.rp = BitVec.ofNat 2 (fld v 0 2) ∧ y.stg = { x.stg with ccRp := y.cc.rp } ∧ y.cc.rpNow = x.cc.rpNow ∧ y.cc.rpLevel = x.cc.rpLevel ∧
      y.id.pend = (if fld v 0 2 < x.cc.rpLevel.toNat then x.id.pend ++ [.rpLower] else x.id.pend) ∧
      y = { x.settled with cc := y.cc, stg := y.stg, id := { x.id with pend := y.id.pend } })) ∧
    (s.Hears b → s.BerthStep (.vconnCfgWrite w b v) b (fun y => 25 ≤ fld r 0 8 ∧ fld r 0 8 ≤ 150 ∧ 1 ≤ fld r 8 4 ∧ fld r 12 20 = 0 ∧
      y.id = { x.id with pend := x.id.pend ++ [.vconnCfg r] } ∧ y.cc.vconnCfg = x.cc.vconnCfg ∧ y = { x.settled with id := y.id, cc := y.cc })) ∧
    (s.Hears b → s.BerthStep (.errorRecovery w b) b (queued .errorRecovery) ∧ s.BerthStep (.vconnOff w b) b (queued .vconnOff) ∧
      s.BerthStep (.vconnRearm w b) b (queued .vconnRearm) ∧ s.BerthStep (.release .harbour b) b (queued .release) ∧
      s.BerthStep (.release .tug b) b (fun y => y = x.settled)) ∧
    (s.Hears b → x.mux.phase = .prSrcOff → x.lat.ccStatus.getLsbD 22 = true → s.BerthStep (.swapToRd w b) b (queued .swapToRd)) ∧
    (s.Hears b → x.mux.phase ≠ .prSrcOff ∨ x.lat.ccStatus.getLsbD 22 = false → s.BerthStep (.swapToRd w b) b counted) ∧
    (s.Hears b → x.mux.phase = .prSnkOn ∨ (x.mux.phase = .frsSourcing ∧ x.mux.partnerPsRdy = true) →
      s.BerthStep (.swapToRp w b) b (queued .swapToRp)) ∧
    (s.Hears b → x.mux.phase ≠ .prSnkOn → x.mux.phase ≠ .frsSourcing ∨ x.mux.partnerPsRdy = false →
      s.BerthStep (.swapToRp w b) b counted) ∧
    (s.reaches b = false → s.Stands (.ccCfgWrite w b v) ∧ s.Stands (.errorRecovery w b) ∧ s.Stands (.release w b))

/-- The queue of commands, first in, first out. The idle step is the model's choice (log entry 1). -/
def Obligations.StepRunsTheFront : Prop :=
  (∀ (s : State) (c : Instr) (r : List Instr), s.pending = c :: r → step s = exec c { s with pending := r }) ∧
    (∀ s : State, s.pending = [] → step s = .next s)

/-- No command stops the device, and the queue is not the commands' to change. -/
def Obligations.EveryCommandAnswers : Prop :=
  ∀ (c : Instr) (s : State), ∃ t, exec c s = .next t ∧ t.pending = s.pending

/-- The memory's canonical form is an invariant of step. -/
def Obligations.MemoryInvariant : Prop :=
  ∀ s t : State, s.memWf → step s = .next t → t.memWf

/-- What the device holds after power-on reset. -/
def Obligations.ResetState : Prop :=
  let s := State.reset
  s.memWf ∧ s.mem = [] ∧ s.pending = [] ∧ s.tideCount = 0 ∧ s.roundPhase = 0 ∧ s.ticking = false ∧ s.phase = .brittle ∧
  s.tags = [] ∧ s.events = [] ∧ s.nextSeq = 1 ∧ s.resetCause = 1 ∧
  (∀ q : QuayId, s.quays[q].up = false ∧ s.quays[q].hless = false ∧ s.quays[q].released = false) ∧
  (∀ t : TugId, s.tugs[t].mode = .empty ∧ s.tugs[t].berth = none ∧ s.tugs[t].fenced = false) ∧
  (∀ l : Fin 2, s.links[l].state = .off) ∧
  ∀ b : BerthId, let x := s.berths[b]
    x.cc.state = .held ∧ x.cc.orient = .none ∧ x.cc.vconnOn = false ∧ x.path.state = .off ∧ x.reg.state = .idle ∧
    x.id.epoch = 0 ∧ x.id.contract = none ∧ x.id.tug = none ∧ x.id.pend = [] ∧ x.evOut = [] ∧ x.faults = [] ∧
    x.cc.cfg = 0x50 ∧ x.cc.time0 = 0x19280F96 ∧ x.cc.time1 = 0x0F64324B ∧ x.cc.time2 = 0x503C ∧ x.cc.vconnCfg = 0x569 ∧ x.cc.rp = 1 ∧
    x.phy.cfg = 0x160 ∧ x.phy.time0 = 0x191264 ∧ x.phy.time1 = 0x1B1B1E ∧ x.phy.time2 = 0x96501E ∧ x.phy.fifo = [] ∧ x.phy.arm = 0 ∧
    x.path.cfg = 0x00780A08 ∧ x.path.limit = 0x001400A8 ∧ x.path.lock = .none ∧ x.reg.cfg = 0x3328 ∧ x.reg.vref = 0x000A04E2 ∧
    x.reg.hold = 0x045000A5 ∧ x.reg.prot = 0x51440 ∧ x.reg.win = 0x1130A0A ∧ x.mon.blank = 0x000A0505 ∧ x.mux.swapTime = 0x962D55 ∧
    x.mux.orientMux0 = true ∧ x.mux.phase = .idle ∧ x.pol.table = 0

/-- R78 to R80, R87 to R90 and R93, as the hardware does it (on a berth that BP 4.0 does not run, where a message is answered). -/
def Obligations.PhyReceive : Prop :=
  ∀ (s : State) (b : BerthId) (w : Writer) (at_ : Stamp) (k : SopKind) (hdr : BitVec 16) (data : List Byte) (m : RxMsg) (a : AckDue) (z : Tx),
    let x := s.berths[b]
    let up := x.st.phyFenced = false ∧ x.st.running = false ∧ x.attached = true ∧ s.quays[State.quayOf b].hless = false ∧ x.cc.isolated = false
    let bytes : List RxEntry := (((leBytes 2 hdr.toNat ++ data).drop m.got).take (32 - m.got)).map (fun (v : Byte) => { mark := .byte, data := v })
    (s.Quiet b at_ → up → x.phy.tx = none → x.sopEnabled k = true → x.phy.owed = [] → x.phy.fifo.length ≤ 476 →
      s.BerthStep (.sopDetected b at_ k) b (fun y => y = { x.settled with
        id := { x.id with tokenRx := { x.id.tokenRx with current := false } },
        phy := { x.phy with sopSeen := true, rxMsg := some { sop := k, fits := true }, evt := x.phy.evt ||| 1, fifo := x.phy.fifo ++ [{ mark := .sop, data := BitVec.ofNat 8 (sopCode k) }] } })) ∧
    (s.Quiet b at_ → up → x.phy.tx = none → x.sopEnabled k = false →
      s.BerthStep (.sopDetected b at_ k) b (fun y => y = { x.settled with
        id := { x.id with tokenRx := { x.id.tokenRx with current := false } },
        phy := { x.phy with sopSeen := true, rxMsg := none } })) ∧
    (s.Quiet b at_ → up → x.phy.tx = some z → z.begun = false → s.BerthStep (.sopDetected b at_ k) b (fun y =>
      y.phy.tx = none ∧ y.phy.txResult = .discarded ∧ y.phy.evt.getLsbD 6 = true ∧ y.id.tokenRx.current = false)) ∧
    (s.Quiet b at_ → x.phy.rxMsg = some m → m.fits = true → x.phy.hrWait = false → x.phy.crWait = false →
      s.BerthStep (.messageEnd b at_ true hdr data) b (fun y => y = { x.settled with
        phy := { x.phy with rxMsg := none, fifo := x.phy.fifo ++ bytes, ackDue := some { sop := m.sop, hdr := hdr, data := data, dup := x.phy.rxId[sopIdx m.sop] = some (hdrId hdr) && !isCtl hdr 13, reply := x.wireHdr 1 (hdrId hdr) } } })) ∧
    (s.Quiet b at_ → x.phy.rxMsg = some m → m.fits = true → x.phy.hrWait = false → x.phy.crWait = false →
      s.BerthStep (.messageEnd b at_ false hdr data) b (fun y => y.phy.fifo = x.phy.fifo ++ bytes ++ [{ mark := .endBad, data := 0 }] ∧
        y.phy.rxMsg = none ∧ y.phy.cnt[(0 : Fin 7)] = (satInc x.phy.cnt[(0 : Fin 7)]).1 ∧ y.phy.ackDue = x.phy.ackDue ∧
        y = { x.settled with phy := y.phy, st := y.st, evOut := y.evOut })) ∧
    (s.Quiet b at_ → x.phy.ackDue = some a → a.live = true → a.dup = false → isCtl a.hdr 13 = false → s.runsBp b = false →
      s.BerthLogStep (.goodcrcSent b at_) b (fun y => y.phy.fifo = x.phy.fifo ++ [{ mark := .endGood, data := BitVec.ofNat 8 (hdrId a.hdr).toNat }] ∧
        y.phy.ackDue = none ∧ y.phy.rxId = x.phy.rxId.set (sopIdx a.sop) (some (hdrId a.hdr)) ∧ y.phy.txId = x.phy.txId ∧
        y.id.tokenRx = { msgId := hdrId a.hdr, sop := a.sop, current := true, seq := x.id.tokenRx.seq + 1 } ∧
        y.id.tokenTx = x.id.tokenTx ∧ y.id.epoch = x.id.epoch ∧ y.id.contract = x.id.contract ∧ y.path = x.path ∧ y.reg = x.reg ∧
        y.cc.state = x.cc.state ∧ y.stg = x.stg ∧ y.evOut = x.evOut)) ∧
    (s.Quiet b at_ → x.phy.ackDue = some a → a.live = true → a.dup = true →
      s.BerthStep (.goodcrcSent b at_) b (fun y => y.phy.fifo = x.phy.fifo ++ [{ mark := .endDup, data := BitVec.ofNat 8 (hdrId a.hdr).toNat }] ∧
        y.phy.ackDue = none ∧ y.phy.rxId = x.phy.rxId ∧ y.phy.cnt[(2 : Fin 7)] = (satInc x.phy.cnt[(2 : Fin 7)]).1 ∧
        y = { x.settled with phy := y.phy, evOut := y.evOut })) ∧
    (s.Quiet b at_ → x.phy.rxMsg = some m → m.fits = true → x.phy.hrWait = false → x.phy.crWait = false → (∀ a', x.phy.ackDue = some a' → a'.live = false) →
      s.BerthStep (.lineError b at_ data) b (fun y => y = { x.settled with
        phy := { x.phy with rxMsg := none, fifo := x.phy.fifo ++ (data.take (32 - m.got)).map (fun (v : Byte) => { mark := .byte, data := v }) ++ [{ mark := .endAbort, data := 0 }], evt := x.phy.evt ||| 4 } })) ∧
    (s.Quiet b at_ → x.phy.rxMsg = none → s.BerthStep (.lineError b at_ data) b (fun y => y = x.settled)) ∧
    (s.Hears b → x.mon.parked = false → x.phy.owed = [] →
      s.BerthStep (.rxDataRead b) b (fun y => y = { x.settled with phy := { x.phy with fifo := x.phy.fifo.drop 1 } }) ∧
      s.BerthStep (.flushRx w b) b (fun y => y = { x.settled with phy := { x.phy with fifo := [] } }))

/-- R81, R82, R84, R85, R87 and R93, as the hardware does it. -/
def Obligations.PhyTransmit : Prop :=
  ∀ (s : State) (b : BerthId) (w : Writer) (at_ d : Stamp) (id : BitVec 3) (z : Tx),
    let x := s.berths[b]
    (s.Quiet b at_ → x.phy.tx = some z → z.begun = true → z.ended = false →
      s.BerthStep (.transmissionEnd b at_) b (fun y => y = { x.settled with
        phy := { x.phy with tx := some { z with ended := true }, wireEnd := at_ }, tm := { x.tm with tRecv := some (at_ + 1000 * fld x.phy.time0 0 8) } })) ∧
    (s.Quiet b at_ → x.phy.tx = some z → z.begun = true → z.ended = true → z.msgId = id → isCtl z.hdr 13 = false → s.runsBp b = false →
      s.BerthLogStep (.goodcrcReceived b at_ id) b (fun y => y.phy.tx = none ∧ y.phy.txResult = .confirmed ∧ y.tm.tRecv = none ∧
        y.phy.txId = x.phy.txId.set (sopIdx z.sop) (x.phy.txId[sopIdx z.sop] + 1) ∧ y.phy.rxId = x.phy.rxId ∧ y.phy.evt.getLsbD 4 = true ∧
        y.id.tokenTx = { msgId := z.msgId, sop := z.sop, current := true, seq := x.id.tokenTx.seq + 1 } ∧ y.phy.fifo = x.phy.fifo ∧
        y.id.tokenRx = x.id.tokenRx ∧ y.id.epoch = x.id.epoch ∧ y.id.contract = x.id.contract ∧ y.path = x.path ∧ y.reg = x.reg ∧
        y.stg = x.stg ∧ y.cc.state = x.cc.state)) ∧
    (s.Quiet b at_ → (∀ u, x.phy.tx = some u → u.begun = false ∨ u.ended = false ∨ u.msgId ≠ id) → s.Stands (.goodcrcReceived b at_ id)) ∧
    (x.tm.tRecv = some d → x.phy.tx = some z → z.attempts < fld x.phy.cfg 7 2 → x.mayTransmit z.sop = true →
      s.BerthStep (.treceiveExpiry b) b (fun y => y = { x.settled with
        phy := { x.phy with tx := some { z with attempts := z.attempts + 1, ended := false }, txAttempts := BitVec.ofNat 2 (z.attempts + 1) },
        tm := { x.tm with tRecv := none }, tmr := { x.tmr with exp := x.tmr.exp ||| 8 } })) ∧
    (x.tm.tRecv = some d → x.phy.tx = some z → fld x.phy.cfg 7 2 ≤ z.attempts ∨ x.mayTransmit z.sop = false → s.runsBp b = false →
      s.BerthStep (.treceiveExpiry b) b (fun y => y.phy.tx = none ∧ y.phy.txResult = .failed ∧ y.tm.tRecv = none ∧
        y.phy.txId = x.phy.txId.set (sopIdx z.sop) (x.phy.txId[sopIdx z.sop] + 1) ∧ y.phy.evt = x.phy.evt ||| 0x20 ∧
        y.phy.cnt[(1 : Fin 7)] = (satInc x.phy.cnt[(1 : Fin 7)]).1 ∧
        y = { x.settled with phy := y.phy, id := { x.id with closeOnTx := false }, tm := y.tm, tmr := y.tmr, evOut := y.evOut })) ∧
    (x.tm.sinkTx = some d → x.phy.tx = some z → x.mayTransmit z.sop = true → s.BerthStep (.sinkTxExpiry b) b (fun y => y = { x.settled with
      tm := { x.tm with sinkTx := none }, tmr := { x.tmr with exp := x.tmr.exp ||| 0x80 },
      phy := { x.phy with tx := some { z with begun := true, heldCa := false }, txResult := .inProgress },
      id := { x.id with tokenTx := { x.id.tokenTx with current := false } } })) ∧
    (x.tm.resp = some d → s.runsBp b = false → s.BerthStep (.responseTimerExpiry b) b (fun y => y = { x.settled with
      tm := { x.tm with resp := none }, tmr := { x.tmr with exp := x.tmr.exp ||| 0x10 },
      phy := { x.phy with tmrRun := .none, evt := x.phy.evt ||| 0x400 } })) ∧
    (x.tm.caps = some d → s.BerthStep (.sourceCapsRepeatExpiry b) b (fun y => y = { x.settled with
      tm := { x.tm with caps := none }, tmr := { x.tmr with exp := x.tmr.exp ||| 0x10 },
      phy := { x.phy with tmrRun := .none, evt := x.phy.evt ||| 0x400 }, pol := { x.settled.pol with capsDue := true } })) ∧
    (x.tm.srcTrans = some d → x.mux.phase ≠ .prSrcTrans → x.pol.trans = none → s.BerthStep (.srcTransitionExpiry b) b (fun y =>
      y = { x.settled with tm := { x.tm with srcTrans := none }, tmr := { x.tmr with exp := x.tmr.exp ||| 0x20 }, phy := { x.phy with evt := x.phy.evt ||| 0x400 } })) ∧
    (s.Hears b → x.mon.parked = false → x.phy.tx = some z →
      (z.begun = true → s.BerthStep (.cancelTx w b) b (fun y => y = x.settled)) ∧
      (z.begun = false → s.BerthStep (.cancelTx w b) b (fun y => y.phy.tx = none ∧ y.phy.txResult = .discarded ∧ y.phy.evt = x.phy.evt ||| 0x40 ∧
        y.phy.cnt[(6 : Fin 7)] = (satInc x.phy.cnt[(6 : Fin 7)]).1 ∧
        y = { x.settled with phy := y.phy, id := { x.id with closeOnTx := false }, tm := { x.tm with tRecv := none, sinkTx := none }, evOut := y.evOut })))

/-- R105 to R109 and Table 3.7. -/
def Obligations.PhyHardReset : Prop :=
  ∀ (s : State) (b : BerthId) (w : Writer) (at_ d : Stamp) (data : List Byte),
    let x := s.berths[b]
    let hl := s.quays[State.quayOf b].hless
    let calm := x.mux.phase = .idle ∨ x.mux.phase = .frsArmed
    let reset (y : Berth) : Prop := y.id.epoch = x.id.epoch + 1 ∧ y.id.hrActive = true ∧ y.id.expectLoss = true ∧ y.id.contract = none ∧
      y.id.eprMode = false ∧ y.phy.txId = Vector.replicate 3 0 ∧ y.phy.rxId = Vector.replicate 3 none ∧ (x.cc.state = .attachedSrc → y.phy.caOk = false) ∧
      y.id.amsActive = false ∧ y.cc.state = x.cc.state ∧ y.stg = x.stg ∧ y.path.state = x.path.state ∧
      (x.cc.state = .attachedSrc → y.tm.psHr = some (at_ + ms (fld x.phy.time2 0 8))) ∧
      (x.cc.state = .attachedSnk → y.tm.snkHr = some (at_ + ms 1960) ∧ (x.id.vconnSrc = true → y.cc.vconnOn = false))
    (s.Quiet b at_ → x.phy.hrSending = true → x.attached = true → calm → s.BerthStep (.hardResetSent b at_) b (fun y => reset y ∧
      y.phy.hrCount = (if x.phy.hrCount = 3 then 3 else x.phy.hrCount + 1) ∧ y.phy.hrSending = false ∧ y.phy.hrPending = false)) ∧
    (s.Quiet b at_ → x.st.phyFenced = false → x.st.running = false → x.attached = true → x.phy.hrSending = false → x.phy.hrAt = none → calm →
      s.BerthStep (.hardResetReceived b at_ data) b (fun y => reset y ∧ y.phy.tx = none ∧ y.phy.rxMsg = none ∧ y.phy.hrCount = x.phy.hrCount ∧
        (x.phy.rxMsg = none → (∀ a', x.phy.ackDue = some a' → a'.live = false) → x.phy.fifo.length < 512 → y.phy.fifo = x.phy.fifo ++ [{ mark := .hardReset, data := 0 }]))) ∧
    (x.tm.psHr = some d → x.path.state = .srcOn → s.BerthStep (.psHardResetExpiry b) b (fun y => y.path.state ≠ .srcOn ∧ y.path.state ≠ .srcRamp ∧
      y.cc.vconnOn = false ∧ y.tm.psHr = none ∧ y.id = x.id ∧ y.phy = x.phy ∧ y.stg = x.stg ∧ y.cc.state = x.cc.state)) ∧
    (x.tm.srcRec = some d → x.path.state ≠ .snkOn → s.BerthStep (.srcRecoverExpiry b) b (fun y => y = { x.settled with
      tm := { x.tm with srcRec := none }, tmr := { x.tmr with exp := x.tmr.exp ||| 0x40 }, path := { x.path with closeCase := some .hrRecovery } })) ∧
    (x.tm.snkHr = some d → x.cc.state = .attachedSnk → s.BerthStep (.sinkHardResetTimeout b) b (fun y => y.cc.state = x.ofRole hl ∧
      y.id.contract = none ∧ y.id.hrActive = false ∧ y.id.expectLoss = false ∧ y.tm.snkHr = none ∧ y.id.epoch = x.id.epoch + 1 ∧
      y.cc.vconnOn = false ∧ y.stg = x.stg)) ∧
    (s.Hears b → x.mon.parked = false → x.attached = true →
      (x.phy.hrCount ≠ 3 → s.BerthStep (.hardReset w b) b (fun y => y = { x.settled with
        phy := { x.phy with hrPending := true }, id := { x.id with pend := x.id.pend ++ [.hardReset] } })) ∧
      (x.phy.hrCount = 3 → s.BerthStep (.hardReset w b) b (fun y => y = { x.settled with phy := { x.phy with evt := x.phy.evt ||| 0x1000 } }))) ∧
    (s.Hears b → x.mon.parked = false →
      (x.id.dataDfp = true → x.id.vconnSrc = true → s.BerthStep (.cableReset w b) b (fun y =>
        y = { x.settled with id := { x.id with pend := x.id.pend ++ [.cableReset] } })) ∧
      (x.id.dataDfp = false ∨ x.id.vconnSrc = false → s.BerthStep (.cableReset w b) b (fun y => y.id.last = 3 ∧ y.id.reason = 8 ∧
        y.id.pend = x.id.pend ∧ y.id.cntRefused = (satInc x.id.cntRefused).1 ∧ y = { x.settled with id := y.id, evOut := y.evOut }))) ∧
    (s.Quiet b at_ → x.phy.crSending = true → x.pol.cur = none → s.BerthStep (.cableResetSent b at_) b (fun y => y.phy.crSending = false ∧
      y.phy.txId = #v[x.phy.txId[(0 : Fin 3)], 0, 0] ∧ y.phy.rxId = #v[x.phy.rxId[(0 : Fin 3)], none, none] ∧
      y.phy.evt = x.phy.evt ||| 0x200 ∧ (x.id.tokenRx.sop ≠ .sop → y.id.tokenRx.current = false) ∧
      y = { x.settled with phy := y.phy, id := y.id }))

/-- R15, R83, R98, R111, R114, R158, R178, R223, R238 and R254. -/
def Obligations.RegisterWritesClamped : Prop :=
  ∀ (s : State) (b : BerthId) (w : Writer) (v : Word) (i : Fin 3) (j : Fin 7) (k : Fin 5) (n : Fin 2),
    let x := s.berths[b]
    let r := Berth.phyTimeClamp i v
    let inRange (r : Word) : Prop := fld r 24 8 = 0 ∧
      (i = 0 → 90 ≤ fld r 0 8 ∧ fld r 0 8 ≤ 110 ∧ 16 ≤ fld r 8 8 ∧ fld r 8 8 ≤ 20 ∧ 25 ≤ fld r 16 8 ∧ fld r 16 8 ≤ 35) ∧
      (i = 1 → 27 ≤ fld r 0 8 ∧ fld r 0 8 ≤ 33 ∧ 24 ≤ fld r 8 8 ∧ fld r 8 8 ≤ 30 ∧ 24 ≤ fld r 16 8 ∧ fld r 16 8 ≤ 30) ∧
      (i = 2 → 25 ≤ fld r 0 8 ∧ fld r 0 8 ≤ 35 ∧ 66 ≤ fld r 8 8 ∧ fld r 8 8 ≤ 100 ∧ 100 ≤ fld r 16 8 ∧ fld r 16 8 ≤ 200)
    (s.Hears b → x.mon.parked = false → s.BerthStep (.phyCfgWrite w b v) b (fun y =>
      y = { x.settled with phy := { x.phy with heldCfg := some (v &&& 0x7F#32) } })) ∧
    (s.Hears b → x.mon.parked = false → s.BerthStep (.muxCfgWrite w b v) b (fun y =>
      y = { x.settled with mux := { x.mux with heldCfg := some (v &&& 1#32) } })) ∧
    (s.Hears b → x.mon.parked = false → s.BerthStep (.phyTimeWrite w b i v) b (fun y => inRange r ∧
      (r ≠ v &&& 0xFFFFFF#32 → y.phy.evt.getLsbD 13 = true) ∧ (r = v &&& 0xFFFFFF#32 → y.phy.evt = x.phy.evt) ∧
      y = { x.settled with id := { x.id with pend := x.id.pend ++ [.phyTime i r] }, phy := { x.phy with evt := y.phy.evt } })) ∧
    (s.Hears b → x.mon.parked = false → s.BerthStep (.swapTimeWrite w b v) b (fun y =>
      75 ≤ fld y.mux.swapTime 0 8 ∧ fld y.mux.swapTime 0 8 ≤ 92 ∧ 39 ≤ fld y.mux.swapTime 8 8 ∧ fld y.mux.swapTime 8 8 ≤ 48 ∧
      100 ≤ fld y.mux.swapTime 16 8 ∧ fld y.mux.swapTime 16 8 ≤ 200 ∧ fld y.mux.swapTime 24 8 = 0 ∧
      (y.mux.swapTime ≠ v &&& 0xFFFFFF#32 → y.mux.evt.getLsbD 5 = true) ∧
      y = { x.settled with mux := { x.mux with swapTime := y.mux.swapTime, evt := y.mux.evt } })) ∧
    (s.Hears b → x.mon.parked = false → s.BerthStep (.regCfgWrite w b v) b (fun y =>
      y.reg.heldCfg = some (y.reg.heldCfg.getD 0) ∧ 20 ≤ fld (y.reg.heldCfg.getD 0) 0 7 ∧ fld (y.reg.heldCfg.getD 0) 0 7 ≤ 80 ∧
      1 ≤ fld (y.reg.heldCfg.getD 0) 8 3 ∧ (y.reg.heldCfg.getD 0 ≠ v &&& 0x377F#32 → y.reg.evt.getLsbD 13 = true) ∧
      y = { x.settled with reg := { x.reg with heldCfg := y.reg.heldCfg, evt := y.reg.evt } })) ∧
    (s.Hears b → x.mon.parked = false → s.BerthStep (.regWinWrite w b v) b (fun y =>
      let r := clampFld (clampFld (clampFld (v &&& 0x03FF1F1F#32) 0 5 4 20) 8 5 4 20) 16 10 100 500
      y.id = { x.id with pend := x.id.pend ++ [.regWin r] } ∧ 4 ≤ fld r 0 5 ∧ fld r 0 5 ≤ 20 ∧ 4 ≤ fld r 8 5 ∧ fld r 8 5 ≤ 20 ∧
      100 ≤ fld r 16 10 ∧ fld r 16 10 ≤ 500 ∧ (r ≠ v &&& 0x03FF1F1F#32 → y.reg.evt.getLsbD 13 = true) ∧
      y = { x.settled with id := y.id, reg := { x.reg with evt := y.reg.evt } })) ∧
    (s.Hears b → x.mon.parked = false → s.BerthStep (.txCtrlWrite w b v) b (fun y => y.phy.arm = BitVec.ofNat 4 (fld v 0 4) ∧
      (x.phy.arm &&& ~~~ y.phy.arm = 0 → y.id = x.id ∧ y.evOut = x.evOut) ∧ y.id.cntRefused = x.id.cntRefused ∧
      y = { x.settled with phy := { x.phy with arm := y.phy.arm }, id := y.id, evOut := y.evOut })) ∧
    (s.Hears b → x.mon.parked = false → s.BerthStep (.ovfClear w b 0x250 v) b (fun y =>
      y.phy.ovf = x.phy.ovf &&& ~~~ v ∧ y.phy.cnt[j] = (if v.getLsbD j then 0 else x.phy.cnt[j]) ∧
      y = { x.settled with phy := { x.phy with cnt := y.phy.cnt, ovf := y.phy.ovf } })) ∧
    (s.Hears b → x.mon.parked = false → s.BerthStep (.ovfClear w b 0x33C v) b (fun y =>
      y.path.ovf = x.path.ovf &&& ~~~ v ∧ y.path.cnt[k] = (if v.getLsbD k then 0 else x.path.cnt[k]) ∧
      y = { x.settled with path := { x.path with cnt := y.path.cnt, ovf := y.path.ovf } })) ∧
    (s.Hears b → s.BerthStep (.ovfClear w b 0x138 v) b (fun y => y.cc.ovf = x.cc.ovf &&& ~~~ v ∧
      (n = 0 → y.cc.cntAttach = if v.getLsbD 0 then 0 else x.cc.cntAttach) ∧ (n = 1 → y.cc.cntDetach = if v.getLsbD 1 then 0 else x.cc.cntDetach) ∧
      y = { x.settled with cc := { x.cc with cntAttach := y.cc.cntAttach, cntDetach := y.cc.cntDetach, ovf := y.cc.ovf } })) ∧
    (s.Hears b → x.mon.parked = true → s.BerthStep (.phyCfgWrite w b v) b (fun y =>
      y.id.cntDiscarded = (satInc x.id.cntDiscarded).1 ∧ y = { x.settled with id := y.id, evOut := y.evOut }))

/-- R19, R157, R207, R221, R243, R252, R254, R257, R262 and R458. -/
def Obligations.WritesForTheBoundary : Prop :=
  ∀ (s : State) (b : BerthId) (q : QuayId) (w : Writer) (v : Word) (n : BitVec 10) (en low time : Bool) (c : Fin 10) (table : Vector Word 32),
    let x := s.berths[b]
    let queued (p : Pend) (y : Berth) : Prop := y = { x.settled with id := { x.id with pend := x.id.pend ++ [p] } }
    (s.Hears b → x.mon.parked = false → s.BerthStep (.srcOpen w b) b (queued .srcOpen) ∧ s.BerthStep (.snkOpen w b) b (queued .snkOpen) ∧
      s.BerthStep (.disOn w b) b (queued .disOn) ∧ s.BerthStep (.lowerIlim w b n) b (queued (.lowerIlim n)) ∧
      s.BerthStep (.pathTestRun w b) b (queued .pathTest) ∧ s.BerthStep (.standby w b) b (queued .regStandby) ∧
      s.BerthStep (.idle w b) b (queued .regIdle) ∧ s.BerthStep (.lowerHold w b n) b (queued (.lowerHold n)) ∧
      s.BerthStep (.gp0Start w b) b (queued (.gpStart false)) ∧ s.BerthStep (.gp0Stop w b) b (queued (.gpStop false)) ∧
      s.BerthStep (.gp1Start w b) b (queued (.gpStart true)) ∧ s.BerthStep (.gp1Stop w b) b (queued (.gpStop true))) ∧
    (s.Hears b → x.mon.parked = false → x.mux.phase = .vcOn → s.BerthStep (.vconnOn w b) b (queued .vconnOn)) ∧
    (s.Hears b → x.mon.parked = false → x.mux.phase ≠ .vcOn → s.BerthStep (.vconnOn w b) b (fun y =>
      y.id.cntDiscarded = (satInc x.id.cntDiscarded).1 ∧ y.id.pend = x.id.pend ∧ y = { x.settled with id := y.id, evOut := y.evOut })) ∧
    (s.Hears b → s.BerthStep (.parkEnWrite b en) b (queued (.parkEn en))) ∧
    (s.Hears b → x.mon.parked = false → x.mon.wanted = [] → s.BerthStep (.monTestRun .harbour b 4) b (fun y =>
      y = { x.settled with mon := { x.mon with wanted := [(4, 2)] } })) ∧
    (s.Hears b → x.mon.parked = false → s.BerthStep (.stPhyLbRun .harbour b) b (fun y =>
      y = { x.settled with st := { x.st with want := some (none, 2) } }) ∧ s.BerthStep (.stPhyLbRun .tug b) b (fun y => y = x.settled)) ∧
    (s.Hears b → x.mon.parked = false → c ≠ 0 → c ≠ 4 → c ≠ 9 → s.BerthStep (.monThresholdWriteIgnored b c low v) b (fun y =>
      y.mon = { x.mon with evt := x.mon.evt ||| 0x2000 } ∧ y.id.cntDiscarded = (satInc x.id.cntDiscarded).1 ∧ y.stg = x.stg ∧
      y = { x.settled with mon := y.mon, id := y.id, evOut := y.evOut })) ∧
    (s.Hears b → x.mon.parked = false → s.BerthStep (.monThresholdWriteIgnored b 0 false v) b (fun y =>
      y = { x.settled with stg := { x.stg with monThr := x.stg.monThr.set 0 (BitVec.ofNat 10 (fld v 0 10)) } })) ∧
    (seqOk table = true → s.Gives (.seqEntryWrite q table) (fun t => t = { s with quays := s.quays.set q { s.quays[q] with
      seqHeld := some (table.map (· &&& 0x00FF03FF#32)) } })) ∧
    (seqOk table = false → s.Stands (.seqEntryWrite q table)) ∧
    s.Gives (.vinWinWrite q time v) (fun t => t = { s with quays := s.quays.set q { s.quays[q] with vinHeld := t.quays[q].vinHeld } } ∧
      t.quays[q].vinHeld.isSome = true ∧
      (time = true → (t.quays[q].vinHeld.getD (0, 0)).1 = (s.quays[q].vinHeld.getD (s.quays[q].vinWin, s.quays[q].vinTime)).1) ∧
      (time = false → (t.quays[q].vinHeld.getD (0, 0)).2 = (s.quays[q].vinHeld.getD (s.quays[q].vinWin, s.quays[q].vinTime)).2))

/-- R94 to R96, R98, R101 and R506. -/
def Obligations.CommitChecked : Prop :=
  ∀ (s : State) (b : BerthId) (w : Writer) (v : Word),
    let x := s.berths[b]
    let cw := CommitWord.ofWord v
    let plain := x.id.tug = none ∨ s.runsBp b = true
    (s.Hears b → x.mon.parked = false → plain → (w = .harbour → s.hasTug b = false) → (x.commitReason s.tideCount cw).isSome = true →
      s.BerthStep (.commit w b v) b (fun y => y.id.last = 3 ∧ y.id.reason = (x.commitReason s.tideCount cw).getD 0 ∧
        y.id.cntRefused = (satInc x.id.cntRefused).1 ∧ y.id.pend = x.id.pend ∧ y = { x.settled with id := y.id, evOut := y.evOut })) ∧
    (s.Hears b → x.mon.parked = false → plain → (w = .harbour → s.hasTug b = false) → x.commitReason s.tideCount cw = none →
      s.BerthStep (.commit w b v) b (fun y => y = { x.settled with id := { x.id with last := 1, discarded := false, reason := 0, pend := x.id.pend ++ [.commit { word := cw, epoch := x.id.epoch, staged := x.stg, events := [], post := none, tel := {} }] } })) ∧
    (fld v 8 2 = 3 → x.commitReason s.tideCount cw = some 0xB) ∧
    (fld v 8 2 = 0 → x.id.tokenRx.current = false → x.commitReason s.tideCount cw = some 1) ∧
    (fld v 8 2 = 1 → x.id.tokenTx.current = true → x.id.tokenTx.matchesArg x.id.commitArg = false → x.commitReason s.tideCount cw = some 2) ∧
    (fld v 8 2 = 2 → x.id.grantTide = none → x.commitReason s.tideCount cw = some 3) ∧
    (s.hasTug b = true → s.Stands (.commit .harbour b v)) ∧
    exec (.registerWrite w b 0x020 v) s = exec (.commit w b v) s

/-- R103, R104, R130, R134, R140, R145, R148, R154 and R320. -/
def Obligations.BerthProgramTimers : Prop :=
  ∀ (s : State) (b : BerthId) (at_ d : Stamp) (c : FifoCmd) (k : BitVec 16),
    let x := s.berths[b]
    let bp := s.runsBp b
    let done (st : Status) (body : List Byte) (y : Berth) : Prop := y = { x.settled with
      pol := { x.settled.pol with fifo := x.pol.fifo.drop 1, owed := x.pol.owed ++
        [.resp { origin := c.origin, code := c.code, status := st, body := body, result := false }] } }
    let hrMsg (z : FifoCmd) : Prop := z.kind = .message 5 .sop 0 false false 0 0 []
    let others (y : Berth) : Prop := y.pol.fifo = x.pol.fifo.filter (fun (z : FifoCmd) => decide (z ≠ c))
    let noReset : Prop := x.pol.fifo.any Berth.FifoCmd.isHardReset = false
    (bp = true → x.pol.fifo.find? Berth.FifoCmd.isHardReset = some c → hrMsg c → x.pol.cur = none → x.phy.hrCount ≠ 3 →
      s.BerthStep (.commandFifoStart b) b (fun y => others y ∧
        y = { x.settled with pol := { x.settled.pol with fifo := y.pol.fifo, cur := some c, hrDue := true } })) ∧
    (bp = true → x.pol.fifo.find? Berth.FifoCmd.isHardReset = some c → hrMsg c → x.phy.hrCount = 3 → s.BerthStep (.commandFifoStart b) b (fun y =>
      others y ∧ y = { x.settled with pol := { x.settled.pol with fifo := y.pol.fifo, owed := x.pol.owed ++
        [.resp { origin := c.origin, code := c.code, status := .notPermitted, result := false }] } })) ∧
    (bp = true → noReset → x.pol.fifo.head? = some c → c.kind = .swap 3 0 → s.BerthStep (.commandFifoStart b) b (done .badArg [])) ∧
    (bp = true → noReset → x.pol.cur = none → x.pol.fifo.head? = some c → c.kind = .exitMode → x.id.amsActive = false → x.id.hrActive = false →
      x.pol.modeNow = none → s.BerthStep (.commandFifoStart b) b (done .ok [])) ∧
    (x.pol.fifo.head? = some c → s.BerthStep (.commandFifoTimeout b) b (fun y =>
      y.pol.fifo = x.pol.fifo.filter (fun z => decide (c.due < z.due)) ∧
      y.pol.owed = x.pol.owed ++ (x.pol.fifo.filter (fun z => decide (z.due ≤ c.due))).map (fun z =>
        .resp { origin := z.origin, code := z.code, status := .timeout, result := false }) ∧
      y = { x.settled with pol := { x.settled.pol with fifo := y.pol.fifo, owed := y.pol.owed } })) ∧
    (x.pol.windows.any (fun w => w.id = k) = true → s.BerthStep (.decisionWindowEnd b k) b (fun y =>
      y.pol.windows = x.pol.windows.filter (fun w => w.id ≠ k) ∧ y.pol.stored.length = x.pol.stored.length + 1 ∧
      y.pol.stored.take x.pol.stored.length = x.pol.stored ∧ y.pol.oldIds.length = x.pol.oldIds.length + 1 ∧
      y = { x.settled with pol := { x.settled.pol with windows := y.pol.windows, stored := y.pol.stored, oldIds := y.pol.oldIds } })) ∧
    (s.Quiet b at_ → s.BerthStep (.decisionLapse b at_) b (fun y => y = { x.settled with
      pol := { x.settled.pol with stored := x.pol.stored.filter (fun z => decide (at_ < z.lapses)) } })) ∧
    (x.tm.reserve = some d → s.BerthStep (.reservationExpiry b) b (fun y => y = { x.settled with
      tm := { x.tm with reserve := none }, pol := { x.settled.pol with reserved := none } })) ∧
    (bp = true → x.id.grantRec.getLsbD 3 = true → x.id.amsActive = false → x.id.hrActive = false → x.id.powerSource = true →
      x.cc.state = .attachedSrc → x.pol.caps ≠ [] → x.pol.capsAt + ms 100 ≤ s.tb → s.BerthStep (.offerChangeCapabilities b) b (fun y =>
        y = { x.settled with pol := { x.settled.pol with capsDue := true } })) ∧
    (bp = true → x.tm.epr = some d → x.id.eprMode = true → x.id.powerSource = true → s.BerthStep (.eprKeepaliveTimeout b) b (fun y =>
      y = { x.settled with tm := { x.tm with epr := none }, pol := { x.settled.pol with hrDue := true }, tmr := { x.tmr with exp := x.tmr.exp ||| 0x200 } })) ∧
    (bp = false → x.tm.epr = some d → x.id.eprMode = true → x.id.powerSource = true → x.attached = true → x.phy.hrCount ≠ 3 →
      s.BerthStep (.eprKeepaliveTimeout b) b (fun y => y = { x.settled with
        tm := { x.tm with epr := none }, id := { x.id with pend := x.id.pend ++ [.hardReset] }, phy := { x.phy with hrPending := true }, tmr := { x.tmr with exp := x.tmr.exp ||| 0x200 } })) ∧
    (bp = true → x.tm.epr = some d → x.id.eprMode = true → x.id.powerSource = false → s.BerthStep (.sinkEprKeepalive b) b (fun y =>
      y.tm.epr = some (d + ms x.pol.eprSnkKa) ∧ y.pol.todo.length = x.pol.todo.length + 1 ∧
      y = { x.settled with tm := { x.tm with epr := y.tm.epr }, pol := { x.settled.pol with todo := y.pol.todo }, tmr := { x.tmr with exp := x.tmr.exp ||| 0x200 } })) ∧
    (bp = true → x.tm.grace = some d → x.pol.share = none → s.BerthStep (.emergencyGraceExpiry b) b (fun y =>
      y = { x.settled with tm := { x.tm with grace := none } })) ∧
    (bp = true → x.tm.hold = some d → x.pol.share = none → s.BerthStep (.emergencyHoldToHr b) b (fun y =>
      y = { x.settled with tm := { x.tm with hold := none }, pol := { x.settled.pol with holdDue := false } })) ∧
    (bp = true → x.tm.hold = some d → x.pol.share.getD x.contractMax < x.contractMax → s.BerthStep (.emergencyHoldToHr b) b (fun y =>
      y = { x.settled with tm := { x.tm with hold := none }, pol := { x.settled.pol with hrDue := true, holdDue := false } })) ∧
    (bp = false → s.BerthStep (.commandFifoStart b) b (fun y => y = x.settled) ∧ s.BerthStep (.offerChangeCapabilities b) b (fun y => y = x.settled) ∧
      s.BerthStep (.sinkEprKeepalive b) b (fun y => y = x.settled) ∧
      s.BerthStep (.emergencyGraceExpiry b) b (fun y => y = x.settled) ∧ s.BerthStep (.emergencyHoldToHr b) b (fun y => y = x.settled))

/-- R155, R156, R160, R161, R166, R167, R169, R172 and R175. -/
def Obligations.SwapsAndModes : Prop :=
  ∀ (s : State) (b : BerthId) (at_ d : Stamp) (vbr n m : Nat) (c cu : FifoCmd),
    let x := s.berths[b]
    let bp := s.runsBp b
    let hl := s.quays[State.quayOf b].hless
    let vin := s.quays[State.quayOf b].vinOk
    let failed (y : Berth) : Prop := y.cc.state = .errorRecovery ∧ y.mux.phase = .idle ∧ y.id.contract = none ∧ y.cc.vconnOn = false ∧
      y.path.state ≠ .srcOn ∧ y.path.state ≠ .snkOn ∧ y.stg = x.stg ∧ y.mux.cnt[(2 : Fin 3)] = (satInc x.mux.cnt[(2 : Fin 3)]).1
    (x.tm.swap = some d → x.mux.phase = .prSrcWait → x.attached = true → s.BerthStep (.psSourceOnExpiry b) b failed) ∧
    (x.tm.swap = some d → x.mux.phase = .prSnkWait → x.attached = true → s.BerthStep (.psSourceOffExpiry b) b failed) ∧
    (x.tm.swap = some d → x.mux.phase = .vcWait → s.BerthStep (.vconnSourceTimeout b) b (fun y => y.mux.phase = .vcWait ∧ y.tm.swap = none ∧
      y.pol.hrDue = true ∧ y.mux.cnt[(2 : Fin 3)] = (satInc x.mux.cnt[(2 : Fin 3)]).1 ∧ y.mux.evt = x.mux.evt ||| 0x10 ∧
      y.pol.cur = none ∧ y.pol.fifo = x.pol.fifo ∧ y.id = x.id ∧ y.cc = x.cc ∧ y.path = x.path ∧ y.reg = x.reg ∧ y.phy = x.phy ∧ y.stg = x.stg)) ∧
    (x.mux.phase = .idle → s.BerthStep (.psSourceOnExpiry b) b (fun y => y = x.settled) ∧
      s.BerthStep (.psSourceOffExpiry b) b (fun y => y = x.settled) ∧ s.BerthStep (.vconnSourceTimeout b) b (fun y => y = x.settled)) ∧
    (s.Quiet b at_ → x.mux.phase = .frsArmed → s.BerthStep (.frsSignalQualified b at_) b (fun y => y.mux.phase = .frsDetected ∧ y.mux.frsDetected = true ∧
      y.mux.stamp0 = BitVec.ofNat 32 at_ ∧ y.mux.signalEnd = false ∧ y.id = { x.id with expectLoss := true } ∧ y.path.state ≠ .snkOn ∧
      y.phy = x.phy ∧ y.reg = x.reg ∧ y.stg = x.stg ∧ y.cc.state = x.cc.state)) ∧
    (s.Quiet b at_ → x.mux.phase = .frsDetected → x.mux.signalEnd = false → x.cc.state = .attachedSnk → s.BerthStep (.frsSignalTooLong b at_) b (fun y =>
      y.cc.state = x.ofRole hl ∧ y.mux.phase = .idle ∧ y.id.contract = none ∧ y.id.expectLoss = false ∧ y.cc.vconnOn = false ∧ y.stg = x.stg)) ∧
    (s.Quiet b at_ → x.mux.phase = .frsDetected → x.mux.signalEnd = true → x.mon.ch[(0 : Fin 10)].loNow = true → x.path.state = .off →
      x.reg.cbLatch = false → vin = true → 4750 ≤ vbr → vbr ≤ 5500 → s.BerthStep (.frsSourceTurnOn b at_ vbr) b (fun y =>
        y.path.state = .srcOn ∧ y.path.ilimOver = some (BitVec.ofNat 10 (fld x.mux.frsCfg 2 10)) ∧ y.mux.phase = .frsSourcing ∧
        y.mux.sourceOn = true ∧ y.mux.stamp1 = BitVec.ofNat 32 at_ ∧ y.mux.cnt[(0 : Fin 3)] = (satInc x.mux.cnt[(0 : Fin 3)]).1 ∧
        y.id = x.id ∧ y.phy = x.phy ∧ y.reg = x.reg ∧ y.stg = x.stg ∧ y.cc.state = x.cc.state)) ∧
    (s.Quiet b at_ → x.mux.phase = .frsDetected → x.mux.signalEnd = true → x.mon.ch[(0 : Fin 10)].loNow = true → x.path.state = .off →
      vin = false → s.BerthStep (.frsSourceTurnOn b at_ vbr) b (fun y => y = { x.settled with
        mux := { x.mux with evt := x.mux.evt ||| 8 }, id := { x.id with pend := x.id.pend ++ [.hwErrorRecovery] } })) ∧
    (bp = true → x.tm.swapStart = some d → s.BerthStep (.swapSourceStartExpiry b) b (fun y => y = { x.settled with
      tm := { x.tm with swapStart := none }, pol := { x.settled.pol with capsDue := true } })) ∧
    (bp = true → x.tm.swapRetry = some d → x.pol.cur = some cu → cu.kind = .swap n m → s.BerthStep (.swapRetryAfterWait b) b (fun y =>
      y.pol.todo.length = x.pol.todo.length + 1 ∧ y = { x.settled with tm := { x.tm with swapRetry := none }, pol := { x.settled.pol with todo := y.pol.todo } })) ∧
    (bp = true → x.tm.vdm = some d → x.pol.ask = some .host → x.pol.cur = none → x.id.amsActive = false → x.pol.todo = [] →
      s.BerthStep (.vdmResponseTimeout b) b (fun y => y = { x.settled with tm := { x.tm with vdm := none }, pol := { x.settled.pol with ask := none, vdmSent := none, vdmTries := 0 } })) ∧
    (bp = true → x.tm.vdmBusy = some d → x.pol.vdmSent.isSome = true → s.BerthStep (.vdmBusyResend b) b (fun y =>
      y.pol.todo.length = x.pol.todo.length + 1 ∧ y = { x.settled with tm := { x.tm with vdmBusy := none }, pol := { x.settled.pol with todo := y.pol.todo } })) ∧
    (bp = true → x.id.amsActive = false → x.id.hrActive = false → x.id.contract.isSome = true → x.pol.cableAsked = true →
      x.id.dataDfp = true → (s.policyOf b).mode ≠ [] → x.pol.discDue = true → x.pol.discStep = 0 → s.BerthStep (.discoveryStart b) b (fun y =>
        y.pol.discStep = 1 ∧ y.pol.discDue = false ∧ y.pol.svids = [] ∧ y.pol.modes = [] ∧ y = { x.settled with pol := y.pol, tm := y.tm })) ∧
    (bp = false → s.BerthStep (.discoveryStart b) b (fun y => y = x.settled) ∧ s.BerthStep (.swapSourceStartExpiry b) b (fun y => y = x.settled) ∧
      s.BerthStep (.swapRetryAfterWait b) b (fun y => y = x.settled) ∧ s.BerthStep (.vdmBusyResend b) b (fun y => y = x.settled))

/-- R183 to R198 with Tables 6.2 and 6.4. -/
def Obligations.PathCloses : Prop :=
  ∀ (s : State) (b : BerthId) (at_ d : Stamp) (vbr : Nat) (q : QuayId) (c : BerthId) (hit : Stamp) (segs : List LimSeg),
    let x := s.berths[b]
    let quay := s.quays[State.quayOf b]
    let timer := (segs.foldl (Berth.faultSeg x.tflt) (x.path.flt, x.path.fltAt, none)).2.2
    let faulted (k : Cause) (t : Stamp) (y : Berth) : Prop :=
      y.faults.any (fun f => f.stamp = t && (f.cause = k || f.also.getLsbD (k.code - 1))) = true ∧ y.stg = x.stg ∧ y.id.epoch = x.id.epoch ∧
      y.phy.fifo = x.phy.fifo
    let sameButQuay (t : State) : Prop := t = { s with quays := t.quays, berths := t.berths, nextId := t.nextId } ∧
      (State.quayOf c ≠ q → t.berths[c] = s.berths[c])
    (s.Quiet b at_ → x.path.state = .off → x.path.closeCase = some .attach → x.cc.state = .attachedSrc → x.vbcAbove08 = false → quay.vinOk = true →
      4750 ≤ vbr → vbr ≤ 5500 → x.reg.cbLatch = false → s.BerthStep (.sourcePathClose b at_ vbr) b (fun y =>
        y.path.state = .srcRamp ∧ y.path.closeCase = none ∧ y.tm.path = some (at_ + ms (fld x.path.cfg 8 6)) ∧
        y = { x.settled with path := y.path, tm := y.tm, cc := y.cc, mon := y.mon })) ∧
    (s.Quiet b at_ → quay.vinOk = false ∨ vbr < 4750 ∨ 5500 < vbr ∨ x.reg.cbLatch = true →
      s.BerthStep (.sourcePathClose b at_ vbr) b (fun y => y = x.settled)) ∧
    (s.Quiet b at_ → x.path.state = .srcRamp → s.BerthStep (.rampComplete b at_) b (fun y => y = { x.settled with
      path := { x.path with state := .srcOn, flt := 0, fltAt := at_ }, tm := { x.tm with path := none } })) ∧
    (s.Quiet b at_ → x.path.state ≠ .srcRamp → s.BerthStep (.rampComplete b at_) b (fun y => y = { x.settled with
      path := { x.path with flt := 0, fltAt := at_ } })) ∧
    (x.mux.phase = .idle → x.tm.path = some d → x.path.state = .srcRamp → s.BerthStep (.inrushTimeout b) b (fun y => y.path.state = .tripped ∧
      y.path.evt.getLsbD 3 = true ∧ y.path.cnt[(1 : Fin 5)] = (satInc x.path.cnt[(1 : Fin 5)]).1 ∧ faulted .limitTimeout d y)) ∧
    (s.Quiet b at_ → (x.path.state = .srcRamp ∨ x.path.state = .srcOn) → x.mux.phase = .idle → x.fastAvail = true →
      s.BerthStep (.fastTrip b at_) b (fun y =>
        y.path.state = .tripped ∧ y.path.evt.getLsbD 0 = true ∧ y.path.cnt[(0 : Fin 5)] = (satInc x.path.cnt[(0 : Fin 5)]).1 ∧
        faulted .fastTrip at_ y)) ∧
    (s.Quiet b at_ → x.path.state ≠ .srcRamp → x.path.state ≠ .srcOn → x.path.brokeAt ≠ some at_ →
      s.BerthStep (.fastTrip b at_) b (fun y => y = x.settled)) ∧
    (s.Quiet b at_ → x.path.state ≠ .srcOn → x.path.state ≠ .snkOn → x.path.brokeAt = some at_ → x.mux.phase = .idle →
      s.BerthStep (.faultTimerExpiry b at_ segs) b (fun y => faulted .limitTimeout at_ y ∧ y.path = x.path ∧ y.reg = x.reg)) ∧
    (s.Quiet b at_ → (x.path.state = .srcOn ∨ x.path.state = .snkOn) → timer = none → s.BerthStep (.faultTimerExpiry b at_ segs) b (fun y =>
      y = { x.settled with path := { x.path with flt := y.path.flt, fltAt := at_, limiting := y.path.limiting } })) ∧
    (s.Quiet b at_ → x.mux.phase = .idle → (x.path.state = .srcOn ∨ x.path.state = .snkOn) → timer = some hit →
      s.BerthStep (.faultTimerExpiry b at_ segs) b (fun y =>
        y.path.state = .tripped ∧ y.path.evt.getLsbD 1 = true ∧ y.path.cnt[(1 : Fin 5)] = (satInc x.path.cnt[(1 : Fin 5)]).1 ∧
        faulted .limitTimeout hit y)) ∧
    (s.Quiet b at_ → x.path.state = .snkOn → s.BerthStep (.sinkReverseCurrent b at_) b (fun y => y.path.state = .off ∧ y.path.evt.getLsbD 9 = true ∧
      y.path.cnt[(4 : Fin 5)] = (satInc x.path.cnt[(4 : Fin 5)]).1 ∧ y.pol = { x.settled.pol with hrDue := true } ∧
      y = { x.settled with path := y.path, tm := y.tm, mon := y.mon, pol := y.pol, id := { x.id with protActed := true }, evOut := y.evOut })) ∧
    (s.Quiet b at_ → x.path.state = .snkOn → s.BerthStep (.sinkOverVoltage b at_) b (fun y => y.path.state = .off ∧ y.path.evt.getLsbD 10 = true ∧
      y.pol = { x.settled.pol with hrDue := true } ∧
      y = { x.settled with path := y.path, tm := y.tm, mon := y.mon, pol := y.pol, id := { x.id with protActed := true } })) ∧
    (s.Quiet b at_ → q = State.quayOf b → x.path.state = .srcRamp → s.Gives (.vinUvFilter q at_) (fun t => sameButQuay t ∧ t.quays[q].vinOk = false ∧
      t.berths[b].path.state = .off ∧ t.berths[b].path.restart = true ∧ t.berths[b].tm.ins = some (at_ + ms (fld x.cc.time0 16 8)) ∧
      t.berths[b].stg = x.stg ∧ t.berths[b].phy = x.phy ∧ t.berths[b].reg = x.reg)) ∧
    (s.Quiet b at_ → x.mux.phase = .idle → q = State.quayOf b → x.path.state = .srcOn → s.Gives (.vinUvSustained q at_) (fun t =>
      sameButQuay t ∧ t.quays[q].vinOk = false ∧ t.berths[b].path.state ≠ .srcOn ∧ t.berths[b].path.evt.getLsbD 4 = true ∧
      faulted .vinUv at_ t.berths[b])) ∧
    (s.Quiet b at_ → x.mux.phase = .idle → q = State.quayOf b → x.path.state = .srcOn → s.Gives (.vinOv q at_) (fun t =>
      sameButQuay t ∧ t.quays[q].vinOk = false ∧ t.berths[b].path.state ≠ .srcOn ∧ t.berths[b].path.evt.getLsbD 5 = true ∧
      t.berths[b].reg.ov = true ∧ faulted .vinOv at_ t.berths[b])) ∧
    s.Gives (.vinOkRestored q at_) (fun t => sameButQuay t ∧ t.quays[q].vinOk = true ∧ t.quays[q].uvNow = false ∧ t.quays[q].ovNow = false ∧
      (State.quayOf c = q → t.berths[c].reg.ov = false))

/-- R188, R194, R199 to R201 and Table 6.6. -/
def Obligations.PathTests : Prop :=
  ∀ (s : State) (b : BerthId) (at_ d : Stamp) (r : PassReadings) (g : GateReadings),
    let x := s.berths[b]
    let host := s.testWanted 5 b.val 0 = true
    let found := Berth.judgePass x.path.testOk x.path.testIdle r
    (s.Quiet b at_ → x.path.state = .discharge → x.id.hrActive = false → s.BerthStep (.dischargeComplete b at_) b (fun y =>
      y = { x.settled with path := { x.path with state := .off }, tm := { x.tm with path := none }, mon := { x.mon with ded := x.mon.ded.set 4 false } })) ∧
    (s.Quiet b at_ → x.path.state ≠ .discharge → s.BerthStep (.dischargeComplete b at_) b (fun y => y = x.settled)) ∧
    (x.tm.path = some d → x.path.state = .discharge → s.BerthStep (.dischargeTimeout b) b (fun y => y.path.state = .test ∧
      y.path.testKind = 1 ∧ y.path.testBusy = true ∧ y.path.evt = x.path.evt ||| 0x80 ∧ y.id = x.id ∧ y.cc = x.cc ∧ y.phy = x.phy ∧ y.stg = x.stg)) ∧
    (s.Quiet b at_ → x.path.state = .test → ¬ host → x.path.testClear = false → x.path.testRel = false → x.path.testBack = false →
      x.vbcAbove08 = false → found = .clear →
      s.BerthStep (.passTransistorTestDone b at_ r) b (fun y => y.path.state = .off ∧ y.path.testResult = 1 ∧ y.path.testBusy = false ∧
        y.path.srcShort = false ∧ y.path.snkShort = false ∧ y.cc = x.cc ∧ y.id = x.id ∧ y.faults = x.faults ∧ y.stg = x.stg)) ∧
    (s.Quiet b at_ → x.path.state = .test → ¬ host → x.path.testClear = false → found = .srcShort →
      s.BerthStep (.passTransistorTestDone b at_ r) b (fun y => y.path.state = .locked ∧ y.path.lock = .passFetShort ∧ y.path.testResult = 2 ∧
        y.path.srcShort = true ∧ y.faults.any (fun f => f.stamp = at_ && (f.cause = .passFetShort || f.also.getLsbD 4)) = true ∧ y.stg = x.stg)) ∧
    (s.Quiet b at_ → x.path.state = .test → ¬ host → x.path.testClear = false → found = .snkShort →
      s.BerthStep (.passTransistorTestDone b at_ r) b (fun y => y.path.state = .locked ∧ y.path.lock = .sinkFetShort ∧ y.path.testResult = 2 ∧
        y.path.snkShort = true ∧ y.faults.any (fun f => f.stamp = at_ && (f.cause = .sinkFetShort || f.also.getLsbD 5)) = true ∧ y.stg = x.stg)) ∧
    (s.Quiet b at_ → x.path.testBusy = true → x.path.testKind = 2 → x.path.state = .tripped → Berth.gatePass g = true →
      s.Gives (.gateDriveTestDone b at_ g) (fun t =>
        t.berths[b].path.offset = BitVec.ofInt 8 g.offset ∧ t.berths[b].path.testResult = 1 ∧ t.berths[b].path.testBusy = false ∧
        (x.path.thirdTrip = false → t.berths[b].path.state = .off ∧ t.berths[b].id.pend = x.id.pend ++ [.hwErrorRecovery]) ∧
        (x.path.thirdTrip = true → t.berths[b].path.state = .locked ∧ t.berths[b].path.lock = .tripLimit) ∧
        t.berths[b].stg = x.stg ∧ t.mem = s.mem ∧ t.quays = s.quays ∧ t.tugs = s.tugs)) ∧
    (s.Quiet b at_ → x.path.testBusy = true → x.path.testKind = 2 → x.path.state = .tripped → Berth.gatePass g = false →
      s.Gives (.gateDriveTestDone b at_ g) (fun t =>
        t.berths[b].path.state = .locked ∧ t.berths[b].path.lock = (if x.path.thirdTrip then .tripLimit else .testFail) ∧
        t.berths[b].path.testResult = 2 ∧ t.berths[b].stg = x.stg ∧ t.mem = s.mem ∧ t.quays = s.quays ∧ t.tugs = s.tugs)) ∧
    (x.path.testBusy = false → s.Stands (.gateDriveTestDone b at_ g)) ∧
    (x.path.state ≠ .test → s.Stands (.passTransistorTestDone b at_ r)) ∧
    (g.srcGate < 1000 → g.snkGate < 1000 → g.pumpOk = true → -50 ≤ g.offset → g.offset ≤ 50 → Berth.gatePass g = true) ∧
    (r.srcGate < 1000 → r.snkGate < 1000 → 4180 ≤ r.vbr2 → r.vbr2 ≤ 4620 → r.vbr1 + 200 < r.vbc1 → r.snks1 < 800 →
      Berth.judgePass true false r = .clear)

/-- R214 to R237 with Tables 7.3 and 7.7. -/
def Obligations.RegulatorEvents : Prop :=
  ∀ (s : State) (b : BerthId) (at_ d : Stamp) (vbr : Nat),
    let x := s.berths[b]
    let still := x.reg.state = .idle ∨ x.reg.state = .crowbar ∨ x.reg.state = .latched
    let faulted (k : Cause) (y : Berth) : Prop := y.faults.any (fun f => f.stamp = at_ && (f.cause = k || f.also.getLsbD (k.code - 1))) = true ∧ y.stg = x.stg ∧
      y.path.state ≠ .srcOn ∧ y.path.state ≠ .srcRamp ∧ y.id.epoch = x.id.epoch
    let settledIn (r : RegState) (y : Berth) : Prop := y = { x.settled with
      reg := { x.reg with state := r, vrefNow := x.reg.target, slewing := false, evt := x.reg.evt ||| 2 } }
    (s.Quiet b at_ → x.reg.state = .softstart → s.BerthStep (.softstartComplete b at_) b (settledIn .regulate)) ∧
    (s.Quiet b at_ → x.reg.state = .slew → s.BerthStep (.slewComplete b at_) b (settledIn .regulate)) ∧
    (s.Quiet b at_ → x.reg.state ≠ .softstart → s.BerthStep (.softstartComplete b at_) b (fun y => y = x.settled)) ∧
    (s.Quiet b at_ → x.reg.state = .softstart ∨ x.reg.state = .regulate ∨ x.reg.state = .slew → s.BerthStep (.holdEngage b at_) b (fun y =>
      y = { x.settled with reg := { x.reg with state := .hold, holdNow := true, evt := x.reg.evt ||| 4 } })) ∧
    (s.Quiet b at_ → x.reg.state = .hold → s.BerthStep (.holdRelease b at_) b (fun y => y.reg.state = (if x.reg.slewing then .slew else .regulate) ∧
      y.reg.atFloor = false ∧ (x.reg.slewing = false → y.reg.vrefNow = x.reg.target) ∧ y = { x.settled with reg := y.reg })) ∧
    (s.Quiet b at_ → x.reg.state = .regulate → x.hicExhausted = false → s.BerthStep (.hiccupEntry b at_) b (fun y => y.reg.state = .hiccup ∧
      y.reg.hicCount = x.reg.hicCount + 1 ∧ y.tm.hic = some (at_ + ms (fld x.reg.prot 8 8)) ∧ y.tm.hicClear = some (at_ + ms 1000) ∧
      y.reg.cnt[(0 : Fin 4)] = (satInc x.reg.cnt[(0 : Fin 4)]).1 ∧ y = { x.settled with reg := y.reg, tm := y.tm, pol := y.pol, evOut := y.evOut })) ∧
    (s.Quiet b at_ → x.mux.phase = .idle → x.reg.state = .regulate → x.hicExhausted = true → s.BerthStep (.hiccupEntry b at_) b (fun y => y.reg.state = .latched ∧
      y.reg.evt.getLsbD 4 = true ∧ y.tm.hic = none ∧ faulted .hiccupLatch y)) ∧
    (x.tm.hic = some d → x.reg.state = .hiccup → s.BerthStep (.hiccupTimeExpiry b) b (fun y => y.reg.state = .softstart ∧ y.tm.hic = none ∧
      y.reg.vrefNow = (if x.adc.vbr < 800 then 0 else x.adc.vbr) ∧ y = { x.settled with reg := y.reg, tm := y.tm, tmr := y.tmr })) ∧
    (x.tm.hicClear = some d → s.BerthStep (.hicCountClear b) b (fun y => y = { x.settled with
      tm := { x.tm with hicClear := none }, reg := { x.reg with hicCount := 0 } })) ∧
    (40 ≤ x.reg.satTides → s.BerthStep (.integratorSaturation b) b (fun y => y = { x.settled with reg := { x.reg with evt := x.reg.evt ||| 0x800 } })) ∧
    (x.tm.settle = some d → x.pol.trans = none → s.BerthStep (.settleTimeout b) b (fun y => y = { x.settled with
      tm := { x.tm with settle := none }, tmr := { x.tmr with exp := x.tmr.exp ||| 0x800 }, reg := { x.reg with evt := x.reg.evt ||| 0x400 } })) ∧
    (s.Quiet b at_ → x.mux.phase = .idle → ¬ still → s.BerthStep (.crowbarTrip b at_) b (fun y => y.reg.state = .crowbar ∧ y.reg.cbLatch = true ∧ y.reg.cbRepair = true ∧
      y.reg.cnt[(1 : Fin 4)] = (satInc x.reg.cnt[(1 : Fin 4)]).1 ∧ faulted .ovCrowbar y)) ∧
    (s.Quiet b at_ → still → s.BerthStep (.crowbarTrip b at_) b (fun y => y = x.settled)) ∧
    (x.tm.cbCheck = some d → x.pol.clear = none → x.path.state ≠ .locked → 4750 ≤ vbr → vbr ≤ 5500 → s.BerthStep (.crowbarClearCheck b vbr) b (fun y =>
      y = { x.settled with tm := { x.tm with cbCheck := none }, reg := { x.reg with cbRepair := false } })) ∧
    (x.reg.dropout = false → x.reg.state = .regulate → s.BerthStep (.dropoutSet b) b (fun y => y.reg.dropout = true ∧
      y.reg.evt = x.reg.evt ||| 0x40 ∧ y.reg.cnt[(2 : Fin 4)] = (satInc x.reg.cnt[(2 : Fin 4)]).1 ∧ y = { x.settled with reg := y.reg, evOut := y.evOut })) ∧
    (s.Quiet b at_ → x.mux.phase = .idle → ¬ still → x.hicExhausted = false → s.BerthStep (.stageFault b at_) b (fun y => y.reg.state = .stopped ∧ y.reg.stop = some .stageFault ∧
      y.reg.fltLow = true ∧ y.reg.hicCount = x.reg.hicCount + 1 ∧ faulted .stageFlt y)) ∧
    (s.Quiet b at_ → still → x.path.brokeAt ≠ some at_ → s.BerthStep (.stageFault b at_) b (fun y => y = { x.settled with reg := { x.reg with fltLow := true } })) ∧
    (s.Quiet b at_ → x.reg.state = .stopped → x.reg.stop = some .stageFault → x.tm.hic = none → x.reg.thermal = false → x.reg.ov = false → x.reg.mode ≠ .idle → s.BerthStep (.stageFaultRelease b at_) b (fun y =>
      y.reg.state = .softstart ∧ y.reg.stop = none ∧ y.reg.fltLow = false ∧ y = { x.settled with reg := y.reg, path := y.path })) ∧
    (s.Quiet b at_ → x.reg.state = .stopped → x.reg.stop = some .stageFault → x.tm.hic = none → x.reg.thermal = true →
      s.BerthStep (.stageFaultRelease b at_) b (fun y => y.reg.state = .stopped ∧ y.reg.stop = some .thermal ∧ y.reg.fltLow = false ∧
        y = { x.settled with reg := y.reg })) ∧
    (s.Quiet b at_ → x.mux.phase = .idle → x.reg.thermal = false → ¬ still → s.BerthStep (.thermalStop b at_) b (fun y => y.reg.state = .stopped ∧ y.reg.thermal = true ∧
      (x.attached = true → y.pol.hrDue = true) ∧ faulted .thermal y)) ∧
    (s.Quiet b at_ → x.reg.state = .stopped → x.reg.stop = some .thermal → x.reg.fltLow = false → x.reg.ov = false → x.reg.mode ≠ .idle →
      s.BerthStep (.thermalRelease b at_) b (fun y => y.reg.state = .softstart ∧
        y.reg.thermal = false ∧ y = { x.settled with reg := y.reg, path := y.path, tm := { x.tm with hic := none } }))

/-- R246, R248, R252, R262, R62 and Table 2.3. -/
def Obligations.MonitorEdges : Prop :=
  ∀ (s : State) (b e : BerthId) (c : Fin 27) (n : Fin 10) (at_ d : Stamp) (lvl gp1 : Bool) (q : QuayId) (sample : Nat) (a : CapArm),
    let x := s.berths[b]
    let hl := s.quays[State.quayOf b].hless
    let m := x.mon.ch[n]
    let calm := s.tele[b].arm.any (fun (a' : CapArm) => decide (a'.trig = .edge c lvl)) = false
    let tryOff (k : Nat) : Prop := fld x.cc.cfg 0 2 ≠ 2 ∨ hl = true ∨ fld x.cc.cfg 2 2 ≠ k
    let waits := x.cc.state = .unattachedSrc ∨ x.cc.state = .unattachedSnk ∨ x.cc.state = .attachWaitSrc ∨ x.cc.state = .attachWaitSnk
    (s.Quiet b at_ → calm → x.blankedAt n true at_ = false → c.val = 2 * n.val → s.BerthStep (.comparatorEdge b c lvl at_) b (fun y =>
      y.mon.ch = x.mon.ch.set n { m with hiNow := lvl, hiSeen := m.hiSeen || lvl, hiStamp := (if lvl then BitVec.ofNat 32 at_ else m.hiStamp), cnt := (if lvl then (satInc m.cnt).1 else m.cnt) } ∧
      y.mon.evt = (if m.cfg.getLsbD (if lvl then 0 else 1) then x.mon.evt ||| BitVec.ofNat 32 (2 ^ n.val) else x.mon.evt) ∧
      y = { x.settled with mon := { x.mon with ch := y.mon.ch, evt := y.mon.evt, ovf := y.mon.ovf }, evOut := y.evOut })) ∧
    (s.Quiet b at_ → calm → x.blankedAt n false at_ = false → c.val = 2 * n.val + 1 → s.BerthStep (.comparatorEdge b c lvl at_) b (fun y =>
      y.mon.ch = x.mon.ch.set n { m with loNow := lvl, loSeen := m.loSeen || lvl, loStamp := (if lvl then BitVec.ofNat 32 at_ else m.loStamp), cnt := (if lvl then (satInc m.cnt).1 else m.cnt) } ∧
      y.mon.evt = (if m.cfg.getLsbD (if lvl then 2 else 3) then x.mon.evt ||| BitVec.ofNat 32 (2 ^ n.val) else x.mon.evt) ∧
      y = { x.settled with mon := { x.mon with ch := y.mon.ch, evt := y.mon.evt, ovf := y.mon.ovf }, evOut := y.evOut })) ∧
    (s.Quiet b at_ → calm → c.val / 2 = n.val → x.blankedAt n (decide (c.val % 2 = 0)) at_ = true → s.BerthStep (.comparatorEdge b c lvl at_) b (fun y =>
      y = { x.settled with mon := { x.mon with ch := x.mon.ch.set n { m with blanked := true } } })) ∧
    (s.Quiet b at_ → x.blankedAt n (decide (c.val % 2 = 0)) at_ = false → c.val / 2 = n.val → x.output c ≠ lvl → s.tele[b].arm = some a →
      a.trig = .edge c lvl → a.stamp = none → a.at_ ≤ at_ → s.Gives (.comparatorEdge b c lvl at_) (fun t =>
        t.tele[b] = { s.tele[b] with arm := some { a with stamp := some at_ } } ∧ t.berths[b].output c = lvl)) ∧
    (s.Quiet b at_ → calm → c.val = 21 → x.cc.isolated = false ∨ x.cc.clearing = false ∨ lvl = false → s.BerthStep (.comparatorEdge b c lvl at_) b (fun y =>
      y = { x.settled with mon := { x.mon with ded := x.mon.ded.set 1 lvl }, cc := { x.cc with ovActive := lvl, ovAt := (if lvl then at_ else x.cc.ovAt) }, tm := { x.tm with clr := (if lvl && x.cc.isolated then none else x.tm.clr) } })) ∧
    (s.Quiet b at_ → calm → c.val = 24 → lvl = true → waits → s.BerthStep (.comparatorEdge b c lvl at_) b (fun y =>
      y = { x.settled with mon := { x.mon with ded := x.mon.ded.set 4 true }, tm := { x.tm with backDet := some (x.tm.backDet.getD (at_ + ms 650)) } })) ∧
    (s.Quiet b at_ → calm → c.val = 24 → lvl = true → x.cc.state = .backFeed → s.BerthStep (.comparatorEdge b c lvl at_) b (fun y =>
      y = { x.settled with mon := { x.mon with ded := x.mon.ded.set 4 true }, tm := { x.tm with clr := none } })) ∧
    (s.Quiet b at_ → calm → c.val = 24 → lvl = false → x.cc.release = true → x.cc.state = .backFeed → s.BerthStep (.comparatorEdge b c lvl at_) b (fun y =>
      y = { x.settled with mon := { x.mon with ded := x.mon.ded.set 4 false }, tm := { x.tm with backDet := none, clr := some (at_ + ms 100) } })) ∧
    (s.Quiet b at_ → calm → c.val = 24 → lvl = false → x.cc.state = .attachWaitSrc → x.cc.debDone = true → tryOff 2 → s.BerthStep (.comparatorEdge b c lvl at_) b (fun y =>
      y.cc.state = .attachedSrc ∧ y.cc.attachAt = some at_ ∧ y.id.epoch = x.id.epoch + 1 ∧ y.tm.backDet = none ∧ y.mon.ded = x.mon.ded.set 4 false ∧
      y.reg = x.reg ∧ y.path.state = x.path.state ∧ y.stg = x.stg)) ∧
    (s.Quiet b at_ → calm → c.val = 25 → lvl = true → x.cc.state = .attachedSnk → x.id.hrActive = true → s.BerthStep (.comparatorEdge b c lvl at_) b (fun y =>
      y = { x.settled with mon := { x.mon with ded := x.mon.ded.set 5 true }, id := { x.id with hrActive := false, expectLoss := false }, tm := { x.tm with snkHr := none } })) ∧
    (s.Quiet b at_ → calm → c.val = 25 → lvl = true → x.cc.state = .attachWaitSnk → x.cc.debDone = true → tryOff 1 → s.BerthStep (.comparatorEdge b c lvl at_) b (fun y =>
      y.cc.state = .attachedSnk ∧ y.cc.attachAt = some at_ ∧ y.id.epoch = x.id.epoch + 1 ∧ y.mon.ded = x.mon.ded.set 5 true ∧
      y.reg = x.reg ∧ y.path.state = x.path.state ∧ y.stg = x.stg)) ∧
    (s.Quiet b at_ → calm → c.val = 25 → lvl = false → s.BerthStep (.comparatorEdge b c lvl at_) b (fun y =>
      y = { x.settled with mon := { x.mon with ded := x.mon.ded.set 5 false } })) ∧
    (s.Quiet b at_ → calm → 20 ≤ c.val → c ≠ 21 → c ≠ 24 → c ≠ 25 → s.BerthStep (.comparatorEdge b c lvl at_) b (fun y => y.output c = lvl ∧
      y = { x.settled with mon := { x.mon with ded := y.mon.ded } })) ∧
    (s.Quiet b at_ → x.output c = lvl → s.BerthStep (.blankingEnd b c lvl at_) b (fun y => y = { x.settled with mon := { x.mon with ch := y.mon.ch } } ∧
      (20 ≤ c.val → y = x.settled) ∧ (c.val / 2 = n.val → y.mon.ch = x.mon.ch.set n { m with blanked := true }))) ∧
    (s.Quiet b at_ → calm → x.blankedAt n (decide (c.val % 2 = 0)) at_ = false → x.output c ≠ lvl → c.val / 2 = n.val → s.BerthStep (.blankingEnd b c lvl at_) b (fun y => y.output c = lvl ∧
      y.mon.ch[n].blanked = true ∧ (c.val % 2 = 0 → lvl = true → y.mon.ch[n].hiStamp = BitVec.ofNat 32 at_) ∧
      (c.val % 2 = 1 → lvl = true → y.mon.ch[n].loStamp = BitVec.ofNat 32 at_) ∧ y.mon.ch[n].cnt = (if lvl then (satInc m.cnt).1 else m.cnt) ∧
      y = { x.settled with mon := { x.mon with ch := y.mon.ch, evt := y.mon.evt, ovf := y.mon.ovf }, evOut := y.evOut })) ∧
    (s.Quiet b at_ → x.isUnexpected c sample = true → s.BerthStep (.unexpectedEdge b c sample at_) b (fun y => y.mon.cnt = x.mon.cnt.set 0 (satInc x.mon.cnt[(0 : Fin 3)]).1 ∧
      y.mon.evt = x.mon.evt ||| 0x1000 ∧ (c ≠ 5 → c ≠ 15 → (c, 1) ∈ y.mon.wanted) ∧
      y = { x.settled with mon := { x.mon with cnt := y.mon.cnt, evt := y.mon.evt, ovf := y.mon.ovf, wanted := y.mon.wanted }, evOut := y.evOut })) ∧
    (s.Quiet b at_ → x.isUnexpected c sample = false → s.BerthStep (.unexpectedEdge b c sample at_) b (fun y => y = x.settled)) ∧
    (x.tm.gp0 = some d → s.BerthStep (.gpTimerExpiry b false) b (fun y => y = { x.settled with
      tm := { x.tm with gp0 := none }, tmr := { x.tmr with exp := x.tmr.exp ||| 0x4000 } })) ∧
    (x.tm.gp1 = some d → s.BerthStep (.gpTimerExpiry b true) b (fun y => y = { x.settled with
      tm := { x.tm with gp1 := none }, tmr := { x.tmr with exp := x.tmr.exp ||| 0x8000 } })) ∧
    ((if gp1 then x.tm.gp1 else x.tm.gp0) = none → s.BerthStep (.gpTimerExpiry b gp1) b (fun y => y = x.settled)) ∧
    (s.quays[q].vconnVq5 = false → s.Gives (.vconnSwitchover q) (fun t => t = { s with quays := s.quays.set q { s.quays[q] with vconnVq5 := true }, berths := t.berths, nextId := t.nextId } ∧
      (State.quayOf e ≠ q → t.berths[e] = s.berths[e]) ∧ (State.quayOf e = q → t.berths[e] = { s.berths[e].settled with cc := { s.berths[e].cc with evt := s.berths[e].cc.evt ||| 0x200 } }))) ∧
    (s.quays[q].vconnVq5 = true → s.Gives (.vconnSupplyReturn q) (fun t => t = { s with quays := s.quays.set q { s.quays[q] with vconnVq5 := false }, berths := t.berths, nextId := t.nextId } ∧
      (State.quayOf e ≠ q → t.berths[e] = s.berths[e]) ∧ (State.quayOf e = q → t.berths[e] = { s.berths[e].settled with cc := { s.berths[e].cc with evt := s.berths[e].cc.evt ||| 0x200 } }))) ∧
    (s.quays[q].vconnVq5 = true → s.Stands (.vconnSwitchover q)) ∧
    (s.quays[q].vconnVq5 = false → s.Stands (.vconnSupplyReturn q))

/-- R249 to R254. -/
def Obligations.ComparatorAudit : Prop :=
  ∀ (s : State) (b : BerthId) (q : QuayId) (audi : Nat) (v : CompTest) (at_ : Stamp) (n : Fin 10) (inv near a20 a80 : Bool),
    let x := s.berths[b]
    let w := s.berths[State.localBerth q v.local_]
    s.Gives (.auditPacer q) (fun t => t = { s with quays := s.quays.set q { s.quays[q] with paced := true } }) ∧
    (s.targetedTest q = none → s.quays[q].paced = false → s.Stands (.comparatorTestStart q)) ∧
    (s.targetedTest q = none → s.quays[q].paced = true → s.auditNext q 187 s.quays[q].audit = some (audi, v) → s.testable q v = false →
      s.Stands (.comparatorTestStart q)) ∧
    (s.targetedTest q = none → s.quays[q].paced = true → s.auditNext q 187 s.quays[q].audit = some (audi, v) → v.wide = false → s.testable q v = true →
      s.Gives (.comparatorTestStart q) (fun t => t.quays[q].test = s.quays[q].test ++ [v] ∧ t.quays[q].paced = false ∧
        t.quays[q].audit = (audi + 1) % 187 ∧ t.berths[State.localBerth q v.local_].mon.busy = true ∧
        t.berths[State.localBerth q v.local_].mon.resSel = BitVec.ofNat 5 v.comp.val ∧
        t = { s with quays := s.quays.set q { s.quays[q] with test := t.quays[q].test, paced := false, audit := t.quays[q].audit }, berths := s.berths.set (State.localBerth q v.local_) t.berths[State.localBerth q v.local_], nextId := t.nextId } ∧
        t.berths[State.localBerth q v.local_] = { w.settled with mon := t.berths[State.localBerth q v.local_].mon, st := t.berths[State.localBerth q v.local_].st })) ∧
    (s.quays[q].test = [v] → v.wide = false → Berth.testPass v.comp inv near a20 a80 = true → s.Gives (.comparatorTestDone q v.local_ false inv near a20 a80) (fun t =>
      t.quays[q].test = [] ∧ t.berths[State.localBerth q v.local_].mon.busy = false ∧ t.berths[State.localBerth q v.local_].mon.result = 1 ∧
      t.berths[State.localBerth q v.local_].mon.evt.getLsbD 10 = true ∧ t.berths[State.localBerth q v.local_].mon.fence = w.mon.fence ∧
      t.berths[State.localBerth q v.local_].cc = w.cc ∧ t.berths[State.localBerth q v.local_].path = w.path ∧ t.mem = s.mem)) ∧
    (s.quays[q].test = [v] → v.wide = false → Berth.testPass v.comp inv near a20 a80 = false → s.Gives (.comparatorTestDone q v.local_ false inv near a20 a80) (fun t =>
      t.quays[q].test = [] ∧ t.berths[State.localBerth q v.local_].mon.busy = false ∧ t.berths[State.localBerth q v.local_].mon.result = 2 ∧
      t.berths[State.localBerth q v.local_].mon.evt.getLsbD 11 = true ∧ t.berths[State.localBerth q v.local_].mon.cnt[(1 : Fin 3)] = (satInc w.mon.cnt[(1 : Fin 3)]).1 ∧
      t.repair.lasting = (satInc s.repair.lasting).1 ∧ (t.markOf (.comp (State.localBerth q v.local_) v.comp)).lasting = true ∧
      t.later.length = s.later.length + 1 ∧ t.berths[State.localBerth q v.local_].mon.fence = w.mon.fence ∧
      t.berths[State.localBerth q v.local_].cc = w.cc ∧ t.berths[State.localBerth q v.local_].path = w.path ∧ t.mem = s.mem)) ∧
    (s.quays[q].test = [] → s.Stands (.comparatorTestDone q v.local_ v.wide inv near a20 a80)) ∧
    (Berth.testPass v.comp inv near a20 a80 = true ↔ (inv = true ∨ near = true ∨ v.comp = 26) ∧
      (if v.comp.val < 20 ∧ v.comp.val % 2 = 1 then a20 = true ∧ a80 = false else a20 = false ∧ a80 = true)) ∧
    (x.mayPark = true → s.BerthStep (.berthPark b) b (fun y => y.mon.parked = true ∧ y.reg.state = .idle ∧
      y = { x.settled with mon := { x.mon with parked := true, parkMode := x.reg.mode }, reg := y.reg, tm := y.tm })) ∧
    (x.mayPark = false → s.BerthStep (.berthPark b) b (fun y => y = x.settled)) ∧
    (s.Quiet b at_ → x.mon.parked = true → s.BerthStep (.berthWake b at_) b (fun y =>
      y = { x.settled with mon := { x.mon with parked := false, idleTides := 0, evt := x.mon.evt ||| 0x8000, ch := y.mon.ch }, reg := y.reg, tm := y.tm, path := y.path } ∧
      (n ≠ 1 → y.mon.ch[n] = x.mon.ch[n]) ∧ y.mon.ch[n].hiNow = x.mon.ch[n].hiNow ∧ y.mon.ch[n].loNow = x.mon.ch[n].loNow ∧
      y.mon.ch[n].cnt = x.mon.ch[n].cnt ∧
      (x.mon.parkMode = .idle → y.reg = x.reg) ∧ (x.mon.parkMode = .standby → x.reg.state = .idle → y.reg.mode = .standby ∧
        (x.reg.fltLow = false → x.reg.thermal = false → x.reg.ov = false → y.reg.state = .softstart)))) ∧
    (s.Quiet b at_ → x.mon.parked = false → s.BerthStep (.berthWake b at_) b (fun y => y = x.settled))

/-- R22 to R29, R280 to R286, R446 and R452. -/
def Obligations.TugService : Prop :=
  ∀ (s : State) (b : BerthId) (t n : TugId) (why : Entry) (a slot until_ : Nat) (force : Bool) (o : Origin) (want : Option TugId),
    let x := s.berths[b]
    let k := s.tugs[t]
    let copy := blockBase t.val + s.tideCount % 2 * 0x1000
    let code := min 0x8000 (s.imageWord k.slot 0x10)
    let dat := min 0x8000 (s.imageWord k.slot 0x14)
    let restarts (w : Entry) (u : State) : Prop := u.tele[b].swap = none ∧ u.tele[b].slot = slot ∧ u.tugs = s.tugs.set t { k with mode := .empty, slot := slot, entry := some (w, true), from_ := some t } ∧
      u.mem = s.mem ∧ u.quays = s.quays ∧ u.berths[b].cc = x.cc ∧ u.berths[b].path = x.path ∧ u.berths[b].reg = x.reg ∧ u.berths[b].mon = x.mon
    (s.Hears b → s.BerthStep (.snapshotDelivery b) b (fun y => y = { x.settled with shadow := x.lat, delivered := true })) ∧
    (k.mode = .running → s.Gives (.tugSuspend t) (fun u => u = { s with tugs := s.tugs.set t u.tugs[t] } ∧
      u.tugs[t] = { k with mode := .suspended, spill := min 5 (k.spill + 1), cycle := max 9000 k.cycle, shown := u.tugs[t].shown })) ∧
    (k.mode ≠ .running → s.Stands (.tugSuspend t)) ∧
    (s.memWf → (k.mode = .moored ∨ k.mode = .suspended) → k.sealed = false → k.berth = some b → s.Gives (.mirrorSeal t) (fun u =>
      u = { s with mem := u.mem, tugs := s.tugs.set t { k with sealed := true } } ∧ u.copyValid t (s.tideCount % 2) b = true ∧
      u.copyLe t (s.tideCount % 2) 0xFF0 4 = k.mirNow.toNat ∧ u.copyLe t (s.tideCount % 2) 0xFE0 8 = s.tideCount % 2 ^ 64 ∧
      u.copyLe t (s.tideCount % 2) 0xFEC 4 = k.program.toNat ∧
      (a < copy ∨ copy + 0x1000 ≤ a → Memory.read u.mem a = Memory.read s.mem a) ∧
      (a < k.mirNow.toNat → a < 0xFE0 → Memory.read u.mem (copy + a) = Memory.read s.mem (localBase t.val + 0x8000 + a)))) ∧
    (k.sealed = true ∨ (k.mode ≠ .moored ∧ k.mode ≠ .suspended) → s.Stands (.mirrorSeal t)) ∧
    (k.entry = some (why, false) → k.berth = some b → k.mode = .empty → s.Gives (.programLoad t) (fun u =>
      u = { s with mem := u.mem, tugs := s.tugs.set t u.tugs[t] } ∧ u.tugs[t].mode = .loaded ∧ u.tugs[t].entry = some (why, false) ∧
      u.tugs[t].z = #v[BitVec.ofNat 32 b.val, 0, BitVec.ofNat 32 (State.entryCode why), 0, 0, 0, 0, 0, 0, 0, 0, 0] ∧
      u.tugs[t].user = #v[0, 0, BitVec.ofNat 32 (s.imageWord k.slot 0x24), 0] ∧ u.tugs[t].exc = #v[0, 0, BitVec.ofNat 32 (s.imageWord k.slot 0x28), 0] ∧
      u.tugs[t].pcn = BitVec.ofNat 32 (s.imageWord k.slot 0x18) &&& ~~~3#32 ∧ u.tugs[t].fl = 0 ∧ u.tugs[t].imask = 0 ∧ u.tugs[t].bank = false ∧
      u.tugs[t].berth = some b ∧ u.tugs[t].slot = k.slot ∧ u.tugs[t].fenced = k.fenced ∧
      (a < code → Memory.read u.mem (localBase t.val + a) = (s.imageBytes k.slot 0x100 code).getD a 0) ∧
      (code ≤ a → a < 0x8000 → Memory.read u.mem (localBase t.val + a) = 0) ∧
      (a < dat → Memory.read u.mem (localBase t.val + 0x8000 + a) = (s.imageBytes k.slot (0x100 + code) dat).getD a 0) ∧
      (a < localBase t.val ∨ localBase t.val + 0x10000 ≤ a → Memory.read u.mem a = Memory.read s.mem a))) ∧
    (k.entry = none ∨ k.berth = none ∨ k.mode ≠ .empty → s.Stands (.programLoad t)) ∧
    (k.mode = .loaded → k.cycle = 0 → k.berth = some b → k.slot ≠ 0 → s.Gives (.tugEntry t) (fun u => u = { s with
      tugs := s.tugs.set t { k with mode := .running, entry := none, from_ := none }, tele := s.tele.set b { s.tele[b] with slot := k.slot } })) ∧
    (s.memWf → k.mode = .loaded → k.cycle = 0 → k.berth = some b → k.slot = 0 → s.Gives (.tugEntry t) (fun u => u.tugs[t].mode = .moored ∧
      u.tugs[t].entry = none ∧ u.tugs[t].spill = 0 ∧ u.tele = s.tele.set b { s.tele[b] with slot := 0 } ∧ u.quays = s.quays ∧
      (a < exchangeBase t + 0x800 ∨ exchangeBase t + 0x1000 ≤ a → Memory.read u.mem a = Memory.read s.mem a))) ∧
    (k.mode ≠ .loaded ∨ k.cycle ≠ 0 ∨ k.berth = none → s.Stands (.tugEntry t)) ∧
    (x.id.tug = some t → k.moorHeld = true → s.tele[b].remap = none → s.tele[b].swap = some (slot, force, until_, o) →
      s.Gives (.programSwapAtMooring b) (restarts .mooring)) ∧
    (x.id.tug = some t → k.moorHeld = false → s.Stands (.programSwapAtMooring b)) ∧
    (s.tele[b].swap = some (slot, force, until_, o) → s.ticks < until_ → s.Stands (.swapDeferTimeout b)) ∧
    (s.tele[b].swap = some (slot, false, until_, o) → until_ ≤ s.ticks → s.Gives (.swapDeferTimeout b) (fun u =>
      u.tele = s.tele.set b { s.tele[b] with swap := none } ∧ u.tugs = s.tugs ∧ u.berths = s.berths ∧ u.mem = s.mem)) ∧
    (s.tele[b].swap = some (slot, true, until_, o) → until_ ≤ s.ticks → x.id.tug = some t → State.forceOk x = true →
      s.Gives (.swapDeferTimeout b) (restarts .forced)) ∧
    (s.tele[b].swap = some (slot, true, until_, o) → State.forceOk x = false → s.Stands (.swapDeferTimeout b)) ∧
    (s.tele[b].swap = none → s.Stands (.swapDeferTimeout b)) ∧
    (s.tele[b].remap = some (want, until_, none) → s.ticks < until_ → s.Stands (.remapForceTimeout b)) ∧
    (s.tele[b].remap = some (want, until_, none) → until_ ≤ s.ticks → s.remapTarget want = some n → x.id.tug = some t → n ≠ t → s.Gives (.remapForceTimeout b) (fun u =>
      u.tele[b].remap = none ∧ u.berths[b].id.tug = some n ∧ u.tugs[n].berth = some b ∧ u.tugs[n].entry = some (.remap, true) ∧ u.tugs[n].from_ = some t ∧
      u.tugs[t].berth = none ∧ u.tugs[t].mode = .testing ∧ u.berths[b].cc = x.cc ∧ u.berths[b].path = x.path ∧ u.mem = s.mem)) ∧
    (s.tele[b].remap = some (want, until_, none) → until_ ≤ s.ticks → s.remapTarget want = none → s.Gives (.remapForceTimeout b) (fun u =>
      u = { s with tele := s.tele.set b { s.tele[b] with remap := none } }))

/-- R26, R444, R447, Table 16.2 and Table 16.3. -/
def Obligations.TugOverruns : Prop :=
  ∀ (s : State) (b : BerthId) (t n : TugId) (pass : Bool),
    let x := s.berths[b]
    let k := s.tugs[t]
    (k.mode = .suspended → k.spill = 5 → k.berth = some b → x.id.tug = some t → s.freeTug = some n → s.Gives (.tideOverrun t) (fun u =>
      u.berths[b].id.tug = some n ∧ u.tugs[n].berth = some b ∧ u.tugs[n].entry = some (.fault, true) ∧ u.tugs[n].from_ = some t ∧
      u.tugs[t].berth = none ∧ u.tugs[t].mode = .testing ∧ u.devOut.length = s.devOut.length + 1 ∧ u.mem = s.mem ∧ u.quays = s.quays ∧
      u.berths[b].cc = x.cc ∧ u.berths[b].path = x.path ∧ u.berths[b].reg = x.reg ∧ u.berths[b].mon = x.mon)) ∧
    (k.mode = .suspended → k.spill = 5 → k.berth = some b → x.id.tug = some t → s.freeTug = none → s.Gives (.tideOverrun t) (fun u =>
      u.berths = s.berths ∧ u.tugs = s.tugs.set t { k with mode := .testing, spill := 0, inPlace := true } ∧
      u.devOut.length = s.devOut.length + 1 ∧ u.mem = s.mem ∧ u.quays = s.quays)) ∧
    (k.mode ≠ .suspended ∨ k.spill ≠ 5 ∨ k.berth = none → s.Stands (.tideOverrun t)) ∧
    (k.mode ≠ .testing → s.Stands (.tugCoreTestDone t pass)) ∧
    (k.mode = .testing → k.inPlace = false → s.testWanted 1 t.val 0 = true → s.Gives (.tugCoreTestDone t true) (fun u =>
      u.tugs[t].mode = .empty ∧ u.repair.lasting = s.repair.lasting ∧ u.berths = s.berths ∧ u.quays = s.quays ∧ u.mem = s.mem)) ∧
    (k.mode = .testing → s.Gives (.tugCoreTestDone t false) (fun u => u.tugs[t].mode = .testing ∧ u.tugs[t].inPlace = false ∧
      u.repair.lasting = (satInc s.repair.lasting).1 ∧ (u.markOf (.tug t)).lasting = true ∧ u.later.length = s.later.length + 1 ∧
      u.berths = s.berths ∧ u.quays = s.quays ∧ u.mem = s.mem))

/-- R21 with Table 1.4, R26, R30, R33, R286. -/
def Obligations.TideAdvances : Prop :=
  ∀ (s : State) (b : BerthId) (t : TugId) (inp : TideInput),
    let x := s.berths[b]
    let k := s.tugs[t]
    let n := s.advance.harbourTide inp
    let y := State.commitBerth (n.env b) n.now (State.latchBerth (n.env b) n.now (n.calBerth b false inp.berths[b]) (n.calBerth b true inp.berths[b]) x)
    let quiet := s.later = [] ∧ s.roundPhase < 39 ∧ s.ticks ≠ 0 ∧ s.epochDue = false ∧ s.roundDue = false
    let alone := (List.finRange 52).all (fun (i : TugId) => decide (s.tugs[i].berth ≠ some b ∧ s.tugs[i].mode ≠ .halted)) = true
    let others := (List.finRange 52).all (fun (i : TugId) => decide (i ≠ t → s.tugs[i].mode ≠ .halted ∧ (s.tugs[i].berth.isNone ∨ s.tugs[i].berth ≠ k.berth))) = true
    (s.ticking = false → s.Stands (.tideBoundary inp)) ∧
    (s.ticking = true → s.ticks ≠ 0 → s.epochDue = false → s.roundDue = false → s.epochWant = false → s.Gives (.tideBoundary inp) (fun u =>
      u.tideCount = (s.tideCount + 1) % 2 ^ 48 ∧ u.roundPhase = (s.roundPhase + 1) % 40 ∧ u.ticks = s.ticks + 1 ∧ u.retained.rtc = s.retained.rtc + 25)) ∧
    (s.ticking = true → s.ticks = 0 → s.Gives (.tideBoundary inp) (fun u =>
      u.tideCount = s.tideCount ∧ u.roundPhase = s.roundPhase ∧ u.ticks = 1 ∧ u.epochDue = false ∧ u.roundDue = false)) ∧
    (s.ticking = true → s.ticks ≠ 0 → s.epochDue = true → s.Gives (.tideBoundary inp) (fun u =>
      u.tideCount = 0 ∧ u.roundPhase = 0 ∧ u.ticks = s.ticks + 1 ∧ u.epochDue = false ∧ u.roundDue = false)) ∧
    (s.ticking = true → s.ticks ≠ 0 → s.epochDue = false → s.epochWant = false → s.roundDue = true → s.Gives (.tideBoundary inp) (fun u =>
      u.tideCount = (s.tideCount + 1) % 2 ^ 48 ∧ u.roundPhase = 0 ∧ u.roundDue = false)) ∧
    (s.ticking = true → s.ticks ≠ 0 → s.epochWant = true → s.follower = false → s.roundPhase = 39 → s.later = [] → s.Gives (.tideBoundary inp) (fun u =>
      u.tideCount = 0 ∧ u.roundPhase = 0 ∧ u.epochWant = false ∧ u.tideOut = some 2000)) ∧
    (s.ticking = true → quiet → alone → s.quays[State.quayOf b].vinHeld = none → s.quays[State.quayOf b].up = true → s.quays[State.quayOf b].hless = false → s.tele[b].reset = none →
      s.Gives (.tideBoundary inp) (fun u => u.berths[b].cc = y.cc ∧ u.berths[b].phy = y.phy ∧ u.berths[b].path = y.path ∧ u.berths[b].reg = y.reg ∧
        u.berths[b].mon = y.mon ∧ u.berths[b].mux = y.mux ∧ u.berths[b].tm = y.tm ∧ u.berths[b].lat = { y.lat with capWptr := u.berths[b].lat.capWptr } ∧ u.berths[b].stg = y.stg ∧
        u.berths[b].id.pend = y.id.pend ∧ u.berths[b].shadow = x.shadow)) ∧
    (s.ticking = true → quiet → alone → s.quays[State.quayOf b].up = false → s.tele[b].reset = none →
      s.Gives (.tideBoundary inp) (fun u => u.berths[b].cc = x.cc ∧ u.berths[b].phy = x.phy ∧ u.berths[b].path = x.path ∧ u.berths[b].reg = x.reg ∧
        u.berths[b].mon = x.mon ∧ u.berths[b].mux = x.mux ∧ u.berths[b].tm = x.tm ∧ u.berths[b].lat = { x.lat with capWptr := u.berths[b].lat.capWptr } ∧ u.berths[b].id.pend = x.id.pend)) ∧
    (s.ticking = true → quiet → others → k.slot ≠ 0 → (k.mode = .moored ∨ (k.mode = .suspended ∧ k.spill ≠ 5)) → s.Gives (.tideBoundary inp) (fun u =>
      u.tugs[t] = { k with mode := .running, cycle := 0, sealed := false, mirNow := k.mirlen, mflag := u.tugs[t].mflag, moorHeld := u.tugs[t].moorHeld })) ∧
    (s.ticking = true → quiet → others → k.mode = .suspended → k.spill = 5 → s.Gives (.tideBoundary inp) (fun u =>
      u.tugs[t].mode = .suspended ∧ u.tugs[t].spill = 5 ∧ u.tugs[t].sealed = false)) ∧
    (s.ticking = true → quiet → others → k.mode = .moored → k.slot ≠ 0 → k.berth = some b → k.mflag = true → s.quays[State.quayOf b].up = false →
      s.Gives (.tideBoundary inp) (fun u => u.tugs[t].mflag = false ∧ u.tugs[t].moorHeld = State.moorHolds x))

/-- R30, R138 to R145. -/
def Obligations.RoundsAndGrants : Prop :=
  ∀ (s : State) (b : BerthId) (t : TugId) (r : ReqRec),
    let x := s.berths[b]
    let counted := s.counts b && s.alloc.terms[b].live
    (s.roundPhase ≠ 0 → s.Stands (.allocationRoundStart)) ∧
    (s.roundPhase = 0 → s.Gives (.allocationRoundStart) (fun u => u.alloc.sampled = true ∧ u.alloc.bEff = s.bEffOf ∧ u.alloc.tides = 0 ∧ u.alloc.delivery = 0 ∧
      u.berths[b].pol.posted = none ∧ (x.pol.posted = some r → s.counts b = true → (b, r) ∈ u.alloc.requests) ∧
      (x.pol.posted = none ∨ s.counts b = false → u.alloc.requests.any (fun (z : BerthId × ReqRec) => z.1 = b) = false) ∧
      u.berths[b].cc = x.cc ∧ u.berths[b].phy = x.phy ∧ u.berths[b].path = x.path ∧ u.berths[b].reg = x.reg ∧ u.tideCount = s.tideCount)) ∧
    (s.alloc.sampled = false ∨ s.roundPhase ≠ 0 ∨ s.alloc.tides = 0 → s.Stands (.grantCommit)) ∧
    (s.alloc.sampled = true → s.roundPhase = 0 → s.alloc.tides ≠ 0 → s.Gives (.grantCommit) (fun u =>
      u.alloc.grantSeq = s.alloc.grantSeq + 1 ∧ u.alloc.grantTide = s.tideCount ∧ u.alloc.requests = [] ∧ u.alloc.sampled = false ∧ u.tideCount = s.tideCount ∧
      (counted = true → u.berths[b].id.grantSeq = s.alloc.grantSeq + 1 ∧ u.berths[b].id.grantTide = some s.tideCount ∧ u.berths[b].id.grantRec.getLsbD 0 = true ∧
        (x.id.tug = some t → u.tugs[t].grantPend = true)) ∧
      (counted = false → u.berths[b].id.grantRec = 0 ∧ u.berths[b].id.grantTide = none ∧ u.berths[b].id.grantSeq = x.id.grantSeq) ∧
      (counted = true → (s.alloc.requests = [(b, r)]) → r.power ≤ s.alloc.terms[b].cB → u.berths[b].id.grantRec.getLsbD 1 = true ∧ u.berths[b].id.grantRec.getLsbD 2 = true ∧
        u.berths[b].id.grantRec.toNat / 65536 = r.reqSeq.toNat) ∧
      u.berths[b].cc = x.cc ∧ u.berths[b].path = x.path ∧ u.berths[b].reg = x.reg ∧ u.berths[b].mon = x.mon))

/-- R32 to R34, R42 to R45, R392, R453 to R456. -/
def Obligations.Gangways : Prop :=
  ∀ (s : State) (b : BerthId) (q : QuayId) (t : TugId) (lane : Fin 4) (o w v : Nat) (at_ : Stamp),
    let k := s.quays[q]
    let x := s.berths[b]
    let late : Option BerthId := some b
    let onlyQuay (u : State) : Prop := u = { s with quays := s.quays.set q u.quays[q] }
    s.Gives (.gangwayFrameDiscard q lane none) (fun u => onlyQuay u ∧ u.quays[q].crcCount = (satInc k.crcCount).1 ∧
      (k.removed.getLsbD lane = false → u.quays[q].laneWant.any (fun (z : Fin 4 × Nat) => z.1 = lane) = true) ∧
      (k.removed.getLsbD lane = true ∨ k.laneWant.any (fun (z : Fin 4 × Nat) => z.1 = lane) = true → u.quays[q].laneWant = k.laneWant) ∧
      u.quays[q] = { k with crcCount := u.quays[q].crcCount, laneWant := u.quays[q].laneWant }) ∧
    (State.quayOf b = q → s.Gives (.gangwayFrameDiscard q lane late) (fun u => u.quays[q].crcCount = (satInc k.crcCount).1 ∧
      u.berths[b].id = { x.id with lateCommit := true } ∧ u.berths[b].path = x.path ∧ u.berths[b].reg = x.reg ∧ u.berths[b].stg = x.stg)) ∧
    (k.up = true → k.hless = false → s.Gives (.tideStrobeMissed q) (fun u => u = { s with
      quays := s.quays.set q { k with missed := (if k.missedAt + 1 = s.ticks then k.missed + 1 else 1), missedAt := s.ticks } })) ∧
    (k.hless = true ∨ k.up = false → s.Stands (.tideStrobeMissed q)) ∧
    (k.hless = true ∨ k.up = false ∨ k.missed < 5 → s.Stands (.harbourLessEntry q at_)) ∧
    (k.hless = false → k.up = true → 5 ≤ k.missed → s.Gives (.harbourLessEntry q at_) (fun u => u.quays[q].hless = true ∧ u.quays[q].hlessAt = at_ ∧
      u.quays[q].trained = false ∧ u.mem = s.mem ∧ (State.quayOf b = q → x.cc.state = .unattachedSnk → x.cc.release = true → fld x.cc.cfg 0 2 ≠ 1 → u.berths[b].cc.state = .unattachedSrc) ∧
      (State.quayOf b = q → x.id.tug = some t → u.tugs[t].mode = .empty) ∧ (State.quayOf b ≠ q → u.berths[b] = s.berths[b]))) ∧
    (k.hless = true → k.gwFenced = false → k.trained = false → s.Gives (.gangwayRetrainAttempt q true) (fun u => onlyQuay u ∧ u.quays[q].trained = true ∧
      u.quays[q].hless = true ∧ (k.removed.getLsbD lane = false → u.quays[q].laneWant.any (fun (z : Fin 4 × Nat) => z.1 = lane) = true))) ∧
    (k.hless = true → k.gwFenced = false → k.trained = false → k.gwResets = [] → s.Gives (.gangwayRetrainAttempt q false) (fun u => onlyQuay u ∧
      u.quays[q] = { k with gwResets := [s.now] })) ∧
    (k.hless = true → k.gwFenced = false → k.trained = false → k.gwResets = List.replicate 8 s.now → s.Gives (.gangwayRetrainAttempt q false) (fun u =>
      u.quays[q].gwFenced = true ∧ u.quays[q].hless = true ∧ u.berths = s.berths ∧ u.mem = s.mem)) ∧
    (k.hless = false ∨ k.gwFenced = true ∨ k.trained = true → s.Stands (.gangwayRetrainAttempt q true) ∧ s.Stands (.gangwayRetrainAttempt q false)) ∧
    (k.hless = true → k.trained = true → k.gwFenced = false → k.laneTest = none → k.laneWant = [] → s.roundPhase = 0 → s.Gives (.harbourLessRelease q at_) (fun u =>
      u.quays[q].hless = false ∧ u.quays[q].trained = false ∧ u.quays[q].missed = 0 ∧ u.mem = s.mem ∧
      u.devOut.any (fun (z : EvBody × Nat) => z.1.isFault) = true ∧
      (State.quayOf b = q → (List.finRange 48).all (fun (c : BerthId) => decide (c ≠ b → s.berths[c].id.tug ≠ some t)) = true → x.id.tug = some t → u.tugs[t].mode = .empty ∧ u.tugs[t].entry = some (.release, false)) ∧
      (State.quayOf b = q → x.path.state = .srcOn → u.berths[b].path.state = .srcOn))) ∧
    (k.hless = false ∨ k.trained = false ∨ k.gwFenced = true ∨ k.laneWant ≠ [] ∨ s.roundPhase ≠ 0 → s.Stands (.harbourLessRelease q at_)) ∧
    (k.retrain = true → k.hless = false → k.gwFenced = false → k.posted = [] → k.gwBy = none → s.testWanted 2 q.val 0 = false → s.Gives (.gangwayRetrainComplete q) (fun u =>
      onlyQuay u ∧ u.quays[q] = { k with retrain := false })) ∧
    (k.retrain = false ∨ k.hless = true ∨ k.gwFenced = true → s.Stands (.gangwayRetrainComplete q)) ∧
    (k.laneTest = none → k.laneWant = [(lane, o)] → s.Gives (.laneTestStart q) (fun u => onlyQuay u ∧ u.quays[q] = { k with laneTest := some (lane, o), laneWant := [] })) ∧
    (k.laneTest.isSome = true ∨ k.laneWant = [] → s.Stands (.laneTestStart q)) ∧
    (k.laneTest = none → s.Stands (.laneTestDone q true) ∧ s.Stands (.laneTestDone q false)) ∧
    (k.laneTest = some (lane, o) → s.Gives (.laneTestDone q false) (fun u => u.quays[q] = { k with laneTest := none } ∧ u.repair.lasting = (satInc s.repair.lasting).1 ∧
      (u.markOf (.lane q lane)).lasting = true ∧ u.later.length = s.later.length + 1 ∧ u.berths = s.berths ∧ u.mem = s.mem)) ∧
    (k.laneTest = some (lane, 0) → s.Gives (.laneTestDone q true) (fun u => u.quays[q] = { k with laneTest := none } ∧ u.repair.lasting = s.repair.lasting ∧
      u.later = s.later ∧ u.berths = s.berths ∧ u.mem = s.mem)) ∧
    (s.follower = false → s.Stands (.tideInPulse w v)) ∧
    (s.follower = false → s.Stands (.tideSyncLost)) ∧
    (s.follower = true → s.Gives (.tideSyncLost) (fun u => u = { s with syncLost := true, tideLocked := false })) ∧
    (s.follower = true → s.tideLocked = true → 24975 ≤ v → v ≤ 25025 → s.Gives (.tideInPulse 200 v) (fun u => u = { s with tideOut := some 200 })) ∧
    (s.follower = true → s.tideLocked = true → 100 ≤ w → w ≤ 350 → (v < 24975 ∨ 25025 < v) → s.Gives (.tideInPulse w v) (fun u => u = { s with syncLost := true, tideLocked := false })) ∧
    (s.follower = true → 450 ≤ w → w ≤ 900 → (s.tideLocked = false ∨ (24975 ≤ v ∧ v ≤ 25025)) → s.Gives (.tideInPulse w v) (fun u => u = { s with tideLocked := true, tideOut := some 600, roundDue := true })) ∧
    (s.follower = true → 1500 ≤ w → w ≤ 3000 → (s.tideLocked = false ∨ (24975 ≤ v ∧ v ≤ 25025)) → s.Gives (.tideInPulse w v) (fun u => u = { s with tideLocked := true, tideOut := some 2000, epochDue := true })) ∧
    (s.follower = true → s.tideLocked = false → w ≤ 350 → s.Stands (.tideInPulse w v)) ∧
    (w < 100 ∨ (350 < w ∧ w < 450) ∨ (900 < w ∧ w < 1500) ∨ 3000 < w → s.Stands (.tideInPulse w v))

/-- R31, over the two commands whose request requires a future Tide (Table 11.13). -/
def Obligations.FutureTides : Prop :=
  ∀ (s : State) (o : Origin) (p : List Byte) (m : Nat),
    let past (n : Nat) : Prop := ¬ (1 ≤ ((n : Int) - (s.tideCount : Int)) % 281474976710656 ∧ ((n : Int) - (s.tideCount : Int)) % 281474976710656 < 140737488355328)
    let set := s.takeCmd o 0x0103 p
    let snap := s.takeCmd o 0x0502 p
    (s.future m = true ↔ ¬ past m) ∧
    (set.2 = some p → p.length = 16 → leAt p 14 2 = 0 → leAt p 8 6 ≠ 0 → past (leAt p 8 6) →
      s.Gives (.devSetTime o p) (fun t => t = set.1.respond o 0x0103 .badArg)) ∧
    (set.2 = some p → p.length = 16 → leAt p 14 2 = 0 → leAt p 8 6 ≠ 0 → ¬ past (leAt p 8 6) → set.1.pathBars o 0x0103 p = false →
      s.Gives (.devSetTime o p) (fun t => t = { set.1 with later := set.1.later ++ [.setTime (leAt p 8 6) (leAt p 0 8) o] })) ∧
    (snap.2 = some p → p.length = 8 → leAt p 6 2 = 0 → leAt p 0 6 ≠ 0 → s.snapOf (leAt p 0 6) = none → past (leAt p 0 6) →
      s.Gives (.telSnapshot o p) (fun t => t = snap.1.respond o 0x0502 .badArg)) ∧
    (snap.2 = some p → p.length = 8 → leAt p 6 2 = 0 → leAt p 0 6 ≠ 0 → s.snapOf (leAt p 0 6) = none → ¬ past (leAt p 0 6) → snap.1.pathBars o 0x0502 p = false →
      s.Gives (.telSnapshot o p) (fun t => t.snaps.any (fun (z : Snap) => z.tide = leAt p 0 6 && !z.taken && z.pendingFor.contains o) = true ∨
        t = snap.1.respond o 0x0502 .noResource))

/-- R291 to R297 and R301. -/
def Obligations.LinkReceive : Prop :=
  ∀ (s : State) (l : LinkId) (at_ : Stamp) (seq : BitVec 4) (fence inv : Bool) (tag : BitVec 12) (code count : BitVec 16) (p : List Byte) (what : Received) (crc : Word) (n m : Nat),
    let x := s.link l
    let o : Origin := { path := .link l, tag := tag.toNat }
    let onlyLink (u : State) : Prop := u = { s with links := s.links.set (linkIdx l) (u.link l) }
    let retrains (u : State) : Prop := (u.link l).state = .retrain ∧ (u.link l).retrains = x.retrains + 1 ∧ (u.link l).locked = false ∧
      u.tags = s.tags ∧ u.berths = s.berths ∧ u.quays = s.quays ∧ u.mem = s.mem ∧ u.events = s.events ∧ u.link (otherLink l) = s.link (otherLink l)
    let room := s.freeTags ≠ 0 ∧ s.tagUsed tag.toNat = false
    (x.state ≠ .up → s.Stands (.cmdFrameReceived l at_ seq fence tag code p) ∧ s.Stands (.frameError l what at_) ∧ s.Stands (.ackFrameReceived l at_ count) ∧
      s.Stands (.nakReceived l at_ count) ∧ s.Stands (.pollReceived l at_ count)) ∧
    (x.state = .up → seq.toNat = x.rxCount.toNat % 16 → room → code.toNat ∈ commandCodes → s.Gives (.cmdFrameReceived l at_ seq fence tag code p) (fun u =>
      u.tags = s.tags ++ [{ origin := o, code := code.toNat, fence := fence, order := s.nextOrder, payload := some p, at_ := at_, level := s.pilot.level }] ∧
      (u.link l).rxCount = x.rxCount + 1 ∧ (u.link l).nakDue = false ∧ u.berths = s.berths ∧ u.quays = s.quays ∧ u.mem = s.mem ∧ u.jobs = s.jobs)) ∧
    (x.state = .up → seq.toNat = x.rxCount.toNat % 16 → room → code.toNat ∉ commandCodes → s.Gives (.cmdFrameReceived l at_ seq fence tag code p) (fun u =>
      (u.link l).queue = x.queue ++ [{ origin := o, code := code.toNat, payload := leBytes 4 Status.unknownCmd.code }] ∧ u.berths = s.berths ∧ u.mem = s.mem)) ∧
    (x.state = .up → seq.toNat = x.rxCount.toNat % 16 → s.freeTags ≠ 0 → s.tagUsed tag.toNat = true → s.Gives (.cmdFrameReceived l at_ seq fence tag code p) (fun u =>
      onlyLink u ∧ (u.link l).queue = x.queue ++ [{ origin := o, code := code.toNat, reject := true, payload := leBytes 4 Status.tagInUse.code }] ∧ (u.link l).rxCount = x.rxCount + 1)) ∧
    (x.state = .up → seq.toNat ≠ x.rxCount.toNat % 16 → s.Gives (.cmdFrameReceived l at_ seq fence tag code p) (fun u => onlyLink u ∧
      u.link l = (if x.nakDue then x else { x with nakDue := true, line := x.line ++ [{ type := .ack, flags := 0x10, code := x.rxCount }] }))) ∧
    (x.state = .up → what.isError = true → x.errs = [] → s.Gives (.frameError l what at_) (fun u => onlyLink u ∧ (u.link l).frameErrs = x.frameErrs + 1 ∧ (u.link l).errs = [at_] ∧
      (u.link l).state = .up ∧ (u.link l).nakDue = true)) ∧
    (x.state = .up → what.isError = true → 7 ≤ (x.errs.filter (fun (t : Stamp) => decide (at_ < t + ms 1))).length → s.Gives (.frameError l what at_) retrains) ∧
    (x.state = .up → what.isError = false → what.isForeign = true → s.Gives (.frameError l what at_) (fun u => onlyLink u ∧
      u.link l = { x with discards := x.discards + 1 })) ∧
    (x.state = .up → what.isError = false → what.isForeign = false → s.Stands (.frameError l what at_)) ∧
    (Received.isError (.checked p crc) = true ↔ crc ≠ crc32 p) ∧ (Received.isError .violation = true) ∧
    (Received.isError (.counted n m) = true ↔ n ≠ 12 + m ∨ 512 < m) ∧ (Received.isError (.endless n) = true ↔ 530 ≤ n) ∧
    (x.state = .up → x.acked count = none → s.Gives (.ackFrameReceived l at_ count) (fun u => onlyLink u ∧ u.link l = { x with badCounts := x.badCounts + 1 }) ∧
      s.Gives (.nakReceived l at_ count) (fun u => onlyLink u ∧ u.link l = { x with badCounts := x.badCounts + 1 }) ∧
      s.Gives (.pollReceived l at_ count) (fun u => onlyLink u ∧ u.link l = { x with badCounts := x.badCounts + 1, line := x.line ++ [{ type := .ack, code := x.rxCount }] })) ∧
    (x.state = .up → x.polls = 0 → x.unacked.length = 1 → x.unacked.all (fun (h : Held) => !h.frame.isRsp) = true → x.acked count = some 1 → s.Gives (.ackFrameReceived l at_ count) (fun u =>
      u.link l = { x with unacked := [] } ∧ u.tags = s.tags ∧ u.berths = s.berths ∧ u.mem = s.mem)) ∧
    (x.state = .up → x.acked count = some 0 → s.Gives (.nakReceived l at_ count) (fun u =>
      u.link l = { x with polls := 0, line := x.line ++ x.unacked.map (fun (h : Held) => h.frame), resent := x.resent + BitVec.ofNat 32 x.unacked.length } ∧
      u.tags = s.tags ∧ u.berths = s.berths ∧ u.mem = s.mem)) ∧
    (x.state = .up → x.polls = 0 → x.acked count = some 0 → s.Gives (.pollReceived l at_ count) (fun u =>
      u.link l = { x with line := x.line ++ [{ type := .ack, code := x.rxCount }] } ∧ u.tags = s.tags ∧ u.berths = s.berths ∧ u.mem = s.mem)) ∧
    (x.state = .up → s.Gives (.retrainFrameReceived l at_ count false fence) retrains) ∧
    (x.state = .up → s.Stands (.retrainFrameReceived l at_ count true fence)) ∧
    ((x.state = .down ∨ x.state = .retrain) → x.locked = false → x.fresh = true → s.Gives (.retrainFrameReceived l at_ count true fence) (fun u => onlyLink u ∧
      u.link l = { x with ready := true })) ∧
    (x.state = .down → x.locked = true → x.fresh = true → x.resetBy = none → s.Gives (.retrainFrameReceived l at_ count true fence) (fun u => (u.link l).state = .up ∧
      (u.link l).fresh = false ∧ (u.link l).sendCount = 0 ∧ (u.link l).rxCount = 0 ∧ (u.link l).fails = 0 ∧ u.tags = s.tags ∧ u.berths = s.berths ∧ u.mem = s.mem)) ∧
    (x.state = .off → s.Stands (.retrainFrameReceived l at_ count true fence) ∧ s.Stands (.trainingLock l at_ inv)) ∧
    ((x.state = .down ∨ x.state = .retrain) → x.ready = false → s.Gives (.trainingLock l at_ inv) (fun u => onlyLink u ∧ (u.link l).locked = true ∧ (u.link l).inverted = inv ∧
      (u.link l).state = x.state ∧ (u.link l).line = x.line ++ [{ type := .retrain, flags := (if x.fresh then 0x60 else 0x20), code := (if x.fresh then 0 else x.rxCount) }]))

/-- R293 to R299, R305, R308 and Table 11.3. -/
def Obligations.LinkSend : Prop :=
  ∀ (s : State) (l : LinkId) (at_ : Stamp) (r : Response) (rest : List Response) (ev : EvEntry) (o : Origin),
    let x := s.link l
    let onlyLink (u : State) : Prop := u = { s with links := s.links.set (linkIdx l) (u.link l) }
    let retrains (u : State) : Prop := (u.link l).state = .retrain ∧ (u.link l).retrains = x.retrains + 1 ∧ (u.link l).locked = false ∧
      u.tags = s.tags ∧ u.berths = s.berths ∧ u.quays = s.quays ∧ u.mem = s.mem ∧ u.events = s.events ∧ u.link (otherLink l) = s.link (otherLink l)
    (x.state ≠ .up ∨ x.unacked = [] → s.Stands (.ackWaitTimeout l at_)) ∧
    (x.state = .up → x.unacked ≠ [] → x.polls < 4 → s.Gives (.ackWaitTimeout l at_) (fun u => onlyLink u ∧
      u.link l = { x with polls := x.polls + 1, line := x.line ++ [{ type := .ack, flags := 0x08, code := x.rxCount }] })) ∧
    (x.state = .up → x.unacked ≠ [] → 4 ≤ x.polls → s.Gives (.ackWaitTimeout l at_) retrains) ∧
    (x.state = .up → x.nakDue = true → s.Gives (.nakRepeat l) (fun u => onlyLink u ∧ u.link l = { x with line := x.line ++ [{ type := .ack, flags := 0x10, code := x.rxCount }] })) ∧
    (x.state ≠ .up ∨ x.nakDue = false → s.Stands (.nakRepeat l)) ∧
    (x.state = .up → s.Gives (.idleFrameTimer l) (fun u => onlyLink u ∧ u.link l = { x with line := x.line ++ [{ type := .idle, code := x.rxCount }] })) ∧
    (x.state = .up → s.Gives (.linkSilenceTimeout l at_) retrains) ∧
    (x.state ≠ .up → s.Stands (.idleFrameTimer l) ∧ s.Stands (.linkSilenceTimeout l at_)) ∧
    (x.state = .retrain → x.fails < 2 → s.Gives (.retrainTimeout l) (fun u => onlyLink u ∧ (u.link l).state = .retrain ∧ (u.link l).fails = x.fails + 1 ∧ (u.link l).locked = false)) ∧
    (x.state = .retrain → 2 ≤ x.fails → s.Gives (.retrainTimeout l) (fun u => (u.link l).state = .lost ∧ (u.link l).unacked = [] ∧ (u.link l).fresh = true ∧
      (u.link l).fails = 0 ∧ u.tags = s.tags ∧ u.berths = s.berths ∧ u.quays = s.quays ∧ u.mem = s.mem)) ∧
    (x.state ≠ .retrain → s.Stands (.retrainTimeout l)) ∧
    (256 ≤ s.freeTags → s.Stands (.creditTimer)) ∧
    (s.freeTags < 256 → x.state = .up → s.Gives (.creditTimer) (fun u => (u.link l).line = x.line ++ [{ type := .credit, code := BitVec.ofNat 16 s.freeTags }] ∧ u.tags = s.tags)) ∧
    (x.state = .up → x.queue = r :: rest → x.unacked.length < 16 → s.Gives (.responseSend l at_) (fun u => onlyLink u ∧ (u.link l).queue = rest ∧
      (u.link l).sendCount = x.sendCount + 1 ∧ (u.link l).unacked.length = x.unacked.length + 1 ∧
      (u.link l).line = x.line ++ [{ type := .rsp, flags := (if r.reject then 4 else 0), seq := BitVec.ofNat 4 (x.sendCount.toNat % 16), tag := r.origin.tag, code := BitVec.ofNat 16 r.code, payload := r.payload }])) ∧
    (x.queue = [] ∨ x.state = .retrain → s.Stands (.responseSend l at_)) ∧
    (s.retained.held = [] → s.retained.heldSlots = [] → s.events = [ev] → ev.sent = none → ev.berth = 9 → s.tele[9].stale = false → s.eventLink = l → x.state = .up → (s.link (otherLink l)).unacked = [] →
      x.unacked = [] → laterSeq ev.seq ((s.ackSeq + s.evWindow) % 2 ^ 32) = false → s.Gives (.eventSend at_) (fun u => u.events = [{ ev with sent := some l }] ∧
        (u.link l).line = x.line ++ [{ type := .evt, seq := BitVec.ofNat 4 (x.sendCount.toNat % 16), code := BitVec.ofNat 16 ev.body.code, payload := ev.payload }] ∧
        (u.link l).unacked.length = 1 ∧ (u.link l).sendCount = x.sendCount + 1 ∧ u.berths = s.berths ∧ u.tags = s.tags)) ∧
    (s.retained.held = [] → s.retained.heldSlots = [] → s.events = [] → s.Stands (.eventSend at_)) ∧
    (s.resetDue = none → s.Stands (.devResetResponseTimeout)) ∧
    (s.resetDue = some o → s.Gives (.devResetResponseTimeout) (fun u => u.resetCause = 7 ∧ u.tags = [] ∧ u.phase ≠ .running))

/-- Tables 11.3 and 11.13, R305, R387 to R393. -/
def Obligations.DeviceCommands : Prop :=
  ∀ (s : State) (o : Origin) (p : List Byte) (q : QuayId) (b : BerthId) (e : Nat),
    let id := s.begun o 0x0101 p
    let gs := s.begun o 0x0102 p
    let rs := s.begun o 0x0104 p
    let cf := s.begun o 0x0105 p
    let lc := s.begun o 0x0A01 p
    let ls := s.begun o 0x0A02 p
    let ea := s.begun o 0x0A03 p
    (s.starts o 0x0101 p = true → p = [] → s.Gives (.devIdentify o p) (fun t => t = id.respond o 0x0101 .ok id.identifyBody ∧ id.identifyBody.length = 244)) ∧
    (s.starts o 0x0102 p = true → p = [] → s.Gives (.devGetState o p) (fun t => t = { gs with syncLost := false }.respond o 0x0102 .ok gs.stateBody ∧ gs.stateBody.length = 48)) ∧
    (s.starts o 0x0104 p = true → p = [0, 0, 0x53, 0x52] → s.Gives (.devReset o p) (fun t => t = { rs with resetDue := some o }.respond o 0x0104 .ok)) ∧
    (s.starts o 0x0104 p = true → p = [1, BitVec.ofNat 8 q.val, 0x53, 0x52] → q.val < s.quaysOn → s.quays[q].fenced = false → s.quays[q].released = true →
      s.Gives (.devReset o p) (fun t => t.quays[q].up = false ∧ t.quays[q].released = false ∧ t.quays[q].why = some 7 ∧ t.quays[q].resetBy = some (o, 0x0104) ∧
        (State.quayOf b = q → t.berths[b].cc.state = .held ∧ t.berths[b].path.state ≠ .srcOn ∧ t.berths[b].path.state ≠ .snkOn ∧ t.berths[b].id.contract = none ∧
          t.berths[b].mon.fence = s.berths[b].mon.fence) ∧ (State.quayOf b ≠ q → t.berths[b] = s.berths[b]))) ∧
    (s.starts o 0x0104 p = true → p = [2, BitVec.ofNat 8 q.val, 0x53, 0x52] → q.val < s.quaysOn → s.quays[q].fenced = false → s.quays[q].gwFenced = false → s.quays[q].released = true →
      s.quays[q].gwBy = none → s.Gives (.devReset o p) (fun t => t.quays[q] = { s.quays[q] with retrain := true, trained := false, gwBy := some o, gwResets := t.quays[q].gwResets } ∧
        t.berths = s.berths ∧ t.mem = s.mem)) ∧
    (s.starts o 0x0104 p = true → p = [3, 1, 0x53, 0x52] → o.path ≠ .link .xlb → (s.link .xlb).state ≠ .off → (s.link .xlb).resetBy = none → s.Gives (.devReset o p) (fun t =>
        (t.link .xlb).state = .down ∧ (t.link .xlb).fresh = true ∧ (t.link .xlb).sendCount = 0 ∧ (t.link .xlb).rxCount = 0 ∧ (t.link .xlb).unacked = [] ∧
        (t.link .xlb).resetBy = some o ∧ t.berths = s.berths ∧ t.mem = s.mem)) ∧
    (s.starts o 0x0105 p = true → p = [0, 1, 0, 0, 1, 0, 4, 0, 1, 0, 0, 0] → s.Gives (.devConfig o p) (fun t =>
      t = { cf with later := cf.later ++ [.devConfig [(1, [1, 0, 0, 0])] o] })) ∧
    (s.starts o 0x0A01 p = true → p = [0, 0, 0, 0] → s.Gives (.linkConfig o p) (fun t => t = lc.respond o 0x0A01 .notPermitted)) ∧
    (s.starts o 0x0A01 p = true → p = [3, 1, 0, 0] → s.isUp .xla = true → s.isUp .xlb = true → s.Gives (.linkConfig o p) (fun t => t.eventLink = .xlb ∧ t.isUp .xla = true ∧
      t.isUp .xlb = true ∧ (t.link .xla).enabled = true ∧ (t.link .xlb).enabled = true ∧ t.berths = s.berths ∧ t.mem = s.mem)) ∧
    (s.starts o 0x0A01 p = true → p = [1, 0, 0, 0] → s.isUp .xla = true → s.isUp .xlb = true → o.path = .link .xla → s.Gives (.linkConfig o p) (fun t =>
      (t.link .xlb).state = .off ∧ (t.link .xlb).enabled = false ∧ (t.link .xlb).unacked = [] ∧ t.isUp .xla = true ∧ t.berths = s.berths ∧ t.mem = s.mem)) ∧
    (s.starts o 0x0A02 p = true → p = [] → s.Gives (.linkStatus o p) (fun t => t = ls.respond o 0x0A02 .ok ls.linkBody ∧ ls.linkBody.length = 36)) ∧
    (s.starts o 0x0A03 p = true → p.length = 8 → leAt p 6 2 = 0 → leAt p 4 2 = 40 → leAt p 0 4 = e → laterSeq e s.lastSent = true → s.Gives (.linkEventAck o p) (fun t =>
      t = ea.respond o 0x0A03 .badArg)) ∧
    (s.starts o 0x0A03 p = true → p.length = 8 → leAt p 6 2 = 0 → leAt p 4 2 = 40 → leAt p 0 4 = e → laterSeq e s.lastSent = false → laterSeq e s.ackSeq = true → s.Gives (.linkEventAck o p) (fun t =>
      t.ackSeq = e ∧ t.evWindow = 40 ∧ t.events = s.events.filter (fun (z : EvEntry) => z.sent.isNone || laterSeq z.seq e) ∧ t.berths = s.berths ∧ t.mem = s.mem))

/-- Tables 11.6 to 11.10 and 14.6, R75, R202, R314, R394, R395. -/
def Obligations.BerthCommands : Prop :=
  ∀ (s : State) (b : BerthId) (o : Origin) (p dat : List Byte) (id v k r f a c g t : Nat) (by_ : Option Origin),
    let x := s.berths[b]
    let usable := b.val < s.berthsOn ∧ s.isFenced b = false ∧ s.isReleased b = true ∧ s.jobs = []
    let one := leBytes 8 (2 ^ b.val)
    let runs (u : State) : Prop := u.jobs.any (fun (j : SetJob) => j.origin = o && j.left.getLsbD b) = true ∧ u.later = s.later ++ [.finish o (BitVec.ofNat 48 (2 ^ b.val))] ∧
      u.mem = s.mem ∧ u.quays = s.quays ∧ u.tugs = s.tugs
    let queued (code : Nat) (m : FifoKind) (u : State) : Prop := u.berths = s.berths.set b { x.settled with
      pol := { x.settled.pol with fifo := x.pol.fifo ++ [{ origin := o, code := code, kind := m, due := s.now + ms 2000 }] } } ∧ u.mem = s.mem ∧ u.quays = s.quays ∧ u.tugs = s.tugs
    (s.starts o 0x0201 p = true → usable → x.mon.parked = false → p = one ++ [1, 0, 0, 0] ++ leBytes 2 id ++ leBytes 2 4 ++ leBytes 4 v → id < 0x12 →
      Berth.itemFits (id, leBytes 4 v) = true → Berth.itemMask id = 0 → s.Gives (.berthConfig o p) (fun u => runs u ∧
        u.berths = s.berths.set b (x.itemWrite (id, leBytes 4 v)).settled)) ∧
    (s.starts o 0x0202 p = true → usable → p = one → s.tele[b].held = false → x.enabled = false → x.cc.state ≠ .held → x.cc.state ≠ .lockedOut →
      (s.begun o 0x0202 p).enableFits (BitVec.ofNat 48 (2 ^ b.val)) = true → s.Gives (.berthEnable o p) (fun u => runs u ∧
        u.berths = s.berths.set b { x.settled with enabled := true, id := { x.id with pend := x.id.pend ++ [.enable] } })) ∧
    (s.starts o 0x0203 p = true → usable → p = one → s.tele[b].held = false → x.enabled = true → x.cc.state ≠ .lockedOut → s.Gives (.berthDisable o p) (fun u => runs u ∧
        u.berths = s.berths.set b { x.settled with enabled := false, id := { x.id with pend := x.id.pend ++ [.disable] } })) ∧
    (s.starts o 0x0203 p = true → usable → p = one → x.cc.state = .lockedOut → s.Gives (.berthDisable o p) (fun u => u.jobs = [] ∧
        u.berths = s.berths.set b { x.settled with enabled := false })) ∧
    (s.starts o 0x0204 p = true → usable → p = one → s.tele[b].held = false → s.Gives (.berthReset o p) (fun u => u.tele[b].reset = some (some o, 1) ∧
        u.berths[b].path.state ≠ .srcOn ∧ u.berths[b].path.state ≠ .srcRamp ∧ u.berths[b].path.state ≠ .snkOn ∧ u.berths[b].cc.vconnOn = false ∧
        u.berths[b].mon.fence = x.mon.fence ∧ (x.id.tug.isSome = true → u.berths[b].id.tug = x.id.tug) ∧ u.quays = s.quays ∧ u.mem = s.mem)) ∧
    (s.starts o 0x0205 p = true → b.val < s.berthsOn → p = [BitVec.ofNat 8 b.val, 0, 0, 0] → s.Gives (.berthGetState o p) (fun u =>
        u = (s.begun o 0x0205 p).respond o 0x0205 .ok ((s.begun o 0x0205 p).berthBody b) ∧ (s.berthBody b).length = 48)) ∧
    (s.starts o 0x0206 p = true → usable → p = one ++ [2, 0, 0, 0] → x.reg.state = .latched → x.pol.clear = none → s.Gives (.berthClearLatch o p) (fun u =>
        u.berths[b].reg.state = .idle ∧ u.berths[b].pol.clear = none ∧ u.berths[b].cc = x.cc ∧ u.berths[b].path = x.path ∧ u.berths[b].phy = x.phy ∧ u.quays = s.quays ∧ u.mem = s.mem)) ∧
    (s.starts o 0x0207 p = true → usable → p = one → x.errRecTaken = true → x.cc.state ≠ .errorRecovery → s.Gives (.berthForceDetach o p) (fun u => runs u ∧
        u.berths = s.berths.set b { x.settled with id := { x.id with pend := x.id.pend ++ [.errorRecovery] } })) ∧
    (s.starts o 0x0207 p = true → usable → p = one → x.errRecTaken = false → s.Gives (.berthForceDetach o p) (fun u => u.jobs = [] ∧ u.berths = s.berths ∧ u.later = s.later)) ∧
    (s.starts o 0x0208 p = true → usable → x.st.phyFenced = false → k < 3 → r < 2 → p = [BitVec.ofNat 8 b.val, BitVec.ofNat 8 k, BitVec.ofNat 8 r, 0] →
      s.Gives (.berthRequestSwap o p) (queued 0x0208 (.swap k r))) ∧
    (s.starts o 0x0209 p = true → usable → x.st.phyFenced = false → x.attached = true → k = 2 → (f = 3 ∨ f = 4 ∨ f = 6) → a < 4 → c < 3 → g < 8 → 1 ≤ dat.length → dat.length ≤ 260 →
      p = [BitVec.ofNat 8 b.val, BitVec.ofNat 8 k, 0, BitVec.ofNat 8 f, BitVec.ofNat 8 a, BitVec.ofNat 8 c, BitVec.ofNat 8 g, 0] ++ leBytes 2 dat.length ++ [0, 0] ++ dat →
      s.Gives (.berthSendMessage o p) (queued 0x0209 (.message k .sop f (a % 2 = 1) (decide (2 ≤ a)) c g dat))) ∧
    (s.starts o 0x020A p = true → usable → 1 ≤ t → t ≤ 7 → v < 65536 → p = [BitVec.ofNat 8 b.val, 0] ++ leBytes 2 v ++ [BitVec.ofNat 8 t, 0, 0, 0] →
      s.Gives (.berthEnterMode o p) (queued 0x020A (.enterMode (BitVec.ofNat 16 v) t))) ∧
    (s.starts o 0x020B p = true → usable → p = [BitVec.ofNat 8 b.val, 0, 0, 0] → s.Gives (.berthExitMode o p) (queued 0x020B .exitMode)) ∧
    (s.tele[b].reset = some (by_, 1) → s.Gives (.berthResetDischargeEnd b) (fun u => u.berths = s.berths.set b (x.afterReset).settled ∧ u.tele[b].reset = some (by_, 2) ∧
        u.berths[b].cc.state = .held ∧ u.quays = s.quays ∧ u.tugs = s.tugs ∧ u.mem = s.mem)) ∧
    (s.tele[b].reset = some (by_, 2) → s.tele[b].resets.length < 9 → s.Gives (.berthResetRelease b) (fun u =>
        u = { s with tele := s.tele.set b { s.tele[b] with reset := some (by_, 3) } })) ∧
    (s.tele[b].reset = some (by_, 2) → 9 ≤ s.tele[b].resets.length → s.Gives (.berthResetRelease b) (fun u => u.tele[b].held = true ∧ u.tele[b].reset = none ∧
        u.berths[b].id.tug = none ∧ u.berths[b].cc = x.cc ∧ u.mem = s.mem)) ∧
    (s.tele[b].reset = none → s.Stands (.berthResetDischargeEnd b) ∧ s.Stands (.berthResetRelease b))

/-- Tables 11.11 and 11.12, R116 to R119, R128, R129, R141, R146. -/
def Obligations.PolicyAndPowerCommands : Prop :=
  ∀ (s : State) (b : BerthId) (o : Origin) (p : List Byte) (w : DecWindow),
    let x := s.berths[b]
    let ld := s.begun o 0x0301 p
    let bd := s.begun o 0x0302 p
    let dc := s.begun o 0x0303 p
    let gt := s.begun o 0x0304 p
    let sb := s.begun o 0x0401 p
    let sp := s.begun o 0x0402 p
    let ga := s.begun o 0x0403 p
    let em := s.begun o 0x0404 p
    (s.starts o 0x0301 p = true → p = [3, 0, 0, 0, 4, 0, 0, 0, 1, 2, 3, 4] → s.Gives (.policyLoad o p) (fun t =>
      t = { ld with tables := ld.tables.set 3 { s.tables[3] with loading := [1, 2, 3, 4] } }.respond o 0x0301 .ok)) ∧
    (s.starts o 0x0301 p = true → p = [3, 1, 8, 0, 4, 0, 0, 0, 1, 2, 3, 4] → s.tables[3].loading.length = 8 → s.Gives (.policyLoad o p) (fun t =>
      t = { ld with tables := ld.tables.set 3 { s.tables[3] with loading := s.tables[3].loading ++ [1, 2, 3, 4] } }.respond o 0x0301 .ok)) ∧
    (s.starts o 0x0302 p = true → p = [0, 0, 0, 0] ++ leBytes 8 (2 ^ b.val) → b.val < s.berthsOn → bd.fitsAfter (.bind 0 (BitVec.ofNat 48 (2 ^ b.val)) false o) = true →
      s.Gives (.policyBind o p) (fun t => t = ({ bd with rounds := bd.rounds ++ [.bind 0 (BitVec.ofNat 48 (2 ^ b.val)) false o] } : State).startJob o 0x0302 (BitVec.ofNat 48 (2 ^ b.val)))) ∧
    (s.starts o 0x0302 p = true → p = [0, 0, 0, 0] ++ leBytes 8 (2 ^ b.val) → b.val < s.berthsOn → bd.fitsAfter (.bind 0 (BitVec.ofNat 48 (2 ^ b.val)) false o) = false →
      s.Gives (.policyBind o p) (fun t => t = bd.respond o 0x0302 .badArg)) ∧
    (s.starts o 0x0303 p = true → p = [7, 0, 0, 0] ∨ p = [7, 0, 1, 0] → (List.finRange 48).all (fun (c : BerthId) => decide (c ≠ b → s.berths[c].pol.windows = [] ∧ s.berths[c].pol.oldIds = [])) = true →
      x.pol.windows = [w] → w.id = 7 → dc.arrival o < w.ends → s.Gives (.policyDecide o p) (fun t =>
        t = ({ dc with berths := dc.berths.set b (x.storeOutcome w (leAt p 2 1 = 0) .decided).settled, nextId := t.nextId } : State).respond o 0x0303 .ok)) ∧
    (s.starts o 0x0303 p = true → p = [7, 0, 0, 0] → (List.finRange 48).all (fun (c : BerthId) => decide (s.berths[c].pol.windows = [] ∧ (c ≠ b → s.berths[c].pol.oldIds = []))) = true →
      x.pol.oldIds = [(7, .lapsed)] → s.Gives (.policyDecide o p) (fun t => t = dc.respond o 0x0303 .superseded)) ∧
    (s.starts o 0x0303 p = true → p = [7, 0, 0, 0] → (List.finRange 48).all (fun (c : BerthId) => decide (s.berths[c].pol.windows = [] ∧ s.berths[c].pol.oldIds = [])) = true →
      s.Gives (.policyDecide o p) (fun t => t = dc.respond o 0x0303 .badArg)) ∧
    (s.starts o 0x0304 p = true → p = [0xFF, 0, 0, 0, 8, 0, 0, 0] → s.Gives (.policyGet o p) (fun t => t = gt.respond o 0x0304 .ok gt.bindingBytes ∧ gt.bindingBytes.length = 64)) ∧
    (s.starts o 0x0304 p = true → p = [0, 0, 4, 0, 8, 0, 0, 0] → s.Gives (.policyGet o p) (fun t => t = gt.respond o 0x0304 .ok ((builtinBytes.drop 4).take 8))) ∧
    (s.starts o 0x0401 p = true → p.length = 28 → State.budgetOk p = true → leAt p 2 1 = 0 → sb.fitsAfter (.budget (State.budgetWith sb.ahead.alloc.budget p) false o) = true →
      s.Gives (.powerSetBudget o p) (fun t => t = { sb with rounds := sb.rounds ++ [.budget (State.budgetWith sb.ahead.alloc.budget p) false o] })) ∧
    (s.starts o 0x0401 p = true → p.length = 28 → State.budgetOk p = true → leAt p 2 1 = 0 → sb.fitsAfter (.budget (State.budgetWith sb.ahead.alloc.budget p) false o) = false →
      s.Gives (.powerSetBudget o p) (fun t => t = sb.respond o 0x0401 .badArg)) ∧
    (s.starts o 0x0402 p = true → p = [BitVec.ofNat 8 b.val, 3, 50, 0] → b.val < s.berthsOn → sp.fitsAfter (.priority b 3 50 o) = true →
      s.Gives (.powerSetPriority o p) (fun t => t = { sp with rounds := sp.rounds ++ [.priority b 3 50 o] })) ∧
    (s.starts o 0x0402 p = true → p = [BitVec.ofNat 8 b.val, 3, 50, 0] → b.val < s.berthsOn → sp.fitsAfter (.priority b 3 50 o) = false →
      s.Gives (.powerSetPriority o p) (fun t => t = sp.respond o 0x0402 .badArg)) ∧
    (s.starts o 0x0403 p = true → p = [4, 8, 0, 0] → s.Gives (.powerGetAlloc o p) (fun t => t = ga.respond o 0x0403 .ok (ga.allocBody 4 8) ∧ (ga.allocBody 4 8).length = 40 + 20 * 8)) ∧
    (s.starts o 0x0404 p = true → p = [1, 0, 0, 0] ++ leBytes 4 100 → 100 ≤ s.bEffOf → s.Gives (.powerEmergency o p) (fun t =>
      t = { em with later := em.later ++ [.emergency true 0 100 o] }))

/-- Table 11.13, R321, R333, R338, R342 to R354, R432, R433. -/
def Obligations.TelemetryCommands : Prop :=
  ∀ (s : State) (b : BerthId) (o : Origin) (p : List Byte) (f : CapFrozen) (z : ManSlot) (a : CapArm),
    let x := s.tele[b]
    let open_ := b.val < s.berthsOn ∧ s.isFenced b = false
    let same (t : State) : Prop := t.berths = s.berths ∧ t.mem = s.mem ∧ t.quays = s.quays ∧ t.tugs = s.tugs
    (s.starts o 0x0501 p = true → p = [4, 8, 1, 0] → s.Gives (.telRead o p) (fun t => same t ∧ t.tele = s.tele ∧
      t = (s.begun o 0x0501 p).respond o 0x0501 .ok (leBytes 6 s.tideCount ++ [0, 0] ++ (List.range 8).flatMap (fun (i : Nat) => (s.begun o 0x0501 p).telRecord true (4 + i))) ∧
      ((List.range 8).flatMap (fun (i : Nat) => (s.begun o 0x0501 p).telRecord true (4 + i))).length = 24 * 8)) ∧
    (s.starts o 0x0501 p = true → p = [4, 8, 1, 1] → b.val < 12 → 4 ≤ b.val → s.Gives (.telRead o p) (fun t => same t ∧ t.tele[b] = x.resetPeaks)) ∧
    (s.starts o 0x0503 p = true → p = [2, 0, 4, 0] → (s.heldSnap 2).isSome = true → s.Gives (.telReadSnapshot o p) (fun t =>
      t = (s.begun o 0x0503 p).respond o 0x0503 .ok ((s.begun o 0x0503 p).snapshotBody 2 0 4))) ∧
    (s.starts o 0x0503 p = true → p = [2, 0, 4, 0] → s.heldSnap 2 = none → s.Gives (.telReadSnapshot o p) (fun t => t = (s.begun o 0x0503 p).respond o 0x0503 .badArg)) ∧
    (s.starts o 0x0504 p = true → open_ → p = leBytes 8 (2 ^ b.val) ++ [3, 0, 0, 0] → s.Gives (.telSubscribe o p) (fun t =>
      t = ({ (s.begun o 0x0504 p) with later := (s.begun o 0x0504 p).later ++ [.subscribe (BitVec.ofNat 48 (2 ^ b.val)) 3 o] } : State).startJob o 0x0504 (BitVec.ofNat 48 (2 ^ b.val)))) ∧
    (s.starts o 0x0505 p = true → open_ → p = leBytes 8 (2 ^ b.val) ++ [50, 0, 1, 0] → s.Gives (.telConfig o p) (fun t =>
      t = ({ (s.begun o 0x0505 p) with later := (s.begun o 0x0505 p).later ++ [.telConfig (BitVec.ofNat 48 (2 ^ b.val)) 50 true (some o)] } : State).startJob o 0x0505 (BitVec.ofNat 48 (2 ^ b.val)))) ∧
    (s.starts o 0x0601 p = true → p = [5, 0, 0, 0, 16, 0, 0, 0] → s.Gives (.manRead o p) (fun t => t = (s.begun o 0x0601 p).respond o 0x0601 .ok
      (leBytes 1 (flag (s.slotSealed 5) 0) ++ [0, 0, 0] ++ leBytes 4 (s.wcountOf 5) ++ (s.slotBytes 5).take 16))) ∧
    (s.starts o 0x0602 p = true → p = [0, 0xFF, 0, 0, 4, 0, 0, 0] → s.Gives (.manList o p) (fun t => t = (s.begun o 0x0602 p).respond o 0x0602 .ok
      (leBytes 2 ((List.range 768) ++ (List.range 768).filterMap (fun (k : Nat) => (s.repair.succ.find? (fun (y : Nat × Nat) => y.1 = k)).map (fun (y : Nat × Nat) => y.2))).length ++ [0, 0] ++ [0, 1, 2, 3].flatMap s.listEntry))) ∧
    (s.starts o 0x0603 p = true → open_ → p = [0, BitVec.ofNat 8 b.val, 0, 0, 100, 0, 0, 0, 0, 0, 0, 0] → s.Gives (.manClear o p) (fun t => same t ∧ t.man.length = s.man.length ∧
      (z ∈ s.man → (State.clears 0 b.val 100 z = false ∨ z.retired = true) → z ∈ t.man) ∧
      (z ∈ s.man → State.clears 0 b.val 100 z = true → { z with sealed := false, item := .free, data := [], raw := none } ∈ t.man))) ∧
    (s.starts o 0x0604 p = true → open_ → s.ringOut b = false → p = [BitVec.ofNat 8 b.val, 2, 0, 0, 10, 0, 20, 0, 3, 0, 0, 0] → s.Gives (.capArm o p) (fun t =>
      t = { (s.begun o 0x0604 p) with later := (s.begun o 0x0604 p).later ++ [.capArm b { origin := o, pre := 10, post := 20, at_ := s.now + tideLen, trig := .fault, until_ := some (s.now + tideLen + 300000000), stamp := none } false] })) ∧
    (s.starts o 0x0604 p = true → open_ → s.ringOut b = false → p = [BitVec.ofNat 8 b.val, 3, 0, 0, 10, 0, 20, 0, 3, 0, 0, 0] → s.Gives (.capArm o p) (fun t =>
      (t.later.drop s.later.length).any (fun (l : Later) => match l with | .capArm c _ off => c = b && off | _ => false) = true ∧ same t ∧ t.tele = s.tele)) ∧
    (x.arm = none → (s.armCapture b a false).tele[b].arm = some a ∧ (s.armCapture b a false).tele[b].frozen = none ∧ same (s.armCapture b a false)) ∧
    (x.arm = none → (s.armCapture b a true).tele[b].arm = none ∧ (s.armCapture b a true).tele[b].frozen = none ∧ same (s.armCapture b a true)) ∧
    (s.starts o 0x0605 p = true → b.val < s.berthsOn → x.frozen = none → p = [BitVec.ofNat 8 b.val, 1, 0, 0, 0, 0, 0, 0, 16, 0, 0, 0] → s.Gives (.capRead o p) (fun t =>
      t = (s.begun o 0x0605 p).respond o 0x0605 .notPermitted)) ∧
    (s.starts o 0x0605 p = true → b.val < s.berthsOn → x.frozen = some f → 2 ≤ f.size → p = [BitVec.ofNat 8 b.val, 1, 0, 0, 0, 0, 0, 0, 16, 0, 0, 0] → s.Gives (.capRead o p) (fun t => same t ∧
      t.tele[b].frozen = none ∧ (s.windowBytes b f 0 16).length = 16)) ∧
    (s.starts o 0x0606 p = true → p = [0, 0, 0, 0, 4, 0, 0, 0, 9, 8, 7, 6] → s.Gives (.glazeWrite o p) (fun t =>
      t = { (s.begun o 0x0606 p) with glazeStage := [9, 8, 7, 6] }.respond o 0x0606 .ok)) ∧
    (s.starts o 0x0607 p = true → p = [0, 0, 16, 0] → s.Gives (.glazeRead o p) (fun t => t = (s.begun o 0x0607 p).respond o 0x0607 .ok (State.padTo 16 s.glaze)))

/-- R331, R338, R342, R349 to R351. -/
def Obligations.TelemetryEvents : Prop :=
  ∀ (s : State) (b : BerthId) (n : Fin 4) (at_ t : Stamp) (o : Origin) (z : Snap) (a : CapArm) (r : PendRec),
    let x := s.tele[b]
    let onlyTele (u : State) : Prop := u = { s with tele := s.tele.set b u.tele[b] }
    let first := t / 100 - 100 * a.pre
    (s.snaps[n.val]? = none → s.Stands (.snapshotComplete n)) ∧
    (s.snaps[n.val]? = some z → z.taken = false → s.Stands (.snapshotComplete n)) ∧
    (s.snaps = [z] → n = 0 → z.taken = true → z.pendingFor = [o] → s.Gives (.snapshotComplete n) (fun u =>
      u = ({ s with snaps := [{ z with pendingFor := [] }] } : State).respond o 0x0502 .ok (State.snapBody z))) ∧
    (x.tides < Tele.segTides x.window → s.Stands (.filterSegmentEnd b)) ∧
    (Tele.segTides x.window ≤ x.tides → s.Gives (.filterSegmentEnd b) (fun u => onlyTele u ∧ u.tele[b].segs = (x.seg :: x.segs).take (Tele.segCount x.window) ∧ u.tele[b].tides = 0 ∧
      u.tele[b].seg = Vector.replicate 4 (0, 0) ∧ u.tele[b].total = x.total + 1 ∧ u.tele[b].peaks = x.peaks ∧ u.tele[b].counts = x.counts ∧
      u.tele[b] = { x with segs := u.tele[b].segs, total := x.total + 1, tides := 0, seg := u.tele[b].seg, out := u.tele[b].out })) ∧
    (x.arm = some a → a.stamp = none → a.at_ ≤ at_ → s.Gives (.captureTrigger b at_) (fun u => u = { s with tele := s.tele.set b { x with arm := some { a with stamp := some at_ } } })) ∧
    (x.arm = none ∨ (x.arm = some a ∧ (a.stamp.isSome = true ∨ at_ < a.at_)) → s.Stands (.captureTrigger b at_)) ∧
    (x.arm = some a → a.stamp = some t → first + 100 * (a.pre + a.post) ≤ s.usNow → s.Gives (.captureFreeze b) (fun u => u.tele[b].arm = none ∧
      u.tele[b].frozen.any (fun (f : CapFrozen) => f.first = first && f.stop = first + 100 * (a.pre + a.post)) = true ∧ u.berths = s.berths ∧ u.mem = s.mem ∧
      u = ({ s with tele := s.tele.set b u.tele[b] } : State).respond a.origin 0x0604 .ok (leBytes 8 t ++ leBytes 8 (100 * first)))) ∧
    (x.arm = none ∨ (x.arm = some a ∧ (a.stamp = none ∨ (a.stamp = some t ∧ s.usNow < first + 100 * (a.pre + a.post)))) → s.Stands (.captureFreeze b)) ∧
    (x.arm = some a → a.stamp = none → a.until_ = some t → s.Gives (.captureTimeout b) (fun u =>
      u = ({ s with tele := s.tele.set b { x with arm := none } } : State).respond a.origin 0x0604 .timeout)) ∧
    (x.arm = none ∨ (x.arm = some a ∧ (a.stamp.isSome = true ∨ a.until_ = none)) → s.Stands (.captureTimeout b)) ∧
    (s.records = [r] → r.berth = b.val → r.ready = false → r.stamp + ms 1 ≤ s.now → s.Gives (.faultRecordCapture b) (fun u => u = { s with records := u.records } ∧
      u.records.any (fun (y : PendRec) => y.ready && decide ({ y with ready := false, excerpt := r.excerpt } = r) && (!s.ringOut b || y.excerpt = List.replicate 0xD80 0)) = true)) ∧
    (s.records = [r] → (r.ready = true ∨ r.berth ≠ b.val ∨ s.now < r.stamp + ms 1) → s.Stands (.faultRecordCapture b)) ∧
    (s.records = [r] → r.ready = true → s.slotAt r.slot = none → s.Gives (.manifestRecordWrite) (fun u =>
      u = { s with records := [], man := u.man } ∧ u.slotAt r.slot = some { slot := r.slot, item := .record r.berth r.cause r.tide, sealed := true, seq := r.seq, wcount := 1, data := r.head ++ r.excerpt })) ∧
    (s.records = [] ∨ (s.records = [r] ∧ r.ready = false) → s.Stands (.manifestRecordWrite))

/-- R436 to R442 and R449. -/
def Obligations.SelfTestsAndEcc : Prop :=
  ∀ (s : State) (b : BerthId) (at_ : Stamp) (w ad : Nat) (good : BitVec 3) (org : Nat),
    let x := s.berths[b]
    let base := w / 16 * 16
    (x.st.want.isSome = true → x.st.running = false → State.lbIdle x = true → s.BerthStep (.phyLoopbackStart b) b (fun y =>
      y = { x.settled with st := { x.st with running := true, busy := true, kind := 3, result := 0, sent := 0, good := 0, aborted := false } })) ∧
    (x.st.want = none ∨ x.st.running = true ∨ State.lbIdle x = false → s.BerthStep (.phyLoopbackStart b) b (fun y => y = x.settled)) ∧
    (x.st.running = false → s.Stands (.phyLoopbackDone b good)) ∧
    (x.st.running = true → good = 4 → s.testWanted 3 b.val 0 = false → s.Gives (.phyLoopbackDone b good) (fun u => u.berths[b].st.running = false ∧ u.berths[b].st.good = 4 ∧
      u.berths[b].st.result = 1 ∧ u.berths[b].st.want = none ∧ u.repair.lasting = s.repair.lasting ∧ u.later = s.later ∧
      u.berths[b] = { x.settled with st := u.berths[b].st, evOut := u.berths[b].evOut } ∧ u.mem = s.mem)) ∧
    (x.st.running = true → good ≠ 4 → s.Gives (.phyLoopbackDone b good) (fun u => u.berths[b].st.running = false ∧ u.berths[b].st.result = 2 ∧ u.berths[b].st.phyFenced = x.st.phyFenced ∧
      u.repair.lasting = (satInc s.repair.lasting).1 ∧ (u.markOf (.phy b)).lasting = true ∧ u.later.length = s.later.length + 1 ∧
      u.berths[b] = { x.settled with st := u.berths[b].st, evOut := u.berths[b].evOut } ∧ u.mem = s.mem)) ∧
    (x.st.running = true → s.BerthStep (.phyLoopbackAbort b at_) b (fun y => y = { x.settled with st := { x.st with running := false, busy := false, aborted := true } })) ∧
    (x.st.running = false → s.BerthStep (.phyLoopbackAbort b at_) b (fun y => y = x.settled)) ∧
    (x.st.want = some (some ad, org) → s.BerthStep (.phyLoopbackDeferred b) b (fun y => y = { x.settled with
      st := { x.st with want := none, running := false, busy := false, kind := 3, result := 3, cls := 0 } })) ∧
    (x.st.want = none ∨ x.st.want = some (none, org) → s.BerthStep (.phyLoopbackDeferred b) b (fun y => y = x.settled)) ∧
    (w < 0x1000000 → s.Gives (.holdEccSingle w true) (fun u => u.repair.corrected = (satInc s.repair.corrected).1 ∧ s.devOut.length < u.devOut.length ∧
      u.berths = s.berths ∧ u.tugs = s.tugs ∧ u.mem = s.mem)) ∧
    (w < 0x1000000 → s.Gives (.holdEccSingle w false) (fun u => u.repair.corrected = (satInc s.repair.corrected).1 ∧ u.repair.lasting = (satInc s.repair.lasting).1 ∧
      (u.markOf (.holdRow (Config.holdRow w))).lasting = true ∧ u.berths = s.berths ∧ u.tugs = s.tugs ∧ u.mem = s.mem)) ∧
    (0x1000000 ≤ w → s.Stands (.holdEccSingle w true) ∧ s.Stands (.holdEccDouble w .scrub at_)) ∧
    (w < 0x1000000 → Memory.wf s.mem = true → s.Gives (.holdEccDouble w .scrub at_) (fun u => (u.markOf (.holdRow (Config.holdRow w))).lasting = true ∧
      u.freeCtr = s.freeCtr + 1 ∧ (ad < base ∨ base + 16 ≤ ad → Memory.read u.mem ad = Memory.read s.mem ad) ∧ u.berths = s.berths ∧ u.tugs = s.tugs)) ∧
    (w < 0x1000000 → s.harbour.ready = true → s.Gives (.holdEccDouble w .harbour at_) (fun u => u.harbour.coreB = !s.harbour.coreB ∧ u.harbour.ready = false ∧
      u.harbour.testing = some s.harbour.coreB ∧ u.jobs = [] ∧ u.alloc.sampled = false ∧ u.quays = s.quays)) ∧
    s.Stands (.holdBackgroundScrub)

/-- R379 to R391, R407, R449 and Tables 14.2, 14.4, 14.5. -/
def Obligations.SuppliesAndResets : Prop :=
  ∀ (s : State) (b : BerthId) (q : QuayId) (t : TugId) (at_ : Stamp) (w rtc mv ns : Nat) (k : Supply) (peak : Int) (tk : Bool) (c : BitVec 8),
    let x := s.berths[b]
    let fresh (cause : BitVec 8) (u : State) : Prop := u.resetCause = cause ∧ u.phase = .brittle ∧ u.ticking = false ∧ u.tags = [] ∧ u.events = [] ∧ u.jobs = [] ∧ u.mem = [] ∧
      u.pending = s.pending ∧ u.man = s.man ∧ u.brittle = s.brittle ∧ u.retained.held = s.retained.held ∧
      u.berths[b].cc.state = .held ∧ u.berths[b].path.state ≠ .srcOn ∧ u.berths[b].path.state ≠ .snkOn ∧ u.berths[b].mon.fence = x.mon.fence ∧ u.berths[b].id.fenced = x.id.fenced ∧
      u.berths[b].id.contract = none ∧ u.berths[b].id.tug = none ∧ u.tugs[t].mode = .empty ∧ u.tugs[t].fenced = s.tugs[t].fenced ∧
      u.quays[q].up = false ∧ u.quays[q].released = false ∧ u.quays[q].fenced = s.quays[q].fenced
    let quayOut (u : State) : Prop := u.quays[q].up = false ∧ u.quays[q].released = false ∧ u.phase = s.phase ∧ u.tideCount = s.tideCount ∧ u.mem = s.mem ∧
      (State.quayOf b = q → u.berths[b].cc.state = .held ∧ u.berths[b].path.state ≠ .srcOn ∧ u.berths[b].path.state ≠ .snkOn ∧ u.berths[b].mon.fence = x.mon.fence) ∧
      (State.quayOf b ≠ q → u.berths[b] = x)
    let held := s.porDue.isSome = true ∨ s.hot = true
    (s.supplies.vaon = true → s.porDue = none → s.fallen .vaon mv ns = true → s.Gives (.supplyInvalid .vaon mv ns at_) (fun u => fresh 2 u ∧ u.porDue = some 2 ∧ u.supplies.vaon = false)) ∧
    (s.supplies.vcore = true → s.porDue = none → s.fallen .vcore mv ns = true → s.Gives (.supplyInvalid .vcore mv ns at_) (fun u => fresh 3 u ∧ u.porDue = some 3 ∧ u.supplies.vcore = false)) ∧
    (s.supplies.vio = true → s.porDue = none → s.fallen .vio mv ns = true → s.Gives (.supplyInvalid .vio mv ns at_) (fun u => fresh 4 u ∧ u.porDue = some 4 ∧ u.supplies.vio = false)) ∧
    (s.supplies.vio = true → s.porDue = some c → s.fallen .vio mv ns = true → s.Gives (.supplyInvalid .vio mv ns at_) (fun u =>
      u = { s with supplies := { s.supplies with vio := false }, porDue := some (if 4 < c then 4 else c) })) ∧
    (s.fallen .vbak mv ns = true → s.Gives (.supplyInvalid .vbak mv ns at_) (fun u => u = { s with retained := {}, supplies := { s.supplies with vbak := false } })) ∧
    (s.supplies.vq5.getLsbD q.val = true → s.fallen (.vq5 q) mv ns = true → s.Gives (.supplyInvalid (.vq5 q) mv ns at_) (fun u => quayOut u ∧ u.supplies.vq5.getLsbD q.val = false ∧ u.quays[q].why = some 1 ∧
      (State.quayOf b = q → u.berths[b].reg.cbLatch = false))) ∧
    (s.quays[q].up = false → s.fallen (.vconnIn q) mv ns = true → s.Gives (.supplyInvalid (.vconnIn q) mv ns at_) (fun u => u = { s with supplies := { s.supplies with vconn := s.supplies.vconn &&& ~~~ (BitVec.ofNat 6 (2 ^ q.val)) } })) ∧
    (s.fallen k mv ns = false → s.Stands (.supplyInvalid k mv ns at_)) ∧ (State.risen k mv ns = false → s.Stands (.supplyValid k mv ns)) ∧
    (s.fallen .vaon mv ns = true ↔ mv < 2900 ∧ 2000 ≤ ns) ∧ (s.fallen .vcore mv ns = true ↔ mv < 720 ∧ 1000 ≤ ns) ∧
    (s.fallen (.vq5 q) mv ns = true ↔ mv < 4400 ∧ 5000 ≤ ns) ∧ (State.risen (.vq5 q) mv ns = true ↔ 4550 < mv ∧ 5000 ≤ ns) ∧
    (State.risen .vaon mv ns = true → s.Gives (.supplyValid .vaon mv ns) (fun u => u = { s with supplies := { s.supplies with vaon := true } })) ∧
    (s.supplies.vq5.getLsbD q.val = false → State.risen (.vq5 q) mv ns = true → s.Gives (.supplyValid (.vq5 q) mv ns) (fun u => u.supplies.vq5.getLsbD q.val = true ∧ u.quays = s.quays ∧
      (State.quayOf b = q → u.berths[b] = { x with cc := { x.cc with dbSel := s.quays[q].row.getLsbD (b.val % 8), dbRd := s.quays[q].row.getLsbD (b.val % 8) } }) ∧ (State.quayOf b ≠ q → u.berths[b] = x))) ∧
    (s.supplies.vaon = true → s.supplies.vcore = true → s.supplies.vio = true → s.porDue = some c → s.Gives (.powerOnReset mv) (fun u =>
      u = { s with supplies := { s.supplies with vio18 := decide (mv < 2400) }, resetCause := c, porDue := none })) ∧
    (s.supplies.vaon = false ∨ s.supplies.vcore = false ∨ s.supplies.vio = false ∨ (s.porDue = none ∧ s.phase ≠ .brittle) → s.Stands (.powerOnReset mv)) ∧
    (¬ held → 10000 ≤ w ∨ (2000 ≤ w ∧ tk = true) → s.Gives (.resetNPulse w tk) (fun u => fresh 5 u)) ∧
    (held ∨ w < 2000 ∨ (w < 10000 ∧ tk = false) → s.Stands (.resetNPulse w tk)) ∧
    s.Gives (.kick) (fun u => u = { s with harbour := { s.harbour with unkicked := 0 } }) ∧
    (¬ held → s.ticking = true → 4 ≤ s.harbour.unkicked → s.harbour.ready = false → s.Gives (.watchdogExpiry at_) (fun u => fresh 6 u ∧ u.wdogCore = s.harbour.coreB)) ∧
    (¬ held → s.ticking = true → 4 ≤ s.harbour.unkicked → s.harbour.ready = true → s.Gives (.watchdogExpiry at_) (fun u => u.harbour.coreB = !s.harbour.coreB ∧ u.harbour.ready = false ∧
      u.harbour.unkicked = 0 ∧ u.harbour.testing = some s.harbour.coreB ∧ u.jobs = [] ∧ u.quays = s.quays ∧ u.mem = s.mem)) ∧
    (held ∨ s.ticking = false ∨ s.harbour.unkicked < 4 → s.Stands (.watchdogExpiry at_)) ∧
    (¬ held → 1400 < peak → 100 ≤ w → s.Gives (.harbourThermalShutdown at_ peak w) (fun u => fresh 8 u ∧ u.hot = true ∧ u.diePeak = peak)) ∧
    (held ∨ peak ≤ 1400 ∨ w < 100 → s.Stands (.harbourThermalShutdown at_ peak w)) ∧
    (s.quays[q].thermal = false → s.quays[q].up = true → 1500 < peak → 100 ≤ w → s.Gives (.quayThermalShutdown q at_ peak w) (fun u => quayOut u ∧ u.quays[q].thermal = true ∧ u.quays[q].hotAt = some (at_, peak))) ∧
    (s.quays[q].thermal = true ∨ s.quays[q].up = false ∨ peak ≤ 1500 ∨ w < 100 → s.Stands (.quayThermalShutdown q at_ peak w)) ∧
    (peak < 1200 → s.Gives (.thermalShutdownEnd none peak) (fun u => u = { s with hot := false })) ∧
    (peak < 1300 → s.Gives (.thermalShutdownEnd (some q) peak) (fun u => u = { s with quays := s.quays.set q { s.quays[q] with thermal := false } })) ∧
    (1200 ≤ peak → s.Stands (.thermalShutdownEnd none peak)) ∧ (1300 ≤ peak → s.Stands (.thermalShutdownEnd (some q) peak)) ∧
    (s.time = 0 ∨ s.tideCount % 40000 ≠ 0 → s.Gives (.timeCorrection rtc) (fun u => u = { s with retained := { s.retained with rtc := rtc } })) ∧
    (s.time ≠ 0 → s.tideCount % 40000 = 0 → s.Gives (.timeCorrection rtc) (fun u => u = { s with retained := { s.retained with rtc := rtc }, time := u.time } ∧
      u.time ≤ s.time + 20 ∧ s.time ≤ u.time + 20 ∧ (s.time ≤ s.rtcTime rtc → s.time ≤ u.time ∧ u.time ≤ s.rtcTime rtc) ∧ (s.rtcTime rtc ≤ s.time → s.rtcTime rtc ≤ u.time ∧ u.time ≤ s.time)))

/-- Table 14.7, R65, R66, R412, R416, R448 to R450. -/
def Obligations.StartUp : Prop :=
  ∀ (s : State) (b : BerthId) (q : QuayId) (t : TugId) (xt hmb : Bool) (pins : BitVec 4) (us vcm : Nat) (rel : Word) (rtc : Option Nat) (vbc : Vector Nat 8) (l : Fin 2) (z : ManSlot) (o : Origin),
    let x := s.berths[b]
    let k := s.quays[q]
    let free := s.porDue = none ∧ s.hot = false
    let shadow : Vector Word 256 := Vector.ofFn (fun (r : Fin 256) => (State.rowRead s.brittle r).1)
    (free → s.phase = .brittle → s.oscillator = none → s.Gives (.oscillatorStart xt) (fun u => u = { s with oscillator := some xt })) ∧
    (s.phase ≠ .brittle ∨ s.oscillator.isSome = true ∨ s.hot = true → s.Stands (.oscillatorStart xt)) ∧
    (free → s.phase = .brittle → s.oscillator = some xt → s.brittle.loaded = false → s.Gives (.brittleLoad pins) (fun u => u.brittle.shadow = shadow ∧ u.brittle.loaded = true ∧
      u.smb.on = true ∧ u.addrPins = pins ∧ (shadow[(129 : Fin 256)].getLsbD 15 = false → u.smb.addr = 0x60#7 + BitVec.ofNat 7 pins.toNat) ∧
      (State.factoryOk shadow = true → u.phase = .plls ∧ u.factoryBad = s.factoryBad) ∧ (State.factoryOk shadow = false → u.phase = .brittle ∧ u.factoryBad = true ∧ u.attn = true) ∧
      u.berths = s.berths ∧ u.quays = s.quays ∧ u.mem = s.mem)) ∧
    (s.phase ≠ .brittle ∨ s.oscillator = none ∨ s.brittle.loaded = true → s.Stands (.brittleLoad pins)) ∧
    (free → s.phase = .plls → s.Gives (.pllLock us) (fun u => u = { s with phase := .boot, ticking := true, ticks := 0, tideCount := 0, roundPhase := 0, tb := 0, startUs := us })) ∧
    (s.phase ≠ .plls → s.Stands (.pllLock us)) ∧
    (free → s.phase = .boot → s.Gives (.harbourmasterBoot rel) (fun u => u.phase = .scrub ∧ u.harbour = { coreB := s.hmaFenced, relA := 0x04000000#32 ||| (rel &&& 0xFFFF#32) } ∧ u.pilot.on = true ∧
      (s.links[l].enabled = true → u.links[l] = { s.links[l] with state := .down, fresh := true }) ∧ (s.links[l].enabled = false → u.links[l] = s.links[l]) ∧
      u.berths = s.berths ∧ u.quays = s.quays ∧ u.mem = s.mem)) ∧
    (s.phase ≠ .boot → s.Stands (.harbourmasterBoot rel)) ∧
    (free → s.phase = .scrub → s.Gives (.holdScrub rtc) (fun u => u.phase = .quays ∧ u.retained.valid = true ∧ u.retValid = s.retained.valid ∧ u.mem = s.mem ∧
      u.man.all (fun (m : ManSlot) => m.sealed || m.item = .free) = true ∧ (z ∈ s.man → z.sealed = true → z ∈ u.man) ∧ u.berths[b].cc = x.cc ∧ u.berths[b].path = x.path)) ∧
    (s.phase ≠ .scrub → s.Stands (.holdScrub rtc)) ∧
    (free → s.phase = .quays → q = 1 → s.quays[0].up = true → s.quayReady q = true → k.up = false → s.Gives (.quayBringup q vcm vbc []) (fun u => u.quays[q].up = true ∧
      u.quays[q].released = k.released ∧ u.quays[q].vconnVq5 = decide (vcm < 4600) ∧ u.phase = .release ∧ u.mem = s.mem ∧ (State.quayOf b ≠ q → u.berths[b] = x) ∧
      (State.quayOf b = q → u.berths[b].cc.state = (if x.cc.state = .held ∧ 800 ≤ vbc.toList.getD (b.val % 8) 0 ∧ x.cc.dbRd = false then .backFeed else x.cc.state) ∧ u.berths[b].path = x.path ∧ u.berths[b].reg = x.reg))) ∧
    (k.up = true ∨ s.quayReady q = false ∨ s.phase = .brittle → s.Stands (.quayBringup q vcm vbc [])) ∧
    (free → k.up = true → k.released = false → s.roundPhase = 0 → s.lastRelease = none → s.Gives (.berthRelease q) (fun u => u.quays[q].released = true ∧ u.lastRelease = some s.ticks ∧
      (State.quayOf b ≠ q → u.berths[b].cc = x.cc ∧ u.berths[b].path = x.path) ∧ (u.allReleased = true → u.phase = .running ∧ u.reported = true) ∧
      (State.quayOf b = q → (List.finRange 48).all (fun (c : BerthId) => s.berths[c].id.tug.isNone) = true → u.berths[b].id.fenced = false → b.val < s.berthsOn → u.berths[b].id.tug.any (fun (n : TugId) => u.tugs[n].berth = some b && u.tugs[n].entry = some (.release, false)) = true))) ∧
    (k.up = false ∨ k.released = true ∨ s.roundPhase ≠ 0 → s.Stands (.berthRelease q)) ∧
    (s.harbour.testing = none → s.repair.coreFenced = false → 40 ≤ s.harbour.followed → s.phase ≠ .brittle → s.Gives (.standbyReady) (fun u => u.harbour.ready = true ∧
      (s.harbour.commit = some (o, false) → u.harbour.commit = some (o, true)) ∧ u = { s with harbour := u.harbour })) ∧
    (s.harbour.testing.isSome = true ∨ s.repair.coreFenced = true ∨ s.harbour.followed < 40 → s.Stands (.standbyReady)) ∧
    (s.harbour.commit = some (o, false) → s.Gives (.standbyReadyTimeout) (fun u => u = ({ s with harbour := { s.harbour with commit := none, ready := false, followed := 0 } } : State).respond o 0x0703 .timeout)) ∧
    (s.harbour.commit = none → s.Stands (.standbyReadyTimeout)) ∧
    (s.harbour.testing = some hmb → s.Gives (.coreTestDone false) (fun u => u.harbour.testing = none ∧ u.harbour.ready = false ∧ u.repair.coreFenced = true ∧ (u.markOf (.core hmb)).lasting = true ∧ u.berths = s.berths ∧ u.mem = s.mem)) ∧
    (s.harbour.testing = some hmb → s.Gives (.coreTestDone true) (fun u => u.harbour.testing = none ∧ u.harbour.followed = 0 ∧ u.harbour.ready = false ∧ u.berths = s.berths ∧ u.mem = s.mem)) ∧
    (s.harbour.testing = none → s.Stands (.coreTestDone true) ∧ s.Stands (.coreTestDone false))

/-- R281 to R283, R412, R421 to R428, R450, R451 and Table 11.13. -/
def Obligations.FirmwareAndFuses : Prop :=
  ∀ (s : State) (b : BerthId) (o : Origin) (p : List Byte) (a : Nat) (burns : List (List BurnBit)) (cut : Option Nat),
    let x := s.berths[b]
    let same (t : State) : Prop := t.berths = s.berths ∧ t.quays = s.quays ∧ t.tugs = s.tugs
    let gave (t : State) (code : Nat) (st : Status) (l : List Byte) : Prop := t = (s.begun o code p).respond o code st l
    let v : Word := 0x105#32
    let img := Memory.readBytes s.mem 0x292000 256
    let old := (State.rowRead s.brittle 200).1
    let y := State.burnRow s.brittle 200 v burns cut
    let z := State.burnRow s.brittle 128 (bitOn (State.rowRead s.brittle 128).1 6) burns cut
    (s.starts o 0x0701 p = true → p = [1, 1, 0, 0, 0, 0, 0, 0, 4, 0, 0, 0, 9, 8, 7, 6] → s.Gives (.fwStage o p) (fun t => same t ∧ Memory.readBytes t.mem 0x292000 4 = [9, 8, 7, 6] ∧
      (a < 0x292000 ∨ 0x2A4000 ≤ a → Memory.read t.mem a = Memory.read s.mem a) ∧ (0x292004 ≤ a → a < 0x2A4000 → Memory.read t.mem a = 0) ∧
      t.harbour.slots[1] = { s.harbour.slots[1] with verified := false, staged := 4 } ∧ t.brittle = s.brittle)) ∧
    (s.starts o 0x0701 p = true → p = [1, 0, 0, 0, 8, 0, 0, 0, 4, 0, 0, 0, 5, 4, 3, 2] → s.Gives (.fwStage o p) (fun t => same t ∧ Memory.readBytes t.mem 0x292008 4 = [5, 4, 3, 2] ∧
      (a < 0x292008 ∨ 0x29200C ≤ a → Memory.read t.mem a = Memory.read s.mem a) ∧
      t.harbour.slots[1] = { s.harbour.slots[1] with verified := false, staged := max s.harbour.slots[1].staged 12 })) ∧
    (s.starts o 0x0702 p = true → p = [1, 0, 0, 0] → s.Gives (.fwVerify o p) (fun t => same t ∧ t.mem = s.mem ∧ t.brittle = s.brittle ∧
      (if s.tugImage 1 = none then t.harbour.slots[1] = { s.harbour.slots[1] with verified := true, release := BitVec.ofNat 32 (leAt img 8 4), customer := decide (leAt img 6 2 % 2 = 1) }
        else gave t 0x0702 ((s.tugImage 1).getD .ok) []))) ∧
    (s.starts o 0x0703 p = true → p = [0, 0, 0, 0] → s.harbour.slots[0].verified = true → s.harbour.slots[0].current = true →
      s.Gives (.fwCommitHm o p) (fun t => gave t 0x0703 .ok (leBytes 4 s.activeRelease.toNat ++ leBytes 1 (flag s.harbour.coreB 0)))) ∧
    (s.starts o 0x0703 p = true → p = [0, 0, 0, 0] → s.harbour.slots[0].verified = false ∨ (s.harbour.slots[0].current = false ∧ s.harbour.ready = false) →
      s.Gives (.fwCommitHm o p) (fun t => gave t 0x0703 .notPermitted [])) ∧
    (s.starts o 0x0703 p = true → p = [0, 0, 0, 0] → s.harbour.slots[0].verified = true → s.harbour.slots[0].current = false → s.harbour.ready = true →
      (List.finRange 48).all (fun (c : BerthId) => !s.needsNewer c s.harbour.slots[0].release) = true → s.Gives (.fwCommitHm o p) (fun t =>
      same t ∧ t.harbour = { s.harbour with commit := some (o, false), ready := false, followed := 0 } ∧ t.mem = s.mem)) ∧
    (s.starts o 0x0704 p = true → p = leBytes 8 (2 ^ b.val) ++ [0, 1, 0, 0] → b.val < s.berthsOn → s.isFenced b = false → s.isReleased b = true → x.id.tug.isSome = true → s.Gives (.fwSwapTug o p) (fun t =>
      t = ({ (s.begun o 0x0704 p) with later := (s.begun o 0x0704 p).later ++ [.swapTug (BitVec.ofNat 48 (2 ^ b.val)) 0 true o] } : State).startJob o 0x0704 (BitVec.ofNat 48 (2 ^ b.val)))) ∧
    (s.runsSlot b 0 = false → (s.deliverSwap (BitVec.ofNat 48 (2 ^ b.val)) 0 true o).tele[b].swap = some (0, true, s.ticks + 80000, o)) ∧
    (s.starts o 0x0705 p = true → p = [] → s.Gives (.fwGetInfo o p) (fun t => gave t 0x0705 .ok (s.begun o 0x0705 p).fwInfo ∧ (s.begun o 0x0705 p).fwInfo.length = 96)) ∧
    (s.starts o 0x0801 p = true → p = [129, 2] → s.Gives (.otpRead o p) (fun t =>
      gave t 0x0801 .ok (leBytes 4 (State.rowRead s.brittle 129).1.toNat ++ leBytes 4 (State.rowRead s.brittle 130).1.toNat))) ∧
    (s.starts o 0x0803 p = true → p = [129, 2] → s.Gives (.otpMargin o p) (fun t => gave t 0x0803 .ok [s.marginOf 129, s.marginOf 130])) ∧
    (s.starts o 0x0802 p = true → p = [100, 0, 0, 0, 5, 1, 0, 0] ∨ (p = [200, 0, 0, 0, 5, 1, 0, 0] ∧ (s.supplies.vfuse = false ∨ 1000 < s.temp)) →
      s.Gives (.otpProgram o p burns cut) (fun t => gave t 0x0802 .notPermitted [])) ∧
    (s.starts o 0x0802 p = true → p = [200, 0, 0, 0, 5, 1, 0, 0] → s.burnBars = false → (State.rowRead s.brittle 128).1.getLsbD 6 = true → v ≠ old → s.Gives (.otpProgram o p burns cut) (fun t => gave t 0x0802 .otpLocked [])) ∧
    (s.starts o 0x0802 p = true → p = [200, 0, 0, 0, 5, 1, 0, 0] → s.burnBars = false → (State.rowRead s.brittle 128).1.getLsbD 6 = false → old &&& ~~~v ≠ 0 → s.Gives (.otpProgram o p burns cut) (fun t => gave t 0x0802 .otpConflict [])) ∧
    (s.starts o 0x0802 p = true → p = [200, 0, 0, 0, 5, 1, 0, 0] → s.burnBars = false → (State.rowRead s.brittle 128).1.getLsbD 6 = false → old &&& ~~~v = 0 → s.Gives (.otpProgram o p burns cut) (fun t => same t ∧ t.mem = s.mem ∧
      t.brittle = (if y.good then { y.array with shadow := y.array.shadow.set 200 v } else y.array) ∧ (y.good = false → t = ({ (s.begun o 0x0802 p) with brittle := y.array } : State).respond o 0x0802 .otpWeak))) ∧
    (s.starts o 0x0804 p = true → p = [7, 0, 0, 0] → (State.rowRead s.brittle 128).1.getLsbD 6 = true → s.Gives (.otpLock o p burns cut) (fun t => gave t 0x0804 .ok [])) ∧
    (s.starts o 0x0804 p = true → p = [7, 0, 0, 0] → (State.rowRead s.brittle 128).1.getLsbD 6 = false → s.burnBars = true → s.Gives (.otpLock o p burns cut) (fun t => gave t 0x0804 .notPermitted [])) ∧
    (s.starts o 0x0804 p = true → p = [7, 0, 0, 0] → (State.rowRead s.brittle 128).1.getLsbD 6 = false → s.burnBars = false → s.Gives (.otpLock o p burns cut) (fun t => same t ∧ t.mem = s.mem ∧
      t.brittle = (if z.good then { z.array with shadow := z.array.shadow.set 128 (bitOn (State.rowRead s.brittle 128).1 6) } else z.array)))

/-- R39 to R41, R99, R101, R188, R419, R435 to R446 and Tables 11.13, 16.3. -/
def Obligations.ServiceAndDebug : Prop :=
  ∀ (s : State) (b : BerthId) (o : Origin) (p : List Byte) (a : Nat) (bad : Option Nat) (t : TugId),
    let x := s.berths[b]
    let nb := BitVec.ofNat 8 b.val
    let open_ := b.val < s.berthsOn ∧ s.isFenced b = false
    let ready := b.val < s.berthsOn ∧ s.reaches b = true ∧ x.id.fenced = false ∧ x.mon.parked = false
    let same (u : State) : Prop := u.berths = s.berths ∧ u.quays = s.quays ∧ u.tugs = s.tugs
    let gave (u : State) (code : Nat) (st : Status) (l : List Byte) : Prop := u = (s.begun o code p).respond o code st l
    (s.starts o 0x0901 p = true → p = [4, 3, 0, 0] → s.Gives (.svcSelftest o p none) (fun u => u = ((s.begun o 0x0901 p).selfEvent 4 3 0 2 true 0 0).respond o 0x0901 .ok [0, 0, 0, 0] ∧ same u)) ∧
    (s.starts o 0x0901 p = true → p = [4, 3, 0, 0] → s.Gives (.svcSelftest o p (some a)) (fun u => same u ∧ (u.markOf (.holdRow (Config.holdRow (0x600000 + a % 0x200000)))).lasting = true)) ∧
    (s.starts o 0x0901 p = true → ready → p = [0, nb, 6, 0] → s.Gives (.svcSelftest o p bad) (fun u => u.berths = s.berths.set b (x.wantTest 6 2).settled ∧ u.quays = s.quays ∧
      u.tests = s.tests ++ [{ origin := o, code := 0x0901, kind := 0, index := b.val, sel := 6 }])) ∧
    (s.starts o 0x0901 p = true → ready → x.path.state = .off → x.attached = false → x.path.testBusy = false → p = [6, nb, 0, 0] → s.Gives (.svcSelftest o p bad) (fun u => u.quays = s.quays ∧
      u.berths = s.berths.set b { x.settled with path := { x.path with testBusy := true, testKind := 2, testResult := 0 }, st := { x.st with kind := 6, busy := true, result := 0 } } ∧
      u.tests = s.tests ++ [{ origin := o, code := 0x0901, kind := 6, index := b.val, sel := 0 }])) ∧
    (s.starts o 0x0901 p = true → p = [1, BitVec.ofNat 8 t.val, 0, 0] → s.tugs[t].berth = none → s.Gives (.svcSelftest o p bad) (fun u => u.berths = s.berths ∧ u.tugs = s.tugs.set t { s.tugs[t] with mode := .testing, spill := 0 })) ∧
    (s.starts o 0x0901 p = true → p = [1, BitVec.ofNat 8 t.val, 0, 0] → s.tugs[t].berth.isSome = true → s.Gives (.svcSelftest o p bad) (fun u => gave u 0x0901 .notPermitted [])) ∧
    (s.starts o 0x0902 p = true → open_ → p = [0, nb, 0, 0] → s.Gives (.svcFence o p) (fun u => u = { (s.begun o 0x0902 p) with later := (s.begun o 0x0902 p).later ++ [.svcFence 0 b.val o] })) ∧
    (x.id.fenced = false → let u := s.doFence 0 b.val o
      u.berths[b].id.fenced = true ∧ u.berths[b].id.tug = none ∧ u.mem = s.mem ∧
      (x.cc.state = .lockedOut → u.berths[b].cc.state = .lockedOut) ∧ (x.cc.state ≠ .lockedOut → u.berths[b].cc.state = .disabled ∧ u.berths[b].path.state ≠ .srcOn ∧ u.berths[b].path.state ≠ .snkOn)) ∧
    (s.starts o 0x0903 p = true → b.val < s.berthsOn → x.id.fenced = false → x.st.phyFenced = false → p = [0, nb, 0, 0] → s.Gives (.svcUnfence o p) (fun u => gave u 0x0903 .ok [])) ∧
    (s.starts o 0x0903 p = true → b.val < s.berthsOn → x.id.fenced = true → s.quays[State.quayOf b].up = true → s.quays[State.quayOf b].hless = false → s.quays[State.quayOf b].released = true → s.freeTug = none →
      p = [0, nb, 0, 0] → s.Gives (.svcUnfence o p) (fun u => gave u 0x0903 .noResource [])) ∧
    (s.starts o 0x0903 p = true → b.val < s.berthsOn → x.id.fenced = true → s.quays[State.quayOf b].up = true → s.quays[State.quayOf b].hless = false → s.quays[State.quayOf b].released = true → s.freeTug.isSome = true →
      p = [0, nb, 0, 0] → s.Gives (.svcUnfence o p) (fun u => u.berths[b].id.fenced = false ∧ u.mem = s.mem)) ∧
    (s.starts o 0x0904 p = true → open_ → s.isReleased b = true → x.id.tug.isSome = true → s.freeTug = none → p = [nb, 0xFF, 0, 0] → s.Gives (.svcRemapTug o p) (fun u => gave u 0x0904 .noResource [])) ∧
    (s.starts o 0x0904 p = true → open_ → s.isReleased b = true → x.id.tug.isSome = true → s.freeTug.isSome = true → p = [nb, 0xFF, 0, 0] → s.Gives (.svcRemapTug o p) (fun u =>
      u = { (s.begun o 0x0904 p) with later := (s.begun o 0x0904 p).later ++ [.remapTug b none o] })) ∧
    (s.starts o 0x0905 p = true → p = [] → s.Gives (.svcHealth o p) (fun u => gave u 0x0905 .ok (s.begun o 0x0905 p).healthBody ∧ (s.begun o 0x0905 p).healthBody.length = 56)) ∧
    (s.starts o 0x0B01 p = true → open_ → s.reaches b = true → s.debugLevel < 2 → p = leBytes 4 (0x40000000 + 0x1000 * b.val) ++ [1, 0, 0, 0] → s.Gives (.dbgPeek o p) (fun u => same u ∧ u.mem = s.mem ∧
      u = ({ (s.begun o 0x0B01 p) with freeCtr := s.freeCtr + 1 } : State).respond o 0x0B01 .ok ([0, 0, 0, 0] ++ leBytes 4 (x.winRead (s.env b) 0).toNat))) ∧
    (s.starts o 0x0B01 p = true → open_ → s.reaches b = true → x.mon.parked = false → s.debugLevel < 2 → p = leBytes 4 (0x4000021C + 0x1000 * b.val) ++ [1, 0, 0, 0] → s.Gives (.dbgPeek o p) (fun u =>
      u.berths = s.berths.set b x.rxDataRead.settled ∧ u.mem = s.mem ∧ u.freeCtr = s.freeCtr + 1)) ∧
    (s.starts o 0x0B01 p = true → p = leBytes 4 0x280002 ++ [1, 0, 0, 0] → s.Gives (.dbgPeek o p) (fun u => gave u 0x0B01 .badArg [])) ∧
    (s.starts o 0x0B01 p = true → 2 ≤ s.debugLevel → p = leBytes 4 0x280000 ++ [1, 0, 0, 0] → s.Gives (.dbgPeek o p) (fun u => gave u 0x0B01 .notPermitted [])) ∧
    (s.starts o 0x0B02 p = true → s.debugLevel = 0 → p = leBytes 4 0x280000 ++ [1, 0, 0, 0, 5, 6, 7, 8] → s.Gives (.dbgPoke o p) (fun u => same u ∧ Memory.readBytes u.mem 0x280000 4 = [5, 6, 7, 8] ∧
      (a < 0x280000 ∨ 0x280004 ≤ a → Memory.read u.mem a = Memory.read s.mem a))) ∧
    (s.starts o 0x0B02 p = true → p = leBytes 4 0x280002 ++ [1, 0, 0, 0, 5, 6, 7, 8] → s.Gives (.dbgPoke o p) (fun u => gave u 0x0B02 .badArg [])) ∧
    (s.starts o 0x0B02 p = true → 1 ≤ s.debugLevel → p = leBytes 4 0x280000 ++ [1, 0, 0, 0, 5, 6, 7, 8] → s.Gives (.dbgPoke o p) (fun u => gave u 0x0B02 .notPermitted [])) ∧
    (s.starts o 0x0B02 p = true → open_ → s.reaches b = true → s.hasTug b = true → p = leBytes 4 (0x40000020 + 0x1000 * b.val) ++ [1, 0, 0, 0, 5, 6, 7, 8] → s.Gives (.dbgPoke o p) (fun u => gave u 0x0B02 .notPermitted []))

/-- R326, R327, R357 to R377, Tables 13.4 to 13.6. -/
def Obligations.TwoWireTarget : Prop :=
  ∀ (s : State) (b : BerthId) (v pec : Byte) (m : BitVec 16) (w : Word) (at_ : Stamp) (won done : Bool) (r : Response) (traffic : List BusEvent),
    let x := s.berths[b]
    let on_ := s.smb.on = true
    let sel := s.smb.on = true ∧ s.smb.select = BitVec.ofNat 8 b.val
    let all_ := s.smb.on = true ∧ 48 ≤ s.smb.select.toNat
    let z : State := { s with smb := { s.smb with bus := .idle } }
    let out (l : Option (List Byte)) (k : Smb) : Smb := { k with bus := .idle, out := l }
    let read (code : Byte) (data : List Byte) (t : State) : Prop := t = { s with smb := out (some (data ++ [pecOf ([s.addrW, code, s.addrW ||| 1#8] ++ data)])) s.smb }
    let nack (t : State) : Prop := t = ({ s with smb := out none s.smb } : State).smbCount 1
    let plain := s.smb.timing.getLsbD 24 = false
    (s.smb.on = false → s.Stands (.tunnelCmd [v] none at_) ∧ s.Stands (.tunnelRsp done) ∧ s.Stands (.berthSelect (some v) none) ∧ s.Stands (.identify) ∧ s.Stands (.status) ∧ s.Stands (.alertStatus) ∧ s.Stands (.alertMask (some m) none) ∧
      s.Stands (.smbCounts) ∧ s.Stands (.filterReset none) ∧ s.Stands (.vbusAvg) ∧ s.Stands (.vbusPeak) ∧ s.Stands (.vbusAll) ∧ s.Stands (.smbTiming (some w) none) ∧ s.Stands (.alertResponseAddress won) ∧ s.Stands (.smbusTimeout traffic)) ∧
    (on_ → s.Gives (.identify) (fun t => read 0x01 s.smbIdentify t ∧ s.smbIdentify.length = 16)) ∧
    (on_ → s.Gives (.vbusAll) (fun t => read 0x20 (s.smbAll 0) t ∧ (s.smbAll 0).length = 97)) ∧
    (on_ → s.Gives (.currAll) (fun t => read 0x21 (s.smbAll 1) t)) ∧ (on_ → s.Gives (.powerAll) (fun t => read 0x22 (s.smbAll 2) t)) ∧ (on_ → s.Gives (.tempAll) (fun t => read 0x23 (s.smbAll 3) t)) ∧
    (on_ → s.Gives (.validAll) (fun t => read 0x24 s.smbValid t ∧ s.smbValid.length = 9)) ∧ (on_ → s.Gives (.devicePower) (fun t => read 0x28 s.smbPower t ∧ s.smbPower.length = 5)) ∧
    (on_ → s.Gives (.vin) (fun t => read 0x29 s.smbVin t ∧ s.smbVin.length = 13)) ∧
    (sel → s.Gives (.status) (fun t => read 0x02 (leBytes 2 (s.smbStatus b)) t ∧ (s.smbStatus b).testBit 1 = x.attached ∧ (s.smbStatus b).testBit 2 = x.id.contract.isSome ∧
      (s.smbStatus b).testBit 4 = x.id.eprMode ∧ (s.smbStatus b).testBit 5 = decide (x.cc.state = .lockedOut))) ∧
    (sel → s.Gives (.vbusAvg) (fun t => read 0x10 (s.smbAvg b 0) t)) ∧ (sel → s.Gives (.currAvg) (fun t => read 0x11 (s.smbAvg b 1) t)) ∧ (sel → s.Gives (.powerAvg) (fun t => read 0x12 (s.smbAvg b 2) t)) ∧
    (sel → s.Gives (.tempAvg) (fun t => read 0x13 (s.smbAvg b 3) t)) ∧
    (sel → s.Gives (.vbusPeak) (fun t => t.smb.out = some (s.smbPeak b 0 ++ [pecOf ([s.addrW, 0x18, s.addrW ||| 1#8] ++ s.smbPeak b 0)]) ∧ t.tele = s.tele.set b { s.tele[b] with peaks := s.tele[b].peaks.set (0 : Fin 4) none } ∧ t.berths = s.berths)) ∧
    (sel → s.Gives (.currPeak) (fun t => t.smb.out = some (s.smbPeak b 1 ++ [pecOf ([s.addrW, 0x19, s.addrW ||| 1#8] ++ s.smbPeak b 1)]) ∧ t.tele = s.tele.set b { s.tele[b] with peaks := s.tele[b].peaks.set (1 : Fin 4) none } ∧ t.berths = s.berths)) ∧
    (sel → s.Gives (.powerPeak) (fun t => t.smb.out = some (s.smbPeak b 2 ++ [pecOf ([s.addrW, 0x1A, s.addrW ||| 1#8] ++ s.smbPeak b 2)]) ∧ t.tele = s.tele.set b { s.tele[b] with peaks := s.tele[b].peaks.set (2 : Fin 4) none } ∧ t.berths = s.berths)) ∧
    (sel → s.Gives (.tempPeak) (fun t => t.smb.out = some (s.smbPeak b 3 ++ [pecOf ([s.addrW, 0x1B, s.addrW ||| 1#8] ++ s.smbPeak b 3)]) ∧ t.tele = s.tele.set b { s.tele[b] with peaks := s.tele[b].peaks.set (3 : Fin 4) none } ∧ t.berths = s.berths)) ∧
    (sel → s.Gives (.peaks) (fun t => t.tele = s.tele.set b s.tele[b].resetPeaks ∧ t.berths = s.berths)) ∧
    (sel → x.id.contract = none → s.Gives (.contract) (fun t => read 0x1D [0, 0, 0, 0] t)) ∧
    (all_ → s.Gives (.status) (fun t => nack t) ∧ s.Gives (.vbusAvg) (fun t => nack t) ∧ s.Gives (.currAvg) (fun t => nack t) ∧ s.Gives (.powerAvg) (fun t => nack t) ∧ s.Gives (.tempAvg) (fun t => nack t) ∧ s.Gives (.vbusPeak) (fun t => nack t) ∧ s.Gives (.currPeak) (fun t => nack t) ∧ s.Gives (.powerPeak) (fun t => nack t) ∧
      s.Gives (.tempPeak) (fun t => nack t) ∧ s.Gives (.peaks) (fun t => nack t) ∧ s.Gives (.contract) (fun t => nack t) ∧ s.Gives (.window none none) (fun t => nack t)) ∧
    (on_ → s.Gives (.berthSelect none none) (fun t => read 0x00 [s.smb.select] t)) ∧
    (on_ → plain → v.toNat < s.berthsOn ∨ v = 0xFF → s.Gives (.berthSelect (some v) none) (fun t => t = { s with smb := { out (some []) s.smb with select := v } })) ∧
    (on_ → v.toNat < s.berthsOn ∨ v = 0xFF → s.Gives (.berthSelect (some v) (some (pecOf [s.addrW, 0x00, v]))) (fun t => t = { s with smb := { out (some []) s.smb with select := v } })) ∧
    (on_ → v.toNat < s.berthsOn ∨ v = 0xFF → pec ≠ pecOf [s.addrW, 0x00, v] → s.Gives (.berthSelect (some v) (some pec)) (fun t =>
      t = ({ s with smb := { out none s.smb with sticky := s.smb.sticky ||| 0x20#6 } } : State).smbCount 0)) ∧
    (on_ → s.smb.timing.getLsbD 24 = true → v.toNat < s.berthsOn ∨ v = 0xFF → s.Gives (.berthSelect (some v) none) (fun t => t = { s with smb := out none s.smb })) ∧
    (on_ → s.berthsOn ≤ v.toNat → v ≠ 0xFF → s.Gives (.berthSelect (some v) none) (fun t => nack t)) ∧
    (on_ → s.Gives (.alertStatus) (fun t => t = { s with smb := { out (some (leBytes 2 s.alertBits.toNat ++ [pecOf ([s.addrW, 0x03, s.addrW ||| 1#8] ++ leBytes 2 s.alertBits.toNat)])) s.smb with sticky := 0 } })) ∧
    (on_ → s.Gives (.alertMask none none) (fun t => read 0x04 (leBytes 2 s.smb.mask.toNat) t)) ∧
    (on_ → plain → s.smbBooted = true → s.Gives (.alertMask (some m) none) (fun t => t = { s with smb := { out (some []) s.smb with mask := (m &&& 0x3E#16) ||| 1#16 } })) ∧
    (on_ → s.smbBooted = false → s.Gives (.alertMask (some m) none) (fun t => nack t) ∧ s.Gives (.filterReset none) (fun t => nack t) ∧ s.Gives (.tunnelCmd [v] none at_) (fun t => nack t) ∧ s.Gives (.tunnelRsp done) (fun t => nack t)) ∧
    (on_ → s.Gives (.smbCounts) (fun t => t.smb.ovf = 0 ∧ t.smb.cnt = Vector.ofFn (fun (i : Fin 4) => if s.smb.ovf.getLsbD i.val then 0 else s.smb.cnt[i]) ∧ (t.smb.out.getD []).length = 21 ∧ t.berths = s.berths)) ∧
    (on_ → plain → s.smbBooted = true → s.Gives (.filterReset none) (fun t => t = { s with smb := out (some []) s.smb, later := s.later ++ [.telConfig s.smbTargets 0 true none] })) ∧
    (on_ → s.Gives (.smbTiming none none) (fun t => read 0xE0 (4#8 :: leBytes 4 s.smb.timing.toNat) t)) ∧
    (on_ → State.timingOk w = false → s.Gives (.smbTiming (some w) none) (fun t => nack t)) ∧
    (on_ → plain → State.timingOk w = true → s.Gives (.smbTiming (some w) none) (fun t => t.smb.timing = State.timingClamp w ∧ t.smb.out = some [] ∧ t.berths = s.berths ∧
      t.smb.sticky = (if (State.timingClamp w).getLsbD 25 then s.smb.sticky ||| 4#6 else s.smb.sticky))) ∧
    (on_ → s.alerting = true → won = true → s.Gives (.alertResponseAddress won) (fun t => t = { s with smb := out (some [s.addrW, pecOf [0x19, s.addrW]]) s.smb })) ∧
    (on_ → s.alerting = false ∨ won = false → s.Gives (.alertResponseAddress won) (fun t => t = { s with smb := out none s.smb })) ∧
    (on_ → s.smb.bus = .idle → s.Gives (.smbusTimeout []) (fun t => t = s.smbCount 2)) ∧
    (on_ → s.Gives (.smbusTimeout traffic) (fun t => t.smb.bus = .idle ∧ t.smb.select = s.smb.select ∧ t.smb.timing = s.smb.timing ∧ t.berths = s.berths ∧ t.mem = s.mem)) ∧
    (on_ → s.smb.bus ≠ .idle → s.Gives (.smbusTimeout (List.replicate 9 (.clock true) ++ [.stop])) (fun t => t.smb.bus = .idle)) ∧
    (on_ → plain → s.smbBooted = true → s.smb.part = none → s.Gives (.tunnelCmd [0x80, 1, 0, 7, 0, 1, 1, 0, 0] none at_) (fun t =>
      t = ({ s with smb := out (some []) s.smb } : State).tunnelMessage [1, 0, 7, 0, 1, 1, 0, 0] at_)) ∧
    (s.freeTags ≠ 0 → s.tagUsed 7 = false → s.tagsOn .tunnel < 8 → s.tunnelMessage [1, 0, 7, 0, 1, 1, 0, 0] at_ = s.enterTag { path := .tunnel, tag := 7 } 0x0101 false (some []) at_) ∧
    (s.tunnelMessage [2, 0, 7, 0, 1, 1, 0, 0] at_ = s.smbCount 3 ∧ s.tunnelMessage [1, 0, 7, 0, 1, 1, 1, 0] at_ = s.smbCount 3) ∧
    (on_ → plain → s.smbBooted = true → s.smb.part = none → s.Gives (.tunnelCmd [0, 1, 0] none at_) (fun t => t = { s with smb := { out (some []) s.smb with part := some (1, [1, 0]) } })) ∧
    (on_ → s.smbBooted = true → s.smb.rsps = [] → s.Gives (.tunnelRsp done) (fun t => read 0xF1 [1, 0xFF] t)) ∧
    (on_ → s.smbBooted = true → s.smb.rsps = [(r, 0)] → r.reject = false → r.payload.length ≤ 246 → s.Gives (.tunnelRsp true) (fun t =>
      t.smb.rsps = [] ∧ t.tagUsed r.origin.tag = false ∧ (t.smb.out.getD []).drop 1 = [0x80] ++ State.responseBytes r ++ [pecOf ([s.addrW, 0xF1, s.addrW ||| 1#8, BitVec.ofNat 8 (r.payload.length + 9), 0x80] ++ State.responseBytes r)] ∧ t.berths = s.berths)) ∧
    (on_ → s.smbBooted = true → s.smb.rsps = [(r, 0)] → 246 < r.payload.length → r.payload.length ≤ 512 → s.Gives (.tunnelRsp true) (fun t => t.smb.rsps = [(r, 1)] ∧ t.tags = s.tags)) ∧
    (on_ → s.smbBooted = true → s.Gives (.tunnelRsp false) (fun t => t.smb.rsps = s.smb.rsps ∧ t.tags = s.tags))

/-- R459 to R467 and Table 17.1. -/
def Obligations.PilotSessions : Prop :=
  ∀ (s : State) (code : Word) (rate : Nat) (y : PilotOut),
    let on_ := s.pilot.on = true
    let n : State := { s with pilot := { s.pilot with revert := false } }
    let c := s.pilot
    let failed : State := { n with pilot := { n.pilot with fails := if 3 ≤ c.fails + 1 then 0 else c.fails + 1, blocked := c.blocked || decide (3 ≤ c.fails + 1) } }
    (s.pilot.on = false → s.Stands (.uartBreak) ∧ s.Stands (.lineTooLong) ∧ s.Stands (.pilotHelp) ∧ s.Stands (.pilotBaud rate) ∧ s.Stands (.pilotUnlock code) ∧ s.Stands (.pilotChallenge) ∧ s.Stands (.pilotRespond code) ∧ s.Stands (.pilotLock) ∧ s.Stands (.pilotId)) ∧
    (on_ → s.Gives (.uartBreak) (fun t => t.pilot.level = 0 ∧ t.pilot.baud = 115200 ∧ t.pilot.revert = false ∧ t.pilot.marks.all (fun (m : Nat × PilotOut) => !m.2.isRate) = true ∧
      t = ({ s with pilot := { c with level := 0, baud := 115200, revert := false, marks := c.marks.filter (fun (m : Nat × PilotOut) => !m.2.isRate) } } : State).say [.banner])) ∧
    (c.revert = true → s.Gives (.baudRevert) (fun t => t = { s with pilot := { c with baud := 115200, revert := false } })) ∧ (c.revert = false → s.Stands (.baudRevert)) ∧
    s.Gives (.sessionTimeout) (fun t => t = { s with pilot := { c with level := 0 } }) ∧ s.Gives (.unlockBlockEnd) (fun t => t = { s with pilot := { c with blocked := false } }) ∧
    s.Gives (.challengeExpiry) (fun t => t = { s with pilot := { c with challenge := none } }) ∧
    (on_ → s.Gives (.lineTooLong) (fun t => t = n.say [.err .badLength, .prompt c.level])) ∧
    (on_ → s.Gives (.pilotHelp) (fun t => t = n.say ((State.helpFor c.level).map (fun (z : String) => PilotOut.bytes (State.ascii z)) ++ [.ok, .prompt c.level]))) ∧
    (on_ → rate = 115200 ∨ rate = 921600 ∨ rate = 3000000 → s.Gives (.pilotBaud rate) (fun t => t = n.say [.ok, .rate rate, .prompt c.level])) ∧
    (on_ → [115200, 230400, 460800, 921600, 1500000, 3000000].contains rate = false → s.Gives (.pilotBaud rate) (fun t => t = n.say [.err .badArg, .prompt c.level])) ∧
    (on_ → c.blocked = true ∨ s.pilotCap < 1 → s.Gives (.pilotUnlock code) (fun t => t = n.say [.err .notPermitted, .prompt c.level])) ∧
    (on_ → c.blocked = true ∨ s.pilotCap < 2 → s.Gives (.pilotRespond code) (fun t => t = n.say [.err .notPermitted, .prompt c.level])) ∧
    (on_ → c.blocked = false → 1 ≤ s.pilotCap → code = s.unlockCode → s.Gives (.pilotUnlock code) (fun t =>
      t = ({ n with pilot := { n.pilot with level := max c.level 1, fails := 0 } } : State).say [.ok, .prompt (max c.level 1)])) ∧
    (on_ → c.blocked = false → 1 ≤ s.pilotCap → code ≠ s.unlockCode → s.Gives (.pilotUnlock code) (fun t => t = failed.say [.err .notPermitted, .prompt c.level])) ∧
    (s.retained.backup[8] ≠ 0 → s.unlockCode = s.retained.backup[8]) ∧ (s.retained.backup[8] = 0 → s.unlockCode = crc32 s.uidBytes) ∧
    (on_ → s.Gives (.pilotChallenge) (fun t => t.pilot.challenge = some ((Config.pilotChallenge c.draws).setWidth 32) ∧ t.pilot.draws = c.draws + 1 ∧ t.pilot.level = c.level ∧ t.berths = s.berths)) ∧
    (on_ → c.blocked = false → 2 ≤ s.pilotCap → c.challenge = some 77#32 → code = s.respondCode 77#32 → s.Gives (.pilotRespond code) (fun t => t.pilot.level = max c.level 2 ∧ t.pilot.fails = 0 ∧ t.pilot.challenge = none ∧ t.berths = s.berths)) ∧
    (on_ → c.blocked = false → 2 ≤ s.pilotCap → c.challenge = none ∨ (c.challenge = some 77#32 ∧ code ≠ s.respondCode 77#32) → s.Gives (.pilotRespond code) (fun t =>
      t = ({ failed with pilot := { failed.pilot with challenge := none } } : State).say [.err .notPermitted, .prompt c.level])) ∧
    (on_ → s.Gives (.pilotLock) (fun t => t = ({ n with pilot := { n.pilot with level := 0 } } : State).say [.ok, .prompt 0])) ∧
    (on_ → s.tagsOn .pilot ≤ 3 → s.Gives (.pilotId) (fun t => t.pilot.level = c.level ∧ t.berths = s.berths ∧ t.mem = s.mem)) ∧
    (c.lost = 0 → c.wait = [] → c.fits y = true → y.isMark = false → c.add y = { c with out := c.out ++ [y], made := c.made + y.chars } ∧ c.addTrace y = c.add y) ∧
    (c.lost = 0 → c.wait = [] → c.fits y = false → c.add y = { c with wait := [y] } ∧ c.addTrace y = { c with lost := 1 }) ∧
    (c.lost = 0 → c.wait ≠ [] → c.add y = { c with wait := c.wait ++ [y] } ∧ c.addTrace y = { c with lost := 1 }) ∧
    (c.lost ≠ 0 → c.fits (.lost c.lost) = false → c.add y = { c with wait := c.wait ++ [y] } ∧ c.addTrace y = { c with lost := c.lost + 1 })

/-- R328, R419, R465, R467 to R469 and Table 17.2. -/
def Obligations.PilotCommands : Prop :=
  ∀ (s : State) (b : BerthId) (t : TugId) (a : Nat) (m : BitVec 48) (kinds : BitVec 4) (w : Word) (f : CapFrozen) (rel : Bool),
    let c := s.pilot
    let at1 := c.on = true ∧ 1 ≤ c.level
    let at2 := c.on = true ∧ 2 ≤ c.level
    let room := s.tagsOn .pilot < 4
    let n : State := { s with pilot := { c with revert := false } }
    let deny (u : State) : Prop := u = n.say [.err .notPermitted, .prompt c.level]
    let bad (u : State) : Prop := u = n.say [.err .badArg, .prompt c.level]
    let o : Origin := { path := .pilot, tag := s.pilotTag }
    let took (code level : Nat) (p : List Byte) : State :=
      let e := n.enterTag o code false (some p) s.now
      { e with tags := e.tags.map (fun (g : TagEntry) => if g.origin = o then { g with level := level } else g) }
    (c.on = true → c.level = 0 → s.Gives (.pilotState) (fun u => deny u) ∧ s.Gives (.pilotBerth 9) (fun u => deny u) ∧ s.Gives (.pilotRegs 9 0) (fun u => deny u) ∧ s.Gives (.pilotTug t.val) (fun u => deny u) ∧
      s.Gives (.pilotPeek a 1) (fun u => deny u) ∧ s.Gives (.pilotAlloc 0 1) (fun u => deny u) ∧ s.Gives (.pilotHealth) (fun u => deny u) ∧ s.Gives (.pilotManList 0 9) (fun u => deny u) ∧ s.Gives (.pilotManRead 5) (fun u => deny u) ∧
      s.Gives (.pilotTrace m kinds) (fun u => deny u)) ∧
    (c.on = true → c.level ≤ 1 → s.Gives (.pilotPoke a [w]) (fun u => deny u) ∧ s.Gives (.pilotCapArm 9 2 10 20) (fun u => deny u) ∧ s.Gives (.pilotCapDump 9 rel) (fun u => deny u)) ∧
    (at1 → s.Gives (.pilotTug t.val) (fun u => u = n.say [.words s.tugs[t].shown, .ok, .prompt c.level])) ∧ (at1 → s.Gives (.pilotTug 52) (fun u => bad u)) ∧
    (at1 → s.debugLevel < 2 → s.Gives (.pilotPeek 0x7F004020 2) (fun u => u = ({ n with freeCtr := s.freeCtr + 1 } : State).say [.words [0, 0], .ok, .prompt c.level])) ∧
    (at1 → s.debugLevel < 2 → s.Gives (.pilotPeek 0x7F004000 1) (fun u => u = ({ n with freeCtr := s.freeCtr + 1 } : State).say [.words [s.retained.backup[0].toNat], .ok, .prompt c.level])) ∧
    (at1 → s.Gives (.pilotPeek 2 1) (fun u => bad u)) ∧ (at1 → 2 ≤ s.debugLevel → s.Gives (.pilotPeek 0 1) (fun u => deny u)) ∧
    (at1 → s.Gives (.pilotRegs 9 0xB) (fun u => bad u) ∧ s.Gives (.pilotRegs 48 0) (fun u => bad u)) ∧
    (at1 → b.val < s.berthsOn → s.isFenced b = false → s.reaches b = true → s.debugLevel < 2 → s.Gives (.pilotRegs b.val 7) (fun u => u.berths = s.berths ∧ u.mem = s.mem ∧ u.tugs = s.tugs ∧ u.freeCtr = s.freeCtr + 7 ∧ u.pilot.level = c.level)) ∧
    (at1 → s.Gives (.pilotManRead 5) (fun u => u = n.say [.bytes ((s.slotBytes 5).take 0x230), .bytes ((s.slotBytes 5).drop 0xFE0), .ok, .prompt c.level])) ∧ (at1 → s.Gives (.pilotManRead 1024) (fun u => bad u)) ∧
    (at1 → s.Gives (.pilotManList 4 0xFF) (fun u => u = n.say ((s.areaSlots 4).map (fun (k : Nat) => PilotOut.bytes (s.listEntry k)) ++ [.ok, .prompt c.level]))) ∧ (at1 → s.Gives (.pilotManList 6 0xFF) (fun u => bad u)) ∧
    (at1 → s.Gives (.pilotTrace m kinds) (fun u => u = ({ n with pilot := { n.pilot with trace := { set := m, kinds := kinds } } } : State).say [.ok, .prompt c.level])) ∧
    (at2 → b.val < s.berthsOn → s.tele[b].frozen = none → s.Gives (.pilotCapDump b.val rel) (fun u => deny u)) ∧
    (at2 → b.val < s.berthsOn → s.tele[b].frozen = some f → f.size ≤ 3 → s.Gives (.pilotCapDump b.val rel) (fun u =>
      u = n.say ((List.range f.size).map (fun (i : Nat) => PilotOut.capSet i (State.setOfBytes (s.ringRead b (f.first + i)))) ++ (if rel then [PilotOut.release b] else []) ++ [.ok, .prompt c.level]))) ∧
    (at1 → room → s.Gives (.pilotState) (fun u => u = s.landed (execDevGetState o [] (took 0x0102 (max 1 c.level) [])))) ∧
    (at1 → room → s.Gives (.pilotBerth b.val) (fun u => u = s.landed (execBerthGetState o [BitVec.ofNat 8 b.val, 0, 0, 0] (took 0x0205 (max 1 c.level) [BitVec.ofNat 8 b.val, 0, 0, 0])))) ∧
    (at1 → s.Gives (.pilotBerth 256) (fun u => bad u) ∧ s.Gives (.pilotAlloc 256 1) (fun u => bad u)) ∧
    (at1 → room → s.Gives (.pilotAlloc 2 3) (fun u => u = s.landed (execPowerGetAlloc o [2, 3, 0, 0] (took 0x0403 (max 1 c.level) [2, 3, 0, 0])))) ∧
    (at1 → room → s.Gives (.pilotHealth) (fun u => u = s.landed (execSvcHealth o [] (took 0x0905 (max 1 c.level) [])))) ∧
    (at2 → room → s.Gives (.pilotPoke 0x280000 [w]) (fun u => u = s.landed (execDbgPoke o ([0, 0, 0x28, 0, 1, 0, 0, 0] ++ leBytes 4 w.toNat) (took 0x0B02 c.level ([0, 0, 0x28, 0, 1, 0, 0, 0] ++ leBytes 4 w.toNat))))) ∧
    (at2 → s.Gives (.pilotPoke (2 ^ 32) [w]) (fun u => bad u) ∧ s.Gives (.pilotCapArm 256 2 10 20) (fun u => bad u)) ∧
    (at2 → room → s.Gives (.pilotCapArm 9 2 10 20) (fun u => u = s.landed (execCapArm o [9, 2, 0, 0, 10, 0, 20, 0, 0, 0, 0, 0] (took 0x0604 c.level [9, 2, 0, 0, 10, 0, 20, 0, 0, 0, 0, 0])))) ∧
    (at1 → s.tagsOn .pilot = 4 → s.Gives (.pilotState) (fun u => u = n.say [.err .noResource, .prompt c.level]) ∧ s.Gives (.pilotMb 0x0101 []) (fun u => u = n.say [.err .noResource, .prompt c.level])) ∧
    (c.on = true → room → s.Gives (.pilotMb 0x0101 []) (fun u => u = took 0x0101 c.level [])) ∧
    (c.on = true → room → s.Gives (.pilotMb 0x0F0F [1]) (fun u => u = (took 0x0F0F c.level [1]).respond o 0x0F0F .unknownCmd))

/-- R419, R483. -/
def Obligations.BoundaryScan : Prop :=
  ∀ (s : State) (b : BerthId) (pins shift : BitVec 222) (i : Fin 30) (j : Fin 4) (k : Fin 222),
    s.Gives (.jtagIdcode) (fun t => t = { s with jtag := { s.jtag with idcode := 0x10480E5F#32, bypass := false, driven := false } } ∧ t.scanDrive = none) ∧
    s.Gives (.jtagBypass) (fun t => t = { s with jtag := { s.jtag with bypass := true, driven := false } } ∧ t.scanDrive = none) ∧
    s.Gives (.jtagSamplePreload pins shift) (fun t => t = { s with jtag := { s.jtag with scan := t.jtag.scan, preload := shift, bypass := false, driven := false } } ∧ t.scanDrive = none ∧
      t.jtag.scan.getLsbD k.val = (pins.getLsbD k.val && s.cellOn k.val)) ∧
    s.Gives (.jtagExtest) (fun t => t = { s with jtag := { s.jtag with driven := true, bypass := false } } ∧
      (t.scanDrive.getD 0).getLsbD k.val = (s.jtag.preload.getLsbD k.val && s.cellOn k.val) ∧ t.scanDrive.isSome = true) ∧
    s.cellOn i.val = true ∧ (s.cellOn (30 + 4 * b.val + j.val) = true ↔ b.val < s.berthsOn ∧ s.reaches b = true)
end

