-- ==== Sys2Proof/Laws/Memory.lean ====
section
/-!
SUPPORT. Byte memory: a read after a write, and that every operation keeps the canonical form.
-/

namespace Sys2Proof.Machine.Memory

theorem above_mono {lo hi : Nat} {m : List Host.Cell} (h : above hi m = true) (l : lo ≤ hi) : above lo m = true := by
  cases m with
  | nil => rfl
  | cons c r => simp only [above, Bool.and_eq_true, decide_eq_true_eq] at *; exact ⟨⟨by omega, h.1.2⟩, h.2⟩

/-- An address below every listed one reads as an unlisted one. -/
theorem read_above {lo : Nat} {m : List Host.Cell} (h : above lo m = true) {a : Nat} (l : a < lo) : read m a = 0 := by
  induction m generalizing lo with
  | nil => rfl
  | cons c r ih =>
    simp only [above, Bool.and_eq_true, decide_eq_true_eq] at h
    simp only [read]
    rw [if_neg (by omega)]
    exact ih h.2 (by omega)

/-- A byte written reads back, and every other address reads as before. -/
theorem read_write_above {lo : Nat} {m : List Host.Cell} (h : above lo m = true) (a c : Nat) (v : Byte) :
    read (write m a v) c = if c = a then v else read m c := by
  induction m generalizing lo with
  | nil =>
    simp only [write]
    by_cases hv : v = 0
    · rw [if_pos hv, hv]; by_cases hc : c = a <;> simp [read, hc]
    · rw [if_neg hv]; rfl
  | cons x r ih =>
    simp only [above, Bool.and_eq_true, decide_eq_true_eq] at h
    simp only [write]
    by_cases h1 : a < x.1
    · rw [if_pos h1]
      by_cases hv : v = 0
      · rw [if_pos hv]
        by_cases hc : c = a
        · subst hc
          rw [if_pos rfl, hv]
          simp only [read]
          rw [if_neg (by omega)]
          exact read_above h.2 (by omega)
        · rw [if_neg hc]
      · rw [if_neg hv]; simp only [read]
    · rw [if_neg h1]
      by_cases h2 : a = x.1
      · rw [if_pos h2]
        by_cases hv : v = 0
        · rw [if_pos hv]
          by_cases hc : c = a
          · rw [if_pos hc, hv]; exact read_above h.2 (by omega)
          · simp only [read]; rw [if_neg hc, if_neg (by omega)]
        · rw [if_neg hv]; simp only [read]
          by_cases hc : c = a
          · rw [if_pos hc, if_pos hc]
          · rw [if_neg hc, if_neg hc, if_neg (by omega)]
      · rw [if_neg h2]; simp only [read]
        by_cases hx : c = x.1
        · rw [if_pos hx, if_pos hx, if_neg (by omega)]
        · rw [if_neg hx, if_neg hx]; exact ih h.2

/-- A byte written reads back, and every other address reads as before. -/
theorem read_write {m : List Host.Cell} (h : wf m = true) (a c : Nat) (v : Byte) :
    read (write m a v) c = if c = a then v else read m c := read_write_above h a c v

theorem above_write {lo : Nat} {m : List Host.Cell} (h : above lo m = true) (a : Nat) (v : Byte) (l : lo ≤ a) :
    above lo (write m a v) = true := by
  induction m generalizing lo with
  | nil =>
    by_cases hv : v = 0
    · simp only [write]; rw [if_pos hv]; rfl
    · simp only [write]; rw [if_neg hv]; simp only [above, Bool.and_eq_true, decide_eq_true_eq, bne_iff_ne]
      exact ⟨⟨l, hv⟩, trivial⟩
  | cons x r ih =>
    have h0 := h
    simp only [above, Bool.and_eq_true, decide_eq_true_eq] at h
    simp only [write]
    by_cases h1 : a < x.1
    · rw [if_pos h1]
      by_cases hv : v = 0
      · rw [if_pos hv]; exact h0
      · rw [if_neg hv]; simp only [above, Bool.and_eq_true, decide_eq_true_eq]
        exact ⟨⟨l, bne_iff_ne.2 hv⟩, ⟨h1, h.1.2⟩, h.2⟩
    · rw [if_neg h1]
      by_cases h2 : a = x.1
      · rw [if_pos h2]
        by_cases hv : v = 0
        · rw [if_pos hv]; exact above_mono h.2 (by omega)
        · rw [if_neg hv]; subst h2; simp only [above, Bool.and_eq_true, decide_eq_true_eq]
          exact ⟨⟨l, bne_iff_ne.2 hv⟩, h.2⟩
      · rw [if_neg h2]
        simp only [above, Bool.and_eq_true, decide_eq_true_eq]
        exact ⟨h.1, ih h.2 (by omega)⟩

/-- A write of one byte keeps the canonical form. -/
theorem wf_write {m : List Host.Cell} (h : wf m = true) (a : Nat) (v : Byte) : wf (write m a v) = true :=
  above_write h a v (Nat.zero_le _)

/-- A write of bytes keeps the canonical form. -/
theorem wf_writeBytes {m : List Host.Cell} (h : wf m = true) (a : Nat) (l : List Byte) : wf (writeBytes m a l) = true := by
  induction l generalizing m a with
  | nil => exact h
  | cons v r ih => exact ih (wf_write h a v) (a + 1)

/-- Every address outside the bytes written reads as before. -/
theorem read_writeBytes_out {m : List Host.Cell} (h : wf m = true) (a : Nat) (l : List Byte) (c : Nat)
    (o : c < a ∨ a + l.length ≤ c) : read (writeBytes m a l) c = read m c := by
  induction l generalizing m a with
  | nil => rfl
  | cons v r ih =>
    simp only [List.length_cons] at o
    simp only [writeBytes]
    rw [ih (wf_write h a v) (a + 1) (by omega), read_write h, if_neg (by omega)]

/-- The bytes written read back. -/
theorem read_writeBytes_in {m : List Host.Cell} (h : wf m = true) (a : Nat) (l : List Byte) (i : Nat) (o : i < l.length) :
    read (writeBytes m a l) (a + i) = l[i] := by
  induction l generalizing m a i with
  | nil => simp at o
  | cons v r ih =>
    simp only [writeBytes]
    cases i with
    | zero => rw [read_writeBytes_out (wf_write h a v) _ _ _ (by omega), Nat.add_zero, read_write h, if_pos rfl]; rfl
    | succ i =>
      have := ih (wf_write h a v) (a + 1) i (by simpa using o)
      rw [show a + (i + 1) = a + 1 + i by omega, this]; rfl

theorem above_filter {lo : Nat} {m : List Host.Cell} (h : above lo m = true) (p : Host.Cell → Bool) : above lo (m.filter p) = true := by
  induction m generalizing lo with
  | nil => rfl
  | cons x r ih =>
    simp only [above, Bool.and_eq_true, decide_eq_true_eq] at h
    rw [List.filter_cons]
    split
    · simp only [above, Bool.and_eq_true, decide_eq_true_eq]; exact ⟨h.1, ih h.2⟩
    · exact above_mono (ih h.2) (by omega)

theorem above_filter_ge {lo k : Nat} {m : List Host.Cell} (h : above lo m = true) : above k (m.filter (fun c => decide (k ≤ c.1))) = true := by
  induction m generalizing lo with
  | nil => rfl
  | cons x r ih =>
    simp only [above, Bool.and_eq_true, decide_eq_true_eq] at h
    rw [List.filter_cons]
    by_cases hk : k ≤ x.1
    · rw [if_pos (by simpa using hk)]
      simp only [above, Bool.and_eq_true, decide_eq_true_eq]
      exact ⟨⟨hk, h.1.2⟩, above_filter h.2 _⟩
    · rw [if_neg (by simpa using hk)]; exact ih h.2

theorem above_cells (a : Nat) (l : List Byte) : above a (cells a l) = true := by
  induction l generalizing a with
  | nil => rfl
  | cons v r ih =>
    by_cases hv : v = 0
    · rw [cells, if_pos hv]; exact above_mono (ih (a + 1)) (by omega)
    · rw [cells, if_neg hv]; simp only [above, Bool.and_eq_true, decide_eq_true_eq]; exact ⟨⟨le_refl _, bne_iff_ne.2 hv⟩, ih _⟩

/-- The cells of a list lie below its end. -/
theorem cells_below (a : Nat) (l : List Byte) : ∀ c ∈ cells a l, c.1 < a + l.length := by
  induction l generalizing a with
  | nil => simp [cells]
  | cons v r ih =>
    intro c hc
    simp only [List.length_cons]
    by_cases hv : v = 0
    · rw [cells, if_pos hv] at hc; have := ih (a + 1) c hc; omega
    · rw [cells, if_neg hv, List.mem_cons] at hc
      rcases hc with rfl | hc
      · show a < _; omega
      · have := ih (a + 1) c hc; omega

theorem above_append {lo k : Nat} {m n : List Host.Cell} (h : above lo m = true) (b : ∀ c ∈ m, c.1 < k) (g : above k n = true)
    (l : lo ≤ k) : above lo (m ++ n) = true := by
  induction m generalizing lo with
  | nil => exact above_mono g l
  | cons x r ih =>
    simp only [List.cons_append, above, Bool.and_eq_true, decide_eq_true_eq] at *
    exact ⟨h.1, ih h.2 (fun c hc => b c (List.mem_cons_of_mem _ hc)) (b x List.mem_cons_self)⟩

/-- Replacing a range keeps the canonical form. -/
theorem wf_setRange {m : List Host.Cell} (h : wf m = true) (a n : Nat) (l : List Byte) : wf (setRange m a n l) = true := by
  unfold setRange wf
  have hc := cells_below a (l.take n)
  have hl : (l.take n).length ≤ n := by simp
  refine above_append (k := a + n) (above_append (k := a) (above_filter h _) (by simp) (above_cells _ _) (Nat.zero_le _)) ?_
    (above_filter_ge h) (Nat.zero_le _)
  intro c hcm
  rcases List.mem_append.1 hcm with hm | hm
  · simp only [List.mem_filter, decide_eq_true_eq] at hm; omega
  · have := hc c hm; omega

end Sys2Proof.Machine.Memory
end

