-- ==== Sys2Proof/Laws/State.lean ====
section
/-!
SUPPORT. What the updates of one berth, quay, Tug or telemetry record leave: one lemma per field and update, so that no
proof unfolds a record update.
-/

namespace Sys2Proof.Machine.State

/-! ### One berth -/

/-- A berth that owes no decision number. -/
theorem settled_of (x : Berth) (h : x.pol.tookId = false) : ({ x with pol.tookId := false } : Berth) = x := by
  rw [← h]

/-- A berth just written reads as written, with no decision number owed. -/
@[simp] theorem setBerth_self (s : State) (b : BerthId) (x : Berth) :
    (s.setBerth b x).berths[b] = { x with pol.tookId := false } := by
  unfold setBerth
  split
  · simp
  · next h => simpa using (settled_of x (by simpa using h)).symm

/-- Every other berth stands. -/
theorem setBerth_other (s : State) (b c : BerthId) (x : Berth) (h : b ≠ c) : (s.setBerth b x).berths[c] = s.berths[c] := by
  have h2 : b.val ≠ c.val := fun e => h (Fin.ext e)
  unfold setBerth
  split <;> simp [h2]

/-- Everything that a write of one berth can do. -/
theorem setBerth_eq (s : State) (b : BerthId) (x : Berth) :
    s.setBerth b x = { s with berths := s.berths.set b { x with pol.tookId := false }, nextId := (s.setBerth b x).nextId } := by
  unfold setBerth
  split
  · rfl
  · next h => rw [settled_of x (by simpa using h)]

@[simp] theorem atBerth_self (s : State) (b : BerthId) (f : Env → Berth → Berth) :
    (s.atBerth b f).berths[b] = { f (s.env b) s.berths[b] with pol.tookId := false } := setBerth_self _ _ _

theorem atBerth_other (s : State) (b c : BerthId) (f : Env → Berth → Berth) (h : b ≠ c) :
    (s.atBerth b f).berths[c] = s.berths[c] := setBerth_other _ _ _ _ h

/-- Everything that a change of one berth can do. -/
theorem atBerth_eq (s : State) (b : BerthId) (f : Env → Berth → Berth) :
    s.atBerth b f = { s with berths := s.berths.set b { f (s.env b) s.berths[b] with pol.tookId := false }
                             nextId := (s.atBerth b f).nextId } := setBerth_eq _ _ _

@[simp] theorem setBerth_pending (s : State) (b : BerthId) (x : Berth) : (s.setBerth b x).pending = s.pending := by unfold setBerth; split <;> rfl
@[simp] theorem atBerth_pending (s : State) (b : BerthId) (f : Env → Berth → Berth) : (s.atBerth b f).pending = s.pending := setBerth_pending _ _ _
@[simp] theorem setBerth_mem (s : State) (b : BerthId) (x : Berth) : (s.setBerth b x).mem = s.mem := by unfold setBerth; split <;> rfl
@[simp] theorem atBerth_mem (s : State) (b : BerthId) (f : Env → Berth → Berth) : (s.atBerth b f).mem = s.mem := setBerth_mem _ _ _
@[simp] theorem setBerth_tideCount (s : State) (b : BerthId) (x : Berth) : (s.setBerth b x).tideCount = s.tideCount := by unfold setBerth; split <;> rfl
@[simp] theorem atBerth_tideCount (s : State) (b : BerthId) (f : Env → Berth → Berth) : (s.atBerth b f).tideCount = s.tideCount := setBerth_tideCount _ _ _
@[simp] theorem setBerth_roundPhase (s : State) (b : BerthId) (x : Berth) : (s.setBerth b x).roundPhase = s.roundPhase := by unfold setBerth; split <;> rfl
@[simp] theorem atBerth_roundPhase (s : State) (b : BerthId) (f : Env → Berth → Berth) : (s.atBerth b f).roundPhase = s.roundPhase := setBerth_roundPhase _ _ _
@[simp] theorem setBerth_ticking (s : State) (b : BerthId) (x : Berth) : (s.setBerth b x).ticking = s.ticking := by unfold setBerth; split <;> rfl
@[simp] theorem atBerth_ticking (s : State) (b : BerthId) (f : Env → Berth → Berth) : (s.atBerth b f).ticking = s.ticking := setBerth_ticking _ _ _
@[simp] theorem setBerth_ticks (s : State) (b : BerthId) (x : Berth) : (s.setBerth b x).ticks = s.ticks := by unfold setBerth; split <;> rfl
@[simp] theorem atBerth_ticks (s : State) (b : BerthId) (f : Env → Berth → Berth) : (s.atBerth b f).ticks = s.ticks := setBerth_ticks _ _ _
@[simp] theorem setBerth_tb (s : State) (b : BerthId) (x : Berth) : (s.setBerth b x).tb = s.tb := by unfold setBerth; split <;> rfl
@[simp] theorem atBerth_tb (s : State) (b : BerthId) (f : Env → Berth → Berth) : (s.atBerth b f).tb = s.tb := setBerth_tb _ _ _
@[simp] theorem setBerth_follower (s : State) (b : BerthId) (x : Berth) : (s.setBerth b x).follower = s.follower := by unfold setBerth; split <;> rfl
@[simp] theorem atBerth_follower (s : State) (b : BerthId) (f : Env → Berth → Berth) : (s.atBerth b f).follower = s.follower := setBerth_follower _ _ _
@[simp] theorem setBerth_syncLost (s : State) (b : BerthId) (x : Berth) : (s.setBerth b x).syncLost = s.syncLost := by unfold setBerth; split <;> rfl
@[simp] theorem atBerth_syncLost (s : State) (b : BerthId) (f : Env → Berth → Berth) : (s.atBerth b f).syncLost = s.syncLost := setBerth_syncLost _ _ _
@[simp] theorem setBerth_tideLocked (s : State) (b : BerthId) (x : Berth) : (s.setBerth b x).tideLocked = s.tideLocked := by unfold setBerth; split <;> rfl
@[simp] theorem atBerth_tideLocked (s : State) (b : BerthId) (f : Env → Berth → Berth) : (s.atBerth b f).tideLocked = s.tideLocked := setBerth_tideLocked _ _ _
@[simp] theorem setBerth_epochDue (s : State) (b : BerthId) (x : Berth) : (s.setBerth b x).epochDue = s.epochDue := by unfold setBerth; split <;> rfl
@[simp] theorem atBerth_epochDue (s : State) (b : BerthId) (f : Env → Berth → Berth) : (s.atBerth b f).epochDue = s.epochDue := setBerth_epochDue _ _ _
@[simp] theorem setBerth_roundDue (s : State) (b : BerthId) (x : Berth) : (s.setBerth b x).roundDue = s.roundDue := by unfold setBerth; split <;> rfl
@[simp] theorem atBerth_roundDue (s : State) (b : BerthId) (f : Env → Berth → Berth) : (s.atBerth b f).roundDue = s.roundDue := setBerth_roundDue _ _ _
@[simp] theorem setBerth_epochWant (s : State) (b : BerthId) (x : Berth) : (s.setBerth b x).epochWant = s.epochWant := by unfold setBerth; split <;> rfl
@[simp] theorem atBerth_epochWant (s : State) (b : BerthId) (f : Env → Berth → Berth) : (s.atBerth b f).epochWant = s.epochWant := setBerth_epochWant _ _ _
@[simp] theorem setBerth_tideOut (s : State) (b : BerthId) (x : Berth) : (s.setBerth b x).tideOut = s.tideOut := by unfold setBerth; split <;> rfl
@[simp] theorem atBerth_tideOut (s : State) (b : BerthId) (f : Env → Berth → Berth) : (s.atBerth b f).tideOut = s.tideOut := setBerth_tideOut _ _ _
@[simp] theorem setBerth_phase (s : State) (b : BerthId) (x : Berth) : (s.setBerth b x).phase = s.phase := by unfold setBerth; split <;> rfl
@[simp] theorem atBerth_phase (s : State) (b : BerthId) (f : Env → Berth → Berth) : (s.atBerth b f).phase = s.phase := setBerth_phase _ _ _
@[simp] theorem setBerth_oscillator (s : State) (b : BerthId) (x : Berth) : (s.setBerth b x).oscillator = s.oscillator := by unfold setBerth; split <;> rfl
@[simp] theorem atBerth_oscillator (s : State) (b : BerthId) (f : Env → Berth → Berth) : (s.atBerth b f).oscillator = s.oscillator := setBerth_oscillator _ _ _
@[simp] theorem setBerth_factoryBad (s : State) (b : BerthId) (x : Berth) : (s.setBerth b x).factoryBad = s.factoryBad := by unfold setBerth; split <;> rfl
@[simp] theorem atBerth_factoryBad (s : State) (b : BerthId) (f : Env → Berth → Berth) : (s.atBerth b f).factoryBad = s.factoryBad := setBerth_factoryBad _ _ _
@[simp] theorem setBerth_tele (s : State) (b : BerthId) (x : Berth) : (s.setBerth b x).tele = s.tele := by unfold setBerth; split <;> rfl
@[simp] theorem atBerth_tele (s : State) (b : BerthId) (f : Env → Berth → Berth) : (s.atBerth b f).tele = s.tele := setBerth_tele _ _ _
@[simp] theorem setBerth_quays (s : State) (b : BerthId) (x : Berth) : (s.setBerth b x).quays = s.quays := by unfold setBerth; split <;> rfl
@[simp] theorem atBerth_quays (s : State) (b : BerthId) (f : Env → Berth → Berth) : (s.atBerth b f).quays = s.quays := setBerth_quays _ _ _
@[simp] theorem setBerth_tugs (s : State) (b : BerthId) (x : Berth) : (s.setBerth b x).tugs = s.tugs := by unfold setBerth; split <;> rfl
@[simp] theorem atBerth_tugs (s : State) (b : BerthId) (f : Env → Berth → Berth) : (s.atBerth b f).tugs = s.tugs := setBerth_tugs _ _ _
@[simp] theorem setBerth_alloc (s : State) (b : BerthId) (x : Berth) : (s.setBerth b x).alloc = s.alloc := by unfold setBerth; split <;> rfl
@[simp] theorem atBerth_alloc (s : State) (b : BerthId) (f : Env → Berth → Berth) : (s.atBerth b f).alloc = s.alloc := setBerth_alloc _ _ _
@[simp] theorem setBerth_tables (s : State) (b : BerthId) (x : Berth) : (s.setBerth b x).tables = s.tables := by unfold setBerth; split <;> rfl
@[simp] theorem atBerth_tables (s : State) (b : BerthId) (f : Env → Berth → Berth) : (s.atBerth b f).tables = s.tables := setBerth_tables _ _ _
@[simp] theorem setBerth_links (s : State) (b : BerthId) (x : Berth) : (s.setBerth b x).links = s.links := by unfold setBerth; split <;> rfl
@[simp] theorem atBerth_links (s : State) (b : BerthId) (f : Env → Berth → Berth) : (s.atBerth b f).links = s.links := setBerth_links _ _ _
@[simp] theorem setBerth_eventLink (s : State) (b : BerthId) (x : Berth) : (s.setBerth b x).eventLink = s.eventLink := by unfold setBerth; split <;> rfl
@[simp] theorem atBerth_eventLink (s : State) (b : BerthId) (f : Env → Berth → Berth) : (s.atBerth b f).eventLink = s.eventLink := setBerth_eventLink _ _ _
@[simp] theorem setBerth_tags (s : State) (b : BerthId) (x : Berth) : (s.setBerth b x).tags = s.tags := by unfold setBerth; split <;> rfl
@[simp] theorem atBerth_tags (s : State) (b : BerthId) (f : Env → Berth → Berth) : (s.atBerth b f).tags = s.tags := setBerth_tags _ _ _
@[simp] theorem setBerth_nextOrder (s : State) (b : BerthId) (x : Berth) : (s.setBerth b x).nextOrder = s.nextOrder := by unfold setBerth; split <;> rfl
@[simp] theorem atBerth_nextOrder (s : State) (b : BerthId) (f : Env → Berth → Berth) : (s.atBerth b f).nextOrder = s.nextOrder := setBerth_nextOrder _ _ _
@[simp] theorem setBerth_jobs (s : State) (b : BerthId) (x : Berth) : (s.setBerth b x).jobs = s.jobs := by unfold setBerth; split <;> rfl
@[simp] theorem atBerth_jobs (s : State) (b : BerthId) (f : Env → Berth → Berth) : (s.atBerth b f).jobs = s.jobs := setBerth_jobs _ _ _
@[simp] theorem setBerth_later (s : State) (b : BerthId) (x : Berth) : (s.setBerth b x).later = s.later := by unfold setBerth; split <;> rfl
@[simp] theorem atBerth_later (s : State) (b : BerthId) (f : Env → Berth → Berth) : (s.atBerth b f).later = s.later := setBerth_later _ _ _
@[simp] theorem setBerth_rounds (s : State) (b : BerthId) (x : Berth) : (s.setBerth b x).rounds = s.rounds := by unfold setBerth; split <;> rfl
@[simp] theorem atBerth_rounds (s : State) (b : BerthId) (f : Env → Berth → Berth) : (s.atBerth b f).rounds = s.rounds := setBerth_rounds _ _ _
@[simp] theorem setBerth_tests (s : State) (b : BerthId) (x : Berth) : (s.setBerth b x).tests = s.tests := by unfold setBerth; split <;> rfl
@[simp] theorem atBerth_tests (s : State) (b : BerthId) (f : Env → Berth → Berth) : (s.atBerth b f).tests = s.tests := setBerth_tests _ _ _
@[simp] theorem setBerth_events (s : State) (b : BerthId) (x : Berth) : (s.setBerth b x).events = s.events := by unfold setBerth; split <;> rfl
@[simp] theorem atBerth_events (s : State) (b : BerthId) (f : Env → Berth → Berth) : (s.atBerth b f).events = s.events := setBerth_events _ _ _
@[simp] theorem setBerth_nextSeq (s : State) (b : BerthId) (x : Berth) : (s.setBerth b x).nextSeq = s.nextSeq := by unfold setBerth; split <;> rfl
@[simp] theorem atBerth_nextSeq (s : State) (b : BerthId) (f : Env → Berth → Berth) : (s.atBerth b f).nextSeq = s.nextSeq := setBerth_nextSeq _ _ _
@[simp] theorem setBerth_ackSeq (s : State) (b : BerthId) (x : Berth) : (s.setBerth b x).ackSeq = s.ackSeq := by unfold setBerth; split <;> rfl
@[simp] theorem atBerth_ackSeq (s : State) (b : BerthId) (f : Env → Berth → Berth) : (s.atBerth b f).ackSeq = s.ackSeq := setBerth_ackSeq _ _ _
@[simp] theorem setBerth_evWindow (s : State) (b : BerthId) (x : Berth) : (s.setBerth b x).evWindow = s.evWindow := by unfold setBerth; split <;> rfl
@[simp] theorem atBerth_evWindow (s : State) (b : BerthId) (f : Env → Berth → Berth) : (s.atBerth b f).evWindow = s.evWindow := setBerth_evWindow _ _ _
@[simp] theorem setBerth_lastSent (s : State) (b : BerthId) (x : Berth) : (s.setBerth b x).lastSent = s.lastSent := by unfold setBerth; split <;> rfl
@[simp] theorem atBerth_lastSent (s : State) (b : BerthId) (f : Env → Berth → Berth) : (s.atBerth b f).lastSent = s.lastSent := setBerth_lastSent _ _ _
@[simp] theorem setBerth_attn (s : State) (b : BerthId) (x : Berth) : (s.setBerth b x).attn = s.attn := by unfold setBerth; split <;> rfl
@[simp] theorem atBerth_attn (s : State) (b : BerthId) (f : Env → Berth → Berth) : (s.atBerth b f).attn = s.attn := setBerth_attn _ _ _
@[simp] theorem setBerth_linksDown (s : State) (b : BerthId) (x : Berth) : (s.setBerth b x).linksDown = s.linksDown := by unfold setBerth; split <;> rfl
@[simp] theorem atBerth_linksDown (s : State) (b : BerthId) (f : Env → Berth → Berth) : (s.atBerth b f).linksDown = s.linksDown := setBerth_linksDown _ _ _
@[simp] theorem setBerth_devOut (s : State) (b : BerthId) (x : Berth) : (s.setBerth b x).devOut = s.devOut := by unfold setBerth; split <;> rfl
@[simp] theorem atBerth_devOut (s : State) (b : BerthId) (f : Env → Berth → Berth) : (s.atBerth b f).devOut = s.devOut := setBerth_devOut _ _ _
@[simp] theorem setBerth_man (s : State) (b : BerthId) (x : Berth) : (s.setBerth b x).man = s.man := by unfold setBerth; split <;> rfl
@[simp] theorem atBerth_man (s : State) (b : BerthId) (f : Env → Berth → Berth) : (s.atBerth b f).man = s.man := setBerth_man _ _ _
@[simp] theorem setBerth_recSeq (s : State) (b : BerthId) (x : Berth) : (s.setBerth b x).recSeq = s.recSeq := by unfold setBerth; split <;> rfl
@[simp] theorem atBerth_recSeq (s : State) (b : BerthId) (f : Env → Berth → Berth) : (s.atBerth b f).recSeq = s.recSeq := setBerth_recSeq _ _ _
@[simp] theorem setBerth_records (s : State) (b : BerthId) (x : Berth) : (s.setBerth b x).records = s.records := by unfold setBerth; split <;> rfl
@[simp] theorem atBerth_records (s : State) (b : BerthId) (f : Env → Berth → Berth) : (s.atBerth b f).records = s.records := setBerth_records _ _ _
@[simp] theorem setBerth_repair (s : State) (b : BerthId) (x : Berth) : (s.setBerth b x).repair = s.repair := by unfold setBerth; split <;> rfl
@[simp] theorem atBerth_repair (s : State) (b : BerthId) (f : Env → Berth → Berth) : (s.atBerth b f).repair = s.repair := setBerth_repair _ _ _
@[simp] theorem setBerth_brittle (s : State) (b : BerthId) (x : Berth) : (s.setBerth b x).brittle = s.brittle := by unfold setBerth; split <;> rfl
@[simp] theorem atBerth_brittle (s : State) (b : BerthId) (f : Env → Berth → Berth) : (s.atBerth b f).brittle = s.brittle := setBerth_brittle _ _ _
@[simp] theorem setBerth_glaze (s : State) (b : BerthId) (x : Berth) : (s.setBerth b x).glaze = s.glaze := by unfold setBerth; split <;> rfl
@[simp] theorem atBerth_glaze (s : State) (b : BerthId) (f : Env → Berth → Berth) : (s.atBerth b f).glaze = s.glaze := setBerth_glaze _ _ _
@[simp] theorem setBerth_glazeStage (s : State) (b : BerthId) (x : Berth) : (s.setBerth b x).glazeStage = s.glazeStage := by unfold setBerth; split <;> rfl
@[simp] theorem atBerth_glazeStage (s : State) (b : BerthId) (f : Env → Berth → Berth) : (s.atBerth b f).glazeStage = s.glazeStage := setBerth_glazeStage _ _ _
@[simp] theorem setBerth_harbour (s : State) (b : BerthId) (x : Berth) : (s.setBerth b x).harbour = s.harbour := by unfold setBerth; split <;> rfl
@[simp] theorem atBerth_harbour (s : State) (b : BerthId) (f : Env → Berth → Berth) : (s.atBerth b f).harbour = s.harbour := setBerth_harbour _ _ _
@[simp] theorem setBerth_smb (s : State) (b : BerthId) (x : Berth) : (s.setBerth b x).smb = s.smb := by unfold setBerth; split <;> rfl
@[simp] theorem atBerth_smb (s : State) (b : BerthId) (f : Env → Berth → Berth) : (s.atBerth b f).smb = s.smb := setBerth_smb _ _ _
@[simp] theorem setBerth_pilot (s : State) (b : BerthId) (x : Berth) : (s.setBerth b x).pilot = s.pilot := by unfold setBerth; split <;> rfl
@[simp] theorem atBerth_pilot (s : State) (b : BerthId) (f : Env → Berth → Berth) : (s.atBerth b f).pilot = s.pilot := setBerth_pilot _ _ _
@[simp] theorem setBerth_jtag (s : State) (b : BerthId) (x : Berth) : (s.setBerth b x).jtag = s.jtag := by unfold setBerth; split <;> rfl
@[simp] theorem atBerth_jtag (s : State) (b : BerthId) (f : Env → Berth → Berth) : (s.atBerth b f).jtag = s.jtag := setBerth_jtag _ _ _
@[simp] theorem setBerth_supplies (s : State) (b : BerthId) (x : Berth) : (s.setBerth b x).supplies = s.supplies := by unfold setBerth; split <;> rfl
@[simp] theorem atBerth_supplies (s : State) (b : BerthId) (f : Env → Berth → Berth) : (s.atBerth b f).supplies = s.supplies := setBerth_supplies _ _ _
@[simp] theorem setBerth_retained (s : State) (b : BerthId) (x : Berth) : (s.setBerth b x).retained = s.retained := by unfold setBerth; split <;> rfl
@[simp] theorem atBerth_retained (s : State) (b : BerthId) (f : Env → Berth → Berth) : (s.atBerth b f).retained = s.retained := setBerth_retained _ _ _
@[simp] theorem setBerth_snaps (s : State) (b : BerthId) (x : Berth) : (s.setBerth b x).snaps = s.snaps := by unfold setBerth; split <;> rfl
@[simp] theorem atBerth_snaps (s : State) (b : BerthId) (f : Env → Berth → Berth) : (s.atBerth b f).snaps = s.snaps := setBerth_snaps _ _ _
@[simp] theorem setBerth_nextSnap (s : State) (b : BerthId) (x : Berth) : (s.setBerth b x).nextSnap = s.nextSnap := by unfold setBerth; split <;> rfl
@[simp] theorem atBerth_nextSnap (s : State) (b : BerthId) (f : Env → Berth → Berth) : (s.atBerth b f).nextSnap = s.nextSnap := setBerth_nextSnap _ _ _
@[simp] theorem setBerth_temp (s : State) (b : BerthId) (x : Berth) : (s.setBerth b x).temp = s.temp := by unfold setBerth; split <;> rfl
@[simp] theorem atBerth_temp (s : State) (b : BerthId) (f : Env → Berth → Berth) : (s.atBerth b f).temp = s.temp := setBerth_temp _ _ _
@[simp] theorem setBerth_time (s : State) (b : BerthId) (x : Berth) : (s.setBerth b x).time = s.time := by unfold setBerth; split <;> rfl
@[simp] theorem atBerth_time (s : State) (b : BerthId) (f : Env → Berth → Berth) : (s.atBerth b f).time = s.time := setBerth_time _ _ _
@[simp] theorem setBerth_resetCause (s : State) (b : BerthId) (x : Berth) : (s.setBerth b x).resetCause = s.resetCause := by unfold setBerth; split <;> rfl
@[simp] theorem atBerth_resetCause (s : State) (b : BerthId) (f : Env → Berth → Berth) : (s.atBerth b f).resetCause = s.resetCause := setBerth_resetCause _ _ _
@[simp] theorem setBerth_wdogCore (s : State) (b : BerthId) (x : Berth) : (s.setBerth b x).wdogCore = s.wdogCore := by unfold setBerth; split <;> rfl
@[simp] theorem atBerth_wdogCore (s : State) (b : BerthId) (f : Env → Berth → Berth) : (s.atBerth b f).wdogCore = s.wdogCore := setBerth_wdogCore _ _ _
@[simp] theorem setBerth_pwrgd (s : State) (b : BerthId) (x : Berth) : (s.setBerth b x).pwrgd = s.pwrgd := by unfold setBerth; split <;> rfl
@[simp] theorem atBerth_pwrgd (s : State) (b : BerthId) (f : Env → Berth → Berth) : (s.atBerth b f).pwrgd = s.pwrgd := setBerth_pwrgd _ _ _
@[simp] theorem setBerth_porDue (s : State) (b : BerthId) (x : Berth) : (s.setBerth b x).porDue = s.porDue := by unfold setBerth; split <;> rfl
@[simp] theorem atBerth_porDue (s : State) (b : BerthId) (f : Env → Berth → Berth) : (s.atBerth b f).porDue = s.porDue := setBerth_porDue _ _ _
@[simp] theorem setBerth_hot (s : State) (b : BerthId) (x : Berth) : (s.setBerth b x).hot = s.hot := by unfold setBerth; split <;> rfl
@[simp] theorem atBerth_hot (s : State) (b : BerthId) (f : Env → Berth → Berth) : (s.atBerth b f).hot = s.hot := setBerth_hot _ _ _
@[simp] theorem setBerth_diePeak (s : State) (b : BerthId) (x : Berth) : (s.setBerth b x).diePeak = s.diePeak := by unfold setBerth; split <;> rfl
@[simp] theorem atBerth_diePeak (s : State) (b : BerthId) (f : Env → Berth → Berth) : (s.atBerth b f).diePeak = s.diePeak := setBerth_diePeak _ _ _
@[simp] theorem setBerth_startUs (s : State) (b : BerthId) (x : Berth) : (s.setBerth b x).startUs = s.startUs := by unfold setBerth; split <;> rfl
@[simp] theorem atBerth_startUs (s : State) (b : BerthId) (f : Env → Berth → Berth) : (s.atBerth b f).startUs = s.startUs := setBerth_startUs _ _ _
@[simp] theorem setBerth_bringupMs (s : State) (b : BerthId) (x : Berth) : (s.setBerth b x).bringupMs = s.bringupMs := by unfold setBerth; split <;> rfl
@[simp] theorem atBerth_bringupMs (s : State) (b : BerthId) (f : Env → Berth → Berth) : (s.atBerth b f).bringupMs = s.bringupMs := setBerth_bringupMs _ _ _
@[simp] theorem setBerth_lastRelease (s : State) (b : BerthId) (x : Berth) : (s.setBerth b x).lastRelease = s.lastRelease := by unfold setBerth; split <;> rfl
@[simp] theorem atBerth_lastRelease (s : State) (b : BerthId) (f : Env → Berth → Berth) : (s.atBerth b f).lastRelease = s.lastRelease := setBerth_lastRelease _ _ _
@[simp] theorem setBerth_reported (s : State) (b : BerthId) (x : Berth) : (s.setBerth b x).reported = s.reported := by unfold setBerth; split <;> rfl
@[simp] theorem atBerth_reported (s : State) (b : BerthId) (f : Env → Berth → Berth) : (s.atBerth b f).reported = s.reported := setBerth_reported _ _ _
@[simp] theorem setBerth_retValid (s : State) (b : BerthId) (x : Berth) : (s.setBerth b x).retValid = s.retValid := by unfold setBerth; split <;> rfl
@[simp] theorem atBerth_retValid (s : State) (b : BerthId) (f : Env → Berth → Berth) : (s.atBerth b f).retValid = s.retValid := setBerth_retValid _ _ _
@[simp] theorem setBerth_bkpValid (s : State) (b : BerthId) (x : Berth) : (s.setBerth b x).bkpValid = s.bkpValid := by unfold setBerth; split <;> rfl
@[simp] theorem atBerth_bkpValid (s : State) (b : BerthId) (f : Env → Berth → Berth) : (s.atBerth b f).bkpValid = s.bkpValid := setBerth_bkpValid _ _ _
@[simp] theorem setBerth_addrPins (s : State) (b : BerthId) (x : Berth) : (s.setBerth b x).addrPins = s.addrPins := by unfold setBerth; split <;> rfl
@[simp] theorem atBerth_addrPins (s : State) (b : BerthId) (f : Env → Berth → Berth) : (s.atBerth b f).addrPins = s.addrPins := setBerth_addrPins _ _ _
@[simp] theorem setBerth_pinmap (s : State) (b : BerthId) (x : Berth) : (s.setBerth b x).pinmap = s.pinmap := by unfold setBerth; split <;> rfl
@[simp] theorem atBerth_pinmap (s : State) (b : BerthId) (f : Env → Berth → Berth) : (s.atBerth b f).pinmap = s.pinmap := setBerth_pinmap _ _ _
@[simp] theorem setBerth_muxmap (s : State) (b : BerthId) (x : Berth) : (s.setBerth b x).muxmap = s.muxmap := by unfold setBerth; split <;> rfl
@[simp] theorem atBerth_muxmap (s : State) (b : BerthId) (f : Env → Berth → Berth) : (s.atBerth b f).muxmap = s.muxmap := setBerth_muxmap _ _ _
@[simp] theorem setBerth_pinsShown (s : State) (b : BerthId) (x : Berth) : (s.setBerth b x).pinsShown = s.pinsShown := by unfold setBerth; split <;> rfl
@[simp] theorem atBerth_pinsShown (s : State) (b : BerthId) (f : Env → Berth → Berth) : (s.atBerth b f).pinsShown = s.pinsShown := setBerth_pinsShown _ _ _
@[simp] theorem setBerth_unsealed (s : State) (b : BerthId) (x : Berth) : (s.setBerth b x).unsealed = s.unsealed := by unfold setBerth; split <;> rfl
@[simp] theorem atBerth_unsealed (s : State) (b : BerthId) (f : Env → Berth → Berth) : (s.atBerth b f).unsealed = s.unsealed := setBerth_unsealed _ _ _
@[simp] theorem setBerth_resetDue (s : State) (b : BerthId) (x : Berth) : (s.setBerth b x).resetDue = s.resetDue := by unfold setBerth; split <;> rfl
@[simp] theorem atBerth_resetDue (s : State) (b : BerthId) (f : Env → Berth → Berth) : (s.atBerth b f).resetDue = s.resetDue := setBerth_resetDue _ _ _
@[simp] theorem setBerth_freeCtr (s : State) (b : BerthId) (x : Berth) : (s.setBerth b x).freeCtr = s.freeCtr := by unfold setBerth; split <;> rfl
@[simp] theorem atBerth_freeCtr (s : State) (b : BerthId) (f : Env → Berth → Berth) : (s.atBerth b f).freeCtr = s.freeCtr := setBerth_freeCtr _ _ _

/-! ### One entry of `quays` -/

@[simp] theorem atQuay_self (s : State) (q : QuayId) (f : Quay → Quay) : (s.atQuay q f).quays[q] = f s.quays[q] := by simp [atQuay]

theorem atQuay_other (s : State) (q r : QuayId) (f : Quay → Quay) (h : q ≠ r) : (s.atQuay q f).quays[r] = s.quays[r] := by
  have h2 : q.val ≠ r.val := fun e => h (Fin.ext e)
  simp [atQuay, h2]

@[simp] theorem atQuay_pending (s : State) (q : QuayId) (f : Quay → Quay) : (s.atQuay q f).pending = s.pending := rfl
@[simp] theorem atQuay_mem (s : State) (q : QuayId) (f : Quay → Quay) : (s.atQuay q f).mem = s.mem := rfl
@[simp] theorem atQuay_tideCount (s : State) (q : QuayId) (f : Quay → Quay) : (s.atQuay q f).tideCount = s.tideCount := rfl
@[simp] theorem atQuay_roundPhase (s : State) (q : QuayId) (f : Quay → Quay) : (s.atQuay q f).roundPhase = s.roundPhase := rfl
@[simp] theorem atQuay_ticking (s : State) (q : QuayId) (f : Quay → Quay) : (s.atQuay q f).ticking = s.ticking := rfl
@[simp] theorem atQuay_ticks (s : State) (q : QuayId) (f : Quay → Quay) : (s.atQuay q f).ticks = s.ticks := rfl
@[simp] theorem atQuay_tb (s : State) (q : QuayId) (f : Quay → Quay) : (s.atQuay q f).tb = s.tb := rfl
@[simp] theorem atQuay_follower (s : State) (q : QuayId) (f : Quay → Quay) : (s.atQuay q f).follower = s.follower := rfl
@[simp] theorem atQuay_syncLost (s : State) (q : QuayId) (f : Quay → Quay) : (s.atQuay q f).syncLost = s.syncLost := rfl
@[simp] theorem atQuay_tideLocked (s : State) (q : QuayId) (f : Quay → Quay) : (s.atQuay q f).tideLocked = s.tideLocked := rfl
@[simp] theorem atQuay_epochDue (s : State) (q : QuayId) (f : Quay → Quay) : (s.atQuay q f).epochDue = s.epochDue := rfl
@[simp] theorem atQuay_roundDue (s : State) (q : QuayId) (f : Quay → Quay) : (s.atQuay q f).roundDue = s.roundDue := rfl
@[simp] theorem atQuay_epochWant (s : State) (q : QuayId) (f : Quay → Quay) : (s.atQuay q f).epochWant = s.epochWant := rfl
@[simp] theorem atQuay_tideOut (s : State) (q : QuayId) (f : Quay → Quay) : (s.atQuay q f).tideOut = s.tideOut := rfl
@[simp] theorem atQuay_phase (s : State) (q : QuayId) (f : Quay → Quay) : (s.atQuay q f).phase = s.phase := rfl
@[simp] theorem atQuay_oscillator (s : State) (q : QuayId) (f : Quay → Quay) : (s.atQuay q f).oscillator = s.oscillator := rfl
@[simp] theorem atQuay_factoryBad (s : State) (q : QuayId) (f : Quay → Quay) : (s.atQuay q f).factoryBad = s.factoryBad := rfl
@[simp] theorem atQuay_berths (s : State) (q : QuayId) (f : Quay → Quay) : (s.atQuay q f).berths = s.berths := rfl
@[simp] theorem atQuay_tele (s : State) (q : QuayId) (f : Quay → Quay) : (s.atQuay q f).tele = s.tele := rfl
@[simp] theorem atQuay_tugs (s : State) (q : QuayId) (f : Quay → Quay) : (s.atQuay q f).tugs = s.tugs := rfl
@[simp] theorem atQuay_alloc (s : State) (q : QuayId) (f : Quay → Quay) : (s.atQuay q f).alloc = s.alloc := rfl
@[simp] theorem atQuay_tables (s : State) (q : QuayId) (f : Quay → Quay) : (s.atQuay q f).tables = s.tables := rfl
@[simp] theorem atQuay_links (s : State) (q : QuayId) (f : Quay → Quay) : (s.atQuay q f).links = s.links := rfl
@[simp] theorem atQuay_eventLink (s : State) (q : QuayId) (f : Quay → Quay) : (s.atQuay q f).eventLink = s.eventLink := rfl
@[simp] theorem atQuay_tags (s : State) (q : QuayId) (f : Quay → Quay) : (s.atQuay q f).tags = s.tags := rfl
@[simp] theorem atQuay_nextOrder (s : State) (q : QuayId) (f : Quay → Quay) : (s.atQuay q f).nextOrder = s.nextOrder := rfl
@[simp] theorem atQuay_jobs (s : State) (q : QuayId) (f : Quay → Quay) : (s.atQuay q f).jobs = s.jobs := rfl
@[simp] theorem atQuay_later (s : State) (q : QuayId) (f : Quay → Quay) : (s.atQuay q f).later = s.later := rfl
@[simp] theorem atQuay_rounds (s : State) (q : QuayId) (f : Quay → Quay) : (s.atQuay q f).rounds = s.rounds := rfl
@[simp] theorem atQuay_tests (s : State) (q : QuayId) (f : Quay → Quay) : (s.atQuay q f).tests = s.tests := rfl
@[simp] theorem atQuay_events (s : State) (q : QuayId) (f : Quay → Quay) : (s.atQuay q f).events = s.events := rfl
@[simp] theorem atQuay_nextSeq (s : State) (q : QuayId) (f : Quay → Quay) : (s.atQuay q f).nextSeq = s.nextSeq := rfl
@[simp] theorem atQuay_ackSeq (s : State) (q : QuayId) (f : Quay → Quay) : (s.atQuay q f).ackSeq = s.ackSeq := rfl
@[simp] theorem atQuay_evWindow (s : State) (q : QuayId) (f : Quay → Quay) : (s.atQuay q f).evWindow = s.evWindow := rfl
@[simp] theorem atQuay_lastSent (s : State) (q : QuayId) (f : Quay → Quay) : (s.atQuay q f).lastSent = s.lastSent := rfl
@[simp] theorem atQuay_attn (s : State) (q : QuayId) (f : Quay → Quay) : (s.atQuay q f).attn = s.attn := rfl
@[simp] theorem atQuay_linksDown (s : State) (q : QuayId) (f : Quay → Quay) : (s.atQuay q f).linksDown = s.linksDown := rfl
@[simp] theorem atQuay_devOut (s : State) (q : QuayId) (f : Quay → Quay) : (s.atQuay q f).devOut = s.devOut := rfl
@[simp] theorem atQuay_nextId (s : State) (q : QuayId) (f : Quay → Quay) : (s.atQuay q f).nextId = s.nextId := rfl
@[simp] theorem atQuay_man (s : State) (q : QuayId) (f : Quay → Quay) : (s.atQuay q f).man = s.man := rfl
@[simp] theorem atQuay_recSeq (s : State) (q : QuayId) (f : Quay → Quay) : (s.atQuay q f).recSeq = s.recSeq := rfl
@[simp] theorem atQuay_records (s : State) (q : QuayId) (f : Quay → Quay) : (s.atQuay q f).records = s.records := rfl
@[simp] theorem atQuay_repair (s : State) (q : QuayId) (f : Quay → Quay) : (s.atQuay q f).repair = s.repair := rfl
@[simp] theorem atQuay_brittle (s : State) (q : QuayId) (f : Quay → Quay) : (s.atQuay q f).brittle = s.brittle := rfl
@[simp] theorem atQuay_glaze (s : State) (q : QuayId) (f : Quay → Quay) : (s.atQuay q f).glaze = s.glaze := rfl
@[simp] theorem atQuay_glazeStage (s : State) (q : QuayId) (f : Quay → Quay) : (s.atQuay q f).glazeStage = s.glazeStage := rfl
@[simp] theorem atQuay_harbour (s : State) (q : QuayId) (f : Quay → Quay) : (s.atQuay q f).harbour = s.harbour := rfl
@[simp] theorem atQuay_smb (s : State) (q : QuayId) (f : Quay → Quay) : (s.atQuay q f).smb = s.smb := rfl
@[simp] theorem atQuay_pilot (s : State) (q : QuayId) (f : Quay → Quay) : (s.atQuay q f).pilot = s.pilot := rfl
@[simp] theorem atQuay_jtag (s : State) (q : QuayId) (f : Quay → Quay) : (s.atQuay q f).jtag = s.jtag := rfl
@[simp] theorem atQuay_supplies (s : State) (q : QuayId) (f : Quay → Quay) : (s.atQuay q f).supplies = s.supplies := rfl
@[simp] theorem atQuay_retained (s : State) (q : QuayId) (f : Quay → Quay) : (s.atQuay q f).retained = s.retained := rfl
@[simp] theorem atQuay_snaps (s : State) (q : QuayId) (f : Quay → Quay) : (s.atQuay q f).snaps = s.snaps := rfl
@[simp] theorem atQuay_nextSnap (s : State) (q : QuayId) (f : Quay → Quay) : (s.atQuay q f).nextSnap = s.nextSnap := rfl
@[simp] theorem atQuay_temp (s : State) (q : QuayId) (f : Quay → Quay) : (s.atQuay q f).temp = s.temp := rfl
@[simp] theorem atQuay_time (s : State) (q : QuayId) (f : Quay → Quay) : (s.atQuay q f).time = s.time := rfl
@[simp] theorem atQuay_resetCause (s : State) (q : QuayId) (f : Quay → Quay) : (s.atQuay q f).resetCause = s.resetCause := rfl
@[simp] theorem atQuay_wdogCore (s : State) (q : QuayId) (f : Quay → Quay) : (s.atQuay q f).wdogCore = s.wdogCore := rfl
@[simp] theorem atQuay_pwrgd (s : State) (q : QuayId) (f : Quay → Quay) : (s.atQuay q f).pwrgd = s.pwrgd := rfl
@[simp] theorem atQuay_porDue (s : State) (q : QuayId) (f : Quay → Quay) : (s.atQuay q f).porDue = s.porDue := rfl
@[simp] theorem atQuay_hot (s : State) (q : QuayId) (f : Quay → Quay) : (s.atQuay q f).hot = s.hot := rfl
@[simp] theorem atQuay_diePeak (s : State) (q : QuayId) (f : Quay → Quay) : (s.atQuay q f).diePeak = s.diePeak := rfl
@[simp] theorem atQuay_startUs (s : State) (q : QuayId) (f : Quay → Quay) : (s.atQuay q f).startUs = s.startUs := rfl
@[simp] theorem atQuay_bringupMs (s : State) (q : QuayId) (f : Quay → Quay) : (s.atQuay q f).bringupMs = s.bringupMs := rfl
@[simp] theorem atQuay_lastRelease (s : State) (q : QuayId) (f : Quay → Quay) : (s.atQuay q f).lastRelease = s.lastRelease := rfl
@[simp] theorem atQuay_reported (s : State) (q : QuayId) (f : Quay → Quay) : (s.atQuay q f).reported = s.reported := rfl
@[simp] theorem atQuay_retValid (s : State) (q : QuayId) (f : Quay → Quay) : (s.atQuay q f).retValid = s.retValid := rfl
@[simp] theorem atQuay_bkpValid (s : State) (q : QuayId) (f : Quay → Quay) : (s.atQuay q f).bkpValid = s.bkpValid := rfl
@[simp] theorem atQuay_addrPins (s : State) (q : QuayId) (f : Quay → Quay) : (s.atQuay q f).addrPins = s.addrPins := rfl
@[simp] theorem atQuay_pinmap (s : State) (q : QuayId) (f : Quay → Quay) : (s.atQuay q f).pinmap = s.pinmap := rfl
@[simp] theorem atQuay_muxmap (s : State) (q : QuayId) (f : Quay → Quay) : (s.atQuay q f).muxmap = s.muxmap := rfl
@[simp] theorem atQuay_pinsShown (s : State) (q : QuayId) (f : Quay → Quay) : (s.atQuay q f).pinsShown = s.pinsShown := rfl
@[simp] theorem atQuay_unsealed (s : State) (q : QuayId) (f : Quay → Quay) : (s.atQuay q f).unsealed = s.unsealed := rfl
@[simp] theorem atQuay_resetDue (s : State) (q : QuayId) (f : Quay → Quay) : (s.atQuay q f).resetDue = s.resetDue := rfl
@[simp] theorem atQuay_freeCtr (s : State) (q : QuayId) (f : Quay → Quay) : (s.atQuay q f).freeCtr = s.freeCtr := rfl

/-! ### One entry of `tugs` -/

@[simp] theorem atTug_self (s : State) (q : TugId) (f : Tug → Tug) : (s.atTug q f).tugs[q] = f s.tugs[q] := by simp [atTug]

theorem atTug_other (s : State) (q r : TugId) (f : Tug → Tug) (h : q ≠ r) : (s.atTug q f).tugs[r] = s.tugs[r] := by
  have h2 : q.val ≠ r.val := fun e => h (Fin.ext e)
  simp [atTug, h2]

@[simp] theorem atTug_pending (s : State) (q : TugId) (f : Tug → Tug) : (s.atTug q f).pending = s.pending := rfl
@[simp] theorem atTug_mem (s : State) (q : TugId) (f : Tug → Tug) : (s.atTug q f).mem = s.mem := rfl
@[simp] theorem atTug_tideCount (s : State) (q : TugId) (f : Tug → Tug) : (s.atTug q f).tideCount = s.tideCount := rfl
@[simp] theorem atTug_roundPhase (s : State) (q : TugId) (f : Tug → Tug) : (s.atTug q f).roundPhase = s.roundPhase := rfl
@[simp] theorem atTug_ticking (s : State) (q : TugId) (f : Tug → Tug) : (s.atTug q f).ticking = s.ticking := rfl
@[simp] theorem atTug_ticks (s : State) (q : TugId) (f : Tug → Tug) : (s.atTug q f).ticks = s.ticks := rfl
@[simp] theorem atTug_tb (s : State) (q : TugId) (f : Tug → Tug) : (s.atTug q f).tb = s.tb := rfl
@[simp] theorem atTug_follower (s : State) (q : TugId) (f : Tug → Tug) : (s.atTug q f).follower = s.follower := rfl
@[simp] theorem atTug_syncLost (s : State) (q : TugId) (f : Tug → Tug) : (s.atTug q f).syncLost = s.syncLost := rfl
@[simp] theorem atTug_tideLocked (s : State) (q : TugId) (f : Tug → Tug) : (s.atTug q f).tideLocked = s.tideLocked := rfl
@[simp] theorem atTug_epochDue (s : State) (q : TugId) (f : Tug → Tug) : (s.atTug q f).epochDue = s.epochDue := rfl
@[simp] theorem atTug_roundDue (s : State) (q : TugId) (f : Tug → Tug) : (s.atTug q f).roundDue = s.roundDue := rfl
@[simp] theorem atTug_epochWant (s : State) (q : TugId) (f : Tug → Tug) : (s.atTug q f).epochWant = s.epochWant := rfl
@[simp] theorem atTug_tideOut (s : State) (q : TugId) (f : Tug → Tug) : (s.atTug q f).tideOut = s.tideOut := rfl
@[simp] theorem atTug_phase (s : State) (q : TugId) (f : Tug → Tug) : (s.atTug q f).phase = s.phase := rfl
@[simp] theorem atTug_oscillator (s : State) (q : TugId) (f : Tug → Tug) : (s.atTug q f).oscillator = s.oscillator := rfl
@[simp] theorem atTug_factoryBad (s : State) (q : TugId) (f : Tug → Tug) : (s.atTug q f).factoryBad = s.factoryBad := rfl
@[simp] theorem atTug_berths (s : State) (q : TugId) (f : Tug → Tug) : (s.atTug q f).berths = s.berths := rfl
@[simp] theorem atTug_tele (s : State) (q : TugId) (f : Tug → Tug) : (s.atTug q f).tele = s.tele := rfl
@[simp] theorem atTug_quays (s : State) (q : TugId) (f : Tug → Tug) : (s.atTug q f).quays = s.quays := rfl
@[simp] theorem atTug_alloc (s : State) (q : TugId) (f : Tug → Tug) : (s.atTug q f).alloc = s.alloc := rfl
@[simp] theorem atTug_tables (s : State) (q : TugId) (f : Tug → Tug) : (s.atTug q f).tables = s.tables := rfl
@[simp] theorem atTug_links (s : State) (q : TugId) (f : Tug → Tug) : (s.atTug q f).links = s.links := rfl
@[simp] theorem atTug_eventLink (s : State) (q : TugId) (f : Tug → Tug) : (s.atTug q f).eventLink = s.eventLink := rfl
@[simp] theorem atTug_tags (s : State) (q : TugId) (f : Tug → Tug) : (s.atTug q f).tags = s.tags := rfl
@[simp] theorem atTug_nextOrder (s : State) (q : TugId) (f : Tug → Tug) : (s.atTug q f).nextOrder = s.nextOrder := rfl
@[simp] theorem atTug_jobs (s : State) (q : TugId) (f : Tug → Tug) : (s.atTug q f).jobs = s.jobs := rfl
@[simp] theorem atTug_later (s : State) (q : TugId) (f : Tug → Tug) : (s.atTug q f).later = s.later := rfl
@[simp] theorem atTug_rounds (s : State) (q : TugId) (f : Tug → Tug) : (s.atTug q f).rounds = s.rounds := rfl
@[simp] theorem atTug_tests (s : State) (q : TugId) (f : Tug → Tug) : (s.atTug q f).tests = s.tests := rfl
@[simp] theorem atTug_events (s : State) (q : TugId) (f : Tug → Tug) : (s.atTug q f).events = s.events := rfl
@[simp] theorem atTug_nextSeq (s : State) (q : TugId) (f : Tug → Tug) : (s.atTug q f).nextSeq = s.nextSeq := rfl
@[simp] theorem atTug_ackSeq (s : State) (q : TugId) (f : Tug → Tug) : (s.atTug q f).ackSeq = s.ackSeq := rfl
@[simp] theorem atTug_evWindow (s : State) (q : TugId) (f : Tug → Tug) : (s.atTug q f).evWindow = s.evWindow := rfl
@[simp] theorem atTug_lastSent (s : State) (q : TugId) (f : Tug → Tug) : (s.atTug q f).lastSent = s.lastSent := rfl
@[simp] theorem atTug_attn (s : State) (q : TugId) (f : Tug → Tug) : (s.atTug q f).attn = s.attn := rfl
@[simp] theorem atTug_linksDown (s : State) (q : TugId) (f : Tug → Tug) : (s.atTug q f).linksDown = s.linksDown := rfl
@[simp] theorem atTug_devOut (s : State) (q : TugId) (f : Tug → Tug) : (s.atTug q f).devOut = s.devOut := rfl
@[simp] theorem atTug_nextId (s : State) (q : TugId) (f : Tug → Tug) : (s.atTug q f).nextId = s.nextId := rfl
@[simp] theorem atTug_man (s : State) (q : TugId) (f : Tug → Tug) : (s.atTug q f).man = s.man := rfl
@[simp] theorem atTug_recSeq (s : State) (q : TugId) (f : Tug → Tug) : (s.atTug q f).recSeq = s.recSeq := rfl
@[simp] theorem atTug_records (s : State) (q : TugId) (f : Tug → Tug) : (s.atTug q f).records = s.records := rfl
@[simp] theorem atTug_repair (s : State) (q : TugId) (f : Tug → Tug) : (s.atTug q f).repair = s.repair := rfl
@[simp] theorem atTug_brittle (s : State) (q : TugId) (f : Tug → Tug) : (s.atTug q f).brittle = s.brittle := rfl
@[simp] theorem atTug_glaze (s : State) (q : TugId) (f : Tug → Tug) : (s.atTug q f).glaze = s.glaze := rfl
@[simp] theorem atTug_glazeStage (s : State) (q : TugId) (f : Tug → Tug) : (s.atTug q f).glazeStage = s.glazeStage := rfl
@[simp] theorem atTug_harbour (s : State) (q : TugId) (f : Tug → Tug) : (s.atTug q f).harbour = s.harbour := rfl
@[simp] theorem atTug_smb (s : State) (q : TugId) (f : Tug → Tug) : (s.atTug q f).smb = s.smb := rfl
@[simp] theorem atTug_pilot (s : State) (q : TugId) (f : Tug → Tug) : (s.atTug q f).pilot = s.pilot := rfl
@[simp] theorem atTug_jtag (s : State) (q : TugId) (f : Tug → Tug) : (s.atTug q f).jtag = s.jtag := rfl
@[simp] theorem atTug_supplies (s : State) (q : TugId) (f : Tug → Tug) : (s.atTug q f).supplies = s.supplies := rfl
@[simp] theorem atTug_retained (s : State) (q : TugId) (f : Tug → Tug) : (s.atTug q f).retained = s.retained := rfl
@[simp] theorem atTug_snaps (s : State) (q : TugId) (f : Tug → Tug) : (s.atTug q f).snaps = s.snaps := rfl
@[simp] theorem atTug_nextSnap (s : State) (q : TugId) (f : Tug → Tug) : (s.atTug q f).nextSnap = s.nextSnap := rfl
@[simp] theorem atTug_temp (s : State) (q : TugId) (f : Tug → Tug) : (s.atTug q f).temp = s.temp := rfl
@[simp] theorem atTug_time (s : State) (q : TugId) (f : Tug → Tug) : (s.atTug q f).time = s.time := rfl
@[simp] theorem atTug_resetCause (s : State) (q : TugId) (f : Tug → Tug) : (s.atTug q f).resetCause = s.resetCause := rfl
@[simp] theorem atTug_wdogCore (s : State) (q : TugId) (f : Tug → Tug) : (s.atTug q f).wdogCore = s.wdogCore := rfl
@[simp] theorem atTug_pwrgd (s : State) (q : TugId) (f : Tug → Tug) : (s.atTug q f).pwrgd = s.pwrgd := rfl
@[simp] theorem atTug_porDue (s : State) (q : TugId) (f : Tug → Tug) : (s.atTug q f).porDue = s.porDue := rfl
@[simp] theorem atTug_hot (s : State) (q : TugId) (f : Tug → Tug) : (s.atTug q f).hot = s.hot := rfl
@[simp] theorem atTug_diePeak (s : State) (q : TugId) (f : Tug → Tug) : (s.atTug q f).diePeak = s.diePeak := rfl
@[simp] theorem atTug_startUs (s : State) (q : TugId) (f : Tug → Tug) : (s.atTug q f).startUs = s.startUs := rfl
@[simp] theorem atTug_bringupMs (s : State) (q : TugId) (f : Tug → Tug) : (s.atTug q f).bringupMs = s.bringupMs := rfl
@[simp] theorem atTug_lastRelease (s : State) (q : TugId) (f : Tug → Tug) : (s.atTug q f).lastRelease = s.lastRelease := rfl
@[simp] theorem atTug_reported (s : State) (q : TugId) (f : Tug → Tug) : (s.atTug q f).reported = s.reported := rfl
@[simp] theorem atTug_retValid (s : State) (q : TugId) (f : Tug → Tug) : (s.atTug q f).retValid = s.retValid := rfl
@[simp] theorem atTug_bkpValid (s : State) (q : TugId) (f : Tug → Tug) : (s.atTug q f).bkpValid = s.bkpValid := rfl
@[simp] theorem atTug_addrPins (s : State) (q : TugId) (f : Tug → Tug) : (s.atTug q f).addrPins = s.addrPins := rfl
@[simp] theorem atTug_pinmap (s : State) (q : TugId) (f : Tug → Tug) : (s.atTug q f).pinmap = s.pinmap := rfl
@[simp] theorem atTug_muxmap (s : State) (q : TugId) (f : Tug → Tug) : (s.atTug q f).muxmap = s.muxmap := rfl
@[simp] theorem atTug_pinsShown (s : State) (q : TugId) (f : Tug → Tug) : (s.atTug q f).pinsShown = s.pinsShown := rfl
@[simp] theorem atTug_unsealed (s : State) (q : TugId) (f : Tug → Tug) : (s.atTug q f).unsealed = s.unsealed := rfl
@[simp] theorem atTug_resetDue (s : State) (q : TugId) (f : Tug → Tug) : (s.atTug q f).resetDue = s.resetDue := rfl
@[simp] theorem atTug_freeCtr (s : State) (q : TugId) (f : Tug → Tug) : (s.atTug q f).freeCtr = s.freeCtr := rfl

/-! ### One entry of `tele` -/

@[simp] theorem atTele_self (s : State) (q : BerthId) (f : Tele → Tele) : (s.atTele q f).tele[q] = f s.tele[q] := by simp [atTele]

theorem atTele_other (s : State) (q r : BerthId) (f : Tele → Tele) (h : q ≠ r) : (s.atTele q f).tele[r] = s.tele[r] := by
  have h2 : q.val ≠ r.val := fun e => h (Fin.ext e)
  simp [atTele, h2]

@[simp] theorem atTele_pending (s : State) (q : BerthId) (f : Tele → Tele) : (s.atTele q f).pending = s.pending := rfl
@[simp] theorem atTele_mem (s : State) (q : BerthId) (f : Tele → Tele) : (s.atTele q f).mem = s.mem := rfl
@[simp] theorem atTele_tideCount (s : State) (q : BerthId) (f : Tele → Tele) : (s.atTele q f).tideCount = s.tideCount := rfl
@[simp] theorem atTele_roundPhase (s : State) (q : BerthId) (f : Tele → Tele) : (s.atTele q f).roundPhase = s.roundPhase := rfl
@[simp] theorem atTele_ticking (s : State) (q : BerthId) (f : Tele → Tele) : (s.atTele q f).ticking = s.ticking := rfl
@[simp] theorem atTele_ticks (s : State) (q : BerthId) (f : Tele → Tele) : (s.atTele q f).ticks = s.ticks := rfl
@[simp] theorem atTele_tb (s : State) (q : BerthId) (f : Tele → Tele) : (s.atTele q f).tb = s.tb := rfl
@[simp] theorem atTele_follower (s : State) (q : BerthId) (f : Tele → Tele) : (s.atTele q f).follower = s.follower := rfl
@[simp] theorem atTele_syncLost (s : State) (q : BerthId) (f : Tele → Tele) : (s.atTele q f).syncLost = s.syncLost := rfl
@[simp] theorem atTele_tideLocked (s : State) (q : BerthId) (f : Tele → Tele) : (s.atTele q f).tideLocked = s.tideLocked := rfl
@[simp] theorem atTele_epochDue (s : State) (q : BerthId) (f : Tele → Tele) : (s.atTele q f).epochDue = s.epochDue := rfl
@[simp] theorem atTele_roundDue (s : State) (q : BerthId) (f : Tele → Tele) : (s.atTele q f).roundDue = s.roundDue := rfl
@[simp] theorem atTele_epochWant (s : State) (q : BerthId) (f : Tele → Tele) : (s.atTele q f).epochWant = s.epochWant := rfl
@[simp] theorem atTele_tideOut (s : State) (q : BerthId) (f : Tele → Tele) : (s.atTele q f).tideOut = s.tideOut := rfl
@[simp] theorem atTele_phase (s : State) (q : BerthId) (f : Tele → Tele) : (s.atTele q f).phase = s.phase := rfl
@[simp] theorem atTele_oscillator (s : State) (q : BerthId) (f : Tele → Tele) : (s.atTele q f).oscillator = s.oscillator := rfl
@[simp] theorem atTele_factoryBad (s : State) (q : BerthId) (f : Tele → Tele) : (s.atTele q f).factoryBad = s.factoryBad := rfl
@[simp] theorem atTele_berths (s : State) (q : BerthId) (f : Tele → Tele) : (s.atTele q f).berths = s.berths := rfl
@[simp] theorem atTele_quays (s : State) (q : BerthId) (f : Tele → Tele) : (s.atTele q f).quays = s.quays := rfl
@[simp] theorem atTele_tugs (s : State) (q : BerthId) (f : Tele → Tele) : (s.atTele q f).tugs = s.tugs := rfl
@[simp] theorem atTele_alloc (s : State) (q : BerthId) (f : Tele → Tele) : (s.atTele q f).alloc = s.alloc := rfl
@[simp] theorem atTele_tables (s : State) (q : BerthId) (f : Tele → Tele) : (s.atTele q f).tables = s.tables := rfl
@[simp] theorem atTele_links (s : State) (q : BerthId) (f : Tele → Tele) : (s.atTele q f).links = s.links := rfl
@[simp] theorem atTele_eventLink (s : State) (q : BerthId) (f : Tele → Tele) : (s.atTele q f).eventLink = s.eventLink := rfl
@[simp] theorem atTele_tags (s : State) (q : BerthId) (f : Tele → Tele) : (s.atTele q f).tags = s.tags := rfl
@[simp] theorem atTele_nextOrder (s : State) (q : BerthId) (f : Tele → Tele) : (s.atTele q f).nextOrder = s.nextOrder := rfl
@[simp] theorem atTele_jobs (s : State) (q : BerthId) (f : Tele → Tele) : (s.atTele q f).jobs = s.jobs := rfl
@[simp] theorem atTele_later (s : State) (q : BerthId) (f : Tele → Tele) : (s.atTele q f).later = s.later := rfl
@[simp] theorem atTele_rounds (s : State) (q : BerthId) (f : Tele → Tele) : (s.atTele q f).rounds = s.rounds := rfl
@[simp] theorem atTele_tests (s : State) (q : BerthId) (f : Tele → Tele) : (s.atTele q f).tests = s.tests := rfl
@[simp] theorem atTele_events (s : State) (q : BerthId) (f : Tele → Tele) : (s.atTele q f).events = s.events := rfl
@[simp] theorem atTele_nextSeq (s : State) (q : BerthId) (f : Tele → Tele) : (s.atTele q f).nextSeq = s.nextSeq := rfl
@[simp] theorem atTele_ackSeq (s : State) (q : BerthId) (f : Tele → Tele) : (s.atTele q f).ackSeq = s.ackSeq := rfl
@[simp] theorem atTele_evWindow (s : State) (q : BerthId) (f : Tele → Tele) : (s.atTele q f).evWindow = s.evWindow := rfl
@[simp] theorem atTele_lastSent (s : State) (q : BerthId) (f : Tele → Tele) : (s.atTele q f).lastSent = s.lastSent := rfl
@[simp] theorem atTele_attn (s : State) (q : BerthId) (f : Tele → Tele) : (s.atTele q f).attn = s.attn := rfl
@[simp] theorem atTele_linksDown (s : State) (q : BerthId) (f : Tele → Tele) : (s.atTele q f).linksDown = s.linksDown := rfl
@[simp] theorem atTele_devOut (s : State) (q : BerthId) (f : Tele → Tele) : (s.atTele q f).devOut = s.devOut := rfl
@[simp] theorem atTele_nextId (s : State) (q : BerthId) (f : Tele → Tele) : (s.atTele q f).nextId = s.nextId := rfl
@[simp] theorem atTele_man (s : State) (q : BerthId) (f : Tele → Tele) : (s.atTele q f).man = s.man := rfl
@[simp] theorem atTele_recSeq (s : State) (q : BerthId) (f : Tele → Tele) : (s.atTele q f).recSeq = s.recSeq := rfl
@[simp] theorem atTele_records (s : State) (q : BerthId) (f : Tele → Tele) : (s.atTele q f).records = s.records := rfl
@[simp] theorem atTele_repair (s : State) (q : BerthId) (f : Tele → Tele) : (s.atTele q f).repair = s.repair := rfl
@[simp] theorem atTele_brittle (s : State) (q : BerthId) (f : Tele → Tele) : (s.atTele q f).brittle = s.brittle := rfl
@[simp] theorem atTele_glaze (s : State) (q : BerthId) (f : Tele → Tele) : (s.atTele q f).glaze = s.glaze := rfl
@[simp] theorem atTele_glazeStage (s : State) (q : BerthId) (f : Tele → Tele) : (s.atTele q f).glazeStage = s.glazeStage := rfl
@[simp] theorem atTele_harbour (s : State) (q : BerthId) (f : Tele → Tele) : (s.atTele q f).harbour = s.harbour := rfl
@[simp] theorem atTele_smb (s : State) (q : BerthId) (f : Tele → Tele) : (s.atTele q f).smb = s.smb := rfl
@[simp] theorem atTele_pilot (s : State) (q : BerthId) (f : Tele → Tele) : (s.atTele q f).pilot = s.pilot := rfl
@[simp] theorem atTele_jtag (s : State) (q : BerthId) (f : Tele → Tele) : (s.atTele q f).jtag = s.jtag := rfl
@[simp] theorem atTele_supplies (s : State) (q : BerthId) (f : Tele → Tele) : (s.atTele q f).supplies = s.supplies := rfl
@[simp] theorem atTele_retained (s : State) (q : BerthId) (f : Tele → Tele) : (s.atTele q f).retained = s.retained := rfl
@[simp] theorem atTele_snaps (s : State) (q : BerthId) (f : Tele → Tele) : (s.atTele q f).snaps = s.snaps := rfl
@[simp] theorem atTele_nextSnap (s : State) (q : BerthId) (f : Tele → Tele) : (s.atTele q f).nextSnap = s.nextSnap := rfl
@[simp] theorem atTele_temp (s : State) (q : BerthId) (f : Tele → Tele) : (s.atTele q f).temp = s.temp := rfl
@[simp] theorem atTele_time (s : State) (q : BerthId) (f : Tele → Tele) : (s.atTele q f).time = s.time := rfl
@[simp] theorem atTele_resetCause (s : State) (q : BerthId) (f : Tele → Tele) : (s.atTele q f).resetCause = s.resetCause := rfl
@[simp] theorem atTele_wdogCore (s : State) (q : BerthId) (f : Tele → Tele) : (s.atTele q f).wdogCore = s.wdogCore := rfl
@[simp] theorem atTele_pwrgd (s : State) (q : BerthId) (f : Tele → Tele) : (s.atTele q f).pwrgd = s.pwrgd := rfl
@[simp] theorem atTele_porDue (s : State) (q : BerthId) (f : Tele → Tele) : (s.atTele q f).porDue = s.porDue := rfl
@[simp] theorem atTele_hot (s : State) (q : BerthId) (f : Tele → Tele) : (s.atTele q f).hot = s.hot := rfl
@[simp] theorem atTele_diePeak (s : State) (q : BerthId) (f : Tele → Tele) : (s.atTele q f).diePeak = s.diePeak := rfl
@[simp] theorem atTele_startUs (s : State) (q : BerthId) (f : Tele → Tele) : (s.atTele q f).startUs = s.startUs := rfl
@[simp] theorem atTele_bringupMs (s : State) (q : BerthId) (f : Tele → Tele) : (s.atTele q f).bringupMs = s.bringupMs := rfl
@[simp] theorem atTele_lastRelease (s : State) (q : BerthId) (f : Tele → Tele) : (s.atTele q f).lastRelease = s.lastRelease := rfl
@[simp] theorem atTele_reported (s : State) (q : BerthId) (f : Tele → Tele) : (s.atTele q f).reported = s.reported := rfl
@[simp] theorem atTele_retValid (s : State) (q : BerthId) (f : Tele → Tele) : (s.atTele q f).retValid = s.retValid := rfl
@[simp] theorem atTele_bkpValid (s : State) (q : BerthId) (f : Tele → Tele) : (s.atTele q f).bkpValid = s.bkpValid := rfl
@[simp] theorem atTele_addrPins (s : State) (q : BerthId) (f : Tele → Tele) : (s.atTele q f).addrPins = s.addrPins := rfl
@[simp] theorem atTele_pinmap (s : State) (q : BerthId) (f : Tele → Tele) : (s.atTele q f).pinmap = s.pinmap := rfl
@[simp] theorem atTele_muxmap (s : State) (q : BerthId) (f : Tele → Tele) : (s.atTele q f).muxmap = s.muxmap := rfl
@[simp] theorem atTele_pinsShown (s : State) (q : BerthId) (f : Tele → Tele) : (s.atTele q f).pinsShown = s.pinsShown := rfl
@[simp] theorem atTele_unsealed (s : State) (q : BerthId) (f : Tele → Tele) : (s.atTele q f).unsealed = s.unsealed := rfl
@[simp] theorem atTele_resetDue (s : State) (q : BerthId) (f : Tele → Tele) : (s.atTele q f).resetDue = s.resetDue := rfl
@[simp] theorem atTele_freeCtr (s : State) (q : BerthId) (f : Tele → Tele) : (s.atTele q f).freeCtr = s.freeCtr := rfl

/-! ### Events of the device, free values -/

@[simp] theorem devEvent_pending (s : State) (e : EvBody) (n : Nat) : (s.devEvent e n).pending = s.pending := rfl
@[simp] theorem devEvent_mem (s : State) (e : EvBody) (n : Nat) : (s.devEvent e n).mem = s.mem := rfl
@[simp] theorem devEvent_tideCount (s : State) (e : EvBody) (n : Nat) : (s.devEvent e n).tideCount = s.tideCount := rfl
@[simp] theorem devEvent_roundPhase (s : State) (e : EvBody) (n : Nat) : (s.devEvent e n).roundPhase = s.roundPhase := rfl
@[simp] theorem devEvent_ticking (s : State) (e : EvBody) (n : Nat) : (s.devEvent e n).ticking = s.ticking := rfl
@[simp] theorem devEvent_ticks (s : State) (e : EvBody) (n : Nat) : (s.devEvent e n).ticks = s.ticks := rfl
@[simp] theorem devEvent_tb (s : State) (e : EvBody) (n : Nat) : (s.devEvent e n).tb = s.tb := rfl
@[simp] theorem devEvent_follower (s : State) (e : EvBody) (n : Nat) : (s.devEvent e n).follower = s.follower := rfl
@[simp] theorem devEvent_syncLost (s : State) (e : EvBody) (n : Nat) : (s.devEvent e n).syncLost = s.syncLost := rfl
@[simp] theorem devEvent_tideLocked (s : State) (e : EvBody) (n : Nat) : (s.devEvent e n).tideLocked = s.tideLocked := rfl
@[simp] theorem devEvent_epochDue (s : State) (e : EvBody) (n : Nat) : (s.devEvent e n).epochDue = s.epochDue := rfl
@[simp] theorem devEvent_roundDue (s : State) (e : EvBody) (n : Nat) : (s.devEvent e n).roundDue = s.roundDue := rfl
@[simp] theorem devEvent_epochWant (s : State) (e : EvBody) (n : Nat) : (s.devEvent e n).epochWant = s.epochWant := rfl
@[simp] theorem devEvent_tideOut (s : State) (e : EvBody) (n : Nat) : (s.devEvent e n).tideOut = s.tideOut := rfl
@[simp] theorem devEvent_phase (s : State) (e : EvBody) (n : Nat) : (s.devEvent e n).phase = s.phase := rfl
@[simp] theorem devEvent_oscillator (s : State) (e : EvBody) (n : Nat) : (s.devEvent e n).oscillator = s.oscillator := rfl
@[simp] theorem devEvent_factoryBad (s : State) (e : EvBody) (n : Nat) : (s.devEvent e n).factoryBad = s.factoryBad := rfl
@[simp] theorem devEvent_berths (s : State) (e : EvBody) (n : Nat) : (s.devEvent e n).berths = s.berths := rfl
@[simp] theorem devEvent_tele (s : State) (e : EvBody) (n : Nat) : (s.devEvent e n).tele = s.tele := rfl
@[simp] theorem devEvent_quays (s : State) (e : EvBody) (n : Nat) : (s.devEvent e n).quays = s.quays := rfl
@[simp] theorem devEvent_tugs (s : State) (e : EvBody) (n : Nat) : (s.devEvent e n).tugs = s.tugs := rfl
@[simp] theorem devEvent_alloc (s : State) (e : EvBody) (n : Nat) : (s.devEvent e n).alloc = s.alloc := rfl
@[simp] theorem devEvent_tables (s : State) (e : EvBody) (n : Nat) : (s.devEvent e n).tables = s.tables := rfl
@[simp] theorem devEvent_links (s : State) (e : EvBody) (n : Nat) : (s.devEvent e n).links = s.links := rfl
@[simp] theorem devEvent_eventLink (s : State) (e : EvBody) (n : Nat) : (s.devEvent e n).eventLink = s.eventLink := rfl
@[simp] theorem devEvent_tags (s : State) (e : EvBody) (n : Nat) : (s.devEvent e n).tags = s.tags := rfl
@[simp] theorem devEvent_nextOrder (s : State) (e : EvBody) (n : Nat) : (s.devEvent e n).nextOrder = s.nextOrder := rfl
@[simp] theorem devEvent_jobs (s : State) (e : EvBody) (n : Nat) : (s.devEvent e n).jobs = s.jobs := rfl
@[simp] theorem devEvent_later (s : State) (e : EvBody) (n : Nat) : (s.devEvent e n).later = s.later := rfl
@[simp] theorem devEvent_rounds (s : State) (e : EvBody) (n : Nat) : (s.devEvent e n).rounds = s.rounds := rfl
@[simp] theorem devEvent_tests (s : State) (e : EvBody) (n : Nat) : (s.devEvent e n).tests = s.tests := rfl
@[simp] theorem devEvent_events (s : State) (e : EvBody) (n : Nat) : (s.devEvent e n).events = s.events := rfl
@[simp] theorem devEvent_nextSeq (s : State) (e : EvBody) (n : Nat) : (s.devEvent e n).nextSeq = s.nextSeq := rfl
@[simp] theorem devEvent_ackSeq (s : State) (e : EvBody) (n : Nat) : (s.devEvent e n).ackSeq = s.ackSeq := rfl
@[simp] theorem devEvent_evWindow (s : State) (e : EvBody) (n : Nat) : (s.devEvent e n).evWindow = s.evWindow := rfl
@[simp] theorem devEvent_lastSent (s : State) (e : EvBody) (n : Nat) : (s.devEvent e n).lastSent = s.lastSent := rfl
@[simp] theorem devEvent_attn (s : State) (e : EvBody) (n : Nat) : (s.devEvent e n).attn = s.attn := rfl
@[simp] theorem devEvent_linksDown (s : State) (e : EvBody) (n : Nat) : (s.devEvent e n).linksDown = s.linksDown := rfl
@[simp] theorem devEvent_nextId (s : State) (e : EvBody) (n : Nat) : (s.devEvent e n).nextId = s.nextId := rfl
@[simp] theorem devEvent_man (s : State) (e : EvBody) (n : Nat) : (s.devEvent e n).man = s.man := rfl
@[simp] theorem devEvent_recSeq (s : State) (e : EvBody) (n : Nat) : (s.devEvent e n).recSeq = s.recSeq := rfl
@[simp] theorem devEvent_records (s : State) (e : EvBody) (n : Nat) : (s.devEvent e n).records = s.records := rfl
@[simp] theorem devEvent_repair (s : State) (e : EvBody) (n : Nat) : (s.devEvent e n).repair = s.repair := rfl
@[simp] theorem devEvent_brittle (s : State) (e : EvBody) (n : Nat) : (s.devEvent e n).brittle = s.brittle := rfl
@[simp] theorem devEvent_glaze (s : State) (e : EvBody) (n : Nat) : (s.devEvent e n).glaze = s.glaze := rfl
@[simp] theorem devEvent_glazeStage (s : State) (e : EvBody) (n : Nat) : (s.devEvent e n).glazeStage = s.glazeStage := rfl
@[simp] theorem devEvent_harbour (s : State) (e : EvBody) (n : Nat) : (s.devEvent e n).harbour = s.harbour := rfl
@[simp] theorem devEvent_smb (s : State) (e : EvBody) (n : Nat) : (s.devEvent e n).smb = s.smb := rfl
@[simp] theorem devEvent_pilot (s : State) (e : EvBody) (n : Nat) : (s.devEvent e n).pilot = s.pilot := rfl
@[simp] theorem devEvent_jtag (s : State) (e : EvBody) (n : Nat) : (s.devEvent e n).jtag = s.jtag := rfl
@[simp] theorem devEvent_supplies (s : State) (e : EvBody) (n : Nat) : (s.devEvent e n).supplies = s.supplies := rfl
@[simp] theorem devEvent_retained (s : State) (e : EvBody) (n : Nat) : (s.devEvent e n).retained = s.retained := rfl
@[simp] theorem devEvent_snaps (s : State) (e : EvBody) (n : Nat) : (s.devEvent e n).snaps = s.snaps := rfl
@[simp] theorem devEvent_nextSnap (s : State) (e : EvBody) (n : Nat) : (s.devEvent e n).nextSnap = s.nextSnap := rfl
@[simp] theorem devEvent_temp (s : State) (e : EvBody) (n : Nat) : (s.devEvent e n).temp = s.temp := rfl
@[simp] theorem devEvent_time (s : State) (e : EvBody) (n : Nat) : (s.devEvent e n).time = s.time := rfl
@[simp] theorem devEvent_resetCause (s : State) (e : EvBody) (n : Nat) : (s.devEvent e n).resetCause = s.resetCause := rfl
@[simp] theorem devEvent_wdogCore (s : State) (e : EvBody) (n : Nat) : (s.devEvent e n).wdogCore = s.wdogCore := rfl
@[simp] theorem devEvent_pwrgd (s : State) (e : EvBody) (n : Nat) : (s.devEvent e n).pwrgd = s.pwrgd := rfl
@[simp] theorem devEvent_porDue (s : State) (e : EvBody) (n : Nat) : (s.devEvent e n).porDue = s.porDue := rfl
@[simp] theorem devEvent_hot (s : State) (e : EvBody) (n : Nat) : (s.devEvent e n).hot = s.hot := rfl
@[simp] theorem devEvent_diePeak (s : State) (e : EvBody) (n : Nat) : (s.devEvent e n).diePeak = s.diePeak := rfl
@[simp] theorem devEvent_startUs (s : State) (e : EvBody) (n : Nat) : (s.devEvent e n).startUs = s.startUs := rfl
@[simp] theorem devEvent_bringupMs (s : State) (e : EvBody) (n : Nat) : (s.devEvent e n).bringupMs = s.bringupMs := rfl
@[simp] theorem devEvent_lastRelease (s : State) (e : EvBody) (n : Nat) : (s.devEvent e n).lastRelease = s.lastRelease := rfl
@[simp] theorem devEvent_reported (s : State) (e : EvBody) (n : Nat) : (s.devEvent e n).reported = s.reported := rfl
@[simp] theorem devEvent_retValid (s : State) (e : EvBody) (n : Nat) : (s.devEvent e n).retValid = s.retValid := rfl
@[simp] theorem devEvent_bkpValid (s : State) (e : EvBody) (n : Nat) : (s.devEvent e n).bkpValid = s.bkpValid := rfl
@[simp] theorem devEvent_addrPins (s : State) (e : EvBody) (n : Nat) : (s.devEvent e n).addrPins = s.addrPins := rfl
@[simp] theorem devEvent_pinmap (s : State) (e : EvBody) (n : Nat) : (s.devEvent e n).pinmap = s.pinmap := rfl
@[simp] theorem devEvent_muxmap (s : State) (e : EvBody) (n : Nat) : (s.devEvent e n).muxmap = s.muxmap := rfl
@[simp] theorem devEvent_pinsShown (s : State) (e : EvBody) (n : Nat) : (s.devEvent e n).pinsShown = s.pinsShown := rfl
@[simp] theorem devEvent_unsealed (s : State) (e : EvBody) (n : Nat) : (s.devEvent e n).unsealed = s.unsealed := rfl
@[simp] theorem devEvent_resetDue (s : State) (e : EvBody) (n : Nat) : (s.devEvent e n).resetDue = s.resetDue := rfl
@[simp] theorem devEvent_freeCtr (s : State) (e : EvBody) (n : Nat) : (s.devEvent e n).freeCtr = s.freeCtr := rfl
@[simp] theorem devEvent_devOut (s : State) (e : EvBody) (n : Nat) : (s.devEvent e n).devOut = s.devOut ++ [(e, n)] := rfl

end Sys2Proof.Machine.State
end

