-- ==== Sys2Proof/Laws/Zoade.lean ====
section
/-!
SUPPORT. What the shared operations of the Zoade instructions answer: register reads after writes, the flags, the gate of
an executing Tug.
-/

namespace Sys2Proof.Machine

namespace Tug

@[simp] theorem reg_setReg_self (k : Tug) (r : ZReg) (v : Word) : (k.setReg r v).reg r = v := by
  unfold setReg
  by_cases h : r.val < 12
  · simp [reg, h]
  · by_cases b : k.bank <;> simp [reg, h, b]

theorem reg_setReg_other (k : Tug) (r q : ZReg) (v : Word) (n : q ≠ r) : (k.setReg r v).reg q = k.reg q := by
  have e : q.val ≠ r.val := fun e => n (Fin.ext e)
  by_cases h : r.val < 12 <;> by_cases g : q.val < 12 <;> by_cases b : k.bank <;>
    simp [setReg, reg, h, g, b, Vector.getElem_set] <;> omega

@[simp] theorem setReg_fl (k : Tug) (r : ZReg) (v : Word) : (k.setReg r v).fl = k.fl := by
  unfold setReg; split <;> [rfl; split <;> rfl]
@[simp] theorem setReg_pcn (k : Tug) (r : ZReg) (v : Word) : (k.setReg r v).pcn = k.pcn := by
  unfold setReg; split <;> [rfl; split <;> rfl]
@[simp] theorem setReg_cycle (k : Tug) (r : ZReg) (v : Word) : (k.setReg r v).cycle = k.cycle := by
  unfold setReg; split <;> [rfl; split <;> rfl]
@[simp] theorem setReg_bank (k : Tug) (r : ZReg) (v : Word) : (k.setReg r v).bank = k.bank := by
  unfold setReg; split <;> [rfl; split <;> rfl]

/-- A register of a Tug rests on its banks alone. -/
theorem reg_congr {k j : Tug} (z : k.z = j.z) (u : k.user = j.user) (e : k.exc = j.exc) (b : k.bank = j.bank) (r : ZReg) :
    k.reg r = j.reg r := by simp [reg, z, u, e, b]

/-- Everything that a write of a register can do, whatever flags, PCN and cycle come with it. -/
theorem setReg_only (k : Tug) (r : ZReg) (v : Word) (f : BitVec 5) (p : Word) (c : Nat) :
    k.Writes { k.setReg r v with fl := f, pcn := p, cycle := c } r v := by
  refine ⟨?_, fun q n => ?_, ?_⟩
  · exact (reg_congr (j := k.setReg r v) rfl rfl rfl rfl r).trans (reg_setReg_self k r v)
  · exact (reg_congr (j := k.setReg r v) rfl rfl rfl rfl q).trans (reg_setReg_other k r q v n)
  · by_cases h : r.val < 12 <;> by_cases b : k.bank <;> simp [OnlyRegs, setReg, h, b]

/-- A write of a register and one of the flags do not meet. -/
theorem setReg_withFl (k : Tug) (r : ZReg) (v : Word) (f : BitVec 5) :
    ({ k with fl := f } : Tug).setReg r v = { k.setReg r v with fl := f } := by
  unfold setReg; split <;> [rfl; split <;> rfl]

/-- What an instruction that writes a register and the flags leaves. -/
theorem writes_flags (k : Tug) (r : ZReg) (v : Word) (n z c o : Bool) (m : Nat) (y : Tug)
    (e : y = { k.setReg r v with fl := mkFl k.flB n z c o, pcn := k.pcn + 4, cycle := k.cycle + m }) :
    k.Writes y r v ∧ k.Flags y n z c o ∧ k.Goes y m := by
  subst e
  refine ⟨setReg_only k r v _ _ _, ?_, rfl, rfl⟩
  simp only [Flags, flN, flZ, flC, flV, flB, mkFl]
  generalize hb : k.fl.getLsbD 4 = b
  cases b <;> cases n <;> cases z <;> cases c <;> cases o <;> simp [flag]

/-- N and Z of a result, as the flags of an instruction name them. -/
theorem nz_eq (r : Word) : r.msb = r.getLsbD 31 ∧ (r == 0) = decide (r = 0) := by
  refine ⟨BitVec.msb_eq_getLsbD_last r, ?_⟩
  rw [Bool.eq_iff_iff]; simp

@[simp] theorem mkFl_flags (b n z c v : Bool) (k : Tug) :
    ({ k with fl := mkFl b n z c v } : Tug).flB = b ∧ ({ k with fl := mkFl b n z c v } : Tug).flN = n
      ∧ ({ k with fl := mkFl b n z c v } : Tug).flZ = z ∧ ({ k with fl := mkFl b n z c v } : Tug).flC = c
      ∧ ({ k with fl := mkFl b n z c v } : Tug).flV = v := by
  cases b <;> cases n <;> cases z <;> cases c <;> cases v <;> simp [flB, flN, flZ, flC, flV, mkFl, flag]

end Tug

namespace State

/-- An executing Tug runs the instruction. -/
theorem zGate_runs {s : State} {t : TugId} (h : s.Runs t) (f : State → State) : s.zGate t f = f s := by
  obtain ⟨m, c, p⟩ := h
  simp only [Fin.getElem_fin] at m c p
  simp [zGate, m, c, Nat.not_le.mpr p]

/-- An executing Tug does an instruction of legal form. -/
theorem zOp_runs {s : State} {t : TugId} (h : s.Runs t) (f : Tug → Tug) :
    s.zOp t true f = { s with tugs := s.tugs.set t (f s.tugs[t]) } := by
  simp [zOp, zGate_runs h, atTug]

/-- An executing Tug does a long instruction that its budget lets end. -/
theorem zLong_runs {s : State} {t : TugId} (h : s.Runs t) (c : Nat) (l : s.tugs[t].cycle + c ≤ 9000) (f : Tug → Tug) :
    s.zLong t true c f = { s with tugs := s.tugs.set t ((f s.tugs[t]).next c) } := by
  have n : ¬ 9000 < s.tugs[t].cycle + c := by omega
  rw [zLong, zOp_runs h, if_neg n]

/-- An aligned read of local memory. -/
theorem tugRead_local {s : State} {t : TugId} {a : Word} {n : Nat} (al : a.toNat % n = 0) (h : a.toNat < 0x10000) (blk hit : Bool) :
    s.tugRead t a n blk hit = .ok (Memory.readLe s.mem (localBase t + a.toNat) n) 2 s := by
  simp [tugRead, al, h]

/-- An aligned write of local data memory. -/
theorem tugWrite_local {s : State} {t : TugId} {a : Word} {n : Nat} (al : a.toNat % n = 0) (l : 0x8000 ≤ a.toNat) (h : a.toNat < 0x10000)
    (v : Nat) (blk : Bool) :
    s.tugWrite t a n v blk = .ok 1 { s with mem := Memory.writeBytes s.mem (localBase t + a.toNat) (leBytes n v) } := by
  simp [tugWrite, al, h, Nat.not_lt.mpr l]

end State

end Sys2Proof.Machine
end

