-- ==== Sys2Proof/WellFormed.lean ====
section
/-!
DEFINITION. Well-formed commands: a Zoade instruction in a form that is not illegal (R267, Tables 9.5–9.8, 9.10, 9.12),
a host command with a 12-bit tag and a payload that a frame can carry (R289, R301).
-/

namespace Sys2Proof

/-- A frame's payload is at most 512 bytes, and its tag has 12 bits. -/
def Origin.fits (o : Origin) (p : List Byte) : Bool := decide (o.tag < 4096) && decide (p.length ≤ 512)

/-- AUX is 0. -/
def auxZero (aux : BitVec 8) : Bool := aux = 0

/-- RB and AUX are 0. -/
def rbZero (rb : ZReg) (aux : BitVec 8) : Bool := rb = 0 && aux = 0

/-- The shift amount of an immediate shift: RB and AUX[7:5] are 0. -/
def shiftForm (rb : ZReg) (aux : BitVec 8) : Bool := rb = 0 && aux.toNat < 32

/-- RD, RA, RB and AUX are 0. -/
def allZero (rd ra rb : ZReg) (aux : BitVec 8) : Bool := rd = 0 && ra = 0 && rb = 0 && aux = 0

/-- The command is well formed. -/
def Instr.wellFormed (i : Instr) : Bool := match i with
  | .tideBoundary _ => true
  | .snapshotDelivery _ => true
  | .tugSuspend _ => true
  | .mirrorSeal _ => true
  | .tideOverrun _ => true
  | .allocationRoundStart => true
  | .grantCommit => true
  | .tideInPulse _ _ => true
  | .tideSyncLost => true
  | .gangwayFrameDiscard _ _ _ => true
  | .tideStrobeMissed _ => true
  | .harbourLessEntry _ _ => true
  | .harbourLessRelease _ _ => true
  | .gangwayRetrainAttempt _ _ => true
  | .ccLevelChange _ _ _ _ => true
  | .ccDebounceExpiry _ => true
  | .pdDebounceExpiry _ => true
  | .sinkDetach _ _ => true
  | .errorRecoveryExpiry _ => true
  | .insertionDelayExpiry _ => true
  | .drpToggleSwitch _ => true
  | .drpTryExpiry _ => true
  | .tryDebounceExpiry _ => true
  | .tryWaitExpiry _ => true
  | .tryTimeout _ => true
  | .accessorySeen _ => true
  | .accessoryEnded _ => true
  | .backfeedClear _ => true
  | .backfeedDetect _ => true
  | .ccOverVoltage _ _ => true
  | .ccOvClear _ _ => true
  | .vconnFaultTimerExpiry _ _ _ => true
  | .vconnSwitchover _ => true
  | .vconnSupplyReturn _ => true
  | .ccCfgWrite _ _ _ => true
  | .ccTimeWrite _ _ _ _ => true
  | .ccRpWrite _ _ _ => true
  | .vconnCfgWrite _ _ _ => true
  | .errorRecovery _ _ => true
  | .vconnOff _ _ => true
  | .vconnRearm _ _ => true
  | .swapToRd _ _ => true
  | .swapToRp _ _ => true
  | .release _ _ => true
  | .sopDetected _ _ _ => true
  | .messageEnd _ _ _ _ _ => true
  | .transmissionEnd _ _ => true
  | .goodcrcReceived _ _ _ => true
  | .treceiveExpiry _ => true
  | .responseTimerExpiry _ => true
  | .sourceCapsRepeatExpiry _ => true
  | .srcTransitionExpiry _ => true
  | .sinkTxExpiry _ => true
  | .hardResetSent _ _ => true
  | .hardResetReceived _ _ _ => true
  | .psHardResetExpiry _ => true
  | .srcRecoverExpiry _ => true
  | .sinkHardResetTimeout _ => true
  | .commit _ _ _ => true
  | .phyCfgWrite _ _ _ => true
  | .phyTimeWrite _ _ _ _ => true
  | .txCtrlWrite _ _ _ => true
  | .rxDataRead _ => true
  | .hardReset _ _ => true
  | .cableReset _ _ => true
  | .flushRx _ _ => true
  | .cancelTx _ _ => true
  | .ovfClear _ _ _ _ => true
  | .commandFifoStart _ => true
  | .commandFifoTimeout _ => true
  | .decisionWindowEnd _ _ => true
  | .decisionLapse _ _ => true
  | .reservationExpiry _ => true
  | .offerChangeCapabilities _ => true
  | .eprKeepaliveTimeout _ => true
  | .sinkEprKeepalive _ => true
  | .emergencyGraceExpiry _ => true
  | .emergencyHoldToHr _ => true
  | .psSourceOffExpiry _ => true
  | .psSourceOnExpiry _ => true
  | .vconnSourceTimeout _ => true
  | .swapSourceStartExpiry _ => true
  | .swapRetryAfterWait _ => true
  | .vconnOn _ _ => true
  | .frsSignalQualified _ _ => true
  | .frsSignalTooLong _ _ => true
  | .frsSourceTurnOn _ _ _ => true
  | .discoveryStart _ => true
  | .vdmResponseTimeout _ => true
  | .vdmBusyResend _ => true
  | .muxCfgWrite _ _ _ => true
  | .swapTimeWrite _ _ _ => true
  | .sourcePathClose _ _ _ => true
  | .rampComplete _ _ => true
  | .inrushTimeout _ => true
  | .sinkReverseCurrent _ _ => true
  | .sinkOverVoltage _ _ => true
  | .fastTrip _ _ => true
  | .gateDriveTestDone _ _ _ => true
  | .faultTimerExpiry _ _ _ => true
  | .vinUvFilter _ _ => true
  | .vinUvSustained _ _ => true
  | .vinOv _ _ => true
  | .vinOkRestored _ _ => true
  | .dischargeComplete _ _ => true
  | .dischargeTimeout _ => true
  | .passTransistorTestDone _ _ _ => true
  | .pathTestRun _ _ => true
  | .srcOpen _ _ => true
  | .snkOpen _ _ => true
  | .disOn _ _ => true
  | .lowerIlim _ _ _ => true
  | .vinWinWrite _ _ _ => true
  | .softstartComplete _ _ => true
  | .slewComplete _ _ => true
  | .holdEngage _ _ => true
  | .holdRelease _ _ => true
  | .hiccupEntry _ _ => true
  | .hiccupTimeExpiry _ => true
  | .hicCountClear _ => true
  | .integratorSaturation _ => true
  | .settleTimeout _ => true
  | .crowbarTrip _ _ => true
  | .crowbarClearCheck _ _ => true
  | .dropoutSet _ => true
  | .stageFault _ _ => true
  | .stageFaultRelease _ _ => true
  | .thermalStop _ _ => true
  | .thermalRelease _ _ => true
  | .regCfgWrite _ _ _ => true
  | .regWinWrite _ _ _ => true
  | .standby _ _ => true
  | .idle _ _ => true
  | .lowerHold _ _ _ => true
  | .comparatorEdge _ _ _ _ => true
  | .blankingEnd _ _ _ _ => true
  | .unexpectedEdge _ _ _ _ => true
  | .auditPacer _ => true
  | .comparatorTestStart _ => true
  | .comparatorTestDone _ _ _ _ _ _ _ => true
  | .monTestRun _ _ _ => true
  | .monThresholdWriteIgnored _ _ _ _ => true
  | .berthPark _ => true
  | .berthWake _ _ => true
  | .parkEnWrite _ _ => true
  | .seqEntryWrite _ _ => true
  | .gp0Start _ _ => true
  | .gp0Stop _ _ => true
  | .gp1Start _ _ => true
  | .gp1Stop _ _ => true
  | .gpTimerExpiry _ _ => true
  | .zAddi _ _ _ _ => true
  | .zAndi _ _ _ _ => true
  | .zOri _ _ _ _ => true
  | .zXori _ _ _ _ => true
  | .zCmpi _ rd _ _ => rd = 0
  | .zMovi _ _ ra _ => ra = 0
  | .zMovh _ _ zero _ => zero = 0
  | .zLdw _ _ _ _ => true
  | .zLdh _ _ _ _ => true
  | .zLdhu _ _ _ _ => true
  | .zLdb _ _ _ _ => true
  | .zLdbu _ _ _ _ => true
  | .zStw _ _ _ _ => true
  | .zSth _ _ _ _ => true
  | .zStb _ _ _ _ => true
  | .zB _ _ _ => true
  | .zBl _ _ => true
  | .zAdd _ _ _ _ aux => auxZero aux
  | .zAdc _ _ _ _ aux => auxZero aux
  | .zSub _ _ _ _ aux => auxZero aux
  | .zSbc _ _ _ _ aux => auxZero aux
  | .zAnd _ _ _ _ aux => auxZero aux
  | .zOr _ _ _ _ aux => auxZero aux
  | .zXor _ _ _ _ aux => auxZero aux
  | .zAndn _ _ _ _ aux => auxZero aux
  | .zShl _ _ _ _ aux => auxZero aux
  | .zShr _ _ _ _ aux => auxZero aux
  | .zSar _ _ _ _ aux => auxZero aux
  | .zRor _ _ _ _ aux => auxZero aux
  | .zShli _ _ _ rb aux => shiftForm rb aux
  | .zShri _ _ _ rb aux => shiftForm rb aux
  | .zSari _ _ _ rb aux => shiftForm rb aux
  | .zRori _ _ _ rb aux => shiftForm rb aux
  | .zCmp _ rd _ _ aux => rd = 0 && auxZero aux
  | .zTst _ rd _ _ aux => rd = 0 && auxZero aux
  | .zMov _ _ _ rb aux => rbZero rb aux
  | .zMul _ _ _ _ aux => auxZero aux
  | .zMulhu _ _ _ _ aux => auxZero aux
  | .zMulhs _ _ _ _ aux => auxZero aux
  | .zDivu _ _ _ _ aux => auxZero aux
  | .zRemu _ _ _ _ aux => auxZero aux
  | .zNot _ _ _ rb aux => rbZero rb aux
  | .zNeg _ _ _ rb aux => rbZero rb aux
  | .zSextb _ _ _ rb aux => rbZero rb aux
  | .zSexth _ _ _ rb aux => rbZero rb aux
  | .zNop _ rd ra rb aux => allZero rd ra rb aux
  | .zBr _ rd _ rb aux => rd = 0 && rbZero rb aux
  | .zBlr _ rd _ rb aux => rd = 0 && rbZero rb aux
  | .zRet _ rd ra rb aux => allZero rd ra rb aux
  | .zEret _ rd ra rb aux => allZero rd ra rb aux
  | .zMoor _ rd ra rb aux => rd = 0 && ra = 0 && rb = 0 && aux.toNat < 2
  | .zSvc _ rd ra rb _ => rd = 0 && ra = 0 && rb = 0
  | .zBkpt _ rd ra rb aux => allZero rd ra rb aux
  | .zSync _ rd ra rb aux => allZero rd ra rb aux
  | .zCrcb _ _ _ rb aux => rbZero rb aux
  | .zCrch _ _ _ rb aux => rbZero rb aux
  | .zCrcw _ _ _ rb aux => rbZero rb aux
  | .zPar _ _ _ rb aux => rbZero rb aux
  | .zBrev _ _ _ rb aux => rb = 0 && aux.toNat < 3
  | .zEnc5 _ _ _ rb aux => rbZero rb aux
  | .zDec5 _ _ _ rb aux => rbZero rb aux
  | .zSmov _ rd ra rb aux => rd = 0 && ra = 0 && rb = 0 && aux.toNat < 3
  | .zSfill _ rd ra rb aux => rd = 0 && ra = 0 && rb = 0 && aux.toNat < 3
  | .zScmp _ rd ra rb aux => rd = 0 && ra = 0 && rb = 0 && aux.toNat < 3
  | .zScrc _ rd ra rb aux => rd = 0 && ra = 0 && rb = 0 && aux.toNat < 3
  | .zMfs _ _ ra imm => ra = 0 && imm.toNat < 256
  | .zMts _ rd _ imm => rd = 0 && imm.toNat < 256
  | .interrupt _ => true
  | .programLoad _ => true
  | .tugEntry _ => true
  | .programSwapAtMooring _ => true
  | .swapDeferTimeout _ => true
  | .remapForceTimeout _ => true
  | .cmdFrameReceived _ _ _ _ _ _ _ => true
  | .frameError _ _ _ => true
  | .ackFrameReceived _ _ _ => true
  | .nakReceived _ _ _ => true
  | .pollReceived _ _ _ => true
  | .retrainFrameReceived _ _ _ _ _ => true
  | .ackWaitTimeout _ _ => true
  | .nakRepeat _ => true
  | .idleFrameTimer _ => true
  | .linkSilenceTimeout _ _ => true
  | .trainingLock _ _ _ => true
  | .retrainTimeout _ => true
  | .creditTimer => true
  | .responseSend _ _ => true
  | .eventSend _ => true
  | .devIdentify o p => o.fits p
  | .devGetState o p => o.fits p
  | .devSetTime o p => o.fits p
  | .devReset o p => o.fits p
  | .devConfig o p => o.fits p
  | .berthConfig o p => o.fits p
  | .berthEnable o p => o.fits p
  | .berthDisable o p => o.fits p
  | .berthReset o p => o.fits p
  | .berthResetDischargeEnd _ => true
  | .berthResetRelease _ => true
  | .berthGetState o p => o.fits p
  | .berthClearLatch o p => o.fits p
  | .berthForceDetach o p => o.fits p
  | .berthRequestSwap o p => o.fits p
  | .berthSendMessage o p => o.fits p
  | .berthEnterMode o p => o.fits p
  | .berthExitMode o p => o.fits p
  | .policyLoad o p => o.fits p
  | .policyBind o p => o.fits p
  | .policyDecide o p => o.fits p
  | .policyGet o p => o.fits p
  | .powerSetBudget o p => o.fits p
  | .powerSetPriority o p => o.fits p
  | .powerGetAlloc o p => o.fits p
  | .powerEmergency o p => o.fits p
  | .telRead o p => o.fits p
  | .telSnapshot o p => o.fits p
  | .snapshotComplete _ => true
  | .telReadSnapshot o p => o.fits p
  | .telSubscribe o p => o.fits p
  | .telConfig o p => o.fits p
  | .filterSegmentEnd _ => true
  | .manRead o p => o.fits p
  | .manList o p => o.fits p
  | .manClear o p => o.fits p
  | .capArm o p => o.fits p
  | .captureTrigger _ _ => true
  | .captureFreeze _ => true
  | .captureTimeout _ => true
  | .capRead o p => o.fits p
  | .glazeWrite o p => o.fits p
  | .glazeRead o p => o.fits p
  | .fwStage o p => o.fits p
  | .fwVerify o p => o.fits p
  | .fwCommitHm o p => o.fits p
  | .standbyReady => true
  | .fwSwapTug o p => o.fits p
  | .fwGetInfo o p => o.fits p
  | .otpRead o p => o.fits p
  | .otpProgram o p _ _ => o.fits p
  | .otpMargin o p => o.fits p
  | .otpLock o p _ _ => o.fits p
  | .svcSelftest o p _ => o.fits p
  | .svcFence o p => o.fits p
  | .svcUnfence o p => o.fits p
  | .svcRemapTug o p => o.fits p
  | .svcHealth o p => o.fits p
  | .linkConfig o p => o.fits p
  | .linkStatus o p => o.fits p
  | .linkEventAck o p => o.fits p
  | .dbgPeek o p => o.fits p
  | .dbgPoke o p => o.fits p
  | .faultRecordCapture _ => true
  | .manifestRecordWrite => true
  | .tunnelCmd _ _ _ => true
  | .tunnelRsp _ => true
  | .berthSelect _ _ => true
  | .identify => true
  | .status => true
  | .alertStatus => true
  | .alertMask _ _ => true
  | .smbCounts => true
  | .window _ _ => true
  | .filterReset _ => true
  | .vbusAvg => true
  | .currAvg => true
  | .powerAvg => true
  | .tempAvg => true
  | .vbusPeak => true
  | .currPeak => true
  | .powerPeak => true
  | .tempPeak => true
  | .peaks => true
  | .contract => true
  | .vbusAll => true
  | .currAll => true
  | .powerAll => true
  | .tempAll => true
  | .validAll => true
  | .devicePower => true
  | .vin => true
  | .smbTiming _ _ => true
  | .alertResponseAddress _ => true
  | .smbusTimeout _ => true
  | .supplyValid _ _ _ => true
  | .supplyInvalid _ _ _ _ => true
  | .powerOnReset _ => true
  | .resetNPulse _ _ => true
  | .watchdogExpiry _ => true
  | .kick => true
  | .harbourThermalShutdown _ _ _ => true
  | .quayThermalShutdown _ _ _ _ => true
  | .thermalShutdownEnd _ _ => true
  | .oscillatorStart _ => true
  | .brittleLoad _ => true
  | .pllLock _ => true
  | .harbourmasterBoot _ => true
  | .holdScrub _ => true
  | .quayBringup _ _ _ _ => true
  | .berthRelease _ => true
  | .gangwayRetrainComplete _ => true
  | .timeCorrection _ => true
  | .holdEccSingle _ _ => true
  | .holdEccDouble _ _ _ => true
  | .holdBackgroundScrub => true
  | .phyLoopbackStart _ => true
  | .phyLoopbackDone _ _ => true
  | .phyLoopbackAbort _ _ => true
  | .phyLoopbackDeferred _ => true
  | .stPhyLbRun _ _ => true
  | .laneTestStart _ => true
  | .laneTestDone _ _ => true
  | .tugCoreTestDone _ _ => true
  | .coreTestDone _ => true
  | .uartBreak => true
  | .baudRevert => true
  | .sessionTimeout => true
  | .unlockBlockEnd => true
  | .challengeExpiry => true
  | .lineTooLong => true
  | .pilotHelp => true
  | .pilotId => true
  | .pilotBaud _ => true
  | .pilotUnlock _ => true
  | .pilotChallenge => true
  | .pilotRespond _ => true
  | .pilotLock => true
  | .pilotState => true
  | .pilotBerth _ => true
  | .pilotRegs _ _ => true
  | .pilotTug _ => true
  | .pilotPeek _ _ => true
  | .pilotPoke _ _ => true
  | .pilotAlloc _ _ => true
  | .pilotHealth => true
  | .pilotManList _ _ => true
  | .pilotManRead _ => true
  | .pilotTrace _ _ => true
  | .pilotCapArm _ _ _ _ => true
  | .pilotCapDump _ _ => true
  | .pilotMb _ _ => true
  | .jtagIdcode => true
  | .jtagBypass => true
  | .jtagSamplePreload _ _ => true
  | .jtagExtest => true
  | .registerWrite _ _ _ _ => true
  | .goodcrcSent _ _ => true
  | .cableResetSent _ _ => true
  | .lineError _ _ _ => true
  | .devResetResponseTimeout => true
  | .standbyReadyTimeout => true

end Sys2Proof
end

