-- ==== Sys2Proof/Tests/Slice0.lean ====
section
/-!
SUPPORT. The model's own tests: well-formedness refuses ill-formed terms, worked examples of the manual and check values of its
codes, and for every obligation with premises the states and operands that meet them (test_witness_…).
-/

namespace Sys2Proof.Tests

open Sys2Proof Sys2Proof.Machine

theorem test_reset_mem : Memory.wf State.reset.mem = true := by decide

/-! ### Well-formedness: each check refuses a term -/

/-- AUX of an R-form instruction other than 0 (R267). -/
theorem test_wf_aux : Instr.wellFormed (.zAdd 3 1 2 4 1) = false ∧ Instr.wellFormed (.zAdd 3 1 2 4 0) = true := by decide

/-- RB of a two-register instruction other than 0. -/
theorem test_wf_rb : Instr.wellFormed (.zMov 3 1 2 4 0) = false ∧ Instr.wellFormed (.zMov 3 1 2 0 0) = true := by decide

/-- A shift amount past 31. -/
theorem test_wf_shift : Instr.wellFormed (.zShri 3 1 2 0 32) = false ∧ Instr.wellFormed (.zShri 3 1 2 0 31) = true := by decide

/-- A field of RET, RD of a compare, RA of MOVI, the zero field of MOVH, an element size of SMOV, a register number of MTS. -/
theorem test_wf_fields :
    [Instr.zRet 3 1 0 0 0, .zCmp 3 1 2 4 0, .zMovi 3 1 2 5, .zMovh 3 1 1 5, .zSmov 3 0 0 0 3, .zMts 3 0 1 256, .zMoor 3 0 0 0 2,
      .zSvc 3 1 0 0 5, .zBr 3 1 2 0 0, .zBrev 3 1 2 0 3].all (fun i => !i.wellFormed) = true := by decide

/-- A tag of 13 bits, and a payload of 513 bytes (R289, R301). -/
theorem test_wf_origin :
    Instr.wellFormed (.devIdentify { path := .tunnel, tag := 4096 } []) = false ∧
    Instr.wellFormed (.devIdentify { path := .tunnel, tag := 4095 } []) = true ∧
    Instr.wellFormed (.devIdentify { path := .tunnel, tag := 1 } (List.replicate 513 0)) = false := by decide +kernel

/-! ### The manual's worked examples -/

/-- The words of 09_zoade.md's example under Table 9.5: ADDI z4, z4, -8 and B NE back three instructions. -/
theorem test_words : zDecode 5 0x0513FFF8 = some (.zAddi 5 4 4 0x3FFF8) ∧ zDecode 5 0x407FFFFD = some (.zB 5 1 0x3FFFFD) := by decide +kernel

/-- Words written out from Table 9.5, one for each other format: MOVH z1, 0xBEEF; STW z2, [z2 + 16]; SHRI z5, z2, 4; SVC 0x2B. -/
theorem test_word_forms :
    zDecode 3 0x1C40BEEF = some (.zMovh 3 1 0 0xBEEF) ∧ zDecode 3 0x34880010 = some (.zStw 3 2 2 0x10) ∧
    zDecode 3 0x0148010D = some (.zShri 3 5 2 0 4) ∧ zDecode 3 0x50000AC6 = some (.zSvc 3 0 0 0 0x2B) := by decide +kernel

/-- Berth B29 sits on quay 3 (R17). -/
theorem test_quay_of : State.quayOf 29 = 3 := by decide

/-- The balls of B29, and T15, T16, N13 and AN16 (18_package.md). -/
theorem test_balls :
    tilePlace 29 1 1 = (44, 39) ∧ ballName 44 39 = "BF39" ∧ signalAt 44 39 = "B29_CC1" ∧ ballName 39 39 = "BA39" ∧ signalAt 39 39 = "B29_GSRC" ∧
    ballName 36 40 = "AV40" ∧ signalAt 36 40 = "B29_EN" ∧ ballName 15 15 = "T15" ∧ signalAt 15 15 = "VCORE" ∧ signalAt 15 16 = "VSS" ∧
    ballName 13 13 = "N13" ∧ signalAt 13 13 = "VIO" ∧ signalAt 32 16 = "VAON" := by decide +kernel

/-- vmax_b at 400 kHz with V_q = 52.0 V: 49.00 V, to 4 mV (the example under R123 rounds 49.504 V to 49.50 V). -/
theorem test_vmax : State.reset.berths[(0 : BerthId)].vmaxFor 52000 = 49004 := by decide +kernel

/-- B21 at 20 V across the pair with TFLT 2.0 ms: the timer expires 400 µs after limiting began (R190). -/
theorem test_fault_timer : (Berth.faultSeg 20 (0, 0, none) { dur := 100000, vds := some 20000 }).2.2 = some 40000 := by decide

/-- W = 10 ms: segments of 7 Tides, 58 of them (12_telemetry_manifest.md). -/
theorem test_segments : Tele.segTides 10 = 7 ∧ Tele.segCount 10 = 58 := by decide

/-- B33's path current: 3,012 mA raw is reported as 2,997 mA (R430). -/
theorem test_calibration : calValue 3012 10 (-8) (0x8100, 5) 1 = 2997 := by decide

/-- SMB_TIMING written 0x004F1E32 reads 0x024F1E2D (R370). -/
theorem test_smb_timing : State.timingClamp 0x004F1E32 = 0x024F1E2D := by decide +kernel

/-- An interval [1,000,000, 1,000,200) holds the edge stamped 1,000,000 and not the one stamped 1,000,200 (R35). -/
theorem test_blanking_interval :
    let x := State.reset.berths[(0 : BerthId)]
    let y := { x with phy.wireEnd := 1000000, mon.blank := 0x000A0205, mon.ch := x.mon.ch.set 0 { x.mon.ch[(0 : Fin 10)] with cfg := 0x20 } }
    y.blankedAt 0 true 1000000 = true ∧ y.blankedAt 0 true 1000199 = true ∧ y.blankedAt 0 true 1000200 = false := by decide +kernel

/-! ### Check values of the codes -/

/-- The bytes of "123456789". -/
def nine : List Byte := [0x31, 0x32, 0x33, 0x34, 0x35, 0x36, 0x37, 0x38, 0x39]

/-- The published check values of CRC-32 (R290), of the packet error code (R365) and of CRC-16/CCITT (Table 9.11). -/
theorem test_crcs : crc32 nine = 0xCBF43926 ∧ pecOf nine = 0xF4 ∧ nine.foldl crc16Step 0xFFFF#16 = 0x29B1 := by decide +kernel

/-- K28.5 and D21.5 of 8b/10b, and D16.2 after K28.5, as the coding's published tables have them (R288). -/
theorem test_line_code :
    encode10 false (Sym.ofK 28 5) = { bits := 0b0011111010, rd := true } ∧ encode10 true (Sym.ofK 28 5) = { bits := 0b1100000101, rd := false } ∧
    encode10 false (Sym.ofD 21 5) = { bits := 0b1010101010, rd := false } ∧ encode10 true (Sym.ofD 16 2) = { bits := 0b1001000101, rd := false } := by
  decide +kernel

/-- A frame with a payload of 16 bytes is 30 characters (10_host_link.md). -/
theorem test_frame_length : ({ type := .cmd, payload := List.replicate 16 0 } : Frame).syms.length = 30 := by decide +kernel

/-! ### Witnesses of the obligations' premises -/

/-- A device that runs, with every quay up and released and every berth released. -/
def base : State :=
  { State.reset with
    phase := .running, ticking := true, reported := true
    quays := State.reset.quays.map (fun (q : Quay) => { q with up := true, released := true, trained := true })
    berths := State.reset.berths.map (fun (x : Berth) => { x with cc.release := true, cc.state := .unattachedSrc, enabled := true }) }

/-- The device with berth 9 changed. -/
def at9 (f : State → State) (g : Berth → Berth) : State := f { base with berths := base.berths.set 9 (g base.berths[(9 : BerthId)]) }

/-- A berth attached as source, its path closed and its regulator at work. -/
def srcOn (x : Berth) : Berth :=
  { x with cc.state := .attachedSrc, cc.orient := .normal, path.state := .srcOn, reg.state := .regulate, id.powerSource := true, id.dataDfp := true, id.vconnSrc := true
           cc.vconnOn := true, id.tug := some 3 }

/-- A berth attached as sink, its path closed. -/
def snkOn (x : Berth) : Berth := { x with cc.state := .attachedSnk, cc.orient := .normal, path.state := .snkOn, id.tug := some 3 }

/-- Berth 9 on Tug 3. -/
def bound (s : State) : State := { s with tugs := s.tugs.set 3 { s.tugs[(3 : TugId)] with berth := some 9, mode := .running, slot := 2 } }

/-- Berth 9 on Tug 3, which runs BP 4.0. -/
def onBp (s : State) : State := { s with tugs := s.tugs.set 3 { s.tugs[(3 : TugId)] with berth := some 9, mode := .running, slot := 0 } }

/-- A state and operands that meet the premises of each clause of `Obligations.ZAddition`. -/
theorem test_witness_ZAddition : List.all [
    (let s : State := at9 bound id;
      let t : TugId := 3;
      decide (((s.tugs[t].mode = .running ∧ s.tugs[t].cycle < 9000 ∧ s.tugs[t].pcn.toNat < 0x8000))))] id = true := by decide +kernel

/-- A state and operands that meet the premises of each clause of `Obligations.ZSubtraction`. -/
theorem test_witness_ZSubtraction : List.all [
    (let s : State := at9 bound id;
      let t : TugId := 3;
      decide (((s.tugs[t].mode = .running ∧ s.tugs[t].cycle < 9000 ∧ s.tugs[t].pcn.toNat < 0x8000))))] id = true := by decide +kernel

/-- A state and operands that meet the premises of each clause of `Obligations.ZLogic`. -/
theorem test_witness_ZLogic : List.all [
    (let s : State := at9 bound id;
      let t : TugId := 3;
      decide (((s.tugs[t].mode = .running ∧ s.tugs[t].cycle < 9000 ∧ s.tugs[t].pcn.toNat < 0x8000))))] id = true := by decide +kernel

/-- A state and operands that meet the premises of each clause of `Obligations.ZShift`. -/
theorem test_witness_ZShift : List.all [
    (let s : State := at9 bound id;
      let t : TugId := 3;
      let aux : BitVec 8 := 0;
      decide (((s.tugs[t].mode = .running ∧ s.tugs[t].cycle < 9000 ∧ s.tugs[t].pcn.toNat < 0x8000)) ∧ (aux.toNat < 32)))] id = true := by decide +kernel

/-- A state and operands that meet the premises of each clause of `Obligations.ZMultiplyDivide`. -/
theorem test_witness_ZMultiplyDivide : List.all [
    (let s : State := at9 bound id;
      let t : TugId := 3;
      decide (((s.tugs[t].mode = .running ∧ s.tugs[t].cycle < 9000 ∧ s.tugs[t].pcn.toNat < 0x8000))))] id = true := by decide +kernel

/-- A state and operands that meet the premises of each clause of `Obligations.ZLoads`. -/
theorem test_witness_ZLoads : List.all [
    (let s : State := at9 bound id;
      let t : TugId := 3;
      decide (((s.tugs[t].mode = .running ∧ s.tugs[t].cycle < 9000 ∧ s.tugs[t].pcn.toNat < 0x8000)))),
    (let s : State := { State.reset with tugs := State.reset.tugs.set 3 { State.reset.tugs[(3 : TugId)] with mode := .running, z := Vector.ofFn (fun i => [0, 0, 0xFFF8].getD i.val 0) } };
      decide (s.tugs[(3 : TugId)].mode = .running ∧ s.tugs[(3 : TugId)].cycle < 9000 ∧ s.tugs[(3 : TugId)].pcn.toNat < 0x8000) && Memory.wf s.mem && decide ((s.tugs[(3 : TugId)].reg 2 + (4 : BitVec 18).signExtend 32).toNat = 0xFFFC))] id = true := by decide +kernel

/-- A state and operands that meet the premises of each clause of `Obligations.ZStores`. -/
theorem test_witness_ZStores : List.all [
    (let s : State := { State.reset with tugs := State.reset.tugs.set 3 { State.reset.tugs[(3 : TugId)] with mode := .running, z := Vector.ofFn (fun i => [0, 0, 0x8004].getD i.val 0) } };
      decide (s.tugs[(3 : TugId)].mode = .running ∧ s.tugs[(3 : TugId)].cycle < 9000 ∧ s.tugs[(3 : TugId)].pcn.toNat < 0x8000) && Memory.wf s.mem && decide ((s.tugs[(3 : TugId)].reg 2 + (0x3FFFC : BitVec 18).signExtend 32).toNat = 0x8000))] id = true := by decide +kernel

/-- A state and operands that meet the premises of each clause of `Obligations.ZBranches`. -/
theorem test_witness_ZBranches : List.all [
    (let s : State := at9 bound id;
      let t : TugId := 3;
      decide (((s.tugs[t].mode = .running ∧ s.tugs[t].cycle < 9000 ∧ s.tugs[t].pcn.toNat < 0x8000)))),
    (let s : State := { State.reset with tugs := State.reset.tugs.set 3 { State.reset.tugs[(3 : TugId)] with mode := .running, z := Vector.ofFn (fun i => [0, 0, 0x40].getD i.val 0) } };
      decide (s.tugs[(3 : TugId)].mode = .running ∧ s.tugs[(3 : TugId)].cycle < 9000 ∧ s.tugs[(3 : TugId)].pcn.toNat < 0x8000) && Memory.wf s.mem && decide ((s.tugs[(3 : TugId)].reg 2).toNat % 4 = 0 ∧ s.tugs[(3 : TugId)].lk.toNat % 4 = 0))] id = true := by decide +kernel

/-- A state and operands that meet the premises of each clause of `Obligations.ZExceptions`. -/
theorem test_witness_ZExceptions : List.all [
    (let s : State := at9 bound id;
      let t : TugId := 3;
      decide (((s.tugs[t].mode = .running ∧ s.tugs[t].cycle < 9000 ∧ s.tugs[t].pcn.toNat < 0x8000)))),
    (let s : State := { State.reset with tugs := State.reset.tugs.set 3 { State.reset.tugs[(3 : TugId)] with mode := .running, z := Vector.ofFn (fun i => [0].getD i.val 0) } };
      decide (s.tugs[(3 : TugId)].mode = .running ∧ s.tugs[(3 : TugId)].cycle < 9000 ∧ s.tugs[(3 : TugId)].pcn.toNat < 0x8000) && Memory.wf s.mem && !s.tugs[(3 : TugId)].bank && decide ((s.ipend 3 &&& s.tugs[(3 : TugId)].imask) = 0)),
    (let s : State := { State.reset with tugs := State.reset.tugs.set 3 { State.reset.tugs[(3 : TugId)] with mode := .running, bank := true } };
      decide (s.tugs[(3 : TugId)].mode = .running ∧ s.tugs[(3 : TugId)].cycle < 9000 ∧ s.tugs[(3 : TugId)].pcn.toNat < 0x8000) && Memory.wf s.mem && s.tugs[(3 : TugId)].bank)] id = true := by decide +kernel

/-- A state and operands that meet the premises of each clause of `Obligations.ZMoorAndSync`. -/
theorem test_witness_ZMoorAndSync : List.all [
    (let s : State := at9 bound id;
      let t : TugId := 3;
      decide (((s.tugs[t].mode = .running ∧ s.tugs[t].cycle < 9000 ∧ s.tugs[t].pcn.toNat < 0x8000))))] id = true := by decide +kernel

/-- A state and operands that meet the premises of each clause of `Obligations.ZBlocks`. -/
theorem test_witness_ZBlocks : List.all [
    (let s : State := { State.reset with tugs := State.reset.tugs.set 3 { State.reset.tugs[(3 : TugId)] with mode := .running, z := Vector.ofFn (fun i => [0, 0x100, 0x8000, 0].getD i.val 0) } };
      decide (s.tugs[(3 : TugId)].mode = .running ∧ s.tugs[(3 : TugId)].cycle < 9000 ∧ s.tugs[(3 : TugId)].pcn.toNat < 0x8000) && Memory.wf s.mem && decide (s.tugs[(3 : TugId)].z[3].toNat = 0)),
    (let s : State := { State.reset with tugs := State.reset.tugs.set 3 { State.reset.tugs[(3 : TugId)] with mode := .running, z := Vector.ofFn (fun i => [0, 0x100, 0xFFFC, 1].getD i.val 0) } };
      decide (s.tugs[(3 : TugId)].mode = .running ∧ s.tugs[(3 : TugId)].cycle < 9000 ∧ s.tugs[(3 : TugId)].pcn.toNat < 0x8000) && Memory.wf s.mem && decide (s.tugs[(3 : TugId)].z[2].toNat + s.tugs[(3 : TugId)].z[3].toNat * 4 ≤ 0x10000 ∧ s.tugs[(3 : TugId)].z[2].toNat % 4 = 0)),
    (let s : State := { State.reset with tugs := State.reset.tugs.set 3 { State.reset.tugs[(3 : TugId)] with mode := .running, z := Vector.ofFn (fun i => [0, 0xFFFC, 0x8000, 1].getD i.val 0) } };
      decide (s.tugs[(3 : TugId)].mode = .running ∧ s.tugs[(3 : TugId)].cycle < 9000 ∧ s.tugs[(3 : TugId)].pcn.toNat < 0x8000) && Memory.wf s.mem && decide (s.tugs[(3 : TugId)].z[3].toNat = 1 ∧ s.tugs[(3 : TugId)].z[1].toNat < 0x10000 ∧ 0x8000 ≤ s.tugs[(3 : TugId)].z[2].toNat))] id = true := by decide +kernel

/-- A state and operands that meet the premises of each clause of `Obligations.ZSpecial`. -/
theorem test_witness_ZSpecial : List.all [
    (let s : State := at9 bound id;
      let t : TugId := 3;
      let n : Nat := 0;
      decide (((s.tugs[t].mode = .running ∧ s.tugs[t].cycle < 9000 ∧ s.tugs[t].pcn.toNat < 0x8000)) ∧ (n < 256)))] id = true := by decide +kernel

/-- A state and operands that meet the premises of each clause of `Obligations.ZFaultingForms`. -/
theorem test_witness_ZFaultingForms : List.all [
    (let s : State := at9 bound id;
      let t : TugId := 3;
      decide (((s.tugs[t].mode = .running ∧ s.tugs[t].cycle < 9000 ∧ s.tugs[t].pcn.toNat < 0x8000)) ∧ (s.tugs[t].bank = false))),
    (let rd : ZReg := 1;
      decide ((rd ≠ 0))),
    (let rb : ZReg := 1;
      decide ((rb ≠ 0))),
    (let ra : ZReg := 1;
      decide ((ra ≠ 0))),
    (let zero : BitVec 6 := 1;
      decide ((zero ≠ 0))),
    (let aux : BitVec 8 := 3;
      decide ((3 ≤ aux.toNat))),
    (let s : State := { State.reset with tugs := State.reset.tugs.set 3 { State.reset.tugs[(3 : TugId)] with mode := .running, z := Vector.ofFn (fun i => [0, 0, 0x8001, 0x4000].getD i.val 0) } };
      decide (s.tugs[(3 : TugId)].mode = .running ∧ s.tugs[(3 : TugId)].cycle < 9000 ∧ s.tugs[(3 : TugId)].pcn.toNat < 0x8000) && Memory.wf s.mem && !s.tugs[(3 : TugId)].bank && decide ((s.tugs[(3 : TugId)].reg 2).toNat % 4 ≠ 0 ∧ (s.tugs[(3 : TugId)].reg 3).toNat % 4 = 0 ∧ (s.tugs[(3 : TugId)].reg 3).toNat < 0x8000))] id = true := by decide +kernel

/-- A state and operands that meet the premises of each clause of `Obligations.ZUnboundWindow`. -/
theorem test_witness_ZUnboundWindow : List.all [
    (let s : State := { State.reset with tugs := State.reset.tugs.set 3 { State.reset.tugs[(3 : TugId)] with mode := .running, z := Vector.ofFn (fun i => [0, 0, 0x10FFC].getD i.val 0) } };
      decide (s.tugs[(3 : TugId)].mode = .running ∧ s.tugs[(3 : TugId)].cycle < 9000 ∧ s.tugs[(3 : TugId)].pcn.toNat < 0x8000) && Memory.wf s.mem && decide (s.tugs[(3 : TugId)].berth = none ∧ s.tugs[(3 : TugId)].reg 2 = 0x10FFC)),
    (let s : State := { State.reset with tugs := State.reset.tugs.set 3 { State.reset.tugs[(3 : TugId)] with mode := .running, bank := true, z := Vector.replicate 12 0x10000 } };
      decide (s.tugs[(3 : TugId)].mode = .running ∧ s.tugs[(3 : TugId)].cycle < 9000 ∧ s.tugs[(3 : TugId)].pcn.toNat < 0x8000) && Memory.wf s.mem && decide (s.tugs[(3 : TugId)].berth = none ∧ s.tugs[(3 : TugId)].bank = true ∧ s.tugs[(3 : TugId)].reg 2 = 0x10000))] id = true := by decide +kernel

/-- A state and operands that meet the premises of each clause of `Obligations.ZDecodeEncode`. -/
theorem test_witness_ZDecodeEncode : List.all [
    (decide (zEncode (.zAddi 47 4 4 0x3FFF8) = some (47, 0x0513FFF8)))] id = true := by decide +kernel

/-- A state and operands that meet the premises of each clause of `Obligations.CcAttach`. -/
theorem test_witness_CcAttach : List.all [
    (let s : State := at9 id id;
      let b : BerthId := 9;
      let at_ : Stamp := 6000;
      let x := s.berths[b];
      decide ((((s.berths[b].firstDue at_).isNone = true)) ∧ (x.cc.state = .unattachedSrc) ∧ (x.cc.acc = 0))),
    (let s : State := at9 id id;
      let b : BerthId := 9;
      let at_ : Stamp := 6000;
      let x := s.berths[b];
      let s : State := { s with berths := s.berths.set (b) { s.berths[b] with cc.state := .unattachedSnk } };
      let x := s.berths[b];
      decide ((((s.berths[b].firstDue at_).isNone = true)) ∧ (x.cc.state = .unattachedSnk))),
    (let s : State := at9 id id;
      let b : BerthId := 9;
      let d : Stamp := 6000;
      let x := s.berths[b];
      let s : State := { s with berths := s.berths.set (b) { s.berths[b] with tm.ccDeb := some d } };
      let s : State := { s with berths := s.berths.set (b) { s.berths[b] with cc.state := .attachWaitSrc } };
      let x := s.berths[b];
      decide ((x.tm.ccDeb = some d) ∧ (x.cc.state = .attachWaitSrc) ∧ (x.vbcAbove08 = false))),
    (let s : State := at9 id (fun x => { x with cc.state := .attachWaitSnk, mon.ded := x.mon.ded.set 5 true, cc.cfg := 0x50 });
      let b : BerthId := 9;
      let d : Stamp := 6000;
      let x := s.berths[b];
      let s : State := { s with berths := s.berths.set (b) { s.berths[b] with tm.ccDeb := some d } };
      let s : State := { s with berths := s.berths.set (b) { s.berths[b] with cc.state := .attachWaitSnk } };
      let x := s.berths[b];
      decide ((x.tm.ccDeb = some d) ∧ (x.cc.state = .attachWaitSnk) ∧ (x.vbcPresent = true))),
    (let s : State := at9 id (fun x => { x with cc.state := .trySrc, cc.lvl1 := .rd, cc.lvl2 := .open_ });
      let b : BerthId := 9;
      let d : Stamp := 6000;
      let x := s.berths[b];
      let s : State := { s with berths := s.berths.set (b) { s.berths[b] with tm.tryDeb := some d } };
      let s : State := { s with berths := s.berths.set (b) { s.berths[b] with cc.state := .trySrc } };
      let x := s.berths[b];
      decide ((x.tm.tryDeb = some d) ∧ (x.cc.state = .trySrc) ∧ (x.rdCount = 1))),
    (let s : State := at9 id (fun x => { x with cc.state := .trySnk, cc.lvl1 := .open_, cc.lvl2 := .rp15 });
      let b : BerthId := 9;
      let d : Stamp := 6000;
      let x := s.berths[b];
      let s : State := { s with berths := s.berths.set (b) { s.berths[b] with tm.tryDeb := some d } };
      let s : State := { s with berths := s.berths.set (b) { s.berths[b] with cc.state := .trySnk } };
      let x := s.berths[b];
      decide ((x.tm.tryDeb = some d) ∧ (x.cc.state = .trySnk) ∧ (x.rpCount = 1))),
    (let s : State := at9 id id;
      let b : BerthId := 9;
      let d : Stamp := 6000;
      let x := s.berths[b];
      let s : State := { s with berths := s.berths.set (b) { s.berths[b] with tm.tryDeb := some d } };
      let s : State := { s with berths := s.berths.set (b) { s.berths[b] with cc.state := .trySnk } };
      let x := s.berths[b];
      decide ((x.tm.tryDeb = some d) ∧ (x.cc.state = .trySnk) ∧ (x.rpCount = 0))),
    (let s : State := at9 id id;
      let b : BerthId := 9;
      let d : Stamp := 6000;
      let x := s.berths[b];
      let s : State := { s with berths := s.berths.set (b) { s.berths[b] with tm.drpTry := some d } };
      let s : State := { s with berths := s.berths.set (b) { s.berths[b] with cc.state := .trySrc } };
      let x := s.berths[b];
      decide ((x.tm.drpTry = some d) ∧ (x.cc.state = .trySrc) ∧ (x.rdCount = 0))),
    (let s : State := at9 id id;
      let b : BerthId := 9;
      let d : Stamp := 6000;
      let x := s.berths[b];
      let s : State := { s with berths := s.berths.set (b) { s.berths[b] with tm.tryTo := some d } };
      let s : State := { s with berths := s.berths.set (b) { s.berths[b] with cc.state := .trySrc } };
      let x := s.berths[b];
      decide ((x.tm.tryTo = some d) ∧ (x.cc.state = .trySrc))),
    (let s : State := at9 id id;
      let b : BerthId := 9;
      let d : Stamp := 6000;
      let x := s.berths[b];
      let s : State := { s with berths := s.berths.set (b) { s.berths[b] with tm.tryWait := some d } };
      let s : State := { s with berths := s.berths.set (b) { s.berths[b] with cc.state := .tryWaitSrc } };
      let x := s.berths[b];
      decide ((x.tm.tryWait = some d) ∧ (x.cc.state = .tryWaitSrc)))] id = true := by decide +kernel

/-- A state and operands that meet the premises of each clause of `Obligations.CcDetach`. -/
theorem test_witness_CcDetach : List.all [
    (let s : State := at9 id id;
      let b : BerthId := 9;
      let d : Stamp := 6000;
      let x := s.berths[b];
      let s : State := { s with berths := s.berths.set (b) { s.berths[b] with tm.pdDeb := some d } };
      let s : State := { s with berths := s.berths.set (b) { s.berths[b] with cc.state := .attachedSrc } };
      let x := s.berths[b];
      decide ((x.tm.pdDeb = some d) ∧ (x.cc.state = .attachedSrc))),
    (let s : State := at9 id id;
      let b : BerthId := 9;
      let d : Stamp := 6000;
      let x := s.berths[b];
      let s : State := { s with berths := s.berths.set (b) { s.berths[b] with tm.pdDeb := some d } };
      let x := s.berths[b];
      decide ((x.tm.pdDeb = some d))),
    (let s : State := at9 id id;
      let b : BerthId := 9;
      let x := s.berths[b];
      let s : State := { s with berths := s.berths.set (b) { s.berths[b] with cc.state := .attachedSnk } };
      let s : State := { s with berths := s.berths.set (b) { s.berths[b] with id.expectLoss := false } };
      let x := s.berths[b];
      decide ((x.cc.state = .attachedSnk) ∧ (x.id.expectLoss = false))),
    (let s : State := at9 id id;
      let b : BerthId := 9;
      let d : Stamp := 6000;
      let x := s.berths[b];
      let s : State := { s with berths := s.berths.set (b) { s.berths[b] with tm.err := some d } };
      let x := s.berths[b];
      decide ((x.tm.err = some d))),
    (let s : State := at9 id id;
      let b : BerthId := 9;
      let d : Stamp := 6000;
      let x := s.berths[b];
      let s : State := { s with berths := s.berths.set (b) { s.berths[b] with tm.clr := some d } };
      let s : State := { s with berths := s.berths.set (b) { s.berths[b] with cc.state := .backFeed } };
      let x := s.berths[b];
      decide ((x.tm.clr = some d) ∧ (x.cc.state = .backFeed))),
    (let s : State := at9 id id;
      let b : BerthId := 9;
      let d : Stamp := 6000;
      let x := s.berths[b];
      let s : State := { s with berths := s.berths.set (b) { s.berths[b] with tm.backDet := some d } };
      let s : State := { s with berths := s.berths.set (b) { s.berths[b] with cc.state := .unattachedSrc } };
      let x := s.berths[b];
      decide ((x.tm.backDet = some d) ∧ (x.cc.state = .unattachedSrc ∨ x.cc.state = .unattachedSnk))),
    (let s : State := at9 id id;
      let b : BerthId := 9;
      let at_ : Stamp := 6000;
      decide ((((s.berths[b].firstDue at_).isNone = true)))),
    (let s : State := at9 id id;
      let b : BerthId := 9;
      let since : Stamp := 6000;
      let x := s.berths[b];
      let s : State := { s with berths := s.berths.set (b) { s.berths[b] with cc.isolated := true } };
      let s : State := { s with berths := s.berths.set (b) { s.berths[b] with cc.ovActive := false } };
      let x := s.berths[b];
      decide ((((s.berths[b].firstDue (since + ms 100)).isNone = true)) ∧ (x.cc.isolated = true) ∧ (x.cc.ovActive = false) ∧ (x.cc.ovAt ≤ since) ∧ (x.cc.state = .ccFault → x.cc.clearing = false))),
    (let s : State := at9 id id;
      let b : BerthId := 9;
      let since : Stamp := 6000;
      let x := s.berths[b];
      let s : State := { s with berths := s.berths.set (b) { s.berths[b] with cc.isolated := true } };
      let s : State := { s with berths := s.berths.set (b) { s.berths[b] with cc.ovActive := false } };
      let x := s.berths[b];
      decide ((((s.berths[b].firstDue (since + ms 100)).isNone = true)) ∧ (x.cc.isolated = true) ∧ (x.cc.ovActive = false)))] id = true := by decide +kernel

/-- A state and operands that meet the premises of each clause of `Obligations.CcOther`. -/
theorem test_witness_CcOther : List.all [
    (let s : State := at9 id id;
      let b : BerthId := 9;
      let d : Stamp := 6000;
      let x := s.berths[b];
      let s : State := { s with berths := s.berths.set (b) { s.berths[b] with tm.ins := some d } };
      let s : State := { s with berths := s.berths.set (b) { s.berths[b] with cc.state := .attachedSrc } };
      let s : State := { s with berths := s.berths.set (b) { s.berths[b] with path.restart := false } };
      let x := s.berths[b];
      decide ((x.tm.ins = some d) ∧ (x.cc.state = .attachedSrc) ∧ (x.path.restart = false))),
    (let s : State := at9 id id;
      let b : BerthId := 9;
      let due : Nat := 0;
      let x := s.berths[b];
      let qb := State.quayOf b;
      let s : State := { s with berths := s.berths.set (b) { s.berths[b] with cc.toggleAt := some due } };
      let x := s.berths[b];
      let qb := State.quayOf b;
      decide ((x.cc.toggleAt = some due) ∧ (s.toggler qb = some b))),
    (let s : State := at9 id id;
      let b : BerthId := 9;
      let qb := State.quayOf b;
      decide ((s.toggler qb ≠ some b))),
    (let s : State := at9 id id;
      let b : BerthId := 9;
      let d : Stamp := 6000;
      let x := s.berths[b];
      let s : State := { s with berths := s.berths.set (b) { s.berths[b] with tm.acc := some d } };
      let x := s.berths[b];
      decide ((x.tm.acc = some d))),
    (let s : State := at9 id (fun x => { x with cc.state := .unattachedSrc, cc.lvl1 := .rp15, cc.lvl2 := .open_, cc.acc := 1, cc.accRaised := true });
      let b : BerthId := 9;
      let d : Stamp := 6000;
      let x := s.berths[b];
      let s : State := { s with berths := s.berths.set (b) { s.berths[b] with tm.pdDeb := some d } };
      let s : State := { s with berths := s.berths.set (b) { s.berths[b] with cc.state := .unattachedSrc } };
      let s : State := { s with berths := s.berths.set (b) { s.berths[b] with cc.accRaised := true } };
      let x := s.berths[b];
      decide ((x.tm.pdDeb = some d) ∧ (x.cc.state = .unattachedSrc) ∧ (x.cc.acc ≠ 0) ∧ (x.cc.accRaised = true) ∧ (x.rdCount = 0 → x.cc.lvl1 ≠ .belowRa))),
    (let s : State := at9 id id;
      let b : BerthId := 9;
      let at_ : Stamp := 6000;
      let x := s.berths[b];
      let s : State := { s with berths := s.berths.set (b) { s.berths[b] with cc.vconnOn := true } };
      let x := s.berths[b];
      decide ((((s.berths[b].firstDue at_).isNone = true)) ∧ (x.cc.vconnOn = true))),
    (let s : State := at9 id id;
      let q : QuayId := 1;
      let vq5 : Bool := true;
      decide ((s.quays[q].vconnVq5 = !vq5)))] id = true := by decide +kernel

/-- A state and operands that meet the premises of each clause of `Obligations.CcWrites`. -/
theorem test_witness_CcWrites : List.all [
    (let s : State := at9 id id;
      let b : BerthId := 9;
      decide (((s.quays[State.quayOf b].up = true ∧ s.quays[State.quayOf b].hless = false)))),
    (let s : State := at9 id id;
      let b : BerthId := 9;
      let v : Word := 0x0086050F;
      decide (((s.quays[State.quayOf b].up = true ∧ s.quays[State.quayOf b].hless = false)) ∧ (fld v 0 2 = 3))),
    (let s : State := at9 id id;
      let b : BerthId := 9;
      let v : Word := 0;
      let x := s.berths[b];
      decide (((s.quays[State.quayOf b].up = true ∧ s.quays[State.quayOf b].hless = false)) ∧ (fld v 0 2 ≠ 3) ∧ (x.id.contract = none))),
    (let s : State := at9 id (fun x => { x with lat.ccStatus := 0xFFFFFFFF, mux.phase := .prSrcOff });
      let b : BerthId := 9;
      let x := s.berths[b];
      decide (((s.quays[State.quayOf b].up = true ∧ s.quays[State.quayOf b].hless = false)) ∧ (x.mux.phase = .prSrcOff) ∧ (x.lat.ccStatus.getLsbD 22 = true))),
    (let s : State := at9 id id;
      let b : BerthId := 9;
      let x := s.berths[b];
      decide (((s.quays[State.quayOf b].up = true ∧ s.quays[State.quayOf b].hless = false)) ∧ (x.mux.phase ≠ .prSrcOff ∨ x.lat.ccStatus.getLsbD 22 = false))),
    (let s : State := at9 id id;
      let b : BerthId := 9;
      let x := s.berths[b];
      decide (((s.quays[State.quayOf b].up = true ∧ s.quays[State.quayOf b].hless = false)) ∧ (x.mux.phase ≠ .prSnkOn))),
    (let s : State := at9 (fun s => { s with quays := s.quays.set 1 { s.quays[(1 : QuayId)] with up := false } }) id;
      let b : BerthId := 9;
      decide ((s.reaches b = false)))] id = true := by decide +kernel

/-- A state and operands that meet the premises of each clause of `Obligations.PhyReceive`. -/
theorem test_witness_PhyReceive : List.all [
    (let s : State := at9 id srcOn;
      let b : BerthId := 9;
      let at_ : Stamp := 6000;
      let k : SopKind := .sop;
      let x := s.berths[b];
      let up := x.st.phyFenced = false ∧ x.st.running = false ∧ x.attached = true ∧ s.quays[State.quayOf b].hless = false ∧ x.cc.isolated = false;
      decide ((((s.berths[b].firstDue at_).isNone = true)) ∧ (up) ∧ (x.phy.tx = none) ∧ (x.sopEnabled k = true) ∧ (x.phy.owed = []))),
    (let s : State := at9 id srcOn;
      let b : BerthId := 9;
      let at_ : Stamp := 6000;
      let x := s.berths[b];
      let up := x.st.phyFenced = false ∧ x.st.running = false ∧ x.attached = true ∧ s.quays[State.quayOf b].hless = false ∧ x.cc.isolated = false;
      decide ((((s.berths[b].firstDue at_).isNone = true)) ∧ (up) ∧ (x.phy.tx = none))),
    (let s : State := at9 id srcOn;
      let b : BerthId := 9;
      let at_ : Stamp := 6000;
      let z : Tx := { buf := 0, word0 := 5, data := [], sop := .sop, msgId := 0 };
      let x := s.berths[b];
      let up := x.st.phyFenced = false ∧ x.st.running = false ∧ x.attached = true ∧ s.quays[State.quayOf b].hless = false ∧ x.cc.isolated = false;
      let s : State := { s with berths := s.berths.set (b) { s.berths[b] with st.phyFenced := false } };
      let s : State := { s with berths := s.berths.set (b) { s.berths[b] with st.running := false } };
      let s : State := { s with quays := s.quays.set (State.quayOf b) { s.quays[State.quayOf b] with hless := false } };
      let s : State := { s with berths := s.berths.set (b) { s.berths[b] with cc.isolated := false } };
      let s : State := { s with berths := s.berths.set (b) { s.berths[b] with phy.tx := some z } };
      let x := s.berths[b];
      let up := x.st.phyFenced = false ∧ x.st.running = false ∧ x.attached = true ∧ s.quays[State.quayOf b].hless = false ∧ x.cc.isolated = false;
      decide ((((s.berths[b].firstDue at_).isNone = true)) ∧ (up) ∧ (x.phy.tx = some z) ∧ (z.begun = false))),
    (let s : State := at9 id id;
      let b : BerthId := 9;
      let at_ : Stamp := 6000;
      let m : RxMsg := { sop := .sop, fits := true };
      let x := s.berths[b];
      let s : State := { s with berths := s.berths.set (b) { s.berths[b] with phy.rxMsg := some m } };
      let s : State := { s with berths := s.berths.set (b) { s.berths[b] with phy.hrWait := false } };
      let x := s.berths[b];
      decide ((((s.berths[b].firstDue at_).isNone = true)) ∧ (x.phy.rxMsg = some m) ∧ (m.fits = true) ∧ (x.phy.hrWait = false))),
    (let s : State := at9 id id;
      let b : BerthId := 9;
      let at_ : Stamp := 6000;
      let hdr : BitVec 16 := 0;
      let a : AckDue := { sop := .sop, hdr := 5, data := [], dup := false };
      let x := s.berths[b];
      let s : State := { s with berths := s.berths.set (b) { s.berths[b] with phy.ackDue := some a } };
      let x := s.berths[b];
      decide ((((s.berths[b].firstDue at_).isNone = true)) ∧ (x.phy.ackDue = some a) ∧ (a.live = true) ∧ (a.dup = false) ∧ (isCtl a.hdr 13 = false))),
    (let s : State := at9 id id;
      let b : BerthId := 9;
      let at_ : Stamp := 6000;
      let a : AckDue := { sop := .sop, hdr := 5, data := [], dup := false };
      let x := s.berths[b];
      let s : State := { s with berths := s.berths.set (b) { s.berths[b] with phy.ackDue := some a } };
      let x := s.berths[b];
      decide ((((s.berths[b].firstDue at_).isNone = true)) ∧ (x.phy.ackDue = some a) ∧ (a.live = true))),
    (let s : State := at9 id id;
      let b : BerthId := 9;
      let at_ : Stamp := 6000;
      let m : RxMsg := { sop := .sop, fits := true };
      let x := s.berths[b];
      let s : State := { s with berths := s.berths.set (b) { s.berths[b] with phy.rxMsg := some m } };
      let s : State := { s with berths := s.berths.set (b) { s.berths[b] with phy.hrWait := false } };
      let s : State := { s with berths := s.berths.set (b) { s.berths[b] with phy.crWait := false } };
      let x := s.berths[b];
      decide ((((s.berths[b].firstDue at_).isNone = true)) ∧ (x.phy.rxMsg = some m) ∧ (m.fits = true) ∧ (x.phy.hrWait = false) ∧ (x.phy.crWait = false))),
    (let s : State := at9 id id;
      let b : BerthId := 9;
      let at_ : Stamp := 6000;
      let x := s.berths[b];
      decide ((((s.berths[b].firstDue at_).isNone = true)) ∧ (x.phy.rxMsg = none))),
    (let s : State := at9 id id;
      let b : BerthId := 9;
      let x := s.berths[b];
      let up := x.st.phyFenced = false ∧ x.st.running = false ∧ x.attached = true ∧ s.quays[State.quayOf b].hless = false ∧ x.cc.isolated = false;
      decide (((s.quays[State.quayOf b].up = true ∧ s.quays[State.quayOf b].hless = false)) ∧ (x.mon.parked = false)))] id = true := by decide +kernel

/-- A state and operands that meet the premises of each clause of `Obligations.PhyTransmit`. -/
theorem test_witness_PhyTransmit : List.all [
    (let s : State := at9 id id;
      let b : BerthId := 9;
      let at_ : Stamp := 6000;
      let z : Tx := { buf := 0, word0 := 5, data := [], sop := .sop, msgId := 0, begun := true };
      let x := s.berths[b];
      let s : State := { s with berths := s.berths.set (b) { s.berths[b] with phy.tx := some z } };
      let x := s.berths[b];
      decide ((((s.berths[b].firstDue at_).isNone = true)) ∧ (x.phy.tx = some z) ∧ (z.begun = true))),
    (let s : State := at9 id id;
      let b : BerthId := 9;
      let at_ : Stamp := 5000;
      let id : BitVec 3 := 0;
      let z : Tx := { buf := 0, word0 := 5, data := [], sop := .sop, msgId := 0, begun := true, ended := true };
      let x := s.berths[b];
      let s : State := { s with berths := s.berths.set (b) { s.berths[b] with phy.tx := some z } };
      let x := s.berths[b];
      decide ((((s.berths[b].firstDue at_).isNone = true)) ∧ (x.phy.tx = some z) ∧ (z.begun = true) ∧ (z.ended = true) ∧ (z.msgId = id) ∧ (isCtl z.hdr 13 = false))),
    (let s : State := at9 id id;
      let b : BerthId := 9;
      let d : Stamp := 6000;
      let z : Tx := { buf := 0, word0 := 5, data := [], sop := .sop, msgId := 0 };
      let x := s.berths[b];
      let s : State := { s with berths := s.berths.set (b) { s.berths[b] with tm.tRecv := some d } };
      let s : State := { s with berths := s.berths.set (b) { s.berths[b] with phy.tx := some z } };
      let x := s.berths[b];
      decide ((x.tm.tRecv = some d) ∧ (x.phy.tx = some z) ∧ (z.attempts < fld x.phy.cfg 7 2))),
    (let s : State := at9 id id;
      let b : BerthId := 9;
      let d : Stamp := 6000;
      let z : Tx := { buf := 0, word0 := 5, data := [], sop := .sop, msgId := 0 };
      let x := s.berths[b];
      let s : State := { s with berths := s.berths.set (b) { s.berths[b] with tm.tRecv := some d } };
      let s : State := { s with berths := s.berths.set (b) { s.berths[b] with phy.tx := some z } };
      let x := s.berths[b];
      decide ((x.tm.tRecv = some d) ∧ (x.phy.tx = some z) ∧ (fld x.phy.cfg 7 2 ≤ z.attempts ∨ x.mayTransmit z.sop = false))),
    (let s : State := at9 id srcOn;
      let b : BerthId := 9;
      let d : Stamp := 6000;
      let z : Tx := { buf := 0, word0 := 5, data := [], sop := .sop, msgId := 0 };
      let x := s.berths[b];
      let s : State := { s with berths := s.berths.set (b) { s.berths[b] with tm.sinkTx := some d } };
      let s : State := { s with berths := s.berths.set (b) { s.berths[b] with phy.tx := some z } };
      let x := s.berths[b];
      decide ((x.tm.sinkTx = some d) ∧ (x.phy.tx = some z) ∧ (x.mayTransmit z.sop = true))),
    (let s : State := at9 id id;
      let b : BerthId := 9;
      let d : Stamp := 6000;
      let x := s.berths[b];
      let s : State := { s with berths := s.berths.set (b) { s.berths[b] with tm.resp := some d } };
      let x := s.berths[b];
      decide ((x.tm.resp = some d) ∧ (s.runsBp b = false))),
    (let s : State := at9 id id;
      let b : BerthId := 9;
      let d : Stamp := 6000;
      let x := s.berths[b];
      let s : State := { s with berths := s.berths.set (b) { s.berths[b] with tm.caps := some d } };
      let x := s.berths[b];
      decide ((x.tm.caps = some d))),
    (let s : State := at9 id id;
      let b : BerthId := 9;
      let d : Stamp := 6000;
      let x := s.berths[b];
      let s : State := { s with berths := s.berths.set (b) { s.berths[b] with tm.srcTrans := some d } };
      let s : State := { s with berths := s.berths.set (b) { s.berths[b] with pol.trans := none } };
      let x := s.berths[b];
      decide ((x.tm.srcTrans = some d) ∧ (x.mux.phase ≠ .prSrcTrans) ∧ (x.pol.trans = none))),
    (let s : State := at9 id id;
      let b : BerthId := 9;
      let x := s.berths[b];
      decide (((s.quays[State.quayOf b].up = true ∧ s.quays[State.quayOf b].hless = false)) ∧ (x.mon.parked = false))),
    (let s : State := at9 id srcOn;
      (s.berths[(9 : BerthId)].firstDue 5000).isNone && s.berths[(9 : BerthId)].phy.tx.isNone)] id = true := by decide +kernel

/-- A state and operands that meet the premises of each clause of `Obligations.PhyHardReset`. -/
theorem test_witness_PhyHardReset : List.all [
    (let s : State := at9 id srcOn;
      let b : BerthId := 9;
      let at_ : Stamp := 6000;
      let x := s.berths[b];
      let calm := x.mux.phase = .idle ∨ x.mux.phase = .frsArmed;
      let s : State := { s with berths := s.berths.set (b) { s.berths[b] with phy.hrSending := true } };
      let s : State := { s with berths := s.berths.set (b) { s.berths[b] with mux.phase := .idle } };
      let x := s.berths[b];
      let calm := x.mux.phase = .idle ∨ x.mux.phase = .frsArmed;
      decide ((((s.berths[b].firstDue at_).isNone = true)) ∧ (x.phy.hrSending = true) ∧ (x.attached = true) ∧ (calm))),
    (let s : State := at9 id srcOn;
      let b : BerthId := 9;
      let at_ : Stamp := 6000;
      let x := s.berths[b];
      decide ((((s.berths[b].firstDue at_).isNone = true)) ∧ (x.st.phyFenced = false) ∧ (x.st.running = false) ∧ (x.attached = true) ∧ (x.phy.hrSending = false) ∧ (x.phy.hrAt = none))),
    (let s : State := at9 id id;
      let b : BerthId := 9;
      let d : Stamp := 6000;
      let x := s.berths[b];
      let s : State := { s with berths := s.berths.set (b) { s.berths[b] with tm.psHr := some d } };
      let s : State := { s with berths := s.berths.set (b) { s.berths[b] with path.state := .srcOn } };
      let x := s.berths[b];
      decide ((x.tm.psHr = some d) ∧ (x.path.state = .srcOn))),
    (let s : State := at9 id id;
      let b : BerthId := 9;
      let d : Stamp := 6000;
      let x := s.berths[b];
      let s : State := { s with berths := s.berths.set (b) { s.berths[b] with tm.srcRec := some d } };
      let x := s.berths[b];
      decide ((x.tm.srcRec = some d) ∧ (x.path.state ≠ .snkOn))),
    (let s : State := at9 id id;
      let b : BerthId := 9;
      let d : Stamp := 6000;
      let x := s.berths[b];
      let s : State := { s with berths := s.berths.set (b) { s.berths[b] with tm.snkHr := some d } };
      let s : State := { s with berths := s.berths.set (b) { s.berths[b] with cc.state := .attachedSnk } };
      let x := s.berths[b];
      decide ((x.tm.snkHr = some d) ∧ (x.cc.state = .attachedSnk))),
    (let s : State := at9 id id;
      let b : BerthId := 9;
      let x := s.berths[b];
      decide (((s.quays[State.quayOf b].up = true ∧ s.quays[State.quayOf b].hless = false)) ∧ (x.mon.parked = false))),
    (let s : State := at9 id id;
      let b : BerthId := 9;
      decide (((s.quays[State.quayOf b].up = true ∧ s.quays[State.quayOf b].hless = false)))),
    (let s : State := at9 id id;
      let b : BerthId := 9;
      let at_ : Stamp := 6000;
      let x := s.berths[b];
      let s : State := { s with berths := s.berths.set (b) { s.berths[b] with phy.crSending := true } };
      let s : State := { s with berths := s.berths.set (b) { s.berths[b] with pol.cur := none } };
      let x := s.berths[b];
      decide ((((s.berths[b].firstDue at_).isNone = true)) ∧ (x.phy.crSending = true) ∧ (x.pol.cur = none)))] id = true := by decide +kernel

/-- A state and operands that meet the premises of each clause of `Obligations.RegisterWritesClamped`. -/
theorem test_witness_RegisterWritesClamped : List.all [
    (let s : State := at9 id id;
      let b : BerthId := 9;
      let x := s.berths[b];
      decide (((s.quays[State.quayOf b].up = true ∧ s.quays[State.quayOf b].hless = false)) ∧ (x.mon.parked = false))),
    (let s : State := at9 id id;
      let b : BerthId := 9;
      decide (((s.quays[State.quayOf b].up = true ∧ s.quays[State.quayOf b].hless = false)))),
    (let s : State := at9 id id;
      let b : BerthId := 9;
      let x := s.berths[b];
      let s : State := { s with berths := s.berths.set (b) { s.berths[b] with mon.parked := true } };
      let x := s.berths[b];
      decide (((s.quays[State.quayOf b].up = true ∧ s.quays[State.quayOf b].hless = false)) ∧ (x.mon.parked = true)))] id = true := by decide +kernel

/-- A state and operands that meet the premises of each clause of `Obligations.WritesForTheBoundary`. -/
theorem test_witness_WritesForTheBoundary : List.all [
    (let s : State := at9 id id;
      let b : BerthId := 9;
      let x := s.berths[b];
      decide (((s.quays[State.quayOf b].up = true ∧ s.quays[State.quayOf b].hless = false)) ∧ (x.mon.parked = false))),
    (let s : State := at9 id id;
      let b : BerthId := 9;
      let x := s.berths[b];
      let s : State := { s with berths := s.berths.set (b) { s.berths[b] with mon.parked := false } };
      let s : State := { s with berths := s.berths.set (b) { s.berths[b] with mux.phase := .vcOn } };
      let x := s.berths[b];
      decide (((s.quays[State.quayOf b].up = true ∧ s.quays[State.quayOf b].hless = false)) ∧ (x.mon.parked = false) ∧ (x.mux.phase = .vcOn))),
    (let s : State := at9 id id;
      let b : BerthId := 9;
      let x := s.berths[b];
      decide (((s.quays[State.quayOf b].up = true ∧ s.quays[State.quayOf b].hless = false)) ∧ (x.mon.parked = false) ∧ (x.mux.phase ≠ .vcOn))),
    (let s : State := at9 id id;
      let b : BerthId := 9;
      decide (((s.quays[State.quayOf b].up = true ∧ s.quays[State.quayOf b].hless = false)))),
    (let s : State := at9 id id;
      let b : BerthId := 9;
      let x := s.berths[b];
      decide (((s.quays[State.quayOf b].up = true ∧ s.quays[State.quayOf b].hless = false)) ∧ (x.mon.parked = false) ∧ (x.mon.wanted = []))),
    (let s : State := at9 id id;
      let b : BerthId := 9;
      let c : Fin 10 := 1;
      let x := s.berths[b];
      decide (((s.quays[State.quayOf b].up = true ∧ s.quays[State.quayOf b].hless = false)) ∧ (x.mon.parked = false) ∧ (c ≠ 0) ∧ (c ≠ 4) ∧ (c ≠ 9))),
    (let table : Vector Word 32 := State.reset.quays[(1 : QuayId)].seq;
      decide ((seqOk table = true))),
    (let table : Vector Word 32 := Vector.replicate 32 0;
      decide ((seqOk table = false)))] id = true := by decide +kernel

/-- A state and operands that meet the premises of each clause of `Obligations.CommitChecked`. -/
theorem test_witness_CommitChecked : List.all [
    (let s : State := at9 id id;
      let b : BerthId := 9;
      let w : Writer := .tug;
      let x := s.berths[b];
      let plain := x.id.tug = none ∨ s.runsBp b = true;
      decide (((s.quays[State.quayOf b].up = true ∧ s.quays[State.quayOf b].hless = false)) ∧ (x.mon.parked = false) ∧ (plain) ∧ (w = .harbour → s.hasTug b = false))),
    (let v : Word := 0x300;
      decide ((fld v 8 2 = 3))),
    (let s : State := at9 id id;
      let b : BerthId := 9;
      let v : Word := 0;
      let x := s.berths[b];
      decide ((fld v 8 2 = 0) ∧ (x.id.tokenRx.current = false))),
    (let s : State := at9 id (fun x => { x with id.tokenTx.current := true, id.commitArg := 0xFFFFFFFF });
      let b : BerthId := 9;
      let v : Word := 0x100;
      let x := s.berths[b];
      decide ((fld v 8 2 = 1) ∧ (x.id.tokenTx.current = true) ∧ (x.id.tokenTx.matchesArg x.id.commitArg = false))),
    (let s : State := at9 id id;
      let b : BerthId := 9;
      let v : Word := 0x200;
      let x := s.berths[b];
      decide ((fld v 8 2 = 2) ∧ (x.id.grantTide = none))),
    (let s : State := at9 bound srcOn;
      let b : BerthId := 9;
      decide ((s.hasTug b = true)))] id = true := by decide +kernel

/-- A state and operands that meet the premises of each clause of `Obligations.BerthProgramTimers`. -/
theorem test_witness_BerthProgramTimers : List.all [
    (let s : State := at9 onBp srcOn;
      let b : BerthId := 9;
      let c : FifoCmd := { origin := { path := .tunnel, tag := 1 }, code := 0x0209, kind := .message 5 .sop 0 false false 0 0 [], due := 5000 };
      let x := s.berths[b];
      let bp := s.runsBp b;
      let hrMsg (z : FifoCmd) : Prop := z.kind = .message 5 .sop 0 false false 0 0 [];
      let s : State := { s with berths := s.berths.set (b) { s.berths[b] with pol.fifo := [c] } };
      let s : State := { s with berths := s.berths.set (b) { s.berths[b] with pol.cur := none } };
      let x := s.berths[b];
      let bp := s.runsBp b;
      let hrMsg (z : FifoCmd) : Prop := z.kind = .message 5 .sop 0 false false 0 0 [];
      decide ((bp = true) ∧ (x.pol.fifo.find? Berth.FifoCmd.isHardReset = some c) ∧ (hrMsg c) ∧ (x.pol.cur = none))),
    (let s : State := at9 onBp srcOn;
      let b : BerthId := 9;
      let c : FifoCmd := { origin := { path := .tunnel, tag := 1 }, code := 0x0209, kind := .message 5 .sop 0 false false 0 0 [], due := 5000 };
      let x := s.berths[b];
      let bp := s.runsBp b;
      let hrMsg (z : FifoCmd) : Prop := z.kind = .message 5 .sop 0 false false 0 0 [];
      let s : State := { s with berths := s.berths.set (b) { s.berths[b] with pol.fifo := [c] } };
      let s : State := { s with berths := s.berths.set (b) { s.berths[b] with phy.hrCount := 3 } };
      let x := s.berths[b];
      let bp := s.runsBp b;
      let hrMsg (z : FifoCmd) : Prop := z.kind = .message 5 .sop 0 false false 0 0 [];
      decide ((bp = true) ∧ (x.pol.fifo.find? Berth.FifoCmd.isHardReset = some c) ∧ (hrMsg c) ∧ (x.phy.hrCount = 3))),
    (let s : State := at9 onBp srcOn;
      let b : BerthId := 9;
      let c : FifoCmd := { origin := { path := .tunnel, tag := 1 }, code := 0x0208, kind := .swap 0 0, due := 5000 };
      let x := s.berths[b];
      let bp := s.runsBp b;
      let noReset : Prop := x.pol.fifo.any Berth.FifoCmd.isHardReset = false;
      let c : FifoCmd := { c with kind := .swap 3 0 };
      let s : State := { s with berths := s.berths.set (b) { s.berths[b] with pol.fifo := [c] } };
      let x := s.berths[b];
      let bp := s.runsBp b;
      let noReset : Prop := x.pol.fifo.any Berth.FifoCmd.isHardReset = false;
      decide ((bp = true) ∧ (noReset) ∧ (x.pol.fifo.head? = some c) ∧ (c.kind = .swap 3 0))),
    (let s : State := at9 onBp srcOn;
      let b : BerthId := 9;
      let c : FifoCmd := { origin := { path := .tunnel, tag := 1 }, code := 0x0208, kind := .swap 0 0, due := 5000 };
      let x := s.berths[b];
      let bp := s.runsBp b;
      let noReset : Prop := x.pol.fifo.any Berth.FifoCmd.isHardReset = false;
      let c : FifoCmd := { c with kind := .exitMode };
      let s : State := { s with berths := s.berths.set (b) { s.berths[b] with pol.cur := none } };
      let s : State := { s with berths := s.berths.set (b) { s.berths[b] with pol.fifo := [c] } };
      let s : State := { s with berths := s.berths.set (b) { s.berths[b] with id.amsActive := false } };
      let x := s.berths[b];
      let bp := s.runsBp b;
      let noReset : Prop := x.pol.fifo.any Berth.FifoCmd.isHardReset = false;
      decide ((bp = true) ∧ (noReset) ∧ (x.pol.cur = none) ∧ (x.pol.fifo.head? = some c) ∧ (c.kind = .exitMode) ∧ (x.id.amsActive = false) ∧ (x.id.hrActive = false → x.pol.modeNow = none))),
    (let s : State := at9 id id;
      let b : BerthId := 9;
      let c : FifoCmd := { origin := { path := .tunnel, tag := 1 }, code := 0x0208, kind := .swap 0 0, due := 5000 };
      let x := s.berths[b];
      let s : State := { s with berths := s.berths.set (b) { s.berths[b] with pol.fifo := [c] } };
      let x := s.berths[b];
      decide ((x.pol.fifo.head? = some c))),
    (let s : State := at9 id (fun x => { x with pol.windows := [{ id := 1, kind := .request, content := 5, ends := 5000 }] });
      let b : BerthId := 9;
      let k : BitVec 16 := 1;
      let x := s.berths[b];
      decide ((x.pol.windows.any (fun w => w.id = k) = true))),
    (let s : State := at9 id id;
      let b : BerthId := 9;
      let at_ : Stamp := 6000;
      decide ((((s.berths[b].firstDue at_).isNone = true)))),
    (let s : State := at9 id id;
      let b : BerthId := 9;
      let d : Stamp := 6000;
      let x := s.berths[b];
      let s : State := { s with berths := s.berths.set (b) { s.berths[b] with tm.reserve := some d } };
      let x := s.berths[b];
      decide ((x.tm.reserve = some d))),
    (let s : State := at9 (fun s => { s with tb := 20000000, tugs := s.tugs.set 3 { s.tugs[3] with slot := 0, mode := .running }, berths := s.berths.set 9 { s.berths[9] with id.tug := some 3 } }) (fun x => { x with cc.state := .attachedSrc, id.powerSource := true, id.amsActive := false, id.hrActive := false, id.grantRec := 8, pol.caps := [1], pol.capsAt := 0 });
      let b : BerthId := 9;
      let x := s.berths[b];
      let bp := s.runsBp b;
      decide ((bp = true) ∧ (x.id.grantRec.getLsbD 3 = true) ∧ (x.id.amsActive = false) ∧ (x.id.hrActive = false) ∧ (x.id.powerSource = true → x.cc.state = .attachedSrc) ∧ (x.pol.caps ≠ []) ∧ (x.pol.capsAt + ms 100 ≤ s.tb))),
    (let s : State := at9 onBp srcOn;
      let b : BerthId := 9;
      let d : Stamp := 6000;
      let x := s.berths[b];
      let bp := s.runsBp b;
      let s : State := { s with berths := s.berths.set (b) { s.berths[b] with tm.epr := some d } };
      let s : State := { s with berths := s.berths.set (b) { s.berths[b] with id.eprMode := true } };
      let s : State := { s with berths := s.berths.set (b) { s.berths[b] with id.powerSource := true } };
      let x := s.berths[b];
      let bp := s.runsBp b;
      decide ((bp = true) ∧ (x.tm.epr = some d) ∧ (x.id.eprMode = true) ∧ (x.id.powerSource = true))),
    (let s : State := at9 id srcOn;
      let b : BerthId := 9;
      let d : Stamp := 6000;
      let x := s.berths[b];
      let bp := s.runsBp b;
      let s : State := { s with berths := s.berths.set (b) { s.berths[b] with tm.epr := some d } };
      let s : State := { s with berths := s.berths.set (b) { s.berths[b] with id.eprMode := true } };
      let s : State := { s with berths := s.berths.set (b) { s.berths[b] with id.powerSource := true } };
      let x := s.berths[b];
      let bp := s.runsBp b;
      decide ((bp = false) ∧ (x.tm.epr = some d) ∧ (x.id.eprMode = true) ∧ (x.id.powerSource = true) ∧ (x.attached = true))),
    (let s : State := at9 onBp srcOn;
      let b : BerthId := 9;
      let d : Stamp := 6000;
      let x := s.berths[b];
      let bp := s.runsBp b;
      let s : State := { s with berths := s.berths.set (b) { s.berths[b] with tm.epr := some d } };
      let s : State := { s with berths := s.berths.set (b) { s.berths[b] with id.eprMode := true } };
      let s : State := { s with berths := s.berths.set (b) { s.berths[b] with id.powerSource := false } };
      let x := s.berths[b];
      let bp := s.runsBp b;
      decide ((bp = true) ∧ (x.tm.epr = some d) ∧ (x.id.eprMode = true) ∧ (x.id.powerSource = false))),
    (let s : State := at9 onBp srcOn;
      let b : BerthId := 9;
      let d : Stamp := 6000;
      let x := s.berths[b];
      let bp := s.runsBp b;
      let s : State := { s with berths := s.berths.set (b) { s.berths[b] with tm.grace := some d } };
      let s : State := { s with berths := s.berths.set (b) { s.berths[b] with pol.share := none } };
      let x := s.berths[b];
      let bp := s.runsBp b;
      decide ((bp = true) ∧ (x.tm.grace = some d) ∧ (x.pol.share = none))),
    (let s : State := at9 onBp srcOn;
      let b : BerthId := 9;
      let d : Stamp := 6000;
      let x := s.berths[b];
      let bp := s.runsBp b;
      let s : State := { s with berths := s.berths.set (b) { s.berths[b] with tm.hold := some d } };
      let s : State := { s with berths := s.berths.set (b) { s.berths[b] with pol.share := none } };
      let x := s.berths[b];
      let bp := s.runsBp b;
      decide ((bp = true) ∧ (x.tm.hold = some d) ∧ (x.pol.share = none))),
    (let s : State := at9 onBp (fun x => (fun x => { x with tm.hold := some 5000, pol.share := some 0, id.contract := some { volt := 500, curr := 300 } } : Berth → Berth) (srcOn x));
      let b : BerthId := 9;
      let d : Stamp := 6000;
      let x := s.berths[b];
      let bp := s.runsBp b;
      let s : State := { s with berths := s.berths.set (b) { s.berths[b] with tm.hold := some d } };
      let x := s.berths[b];
      let bp := s.runsBp b;
      decide ((bp = true) ∧ (x.tm.hold = some d) ∧ (x.pol.share.getD x.contractMax < x.contractMax))),
    (let s : State := at9 id id;
      let b : BerthId := 9;
      let bp := s.runsBp b;
      decide ((bp = false)))] id = true := by decide +kernel

/-- A state and operands that meet the premises of each clause of `Obligations.SwapsAndModes`. -/
theorem test_witness_SwapsAndModes : List.all [
    (let s : State := at9 id srcOn;
      let b : BerthId := 9;
      let d : Stamp := 6000;
      let x := s.berths[b];
      let s : State := { s with berths := s.berths.set (b) { s.berths[b] with tm.swap := some d } };
      let s : State := { s with berths := s.berths.set (b) { s.berths[b] with mux.phase := .prSrcWait } };
      let x := s.berths[b];
      decide ((x.tm.swap = some d) ∧ (x.mux.phase = .prSrcWait) ∧ (x.attached = true))),
    (let s : State := at9 id srcOn;
      let b : BerthId := 9;
      let d : Stamp := 6000;
      let x := s.berths[b];
      let s : State := { s with berths := s.berths.set (b) { s.berths[b] with tm.swap := some d } };
      let s : State := { s with berths := s.berths.set (b) { s.berths[b] with mux.phase := .prSnkWait } };
      let x := s.berths[b];
      decide ((x.tm.swap = some d) ∧ (x.mux.phase = .prSnkWait) ∧ (x.attached = true))),
    (let s : State := at9 id id;
      let b : BerthId := 9;
      let d : Stamp := 6000;
      let x := s.berths[b];
      let s : State := { s with berths := s.berths.set (b) { s.berths[b] with tm.swap := some d } };
      let s : State := { s with berths := s.berths.set (b) { s.berths[b] with mux.phase := .vcWait } };
      let x := s.berths[b];
      decide ((x.tm.swap = some d) ∧ (x.mux.phase = .vcWait))),
    (let s : State := at9 id id;
      let b : BerthId := 9;
      let x := s.berths[b];
      decide ((x.mux.phase = .idle))),
    (let s : State := at9 id id;
      let b : BerthId := 9;
      let at_ : Stamp := 6000;
      let x := s.berths[b];
      let s : State := { s with berths := s.berths.set (b) { s.berths[b] with mux.phase := .frsArmed } };
      let x := s.berths[b];
      decide ((((s.berths[b].firstDue at_).isNone = true)) ∧ (x.mux.phase = .frsArmed))),
    (let s : State := at9 id id;
      let b : BerthId := 9;
      let at_ : Stamp := 6000;
      let x := s.berths[b];
      let s : State := { s with berths := s.berths.set (b) { s.berths[b] with mux.phase := .frsDetected } };
      let s : State := { s with berths := s.berths.set (b) { s.berths[b] with mux.signalEnd := false } };
      let s : State := { s with berths := s.berths.set (b) { s.berths[b] with cc.state := .attachedSnk } };
      let x := s.berths[b];
      decide ((((s.berths[b].firstDue at_).isNone = true)) ∧ (x.mux.phase = .frsDetected) ∧ (x.mux.signalEnd = false) ∧ (x.cc.state = .attachedSnk))),
    (let s : State := at9 (fun s => { s with tugs := s.tugs.set 3 { s.tugs[3] with slot := 0, mode := .running }, tables := s.tables.set 1 { s.tables[1] with tbl := some { PolicyTable.builtin with mode := [{ svid := 1, mode := 1, action := 1, sbu := 0, mux := 0 }] } }, berths := s.berths.set 9 { s.berths[9] with id.tug := some 3, pol.table := 1 }, quays := s.quays.set 1 { s.quays[1] with vinOk := true } }) (fun x => { x with mux.phase := .frsDetected, mux.signalEnd := true, path.state := .off, mon.ch := x.mon.ch.set 0 { x.mon.ch[0] with loNow := true }, reg.cbLatch := false });
      let b : BerthId := 9;
      let at_ : Stamp := 6000;
      let vbr : Nat := 5000;
      let x := s.berths[b];
      let vin := s.quays[State.quayOf b].vinOk;
      decide ((((s.berths[b].firstDue at_).isNone = true)) ∧ (x.mux.phase = .frsDetected) ∧ (x.mux.signalEnd = true) ∧ (x.mon.ch[(0 : Fin 10)].loNow = true) ∧ (x.path.state = .off → x.reg.cbLatch = false) ∧ (vin = true) ∧ (4750 ≤ vbr) ∧ (vbr ≤ 5500))),
    (let s : State := at9 id (fun x => { x with mux.phase := .frsDetected, mux.signalEnd := true, path.state := .off, mon.ch := x.mon.ch.set 0 { x.mon.ch[0] with loNow := true }, reg.cbLatch := false });
      let b : BerthId := 9;
      let at_ : Stamp := 6000;
      let x := s.berths[b];
      let vin := s.quays[State.quayOf b].vinOk;
      decide ((((s.berths[b].firstDue at_).isNone = true)) ∧ (x.mux.phase = .frsDetected) ∧ (x.mux.signalEnd = true) ∧ (x.mon.ch[(0 : Fin 10)].loNow = true) ∧ (x.path.state = .off → vin = false))),
    (let s : State := at9 onBp srcOn;
      let b : BerthId := 9;
      let d : Stamp := 6000;
      let x := s.berths[b];
      let bp := s.runsBp b;
      let s : State := { s with berths := s.berths.set (b) { s.berths[b] with tm.swapStart := some d } };
      let x := s.berths[b];
      let bp := s.runsBp b;
      decide ((bp = true) ∧ (x.tm.swapStart = some d))),
    (let s : State := at9 onBp srcOn;
      let b : BerthId := 9;
      let d : Stamp := 100000000;
      let n : Nat := 100;
      let m : Nat := 600;
      let cu : FifoCmd := { origin := { path := .tunnel, tag := 1 }, code := 0x0209, kind := .message 5 .sop 0 false false 0 0 [], due := 5000 };
      let x := s.berths[b];
      let bp := s.runsBp b;
      let cu : FifoCmd := { cu with kind := .swap n m };
      let s : State := { s with berths := s.berths.set (b) { s.berths[b] with tm.swapRetry := some d } };
      let s : State := { s with berths := s.berths.set (b) { s.berths[b] with pol.cur := some cu } };
      let x := s.berths[b];
      let bp := s.runsBp b;
      decide ((bp = true) ∧ (x.tm.swapRetry = some d) ∧ (x.pol.cur = some cu) ∧ (cu.kind = .swap n m))),
    (let s : State := at9 onBp srcOn;
      let b : BerthId := 9;
      let d : Stamp := 6000;
      let x := s.berths[b];
      let bp := s.runsBp b;
      let s : State := { s with berths := s.berths.set (b) { s.berths[b] with tm.vdm := some d } };
      let s : State := { s with berths := s.berths.set (b) { s.berths[b] with pol.ask := some .host } };
      let s : State := { s with berths := s.berths.set (b) { s.berths[b] with pol.cur := none } };
      let s : State := { s with berths := s.berths.set (b) { s.berths[b] with id.amsActive := false } };
      let x := s.berths[b];
      let bp := s.runsBp b;
      decide ((bp = true) ∧ (x.tm.vdm = some d) ∧ (x.pol.ask = some .host) ∧ (x.pol.cur = none) ∧ (x.id.amsActive = false))),
    (let s : State := at9 onBp (fun x => (fun x => { x with tm.vdmBusy := some 5000, pol.vdmSent := some { sop := .sop, objs := [5] } } : Berth → Berth) (srcOn x));
      let b : BerthId := 9;
      let d : Stamp := 6000;
      let x := s.berths[b];
      let bp := s.runsBp b;
      let s : State := { s with berths := s.berths.set (b) { s.berths[b] with tm.vdmBusy := some d } };
      let x := s.berths[b];
      let bp := s.runsBp b;
      decide ((bp = true) ∧ (x.tm.vdmBusy = some d) ∧ (x.pol.vdmSent.isSome = true))),
    (let s : State := at9 (fun s => { s with tugs := s.tugs.set 3 { s.tugs[3] with slot := 0, mode := .running }, tables := s.tables.set 1 { s.tables[1] with tbl := some { PolicyTable.builtin with mode := [{ svid := 1, mode := 1, action := 1, sbu := 0, mux := 0 }] } }, berths := s.berths.set 9 { s.berths[9] with id.tug := some 3, pol.table := 1 }, quays := s.quays.set 1 { s.quays[1] with vinOk := true } }) (fun x => { x with id.contract := x.id.contract.or (some {}), id.amsActive := false, id.hrActive := false, pol.cableAsked := true, id.dataDfp := true, pol.discStep := 0, pol.discDue := true });
      let b : BerthId := 9;
      let x := s.berths[b];
      let bp := s.runsBp b;
      decide ((bp = true) ∧ (x.id.amsActive = false) ∧ (x.id.hrActive = false) ∧ (x.id.contract.isSome = true) ∧ (x.pol.cableAsked = true → x.id.dataDfp = true) ∧ ((s.policyOf b).mode ≠ []) ∧ (x.pol.discDue = true) ∧ (x.pol.discStep = 0))),
    (let s : State := at9 id id;
      let b : BerthId := 9;
      let bp := s.runsBp b;
      decide ((bp = false)))] id = true := by decide +kernel

/-- A state and operands that meet the premises of each clause of `Obligations.PathCloses`. -/
theorem test_witness_PathCloses : List.all [
    (let s : State := at9 id id;
      let b : BerthId := 9;
      let at_ : Stamp := 6000;
      let vbr : Nat := 0;
      let x := s.berths[b];
      let quay := s.quays[State.quayOf b];
      let s : State := { s with berths := s.berths.set (b) { s.berths[b] with path.state := .off } };
      let s : State := { s with berths := s.berths.set (b) { s.berths[b] with path.closeCase := some .attach } };
      let s : State := { s with berths := s.berths.set (b) { s.berths[b] with cc.state := .attachedSrc } };
      let s : State := { s with berths := s.berths.set (b) { s.berths[b] with reg.cbLatch := false } };
      let x := s.berths[b];
      let quay := s.quays[State.quayOf b];
      decide ((((s.berths[b].firstDue at_).isNone = true)) ∧ (x.path.state = .off) ∧ (x.path.closeCase = some .attach) ∧ (x.cc.state = .attachedSrc) ∧ (x.vbcAbove08 = false) ∧ (quay.vinOk = true → 4750 ≤ vbr) ∧ (vbr ≤ 5500) ∧ (x.reg.cbLatch = false))),
    (let s : State := at9 id id;
      let b : BerthId := 9;
      let at_ : Stamp := 6000;
      decide ((((s.berths[b].firstDue at_).isNone = true)))),
    (let s : State := at9 id id;
      let b : BerthId := 9;
      let at_ : Stamp := 6000;
      let x := s.berths[b];
      let s : State := { s with berths := s.berths.set (b) { s.berths[b] with path.state := .srcRamp } };
      let x := s.berths[b];
      decide ((((s.berths[b].firstDue at_).isNone = true)) ∧ (x.path.state = .srcRamp))),
    (let s : State := at9 id id;
      let b : BerthId := 9;
      let at_ : Stamp := 6000;
      let x := s.berths[b];
      decide ((((s.berths[b].firstDue at_).isNone = true)) ∧ (x.path.state ≠ .srcRamp))),
    (let s : State := at9 id id;
      let b : BerthId := 9;
      let d : Stamp := 6000;
      let x := s.berths[b];
      let s : State := { s with berths := s.berths.set (b) { s.berths[b] with mux.phase := .idle } };
      let s : State := { s with berths := s.berths.set (b) { s.berths[b] with tm.path := some d } };
      let s : State := { s with berths := s.berths.set (b) { s.berths[b] with path.state := .srcRamp } };
      let x := s.berths[b];
      decide ((x.mux.phase = .idle) ∧ (x.tm.path = some d) ∧ (x.path.state = .srcRamp))),
    (let s : State := at9 id id;
      let b : BerthId := 9;
      let at_ : Stamp := 6000;
      let x := s.berths[b];
      let s : State := { s with berths := s.berths.set (b) { s.berths[b] with path.state := .srcRamp } };
      let s : State := { s with berths := s.berths.set (b) { s.berths[b] with mux.phase := .idle } };
      let x := s.berths[b];
      decide ((((s.berths[b].firstDue at_).isNone = true)) ∧ (x.path.state = .srcRamp ∨ x.path.state = .srcOn) ∧ (x.mux.phase = .idle))),
    (let s : State := at9 id id;
      let b : BerthId := 9;
      let at_ : Stamp := 6000;
      let x := s.berths[b];
      decide ((((s.berths[b].firstDue at_).isNone = true)) ∧ (x.path.state ≠ .srcRamp) ∧ (x.path.state ≠ .srcOn))),
    (let s : State := at9 id id;
      let b : BerthId := 9;
      let at_ : Stamp := 6000;
      let x := s.berths[b];
      let s : State := { s with berths := s.berths.set (b) { s.berths[b] with path.brokeAt := some at_ } };
      let x := s.berths[b];
      decide ((((s.berths[b].firstDue at_).isNone = true)) ∧ (x.path.state ≠ .srcOn) ∧ (x.path.state ≠ .snkOn) ∧ (x.path.brokeAt = some at_))),
    (let s : State := at9 id id;
      let b : BerthId := 9;
      let at_ : Stamp := 6000;
      let segs : List LimSeg := [];
      let x := s.berths[b];
      let timer := (segs.foldl (Berth.faultSeg x.tflt) (x.path.flt, x.path.fltAt, none)).2.2;
      let s : State := { s with berths := s.berths.set (b) { s.berths[b] with path.state := .srcOn } };
      let x := s.berths[b];
      let timer := (segs.foldl (Berth.faultSeg x.tflt) (x.path.flt, x.path.fltAt, none)).2.2;
      decide ((((s.berths[b].firstDue at_).isNone = true)) ∧ (x.path.state = .srcOn ∨ x.path.state = .snkOn) ∧ (timer = none))),
    (let s : State := at9 id id;
      let b : BerthId := 9;
      let at_ : Stamp := 6000;
      let x := s.berths[b];
      let s : State := { s with berths := s.berths.set (b) { s.berths[b] with mux.phase := .idle } };
      let s : State := { s with berths := s.berths.set (b) { s.berths[b] with path.state := .srcOn } };
      let x := s.berths[b];
      decide ((((s.berths[b].firstDue at_).isNone = true)) ∧ (x.mux.phase = .idle) ∧ (x.path.state = .srcOn ∨ x.path.state = .snkOn))),
    (let s : State := at9 id id;
      let b : BerthId := 9;
      let at_ : Stamp := 6000;
      let x := s.berths[b];
      let s : State := { s with berths := s.berths.set (b) { s.berths[b] with path.state := .snkOn } };
      let x := s.berths[b];
      decide ((((s.berths[b].firstDue at_).isNone = true)) ∧ (x.path.state = .snkOn))),
    (let s : State := at9 id id;
      let b : BerthId := 9;
      let at_ : Stamp := 6000;
      let x := s.berths[b];
      let q : QuayId := State.quayOf b;
      let s : State := { s with berths := s.berths.set (b) { s.berths[b] with path.state := .srcRamp } };
      let x := s.berths[b];
      decide ((((s.berths[b].firstDue at_).isNone = true)) ∧ (q = State.quayOf b) ∧ (x.path.state = .srcRamp))),
    (let s : State := at9 id id;
      let b : BerthId := 9;
      let at_ : Stamp := 6000;
      let x := s.berths[b];
      let q : QuayId := State.quayOf b;
      let s : State := { s with berths := s.berths.set (b) { s.berths[b] with mux.phase := .idle } };
      let s : State := { s with berths := s.berths.set (b) { s.berths[b] with path.state := .srcOn } };
      let x := s.berths[b];
      decide ((((s.berths[b].firstDue at_).isNone = true)) ∧ (x.mux.phase = .idle) ∧ (q = State.quayOf b) ∧ (x.path.state = .srcOn)))] id = true := by decide +kernel

/-- A state and operands that meet the premises of each clause of `Obligations.PathTests`. -/
theorem test_witness_PathTests : List.all [
    (let s : State := at9 id id;
      let b : BerthId := 9;
      let at_ : Stamp := 6000;
      let x := s.berths[b];
      let s : State := { s with berths := s.berths.set (b) { s.berths[b] with path.state := .discharge } };
      let s : State := { s with berths := s.berths.set (b) { s.berths[b] with id.hrActive := false } };
      let x := s.berths[b];
      decide ((((s.berths[b].firstDue at_).isNone = true)) ∧ (x.path.state = .discharge) ∧ (x.id.hrActive = false))),
    (let s : State := at9 id id;
      let b : BerthId := 9;
      let at_ : Stamp := 6000;
      let x := s.berths[b];
      decide ((((s.berths[b].firstDue at_).isNone = true)) ∧ (x.path.state ≠ .discharge))),
    (let s : State := at9 id id;
      let b : BerthId := 9;
      let d : Stamp := 6000;
      let x := s.berths[b];
      let s : State := { s with berths := s.berths.set (b) { s.berths[b] with tm.path := some d } };
      let s : State := { s with berths := s.berths.set (b) { s.berths[b] with path.state := .discharge } };
      let x := s.berths[b];
      decide ((x.tm.path = some d) ∧ (x.path.state = .discharge))),
    (let s : State := at9 id id;
      let b : BerthId := 9;
      let at_ : Stamp := 6000;
      let x := s.berths[b];
      let host := s.testWanted 5 b.val 0 = true;
      let s : State := { s with berths := s.berths.set (b) { s.berths[b] with path.state := .test } };
      let s : State := { s with berths := s.berths.set (b) { s.berths[b] with path.testClear := false } };
      let s : State := { s with berths := s.berths.set (b) { s.berths[b] with path.testRel := false } };
      let x := s.berths[b];
      let host := s.testWanted 5 b.val 0 = true;
      decide ((((s.berths[b].firstDue at_).isNone = true)) ∧ (x.path.state = .test) ∧ (¬ host) ∧ (x.path.testClear = false) ∧ (x.path.testRel = false) ∧ (x.path.testBack = false → x.vbcAbove08 = false))),
    (let s : State := at9 id id;
      let b : BerthId := 9;
      let at_ : Stamp := 6000;
      let x := s.berths[b];
      let host := s.testWanted 5 b.val 0 = true;
      let s : State := { s with berths := s.berths.set (b) { s.berths[b] with path.state := .test } };
      let s : State := { s with berths := s.berths.set (b) { s.berths[b] with path.testClear := false } };
      let x := s.berths[b];
      let host := s.testWanted 5 b.val 0 = true;
      decide ((((s.berths[b].firstDue at_).isNone = true)) ∧ (x.path.state = .test) ∧ (¬ host) ∧ (x.path.testClear = false))),
    (let s : State := at9 id id;
      let b : BerthId := 9;
      let at_ : Stamp := 6000;
      let x := s.berths[b];
      let s : State := { s with berths := s.berths.set (b) { s.berths[b] with path.testBusy := true } };
      let s : State := { s with berths := s.berths.set (b) { s.berths[b] with path.testKind := 2 } };
      let s : State := { s with berths := s.berths.set (b) { s.berths[b] with path.state := .tripped } };
      let x := s.berths[b];
      decide ((((s.berths[b].firstDue at_).isNone = true)) ∧ (x.path.testBusy = true) ∧ (x.path.testKind = 2) ∧ (x.path.state = .tripped))),
    (let s : State := at9 id id;
      let b : BerthId := 9;
      let x := s.berths[b];
      decide ((x.path.testBusy = false))),
    (let s : State := at9 id id;
      let b : BerthId := 9;
      let x := s.berths[b];
      decide ((x.path.state ≠ .test))),
    (let g : GateReadings := { srcGate := 999, snkGate := 5, pumpOk := true, offset := 50 };
      decide ((g.srcGate < 1000) ∧ (g.snkGate < 1000) ∧ (g.pumpOk = true) ∧ (-50 ≤ g.offset) ∧ (g.offset ≤ 50))),
    (let r : PassReadings := { ready := true, srcGate := 900, snkGate := 500, vbc1 := 5000, vbr1 := 100, snks1 := 100, vbc2 := 900, vbr2 := 4400, snks2 := 100 };
      decide ((r.srcGate < 1000) ∧ (r.snkGate < 1000) ∧ (4180 ≤ r.vbr2) ∧ (r.vbr2 ≤ 4620) ∧ (r.vbr1 + 200 < r.vbc1)))] id = true := by decide +kernel

/-- A state and operands that meet the premises of each clause of `Obligations.RegulatorEvents`. -/
theorem test_witness_RegulatorEvents : List.all [
    (let s : State := at9 id id;
      let b : BerthId := 9;
      let at_ : Stamp := 6000;
      let x := s.berths[b];
      let s : State := { s with berths := s.berths.set (b) { s.berths[b] with reg.state := .softstart } };
      let x := s.berths[b];
      decide ((((s.berths[b].firstDue at_).isNone = true)) ∧ (x.reg.state = .softstart))),
    (let s : State := at9 id id;
      let b : BerthId := 9;
      let at_ : Stamp := 6000;
      let x := s.berths[b];
      let s : State := { s with berths := s.berths.set (b) { s.berths[b] with reg.state := .slew } };
      let x := s.berths[b];
      decide ((((s.berths[b].firstDue at_).isNone = true)) ∧ (x.reg.state = .slew))),
    (let s : State := at9 id id;
      let b : BerthId := 9;
      let at_ : Stamp := 6000;
      let x := s.berths[b];
      decide ((((s.berths[b].firstDue at_).isNone = true)) ∧ (x.reg.state ≠ .softstart))),
    (let s : State := at9 id id;
      let b : BerthId := 9;
      let at_ : Stamp := 6000;
      let x := s.berths[b];
      let s : State := { s with berths := s.berths.set (b) { s.berths[b] with reg.state := .softstart } };
      let x := s.berths[b];
      decide ((((s.berths[b].firstDue at_).isNone = true)) ∧ (x.reg.state = .softstart ∨ x.reg.state = .regulate ∨ x.reg.state = .slew))),
    (let s : State := at9 id id;
      let b : BerthId := 9;
      let at_ : Stamp := 6000;
      let x := s.berths[b];
      let s : State := { s with berths := s.berths.set (b) { s.berths[b] with reg.state := .hold } };
      let x := s.berths[b];
      decide ((((s.berths[b].firstDue at_).isNone = true)) ∧ (x.reg.state = .hold))),
    (let s : State := at9 id id;
      let b : BerthId := 9;
      let at_ : Stamp := 6000;
      let x := s.berths[b];
      let s : State := { s with berths := s.berths.set (b) { s.berths[b] with reg.state := .regulate } };
      let x := s.berths[b];
      decide ((((s.berths[b].firstDue at_).isNone = true)) ∧ (x.reg.state = .regulate) ∧ (x.hicExhausted = false))),
    (let s : State := at9 id (fun x => { x with reg.state := .regulate, mux.phase := .idle, reg.hicCount := 5, reg.prot := 0x51440, reg.satTides := 41, reg.thermal := false, pol.trans := none, pol.clear := none });
      let b : BerthId := 9;
      let at_ : Stamp := 6000;
      let x := s.berths[b];
      decide ((((s.berths[b].firstDue at_).isNone = true)) ∧ (x.mux.phase = .idle) ∧ (x.reg.state = .regulate) ∧ (x.hicExhausted = true))),
    (let s : State := at9 id id;
      let b : BerthId := 9;
      let d : Stamp := 6000;
      let x := s.berths[b];
      let s : State := { s with berths := s.berths.set (b) { s.berths[b] with tm.hic := some d } };
      let s : State := { s with berths := s.berths.set (b) { s.berths[b] with reg.state := .hiccup } };
      let x := s.berths[b];
      decide ((x.tm.hic = some d) ∧ (x.reg.state = .hiccup))),
    (let s : State := at9 id id;
      let b : BerthId := 9;
      let d : Stamp := 6000;
      let x := s.berths[b];
      let s : State := { s with berths := s.berths.set (b) { s.berths[b] with tm.hicClear := some d } };
      let x := s.berths[b];
      decide ((x.tm.hicClear = some d))),
    (let s : State := at9 id (fun x => { x with reg.state := .regulate, mux.phase := .idle, reg.hicCount := 5, reg.prot := 0x51440, reg.satTides := 41, reg.thermal := false, pol.trans := none, pol.clear := none });
      let b : BerthId := 9;
      let x := s.berths[b];
      decide ((40 ≤ x.reg.satTides))),
    (let s : State := at9 id id;
      let b : BerthId := 9;
      let d : Stamp := 6000;
      let x := s.berths[b];
      let s : State := { s with berths := s.berths.set (b) { s.berths[b] with tm.settle := some d } };
      let s : State := { s with berths := s.berths.set (b) { s.berths[b] with pol.trans := none } };
      let x := s.berths[b];
      decide ((x.tm.settle = some d) ∧ (x.pol.trans = none))),
    (let s : State := at9 id srcOn;
      let b : BerthId := 9;
      let at_ : Stamp := 6000;
      let x := s.berths[b];
      let still := x.reg.state = .idle ∨ x.reg.state = .crowbar ∨ x.reg.state = .latched;
      decide ((((s.berths[b].firstDue at_).isNone = true)) ∧ (x.mux.phase = .idle) ∧ (¬ still))),
    (let s : State := at9 id id;
      let b : BerthId := 9;
      let at_ : Stamp := 6000;
      let x := s.berths[b];
      let still := x.reg.state = .idle ∨ x.reg.state = .crowbar ∨ x.reg.state = .latched;
      decide ((((s.berths[b].firstDue at_).isNone = true)) ∧ (still))),
    (let s : State := at9 id id;
      let b : BerthId := 9;
      let d : Stamp := 6000;
      let vbr : Nat := 5000;
      let x := s.berths[b];
      let s : State := { s with berths := s.berths.set (b) { s.berths[b] with tm.cbCheck := some d } };
      let s : State := { s with berths := s.berths.set (b) { s.berths[b] with pol.clear := none } };
      let x := s.berths[b];
      decide ((x.tm.cbCheck = some d) ∧ (x.pol.clear = none) ∧ (x.path.state ≠ .locked) ∧ (4750 ≤ vbr) ∧ (vbr ≤ 5500))),
    (let s : State := at9 id id;
      let b : BerthId := 9;
      let x := s.berths[b];
      let s : State := { s with berths := s.berths.set (b) { s.berths[b] with reg.dropout := false } };
      let s : State := { s with berths := s.berths.set (b) { s.berths[b] with reg.state := .regulate } };
      let x := s.berths[b];
      decide ((x.reg.dropout = false) ∧ (x.reg.state = .regulate))),
    (let s : State := at9 id srcOn;
      let b : BerthId := 9;
      let at_ : Stamp := 6000;
      let x := s.berths[b];
      let still := x.reg.state = .idle ∨ x.reg.state = .crowbar ∨ x.reg.state = .latched;
      decide ((((s.berths[b].firstDue at_).isNone = true)) ∧ (x.mux.phase = .idle) ∧ (¬ still) ∧ (x.hicExhausted = false))),
    (let s : State := at9 id id;
      let b : BerthId := 9;
      let at_ : Stamp := 6000;
      let x := s.berths[b];
      let still := x.reg.state = .idle ∨ x.reg.state = .crowbar ∨ x.reg.state = .latched;
      decide ((((s.berths[b].firstDue at_).isNone = true)) ∧ (still) ∧ (x.path.brokeAt ≠ some at_))),
    (let s : State := at9 id (fun x => { x with reg.mode := .standby });
      let b : BerthId := 9;
      let at_ : Stamp := 6000;
      let x := s.berths[b];
      let s : State := { s with berths := s.berths.set (b) { s.berths[b] with reg.state := .stopped } };
      let s : State := { s with berths := s.berths.set (b) { s.berths[b] with reg.stop := some .stageFault } };
      let s : State := { s with berths := s.berths.set (b) { s.berths[b] with tm.hic := none } };
      let s : State := { s with berths := s.berths.set (b) { s.berths[b] with reg.thermal := false } };
      let s : State := { s with berths := s.berths.set (b) { s.berths[b] with reg.ov := false } };
      let x := s.berths[b];
      decide ((((s.berths[b].firstDue at_).isNone = true)) ∧ (x.reg.state = .stopped) ∧ (x.reg.stop = some .stageFault) ∧ (x.tm.hic = none) ∧ (x.reg.thermal = false) ∧ (x.reg.ov = false) ∧ (x.reg.mode ≠ .idle))),
    (let s : State := at9 id id;
      let b : BerthId := 9;
      let at_ : Stamp := 6000;
      let x := s.berths[b];
      let s : State := { s with berths := s.berths.set (b) { s.berths[b] with reg.state := .stopped } };
      let s : State := { s with berths := s.berths.set (b) { s.berths[b] with reg.stop := some .stageFault } };
      let s : State := { s with berths := s.berths.set (b) { s.berths[b] with tm.hic := none } };
      let x := s.berths[b];
      decide ((((s.berths[b].firstDue at_).isNone = true)) ∧ (x.reg.state = .stopped) ∧ (x.reg.stop = some .stageFault) ∧ (x.tm.hic = none))),
    (let s : State := at9 id srcOn;
      let b : BerthId := 9;
      let at_ : Stamp := 6000;
      let x := s.berths[b];
      let still := x.reg.state = .idle ∨ x.reg.state = .crowbar ∨ x.reg.state = .latched;
      decide ((((s.berths[b].firstDue at_).isNone = true)) ∧ (x.mux.phase = .idle) ∧ (x.reg.thermal = false) ∧ (¬ still))),
    (let s : State := at9 id id;
      let b : BerthId := 9;
      let at_ : Stamp := 6000;
      let x := s.berths[b];
      let s : State := { s with berths := s.berths.set (b) { s.berths[b] with reg.state := .stopped } };
      let s : State := { s with berths := s.berths.set (b) { s.berths[b] with reg.stop := some .thermal } };
      let s : State := { s with berths := s.berths.set (b) { s.berths[b] with reg.fltLow := false } };
      let s : State := { s with berths := s.berths.set (b) { s.berths[b] with reg.ov := false } };
      let x := s.berths[b];
      decide ((((s.berths[b].firstDue at_).isNone = true)) ∧ (x.reg.state = .stopped) ∧ (x.reg.stop = some .thermal) ∧ (x.reg.fltLow = false) ∧ (x.reg.ov = false)))] id = true := by decide +kernel

/-- A state and operands that meet the premises of each clause of `Obligations.MonitorEdges`. -/
theorem test_witness_MonitorEdges : List.all [
    (let s : State := at9 id id;
      let b : BerthId := 9;
      let n : Fin 10 := 1;
      let at_ : Stamp := 6000;
      let lvl : Bool := true;
      let a : CapArm := { origin := { path := .tunnel, tag := 1 }, trig := .fault, pre := 10, post := 20, at_ := 100, until_ := some 5000 };
      let x := s.berths[b];
      let c : Fin 27 := 2;
      let calm := s.tele[b].arm.any (fun (a' : CapArm) => decide (a'.trig = .edge c lvl)) = false;
      decide ((((s.berths[b].firstDue at_).isNone = true)) ∧ (calm) ∧ (x.blankedAt n true at_ = false) ∧ (c.val = 2 * n.val))),
    (let s : State := at9 id (fun x => { x with path.state := .srcRamp, mon.ch := x.mon.ch.set 0 { x.mon.ch[(0 : Fin 10)] with cfg := 0x40 } });
      let b : BerthId := 9;
      let c : Fin 27 := 1;
      let n : Fin 10 := 0;
      let at_ : Stamp := 6000;
      let lvl : Bool := true;
      let a : CapArm := { origin := { path := .tunnel, tag := 1 }, trig := .fault, pre := 10, post := 20, at_ := 100, until_ := some 5000 };
      let x := s.berths[b];
      let calm := s.tele[b].arm.any (fun (a' : CapArm) => decide (a'.trig = .edge c lvl)) = false;
      decide ((((s.berths[b].firstDue at_).isNone = true)) ∧ (calm) ∧ (c.val / 2 = n.val) ∧ (x.blankedAt n (decide (c.val % 2 = 0)) at_ = true))),
    (let s : State := at9 id id;
      let b : BerthId := 9;
      let c : Fin 27 := 1;
      let n : Fin 10 := 0;
      let at_ : Stamp := 6000;
      let lvl : Bool := true;
      let a : CapArm := { origin := { path := .tunnel, tag := 1 }, trig := .fault, pre := 10, post := 20, at_ := 100, until_ := some 5000 };
      let x := s.berths[b];
      decide ((((s.berths[b].firstDue at_).isNone = true)) ∧ (x.blankedAt n (decide (c.val % 2 = 0)) at_ = false) ∧ (c.val / 2 = n.val) ∧ (x.output c ≠ lvl) ∧ (s.tele[b].arm = some a → a.trig = .edge c lvl) ∧ (a.stamp = none) ∧ (a.at_ ≤ at_))),
    (let s : State := at9 id id;
      let b : BerthId := 9;
      let at_ : Stamp := 6000;
      let lvl : Bool := true;
      let a : CapArm := { origin := { path := .tunnel, tag := 1 }, trig := .fault, pre := 10, post := 20, at_ := 100, until_ := some 5000 };
      let x := s.berths[b];
      let c : Fin 27 := 21;
      let calm := s.tele[b].arm.any (fun (a' : CapArm) => decide (a'.trig = .edge c lvl)) = false;
      decide ((((s.berths[b].firstDue at_).isNone = true)) ∧ (calm) ∧ (c.val = 21) ∧ (x.cc.isolated = false ∨ x.cc.clearing = false ∨ lvl = false))),
    (let s : State := at9 id id;
      let b : BerthId := 9;
      let at_ : Stamp := 6000;
      let a : CapArm := { origin := { path := .tunnel, tag := 1 }, trig := .fault, pre := 10, post := 20, at_ := 100, until_ := some 5000 };
      let x := s.berths[b];
      let waits := x.cc.state = .unattachedSrc ∨ x.cc.state = .unattachedSnk ∨ x.cc.state = .attachWaitSrc ∨ x.cc.state = .attachWaitSnk;
      let c : Fin 27 := 24;
      let lvl : Bool := true;
      let calm := s.tele[b].arm.any (fun (a' : CapArm) => decide (a'.trig = .edge c lvl)) = false;
      decide ((((s.berths[b].firstDue at_).isNone = true)) ∧ (calm) ∧ (c.val = 24) ∧ (lvl = true) ∧ (waits))),
    (let s : State := at9 id id;
      let b : BerthId := 9;
      let at_ : Stamp := 6000;
      let a : CapArm := { origin := { path := .tunnel, tag := 1 }, trig := .fault, pre := 10, post := 20, at_ := 100, until_ := some 5000 };
      let x := s.berths[b];
      let c : Fin 27 := 24;
      let lvl : Bool := true;
      let calm := s.tele[b].arm.any (fun (a' : CapArm) => decide (a'.trig = .edge c lvl)) = false;
      let s : State := { s with berths := s.berths.set (b) { s.berths[b] with cc.state := .backFeed } };
      let x := s.berths[b];
      let calm := s.tele[b].arm.any (fun (a' : CapArm) => decide (a'.trig = .edge c lvl)) = false;
      decide ((((s.berths[b].firstDue at_).isNone = true)) ∧ (calm) ∧ (c.val = 24) ∧ (lvl = true) ∧ (x.cc.state = .backFeed))),
    (let s : State := at9 id id;
      let b : BerthId := 9;
      let at_ : Stamp := 6000;
      let a : CapArm := { origin := { path := .tunnel, tag := 1 }, trig := .fault, pre := 10, post := 20, at_ := 100, until_ := some 5000 };
      let x := s.berths[b];
      let c : Fin 27 := 24;
      let lvl : Bool := false;
      let calm := s.tele[b].arm.any (fun (a' : CapArm) => decide (a'.trig = .edge c lvl)) = false;
      let s : State := { s with berths := s.berths.set (b) { s.berths[b] with cc.release := true } };
      let s : State := { s with berths := s.berths.set (b) { s.berths[b] with cc.state := .backFeed } };
      let x := s.berths[b];
      let calm := s.tele[b].arm.any (fun (a' : CapArm) => decide (a'.trig = .edge c lvl)) = false;
      decide ((((s.berths[b].firstDue at_).isNone = true)) ∧ (calm) ∧ (c.val = 24) ∧ (lvl = false) ∧ (x.cc.release = true) ∧ (x.cc.state = .backFeed))),
    (let s : State := at9 id id;
      let b : BerthId := 9;
      let at_ : Stamp := 6000;
      let a : CapArm := { origin := { path := .tunnel, tag := 1 }, trig := .fault, pre := 10, post := 20, at_ := 100, until_ := some 5000 };
      let x := s.berths[b];
      let hl := s.quays[State.quayOf b].hless;
      let tryOff (k : Nat) : Prop := fld x.cc.cfg 0 2 ≠ 2 ∨ hl = true ∨ fld x.cc.cfg 2 2 ≠ k;
      let c : Fin 27 := 24;
      let lvl : Bool := false;
      let calm := s.tele[b].arm.any (fun (a' : CapArm) => decide (a'.trig = .edge c lvl)) = false;
      let s : State := { s with berths := s.berths.set (b) { s.berths[b] with cc.state := .attachWaitSrc } };
      let s : State := { s with berths := s.berths.set (b) { s.berths[b] with cc.debDone := true } };
      let x := s.berths[b];
      let hl := s.quays[State.quayOf b].hless;
      let tryOff (k : Nat) : Prop := fld x.cc.cfg 0 2 ≠ 2 ∨ hl = true ∨ fld x.cc.cfg 2 2 ≠ k;
      let calm := s.tele[b].arm.any (fun (a' : CapArm) => decide (a'.trig = .edge c lvl)) = false;
      decide ((((s.berths[b].firstDue at_).isNone = true)) ∧ (calm) ∧ (c.val = 24) ∧ (lvl = false) ∧ (x.cc.state = .attachWaitSrc) ∧ (x.cc.debDone = true) ∧ (tryOff 2))),
    (let s : State := at9 id id;
      let b : BerthId := 9;
      let at_ : Stamp := 6000;
      let a : CapArm := { origin := { path := .tunnel, tag := 1 }, trig := .fault, pre := 10, post := 20, at_ := 100, until_ := some 5000 };
      let x := s.berths[b];
      let c : Fin 27 := 25;
      let lvl : Bool := true;
      let calm := s.tele[b].arm.any (fun (a' : CapArm) => decide (a'.trig = .edge c lvl)) = false;
      let s : State := { s with berths := s.berths.set (b) { s.berths[b] with cc.state := .attachedSnk } };
      let s : State := { s with berths := s.berths.set (b) { s.berths[b] with id.hrActive := true } };
      let x := s.berths[b];
      let calm := s.tele[b].arm.any (fun (a' : CapArm) => decide (a'.trig = .edge c lvl)) = false;
      decide ((((s.berths[b].firstDue at_).isNone = true)) ∧ (calm) ∧ (c.val = 25) ∧ (lvl = true) ∧ (x.cc.state = .attachedSnk) ∧ (x.id.hrActive = true))),
    (let s : State := at9 id id;
      let b : BerthId := 9;
      let at_ : Stamp := 6000;
      let a : CapArm := { origin := { path := .tunnel, tag := 1 }, trig := .fault, pre := 10, post := 20, at_ := 100, until_ := some 5000 };
      let x := s.berths[b];
      let hl := s.quays[State.quayOf b].hless;
      let tryOff (k : Nat) : Prop := fld x.cc.cfg 0 2 ≠ 2 ∨ hl = true ∨ fld x.cc.cfg 2 2 ≠ k;
      let c : Fin 27 := 25;
      let lvl : Bool := true;
      let calm := s.tele[b].arm.any (fun (a' : CapArm) => decide (a'.trig = .edge c lvl)) = false;
      let s : State := { s with berths := s.berths.set (b) { s.berths[b] with cc.state := .attachWaitSnk } };
      let s : State := { s with berths := s.berths.set (b) { s.berths[b] with cc.debDone := true } };
      let x := s.berths[b];
      let hl := s.quays[State.quayOf b].hless;
      let tryOff (k : Nat) : Prop := fld x.cc.cfg 0 2 ≠ 2 ∨ hl = true ∨ fld x.cc.cfg 2 2 ≠ k;
      let calm := s.tele[b].arm.any (fun (a' : CapArm) => decide (a'.trig = .edge c lvl)) = false;
      decide ((((s.berths[b].firstDue at_).isNone = true)) ∧ (calm) ∧ (c.val = 25) ∧ (lvl = true) ∧ (x.cc.state = .attachWaitSnk) ∧ (x.cc.debDone = true) ∧ (tryOff 1))),
    (let s : State := at9 id id;
      let b : BerthId := 9;
      let at_ : Stamp := 6000;
      let a : CapArm := { origin := { path := .tunnel, tag := 1 }, trig := .fault, pre := 10, post := 20, at_ := 100, until_ := some 5000 };
      let c : Fin 27 := 25;
      let lvl : Bool := false;
      let calm := s.tele[b].arm.any (fun (a' : CapArm) => decide (a'.trig = .edge c lvl)) = false;
      decide ((((s.berths[b].firstDue at_).isNone = true)) ∧ (calm) ∧ (c.val = 25) ∧ (lvl = false))),
    (let s : State := at9 id id;
      let b : BerthId := 9;
      let c : Fin 27 := 26;
      let at_ : Stamp := 6000;
      let lvl : Bool := true;
      let a : CapArm := { origin := { path := .tunnel, tag := 1 }, trig := .fault, pre := 10, post := 20, at_ := 100, until_ := some 5000 };
      let calm := s.tele[b].arm.any (fun (a' : CapArm) => decide (a'.trig = .edge c lvl)) = false;
      decide ((((s.berths[b].firstDue at_).isNone = true)) ∧ (calm) ∧ (20 ≤ c.val) ∧ (c ≠ 21) ∧ (c ≠ 24) ∧ (c ≠ 25))),
    (let s : State := at9 id id;
      let b : BerthId := 9;
      let c : Fin 27 := 1;
      let at_ : Stamp := 6000;
      let lvl : Bool := false;
      let x := s.berths[b];
      decide ((((s.berths[b].firstDue at_).isNone = true)) ∧ (x.output c = lvl))),
    (let s : State := at9 id id;
      let b : BerthId := 9;
      let c : Fin 27 := 1;
      let n : Fin 10 := 0;
      let at_ : Stamp := 6000;
      let lvl : Bool := true;
      let a : CapArm := { origin := { path := .tunnel, tag := 1 }, trig := .fault, pre := 10, post := 20, at_ := 100, until_ := some 5000 };
      let x := s.berths[b];
      let calm := s.tele[b].arm.any (fun (a' : CapArm) => decide (a'.trig = .edge c lvl)) = false;
      decide ((((s.berths[b].firstDue at_).isNone = true)) ∧ (calm) ∧ (x.blankedAt n (decide (c.val % 2 = 0)) at_ = false) ∧ (x.output c ≠ lvl) ∧ (c.val / 2 = n.val))),
    (let s : State := at9 id id;
      let b : BerthId := 9;
      let c : Fin 27 := 25;
      let at_ : Stamp := 0;
      let sample : Nat := 600;
      let x := s.berths[b];
      decide ((((s.berths[b].firstDue at_).isNone = true)) ∧ (x.isUnexpected c sample = true))),
    (let s : State := at9 id id;
      let b : BerthId := 9;
      let c : Fin 27 := 1;
      let at_ : Stamp := 5100;
      let sample : Nat := 50;
      let x := s.berths[b];
      decide ((((s.berths[b].firstDue at_).isNone = true)) ∧ (x.isUnexpected c sample = false))),
    (let s : State := at9 id id;
      let b : BerthId := 9;
      let d : Stamp := 6000;
      let x := s.berths[b];
      let s : State := { s with berths := s.berths.set (b) { s.berths[b] with tm.gp0 := some d } };
      let x := s.berths[b];
      decide ((x.tm.gp0 = some d))),
    (let s : State := at9 id id;
      let b : BerthId := 9;
      let d : Stamp := 6000;
      let gp1 : Bool := true;
      let x := s.berths[b];
      let s : State := { s with berths := s.berths.set (b) { s.berths[b] with tm.gp1 := some d } };
      let x := s.berths[b];
      decide ((x.tm.gp1 = some d))),
    (let s : State := at9 id id;
      let b : BerthId := 9;
      let gp1 : Bool := true;
      let x := s.berths[b];
      decide (((if gp1 then x.tm.gp1 else x.tm.gp0) = none))),
    (let s : State := at9 id id;
      let q : QuayId := 1;
      decide ((s.quays[q].vconnVq5 = false))),
    (let s : State := at9 id id;
      let q : QuayId := 1;
      let s : State := { s with quays := s.quays.set (q) { s.quays[q] with vconnVq5 := true } };
      decide ((s.quays[q].vconnVq5 = true))),
    (let s : State := at9 id srcOn;
      (s.berths[(9 : BerthId)].firstDue 5000).isNone && !s.berths[(9 : BerthId)].blankedAt 0 false 5000 && !(s.tele[(9 : BerthId)].arm.any (fun (a : CapArm) => decide (a.trig = .edge 1 true))))] id = true := by decide +kernel

/-- A state and operands that meet the premises of each clause of `Obligations.ComparatorAudit`. -/
theorem test_witness_ComparatorAudit : List.all [
    (let s : State := at9 id id;
      let q : QuayId := 1;
      decide ((s.targetedTest q = none) ∧ (s.quays[q].paced = false))),
    (let s : State := at9 id id;
      let q : QuayId := 1;
      let audi : Nat := ((base.auditNext 1 187 0).map (·.1)).getD 0;
      let v : CompTest := ((base.auditNext 1 187 0).map (·.2)).getD { local_ := 1, wide := false, comp := 0, targeted := false, origin := 0 };
      let s : State := { s with quays := s.quays.set (q) { s.quays[q] with paced := true } };
      decide ((s.targetedTest q = none) ∧ (s.quays[q].paced = true) ∧ (s.auditNext q 187 s.quays[q].audit = some (audi, v)))),
    (let s : State := at9 id id;
      let q : QuayId := 1;
      let audi : Nat := ((base.auditNext 1 187 0).map (·.1)).getD 0;
      let v : CompTest := ((base.auditNext 1 187 0).map (·.2)).getD { local_ := 1, wide := false, comp := 0, targeted := false, origin := 0 };
      let v : CompTest := { v with wide := false };
      let s : State := { s with quays := s.quays.set (q) { s.quays[q] with paced := true } };
      decide ((s.targetedTest q = none) ∧ (s.quays[q].paced = true) ∧ (s.auditNext q 187 s.quays[q].audit = some (audi, v)) ∧ (v.wide = false))),
    (let s : State := at9 id id;
      let q : QuayId := 1;
      let v : CompTest := ((base.auditNext 1 187 0).map (·.2)).getD { local_ := 1, wide := false, comp := 0, targeted := false, origin := 0 };
      let inv : Bool := true;
      let near : Bool := true;
      let a20 : Bool := false;
      let a80 : Bool := true;
      let v : CompTest := { v with wide := false };
      let s : State := { s with quays := s.quays.set (q) { s.quays[q] with test := [v] } };
      decide ((s.quays[q].test = [v]) ∧ (v.wide = false) ∧ (Berth.testPass v.comp inv near a20 a80 = true))),
    (let s : State := at9 id id;
      let q : QuayId := 1;
      let v : CompTest := ((base.auditNext 1 187 0).map (·.2)).getD { local_ := 1, wide := false, comp := 0, targeted := false, origin := 0 };
      let inv : Bool := true;
      let near : Bool := true;
      let a20 : Bool := true;
      let a80 : Bool := true;
      let v : CompTest := { v with wide := false };
      let s : State := { s with quays := s.quays.set (q) { s.quays[q] with test := [v] } };
      decide ((s.quays[q].test = [v]) ∧ (v.wide = false) ∧ (Berth.testPass v.comp inv near a20 a80 = false))),
    (let s : State := at9 id id;
      let q : QuayId := 1;
      decide ((s.quays[q].test = []))),
    (let s : State := at9 id (fun x => { x with mon.parkEn := true, mon.idleTides := 400000, mon.parked := false, cc.state := .disabled, reg.state := .regulate, path.state := .off });
      let b : BerthId := 9;
      let x := s.berths[b];
      decide ((x.mayPark = true))),
    (let s : State := at9 id id;
      let b : BerthId := 9;
      let x := s.berths[b];
      decide ((x.mayPark = false))),
    (let s : State := at9 id id;
      let b : BerthId := 9;
      let at_ : Stamp := 6000;
      let x := s.berths[b];
      let s : State := { s with berths := s.berths.set (b) { s.berths[b] with mon.parked := true } };
      let x := s.berths[b];
      decide ((((s.berths[b].firstDue at_).isNone = true)) ∧ (x.mon.parked = true))),
    (let s : State := at9 id id;
      let b : BerthId := 9;
      let at_ : Stamp := 6000;
      let x := s.berths[b];
      decide ((((s.berths[b].firstDue at_).isNone = true)) ∧ (x.mon.parked = false)))] id = true := by decide +kernel

/-- A state and operands that meet the premises of each clause of `Obligations.TugService`. -/
theorem test_witness_TugService : List.all [
    (let s : State := at9 id id;
      let b : BerthId := 9;
      decide (((s.quays[State.quayOf b].up = true ∧ s.quays[State.quayOf b].hless = false)))),
    (let s : State := at9 id id;
      let t : TugId := 3;
      let k := s.tugs[t];
      let s : State := { s with tugs := s.tugs.set (t) { s.tugs[t] with mode := .running } };
      let k := s.tugs[t];
      decide ((k.mode = .running))),
    (let s : State := at9 id id;
      let t : TugId := 3;
      let k := s.tugs[t];
      decide ((k.mode ≠ .running))),
    (let s : State := at9 id id;
      let b : BerthId := 9;
      let t : TugId := 3;
      let k := s.tugs[t];
      let s : State := { s with tugs := s.tugs.set (t) { s.tugs[t] with mode := .moored } };
      let s : State := { s with tugs := s.tugs.set (t) { s.tugs[t] with sealed := false } };
      let s : State := { s with tugs := s.tugs.set (t) { s.tugs[t] with berth := some b } };
      let k := s.tugs[t];
      decide (((Memory.wf s.mem = true)) ∧ (k.mode = .moored ∨ k.mode = .suspended) ∧ (k.sealed = false) ∧ (k.berth = some b))),
    (let s : State := at9 id id;
      let t : TugId := 3;
      let k := s.tugs[t];
      decide ((k.sealed = true ∨ (k.mode ≠ .moored ∧ k.mode ≠ .suspended)))),
    (let s : State := at9 id id;
      let b : BerthId := 9;
      let t : TugId := 3;
      let why : Entry := .release;
      let k := s.tugs[t];
      let s : State := { s with tugs := s.tugs.set (t) { s.tugs[t] with entry := some (why, false) } };
      let s : State := { s with tugs := s.tugs.set (t) { s.tugs[t] with berth := some b } };
      let s : State := { s with tugs := s.tugs.set (t) { s.tugs[t] with mode := .empty } };
      let k := s.tugs[t];
      decide ((k.entry = some (why, false)) ∧ (k.berth = some b) ∧ (k.mode = .empty))),
    (let s : State := at9 id id;
      let t : TugId := 3;
      let k := s.tugs[t];
      decide ((k.entry = none ∨ k.berth = none ∨ k.mode ≠ .empty))),
    (let s : State := at9 bound id;
      let b : BerthId := 9;
      let t : TugId := 3;
      let slot : Nat := 2;
      let k := s.tugs[t];
      let s : State := { s with tugs := s.tugs.set (t) { s.tugs[t] with mode := .loaded } };
      let s : State := { s with tugs := s.tugs.set (t) { s.tugs[t] with cycle := 0 } };
      let s : State := { s with tugs := s.tugs.set (t) { s.tugs[t] with berth := some b } };
      let k := s.tugs[t];
      decide ((k.mode = .loaded) ∧ (k.cycle = 0) ∧ (k.berth = some b) ∧ (k.slot ≠ 0))),
    (let s : State := at9 id id;
      let b : BerthId := 9;
      let t : TugId := 3;
      let slot : Nat := 2;
      let k := s.tugs[t];
      let s : State := { s with tugs := s.tugs.set (t) { s.tugs[t] with mode := .loaded } };
      let s : State := { s with tugs := s.tugs.set (t) { s.tugs[t] with cycle := 0 } };
      let s : State := { s with tugs := s.tugs.set (t) { s.tugs[t] with berth := some b } };
      let s : State := { s with tugs := s.tugs.set (t) { s.tugs[t] with slot := 0 } };
      let k := s.tugs[t];
      decide (((Memory.wf s.mem = true)) ∧ (k.mode = .loaded) ∧ (k.cycle = 0) ∧ (k.berth = some b) ∧ (k.slot = 0))),
    (let s : State := at9 id id;
      let t : TugId := 3;
      let k := s.tugs[t];
      decide ((k.mode ≠ .loaded ∨ k.cycle ≠ 0 ∨ k.berth = none))),
    (let s : State := at9 id id;
      let b : BerthId := 9;
      let t : TugId := 3;
      let x := s.berths[b];
      let k := s.tugs[t];
      let s : State := { s with berths := s.berths.set (b) { s.berths[b] with id.tug := some t } };
      let s : State := { s with tugs := s.tugs.set (t) { s.tugs[t] with moorHeld := true } };
      let s : State := { s with tele := s.tele.set (b) { s.tele[b] with remap := none } };
      let x := s.berths[b];
      let k := s.tugs[t];
      decide ((x.id.tug = some t) ∧ (k.moorHeld = true) ∧ (s.tele[b].remap = none))),
    (let s : State := at9 id id;
      let b : BerthId := 9;
      let t : TugId := 3;
      let x := s.berths[b];
      let k := s.tugs[t];
      let s : State := { s with berths := s.berths.set (b) { s.berths[b] with id.tug := some t } };
      let s : State := { s with tugs := s.tugs.set (t) { s.tugs[t] with moorHeld := false } };
      let x := s.berths[b];
      let k := s.tugs[t];
      decide ((x.id.tug = some t) ∧ (k.moorHeld = false))),
    (let s : State := at9 id id;
      let b : BerthId := 9;
      let slot : Nat := 2;
      let until_ : Nat := 5000;
      let force : Bool := true;
      let o : Origin := { path := .tunnel, tag := 1 };
      let s : State := { s with tele := s.tele.set (b) { s.tele[b] with swap := some (slot, force, until_, o) } };
      decide ((s.tele[b].swap = some (slot, force, until_, o)) ∧ (s.ticks < until_))),
    (let s : State := at9 (fun s => { s with tugs := (s.tugs.map (fun t => { t with fenced := true })).set 3 { s.tugs[3] with mode := .moored, moorHeld := false }, ticks := 9000, tele := s.tele.set 9 { s.tele[9] with remap := some (none, 8000, none), swap := none } }) id;
      let b : BerthId := 9;
      let slot : Nat := 2;
      let until_ : Nat := 5000;
      let o : Origin := { path := .tunnel, tag := 1 };
      let s : State := { s with tele := s.tele.set (b) { s.tele[b] with swap := some (slot, false, until_, o) } };
      decide ((s.tele[b].swap = some (slot, false, until_, o)) ∧ (until_ ≤ s.ticks))),
    (let s : State := at9 (fun s => { s with tugs := (s.tugs.map (fun t => { t with fenced := true })).set 3 { s.tugs[3] with mode := .moored, moorHeld := false }, ticks := 9000, tele := s.tele.set 9 { s.tele[9] with remap := some (none, 8000, none), swap := none } }) id;
      let b : BerthId := 9;
      let t : TugId := 3;
      let slot : Nat := 2;
      let until_ : Nat := 5000;
      let o : Origin := { path := .tunnel, tag := 1 };
      let x := s.berths[b];
      let s : State := { s with tele := s.tele.set (b) { s.tele[b] with swap := some (slot, true, until_, o) } };
      let s : State := { s with berths := s.berths.set (b) { s.berths[b] with id.tug := some t } };
      let x := s.berths[b];
      decide ((s.tele[b].swap = some (slot, true, until_, o)) ∧ (until_ ≤ s.ticks) ∧ (x.id.tug = some t))),
    (let s : State := at9 id id;
      let b : BerthId := 9;
      decide ((s.tele[b].swap = none))),
    (let s : State := at9 id id;
      let b : BerthId := 9;
      let until_ : Nat := 5000;
      let want : Option TugId := none;
      let s : State := { s with tele := s.tele.set (b) { s.tele[b] with remap := some (want, until_, none) } };
      decide ((s.tele[b].remap = some (want, until_, none)) ∧ (s.ticks < until_))),
    (let s : State := at9 (fun s => { s with tugs := s.tugs.set 3 { s.tugs[3] with mode := .moored, moorHeld := true }, ticks := 9000, berths := s.berths.set 9 { s.berths[9] with id.tug := some 3, id.hrActive := false }, tele := s.tele.set 9 { s.tele[9] with remap := none, swap := some (2, s.tideCount % 2 = 0, 8000, { path := .tunnel, tag := 1 }) } }) id;
      let b : BerthId := 9;
      let t : TugId := 3;
      let n : TugId := 4;
      let until_ : Nat := 5000;
      let want : Option TugId := some 4;
      let x := s.berths[b];
      let s : State := { s with tele := s.tele.set (b) { s.tele[b] with remap := some (want, until_, none) } };
      let s : State := { s with berths := s.berths.set (b) { s.berths[b] with id.tug := some t } };
      let x := s.berths[b];
      decide ((s.tele[b].remap = some (want, until_, none)) ∧ (until_ ≤ s.ticks) ∧ (s.remapTarget want = some n) ∧ (x.id.tug = some t) ∧ (n ≠ t))),
    (let s : State := at9 (fun s => { s with tugs := (s.tugs.map (fun t => { t with fenced := true })).set 3 { s.tugs[3] with mode := .moored, moorHeld := false }, ticks := 9000, tele := s.tele.set 9 { s.tele[9] with remap := some (none, 8000, none), swap := none } }) id;
      let b : BerthId := 9;
      let until_ : Nat := 5000;
      let want : Option TugId := none;
      let s : State := { s with tele := s.tele.set (b) { s.tele[b] with remap := some (want, until_, none) } };
      decide ((s.tele[b].remap = some (want, until_, none)) ∧ (until_ ≤ s.ticks) ∧ (s.remapTarget want = none))),
    (let s : State := at9 id (fun x => { x with id.hrActive := true });
      !State.forceOk s.berths[(9 : BerthId)])] id = true := by decide +kernel

/-- A state and operands that meet the premises of each clause of `Obligations.TugOverruns`. -/
theorem test_witness_TugOverruns : List.all [
    (let s : State := at9 id id;
      let b : BerthId := 9;
      let t : TugId := 3;
      let n : TugId := 0;
      let x := s.berths[b];
      let k := s.tugs[t];
      let s : State := { s with tugs := s.tugs.set (t) { s.tugs[t] with mode := .suspended } };
      let s : State := { s with tugs := s.tugs.set (t) { s.tugs[t] with spill := 5 } };
      let s : State := { s with tugs := s.tugs.set (t) { s.tugs[t] with berth := some b } };
      let s : State := { s with berths := s.berths.set (b) { s.berths[b] with id.tug := some t } };
      let x := s.berths[b];
      let k := s.tugs[t];
      decide ((k.mode = .suspended) ∧ (k.spill = 5) ∧ (k.berth = some b) ∧ (x.id.tug = some t) ∧ (s.freeTug = some n))),
    (let s : State := at9 (fun s => { s with tugs := (s.tugs.map (fun t => { t with fenced := true })).set 3 { s.tugs[3] with mode := .suspended, spill := 5 }, berths := s.berths.set 9 { s.berths[9] with id.tug := some 3 } }) id;
      let b : BerthId := 9;
      let t : TugId := 3;
      let x := s.berths[b];
      let k := s.tugs[t];
      let s : State := { s with tugs := s.tugs.set (t) { s.tugs[t] with mode := .suspended } };
      let s : State := { s with tugs := s.tugs.set (t) { s.tugs[t] with spill := 5 } };
      let s : State := { s with tugs := s.tugs.set (t) { s.tugs[t] with berth := some b } };
      let s : State := { s with berths := s.berths.set (b) { s.berths[b] with id.tug := some t } };
      let x := s.berths[b];
      let k := s.tugs[t];
      decide ((k.mode = .suspended) ∧ (k.spill = 5) ∧ (k.berth = some b) ∧ (x.id.tug = some t) ∧ (s.freeTug = none))),
    (let s : State := at9 id id;
      let t : TugId := 3;
      let k := s.tugs[t];
      decide ((k.mode ≠ .suspended ∨ k.spill ≠ 5 ∨ k.berth = none))),
    (let s : State := at9 id id;
      let t : TugId := 3;
      let k := s.tugs[t];
      decide ((k.mode ≠ .testing))),
    (let s : State := at9 (fun s => { s with tests := [{ kind := 1, index := 3, sel := 0, origin := { path := .tunnel, tag := 1 }, code := 0x0901 }], tugs := s.tugs.set 3 { s.tugs[3] with mode := .testing, inPlace := false } }) id;
      let t : TugId := 3;
      let k := s.tugs[t];
      decide ((k.mode = .testing) ∧ (k.inPlace = false) ∧ (s.testWanted 1 t.val 0 = true))),
    (let s : State := at9 id id;
      let t : TugId := 3;
      let k := s.tugs[t];
      let s : State := { s with tugs := s.tugs.set (t) { s.tugs[t] with mode := .testing } };
      let k := s.tugs[t];
      decide ((k.mode = .testing)))] id = true := by decide +kernel

/-- A state and operands that meet the premises of each clause of `Obligations.TideAdvances`. -/
theorem test_witness_TideAdvances : List.all [
    (let s : State := at9 id id;
      let s : State := { s with ticking := false };
      decide ((s.ticking = false))),
    (let s : State := at9 (fun s => { s with roundDue := true, later := [], ticks := 50 }) id;
      let s : State := { s with ticking := true };
      let s : State := { s with epochDue := false };
      let s : State := { s with roundDue := false };
      let s : State := { s with epochWant := false };
      decide ((s.ticking = true) ∧ (s.ticks ≠ 0) ∧ (s.epochDue = false) ∧ (s.roundDue = false) ∧ (s.epochWant = false))),
    (let s : State := at9 id id;
      decide ((s.ticking = true) ∧ (s.ticks = 0))),
    (let s : State := at9 (fun s => { s with roundDue := true, later := [], ticks := 50 }) id;
      let s : State := { s with ticking := true };
      let s : State := { s with epochDue := true };
      decide ((s.ticking = true) ∧ (s.ticks ≠ 0) ∧ (s.epochDue = true))),
    (let s : State := at9 (fun s => { s with roundDue := true, later := [], ticks := 50 }) id;
      decide ((s.ticking = true) ∧ (s.ticks ≠ 0) ∧ (s.epochDue = false) ∧ (s.epochWant = false) ∧ (s.roundDue = true))),
    (let s : State := at9 (fun s => { s with roundDue := true, later := [], ticks := 50 }) id;
      let s : State := { s with ticking := true };
      let s : State := { s with epochWant := true };
      let s : State := { s with follower := false };
      let s : State := { s with roundPhase := 39 };
      let s : State := { s with later := [] };
      decide ((s.ticking = true) ∧ (s.ticks ≠ 0) ∧ (s.epochWant = true) ∧ (s.follower = false) ∧ (s.roundPhase = 39) ∧ (s.later = []))),
    (let s : State := at9 (fun s => { s with roundDue := true, later := [], ticks := 50 }) id;
      let b : BerthId := 9;
      let quiet := s.later = [] ∧ s.roundPhase < 39 ∧ s.ticks ≠ 0 ∧ s.epochDue = false ∧ s.roundDue = false;
      let alone := (List.finRange 52).all (fun (i : TugId) => decide (s.tugs[i].berth ≠ some b ∧ s.tugs[i].mode ≠ .halted)) = true;
      let s : State := { s with ticking := true };
      let s : State := { s with later := [] };
      let s : State := { s with epochDue := false };
      let s : State := { s with roundDue := false };
      let s : State := { s with quays := s.quays.set (State.quayOf b) { s.quays[State.quayOf b] with vinHeld := none } };
      let s : State := { s with quays := s.quays.set (State.quayOf b) { s.quays[State.quayOf b] with up := true } };
      let s : State := { s with quays := s.quays.set (State.quayOf b) { s.quays[State.quayOf b] with hless := false } };
      let quiet := s.later = [] ∧ s.roundPhase < 39 ∧ s.ticks ≠ 0 ∧ s.epochDue = false ∧ s.roundDue = false;
      let alone := (List.finRange 52).all (fun (i : TugId) => decide (s.tugs[i].berth ≠ some b ∧ s.tugs[i].mode ≠ .halted)) = true;
      decide ((s.ticking = true) ∧ (quiet) ∧ (alone) ∧ (s.quays[State.quayOf b].vinHeld = none) ∧ (s.quays[State.quayOf b].up = true) ∧ (s.quays[State.quayOf b].hless = false))),
    (let s : State := at9 (fun s => { s with roundDue := true, later := [], ticks := 50 }) id;
      let b : BerthId := 9;
      let quiet := s.later = [] ∧ s.roundPhase < 39 ∧ s.ticks ≠ 0 ∧ s.epochDue = false ∧ s.roundDue = false;
      let alone := (List.finRange 52).all (fun (i : TugId) => decide (s.tugs[i].berth ≠ some b ∧ s.tugs[i].mode ≠ .halted)) = true;
      let s : State := { s with ticking := true };
      let s : State := { s with later := [] };
      let s : State := { s with epochDue := false };
      let s : State := { s with roundDue := false };
      let s : State := { s with quays := s.quays.set (State.quayOf b) { s.quays[State.quayOf b] with up := false } };
      let quiet := s.later = [] ∧ s.roundPhase < 39 ∧ s.ticks ≠ 0 ∧ s.epochDue = false ∧ s.roundDue = false;
      let alone := (List.finRange 52).all (fun (i : TugId) => decide (s.tugs[i].berth ≠ some b ∧ s.tugs[i].mode ≠ .halted)) = true;
      decide ((s.ticking = true) ∧ (quiet) ∧ (alone) ∧ (s.quays[State.quayOf b].up = false))),
    (let s : State := at9 (fun s => { s with later := [], roundPhase := 7, epochDue := false, roundDue := false, ticks := 7, tugs := s.tugs.set 3 { s.tugs[3] with mode := .suspended, slot := 2, spill := 5 } }) id;
      let t : TugId := 3;
      let k := s.tugs[t];
      let quiet := s.later = [] ∧ s.roundPhase < 39 ∧ s.ticks ≠ 0 ∧ s.epochDue = false ∧ s.roundDue = false;
      let others := (List.finRange 52).all (fun (i : TugId) => decide (i ≠ t → s.tugs[i].mode ≠ .halted ∧ (s.tugs[i].berth.isNone ∨ s.tugs[i].berth ≠ k.berth))) = true;
      let s : State := { s with ticking := true };
      let s : State := { s with later := [] };
      let s : State := { s with epochDue := false };
      let s : State := { s with roundDue := false };
      let s : State := { s with tugs := s.tugs.set (t) { s.tugs[t] with mode := .moored } };
      let k := s.tugs[t];
      let quiet := s.later = [] ∧ s.roundPhase < 39 ∧ s.ticks ≠ 0 ∧ s.epochDue = false ∧ s.roundDue = false;
      let others := (List.finRange 52).all (fun (i : TugId) => decide (i ≠ t → s.tugs[i].mode ≠ .halted ∧ (s.tugs[i].berth.isNone ∨ s.tugs[i].berth ≠ k.berth))) = true;
      decide ((s.ticking = true) ∧ (quiet) ∧ (others) ∧ (k.slot ≠ 0) ∧ (k.mode = .moored ∨ (k.mode = .suspended ∧ k.spill ≠ 5)))),
    (let s : State := at9 (fun s => { s with roundDue := true, later := [], ticks := 50 }) id;
      let t : TugId := 3;
      let k := s.tugs[t];
      let quiet := s.later = [] ∧ s.roundPhase < 39 ∧ s.ticks ≠ 0 ∧ s.epochDue = false ∧ s.roundDue = false;
      let others := (List.finRange 52).all (fun (i : TugId) => decide (i ≠ t → s.tugs[i].mode ≠ .halted ∧ (s.tugs[i].berth.isNone ∨ s.tugs[i].berth ≠ k.berth))) = true;
      let s : State := { s with ticking := true };
      let s : State := { s with later := [] };
      let s : State := { s with epochDue := false };
      let s : State := { s with roundDue := false };
      let s : State := { s with tugs := s.tugs.set (t) { s.tugs[t] with mode := .suspended } };
      let s : State := { s with tugs := s.tugs.set (t) { s.tugs[t] with spill := 5 } };
      let k := s.tugs[t];
      let quiet := s.later = [] ∧ s.roundPhase < 39 ∧ s.ticks ≠ 0 ∧ s.epochDue = false ∧ s.roundDue = false;
      let others := (List.finRange 52).all (fun (i : TugId) => decide (i ≠ t → s.tugs[i].mode ≠ .halted ∧ (s.tugs[i].berth.isNone ∨ s.tugs[i].berth ≠ k.berth))) = true;
      decide ((s.ticking = true) ∧ (quiet) ∧ (others) ∧ (k.mode = .suspended) ∧ (k.spill = 5))),
    (let s : State := at9 (fun s => { s with later := [], roundPhase := 7, epochDue := false, roundDue := false, ticks := 7, tugs := s.tugs.set 3 { s.tugs[3] with mode := .suspended, slot := 2, spill := 5 } }) id;
      let b : BerthId := 9;
      let t : TugId := 3;
      let k := s.tugs[t];
      let quiet := s.later = [] ∧ s.roundPhase < 39 ∧ s.ticks ≠ 0 ∧ s.epochDue = false ∧ s.roundDue = false;
      let others := (List.finRange 52).all (fun (i : TugId) => decide (i ≠ t → s.tugs[i].mode ≠ .halted ∧ (s.tugs[i].berth.isNone ∨ s.tugs[i].berth ≠ k.berth))) = true;
      let s : State := { s with ticking := true };
      let s : State := { s with later := [] };
      let s : State := { s with epochDue := false };
      let s : State := { s with roundDue := false };
      let s : State := { s with tugs := s.tugs.set (t) { s.tugs[t] with mode := .moored } };
      let s : State := { s with tugs := s.tugs.set (t) { s.tugs[t] with berth := some b } };
      let s : State := { s with tugs := s.tugs.set (t) { s.tugs[t] with mflag := true } };
      let k := s.tugs[t];
      let quiet := s.later = [] ∧ s.roundPhase < 39 ∧ s.ticks ≠ 0 ∧ s.epochDue = false ∧ s.roundDue = false;
      let others := (List.finRange 52).all (fun (i : TugId) => decide (i ≠ t → s.tugs[i].mode ≠ .halted ∧ (s.tugs[i].berth.isNone ∨ s.tugs[i].berth ≠ k.berth))) = true;
      decide ((s.ticking = true) ∧ (quiet) ∧ (others) ∧ (k.mode = .moored) ∧ (k.slot ≠ 0) ∧ (k.berth = some b) ∧ (k.mflag = true)))] id = true := by decide +kernel

/-- A state and operands that meet the premises of each clause of `Obligations.RoundsAndGrants`. -/
theorem test_witness_RoundsAndGrants : List.all [
    (let s : State := at9 (fun s => { s with roundPhase := 5 }) id;
      decide ((s.roundPhase ≠ 0))),
    (let s : State := at9 id id;
      decide ((s.roundPhase = 0))),
    (let s : State := at9 id id;
      decide ((s.alloc.sampled = false ∨ s.roundPhase ≠ 0 ∨ s.alloc.tides = 0))),
    (let s : State := at9 (fun s => { s with roundPhase := 0, harbour := State.reset.harbour, alloc := { s.alloc with sampled := true, tides := 40 } }) id;
      decide ((s.alloc.sampled = true) ∧ (s.roundPhase = 0) ∧ (s.alloc.tides ≠ 0)))] id = true := by decide +kernel

/-- A state and operands that meet the premises of each clause of `Obligations.Gangways`. -/
theorem test_witness_Gangways : List.all [
    (let b : BerthId := 9;
      let q : QuayId := 1;
      decide ((State.quayOf b = q))),
    (let s : State := at9 id id;
      let q : QuayId := 1;
      let k := s.quays[q];
      decide ((k.up = true) ∧ (k.hless = false))),
    (let s : State := at9 id id;
      let q : QuayId := 1;
      let k := s.quays[q];
      let s : State := { s with quays := s.quays.set (q) { s.quays[q] with hless := true } };
      let k := s.quays[q];
      decide ((k.hless = true ∨ k.up = false))),
    (let s : State := at9 id id;
      let q : QuayId := 1;
      let k := s.quays[q];
      decide ((k.hless = true ∨ k.up = false ∨ k.missed < 5))),
    (let s : State := at9 (fun s => { s with quays := s.quays.set 1 { s.quays[1] with up := true, hless := false, missed := 5, gwResets := [], retrain := true, gwFenced := false } }) id;
      let q : QuayId := 1;
      let k := s.quays[q];
      decide ((k.hless = false) ∧ (k.up = true) ∧ (5 ≤ k.missed))),
    (let s : State := at9 id id;
      let q : QuayId := 1;
      let k := s.quays[q];
      let s : State := { s with quays := s.quays.set (q) { s.quays[q] with hless := true } };
      let s : State := { s with quays := s.quays.set (q) { s.quays[q] with gwFenced := false } };
      let s : State := { s with quays := s.quays.set (q) { s.quays[q] with trained := false } };
      let k := s.quays[q];
      decide ((k.hless = true) ∧ (k.gwFenced = false) ∧ (k.trained = false))),
    (let s : State := at9 id id;
      let q : QuayId := 1;
      let k := s.quays[q];
      let s : State := { s with quays := s.quays.set (q) { s.quays[q] with hless := true } };
      let s : State := { s with quays := s.quays.set (q) { s.quays[q] with gwFenced := false } };
      let s : State := { s with quays := s.quays.set (q) { s.quays[q] with trained := false } };
      let s : State := { s with quays := s.quays.set (q) { s.quays[q] with gwResets := [] } };
      let k := s.quays[q];
      decide ((k.hless = true) ∧ (k.gwFenced = false) ∧ (k.trained = false) ∧ (k.gwResets = []))),
    (let s : State := at9 id id;
      let q : QuayId := 1;
      let k := s.quays[q];
      let s : State := { s with quays := s.quays.set (q) { s.quays[q] with hless := true } };
      let s : State := { s with quays := s.quays.set (q) { s.quays[q] with gwFenced := false } };
      let s : State := { s with quays := s.quays.set (q) { s.quays[q] with trained := false } };
      let s : State := { s with quays := s.quays.set (q) { s.quays[q] with gwResets := List.replicate 8 s.now } };
      let k := s.quays[q];
      decide ((k.hless = true) ∧ (k.gwFenced = false) ∧ (k.trained = false) ∧ (k.gwResets = List.replicate 8 s.now))),
    (let s : State := at9 id id;
      let q : QuayId := 1;
      let k := s.quays[q];
      decide ((k.hless = false ∨ k.gwFenced = true ∨ k.trained = true))),
    (let s : State := at9 id id;
      let q : QuayId := 1;
      let k := s.quays[q];
      let s : State := { s with roundPhase := 0 };
      let s : State := { s with quays := s.quays.set (q) { s.quays[q] with hless := true } };
      let s : State := { s with quays := s.quays.set (q) { s.quays[q] with trained := true } };
      let s : State := { s with quays := s.quays.set (q) { s.quays[q] with gwFenced := false } };
      let s : State := { s with quays := s.quays.set (q) { s.quays[q] with laneTest := none } };
      let s : State := { s with quays := s.quays.set (q) { s.quays[q] with laneWant := [] } };
      let k := s.quays[q];
      decide ((k.hless = true) ∧ (k.trained = true) ∧ (k.gwFenced = false) ∧ (k.laneTest = none) ∧ (k.laneWant = []) ∧ (s.roundPhase = 0))),
    (let s : State := at9 id id;
      let q : QuayId := 1;
      let k := s.quays[q];
      decide ((k.hless = false ∨ k.trained = false ∨ k.gwFenced = true ∨ k.laneWant ≠ [] ∨ s.roundPhase ≠ 0))),
    (let s : State := at9 id id;
      let q : QuayId := 1;
      let k := s.quays[q];
      let s : State := { s with quays := s.quays.set (q) { s.quays[q] with retrain := true } };
      let s : State := { s with quays := s.quays.set (q) { s.quays[q] with hless := false } };
      let s : State := { s with quays := s.quays.set (q) { s.quays[q] with gwFenced := false } };
      let s : State := { s with quays := s.quays.set (q) { s.quays[q] with posted := [] } };
      let s : State := { s with quays := s.quays.set (q) { s.quays[q] with gwBy := none } };
      let k := s.quays[q];
      decide ((k.retrain = true) ∧ (k.hless = false) ∧ (k.gwFenced = false) ∧ (k.posted = []) ∧ (k.gwBy = none) ∧ (s.testWanted 2 q.val 0 = false))),
    (let s : State := at9 id id;
      let q : QuayId := 1;
      let k := s.quays[q];
      decide ((k.retrain = false ∨ k.hless = true ∨ k.gwFenced = true))),
    (let s : State := at9 id id;
      let q : QuayId := 1;
      let lane : Fin 4 := 0;
      let o : Nat := 0;
      let k := s.quays[q];
      let s : State := { s with quays := s.quays.set (q) { s.quays[q] with laneTest := none } };
      let s : State := { s with quays := s.quays.set (q) { s.quays[q] with laneWant := [(lane, o)] } };
      let k := s.quays[q];
      decide ((k.laneTest = none) ∧ (k.laneWant = [(lane, o)]))),
    (let s : State := at9 id id;
      let q : QuayId := 1;
      let k := s.quays[q];
      decide ((k.laneTest.isSome = true ∨ k.laneWant = []))),
    (let s : State := at9 id id;
      let q : QuayId := 1;
      let k := s.quays[q];
      decide ((k.laneTest = none))),
    (let s : State := at9 id id;
      let q : QuayId := 1;
      let lane : Fin 4 := 0;
      let o : Nat := 0;
      let k := s.quays[q];
      let s : State := { s with quays := s.quays.set (q) { s.quays[q] with laneTest := some (lane, o) } };
      let k := s.quays[q];
      decide ((k.laneTest = some (lane, o)))),
    (let s : State := at9 id id;
      let q : QuayId := 1;
      let lane : Fin 4 := 0;
      let k := s.quays[q];
      let s : State := { s with quays := s.quays.set (q) { s.quays[q] with laneTest := some (lane, 0) } };
      let k := s.quays[q];
      decide ((k.laneTest = some (lane, 0)))),
    (let s : State := at9 id id;
      decide ((s.follower = false))),
    (let s : State := at9 id id;
      let s : State := { s with follower := true };
      decide ((s.follower = true))),
    (let s : State := at9 id id;
      let v : Nat := 25000;
      let s : State := { s with follower := true };
      let s : State := { s with tideLocked := true };
      decide ((s.follower = true) ∧ (s.tideLocked = true) ∧ (24975 ≤ v) ∧ (v ≤ 25025))),
    (let s : State := at9 id id;
      let w : Nat := 200;
      let v : Nat := 0;
      let s : State := { s with follower := true };
      let s : State := { s with tideLocked := true };
      decide ((s.follower = true) ∧ (s.tideLocked = true) ∧ (100 ≤ w) ∧ (w ≤ 350) ∧ (v < 24975 ∨ 25025 < v))),
    (let s : State := at9 id id;
      let w : Nat := 600;
      let v : Nat := 25000;
      let s : State := { s with follower := true };
      let s : State := { s with tideLocked := false };
      decide ((s.follower = true) ∧ (450 ≤ w) ∧ (w ≤ 900) ∧ (s.tideLocked = false ∨ (24975 ≤ v ∧ v ≤ 25025)))),
    (let s : State := at9 id id;
      let w : Nat := 2000;
      let v : Nat := 25000;
      let s : State := { s with follower := true };
      let s : State := { s with tideLocked := false };
      decide ((s.follower = true) ∧ (1500 ≤ w) ∧ (w ≤ 3000) ∧ (s.tideLocked = false ∨ (24975 ≤ v ∧ v ≤ 25025)))),
    (let s : State := at9 id id;
      let w : Nat := 200;
      let s : State := { s with follower := true };
      let s : State := { s with tideLocked := false };
      decide ((s.follower = true) ∧ (s.tideLocked = false) ∧ (w ≤ 350))),
    (let w : Nat := 50;
      decide ((w < 100 ∨ (350 < w ∧ w < 450) ∨ (900 < w ∧ w < 1500) ∨ 3000 < w)))] id = true := by decide +kernel

/-- A state and operands that meet the premises of each clause of `Obligations.FutureTides`. -/
theorem test_witness_FutureTides : List.all [
    (let s : State := at9 id id;
      let o : Origin := { path := .tunnel, tag := 1 };
      let p : List Byte := List.replicate 8 0 ++ [9, 0, 0, 0, 0, 0, 0, 0];
      let set := s.takeCmd o 0x0103 p;
      decide ((set.2 = some p) ∧ (p.length = 16) ∧ (leAt p 14 2 = 0) ∧ (leAt p 8 6 ≠ 0))),
    (let s : State := at9 id id;
      let o : Origin := { path := .tunnel, tag := 1 };
      let p : List Byte := List.replicate 8 0 ++ [9, 0, 0, 0, 0, 0, 0, 0];
      let past (n : Nat) : Prop := ¬ (1 ≤ ((n : Int) - (s.tideCount : Int)) % 281474976710656 ∧ ((n : Int) - (s.tideCount : Int)) % 281474976710656 < 140737488355328);
      let set := s.takeCmd o 0x0103 p;
      decide ((set.2 = some p) ∧ (p.length = 16) ∧ (leAt p 14 2 = 0) ∧ (leAt p 8 6 ≠ 0) ∧ (¬ past (leAt p 8 6)))),
    (let s : State := at9 id id;
      let o : Origin := { path := .tunnel, tag := 1 };
      let p : List Byte := [9, 0, 0, 0, 0, 0, 0, 0];
      let snap := s.takeCmd o 0x0502 p;
      decide ((snap.2 = some p) ∧ (p.length = 8) ∧ (leAt p 6 2 = 0) ∧ (leAt p 0 6 ≠ 0) ∧ (s.snapOf (leAt p 0 6) = none))),
    (let s : State := at9 id id;
      let o : Origin := { path := .tunnel, tag := 1 };
      let p : List Byte := [9, 0, 0, 0, 0, 0, 0, 0];
      let past (n : Nat) : Prop := ¬ (1 ≤ ((n : Int) - (s.tideCount : Int)) % 281474976710656 ∧ ((n : Int) - (s.tideCount : Int)) % 281474976710656 < 140737488355328);
      let snap := s.takeCmd o 0x0502 p;
      decide ((snap.2 = some p) ∧ (p.length = 8) ∧ (leAt p 6 2 = 0) ∧ (leAt p 0 6 ≠ 0) ∧ (s.snapOf (leAt p 0 6) = none) ∧ (¬ past (leAt p 0 6))))] id = true := by decide +kernel

/-- A state and operands that meet the premises of each clause of `Obligations.LinkReceive`. -/
theorem test_witness_LinkReceive : List.all [
    (let s : State := at9 id id;
      let l : LinkId := .xla;
      let x := s.link l;
      decide ((x.state ≠ .up))),
    (let s : State := at9 (fun s => { s with links := s.links.map (fun x => { x with state := .up, rxCount := 5, sendCount := 9, unacked := [], errs := [], nakDue := false, polls := 0 }), tags := [] }) id;
      let l : LinkId := .xlb;
      let seq : BitVec 4 := 5;
      let tag : BitVec 12 := 3;
      let code : BitVec 16 := 257;
      let x := s.link l;
      let room := s.freeTags ≠ 0 ∧ s.tagUsed tag.toNat = false;
      decide ((x.state = .up) ∧ (seq.toNat = x.rxCount.toNat % 16) ∧ (room) ∧ (code.toNat ∈ commandCodes))),
    (let s : State := at9 (fun s => { s with links := s.links.map (fun x => { x with state := .up, rxCount := 5, sendCount := 9, unacked := [], errs := [], nakDue := false, polls := 0 }), tags := [] }) id;
      let l : LinkId := .xlb;
      let seq : BitVec 4 := 5;
      let tag : BitVec 12 := 33;
      let code : BitVec 16 := 33;
      let x := s.link l;
      let room := s.freeTags ≠ 0 ∧ s.tagUsed tag.toNat = false;
      decide ((x.state = .up) ∧ (seq.toNat = x.rxCount.toNat % 16) ∧ (room) ∧ (code.toNat ∉ commandCodes))),
    (let s : State := at9 (fun s => { s with links := s.links.map (fun x => { x with state := .up, rxCount := 5, sendCount := 9, errs := List.replicate 7 5990, nakDue := true, polls := 2, unacked := [{ count := 8, frame := { type := .evt, code := 3 }, event := some 77 }] }), events := [], tags := [{ origin := { path := .tunnel, tag := 1 }, code := 0x101, fence := false, order := 1, payload := none, at_ := 4, level := 2 }] }) id;
      let l : LinkId := .xla;
      let seq : BitVec 4 := 5;
      let tag : BitVec 12 := 1;
      let x := s.link l;
      decide ((x.state = .up) ∧ (seq.toNat = x.rxCount.toNat % 16) ∧ (s.freeTags ≠ 0) ∧ (s.tagUsed tag.toNat = true))),
    (let s : State := at9 (fun s => { s with links := s.links.map (fun x => { x with state := .up, rxCount := 5, sendCount := 9, unacked := [], errs := [], nakDue := false, polls := 0 }), tags := [] }) id;
      let l : LinkId := .xla;
      let seq : BitVec 4 := 0;
      let x := s.link l;
      decide ((x.state = .up) ∧ (seq.toNat ≠ x.rxCount.toNat % 16))),
    (let s : State := at9 (fun s => { s with links := s.links.map (fun x => { x with state := .up, rxCount := 5, sendCount := 9, unacked := [], errs := [], nakDue := false, polls := 0 }), tags := [] }) id;
      let l : LinkId := .xla;
      let what : Received := .violation;
      let x := s.link l;
      decide ((x.state = .up) ∧ (what.isError = true) ∧ (x.errs = []))),
    (let s : State := at9 (fun s => { s with links := s.links.map (fun x => { x with state := .up, rxCount := 5, sendCount := 9, errs := List.replicate 7 5990, nakDue := true, polls := 2, unacked := [{ count := 8, frame := { type := .evt, code := 3 }, event := some 77 }] }), events := [], tags := [{ origin := { path := .tunnel, tag := 1 }, code := 0x101, fence := false, order := 1, payload := none, at_ := 4, level := 2 }] }) id;
      let l : LinkId := .xla;
      let at_ : Stamp := 6000;
      let what : Received := .violation;
      let x := s.link l;
      decide ((x.state = .up) ∧ (what.isError = true) ∧ (7 ≤ (x.errs.filter (fun (t : Stamp) => decide (at_ < t + ms 1))).length))),
    (let s : State := at9 (fun s => { s with links := s.links.map (fun x => { x with state := .up, rxCount := 5, sendCount := 9, unacked := [], errs := [], nakDue := false, polls := 0 }), tags := [] }) id;
      let l : LinkId := .xla;
      let what : Received := .typed 2;
      let x := s.link l;
      decide ((x.state = .up) ∧ (what.isError = false) ∧ (what.isForeign = true))),
    (let s : State := at9 (fun s => { s with links := s.links.map (fun x => { x with state := .up, rxCount := 5, sendCount := 9, unacked := [], errs := [], nakDue := false, polls := 0 }), tags := [] }) id;
      let l : LinkId := .xla;
      let what : Received := .typed 5;
      let x := s.link l;
      decide ((x.state = .up) ∧ (what.isError = false) ∧ (what.isForeign = false))),
    (let s : State := at9 (fun s => { s with links := s.links.map (fun x => { x with state := .up, rxCount := 5, sendCount := 9, unacked := [], errs := [], nakDue := false, polls := 0 }), tags := [] }) id;
      let l : LinkId := .xla;
      let count : BitVec 16 := 8;
      let x := s.link l;
      decide ((x.state = .up) ∧ (x.acked count = none))),
    (let s : State := at9 (fun s => { s with links := s.links.map (fun x => { x with state := .up, rxCount := 5, sendCount := 9, polls := 0, unacked := [{ count := 8, frame := { type := .evt, code := 3 }, event := some 77 }] }), events := [] }) id;
      let l : LinkId := .xla;
      let count : BitVec 16 := 9;
      let x := s.link l;
      decide ((x.state = .up) ∧ (x.polls = 0) ∧ (x.unacked.length = 1) ∧ (x.unacked.all (fun (h : Held) => !h.frame.isRsp) = true) ∧ (x.acked count = some 1))),
    (let s : State := at9 (fun s => { s with links := s.links.map (fun x => { x with state := .up, rxCount := 5, sendCount := 9, unacked := [], errs := [], nakDue := false, polls := 0 }), tags := [] }) id;
      let l : LinkId := .xla;
      let count : BitVec 16 := 9;
      let x := s.link l;
      decide ((x.state = .up) ∧ (x.acked count = some 0))),
    (let s : State := at9 (fun s => { s with links := s.links.map (fun x => { x with state := .up, rxCount := 5, sendCount := 9, unacked := [], errs := [], nakDue := false, polls := 0 }), tags := [] }) id;
      let l : LinkId := .xla;
      let count : BitVec 16 := 9;
      let x := s.link l;
      decide ((x.state = .up) ∧ (x.polls = 0) ∧ (x.acked count = some 0))),
    (let s : State := at9 (fun s => { s with links := s.links.map (fun x => { x with state := .up, rxCount := 5, sendCount := 9, unacked := [], errs := [], nakDue := false, polls := 0 }), tags := [] }) id;
      let l : LinkId := .xla;
      let x := s.link l;
      decide ((x.state = .up))),
    (let s : State := at9 (fun s => { s with links := s.links.map (fun x => { x with state := .retrain, fresh := true, locked := false, ready := false }) }) id;
      let l : LinkId := .xla;
      let x := s.link l;
      decide ((x.state = .down ∨ x.state = .retrain) ∧ (x.locked = false) ∧ (x.fresh = true))),
    (let s : State := at9 (fun s => { s with links := s.links.map (fun x => { x with state := .down, fresh := true, locked := true, unacked := [], resetBy := none, queue := [] }) }) id;
      let l : LinkId := .xla;
      let x := s.link l;
      decide ((x.state = .down) ∧ (x.locked = true) ∧ (x.fresh = true) ∧ (x.resetBy = none))),
    (let s : State := at9 id id;
      let l : LinkId := .xla;
      let x := s.link l;
      decide ((x.state = .off))),
    (let s : State := at9 (fun s => { s with links := s.links.map (fun x => { x with state := .down, fresh := true, locked := true, unacked := [], resetBy := none, queue := [] }) }) id;
      let l : LinkId := .xla;
      let x := s.link l;
      decide ((x.state = .down ∨ x.state = .retrain) ∧ (x.ready = false)))] id = true := by decide +kernel

/-- A state and operands that meet the premises of each clause of `Obligations.LinkSend`. -/
theorem test_witness_LinkSend : List.all [
    (let s : State := at9 id id;
      let l : LinkId := .xla;
      let x := s.link l;
      decide ((x.state ≠ .up ∨ x.unacked = []))),
    (let s : State := at9 (fun s => { s with links := s.links.map (fun x => { x with state := .up, sendCount := 9, polls := 1, unacked := [{ count := 8, frame := { type := .evt, code := 3 }, event := some 77 }], queue := [{ origin := { path := .link .xla, tag := 9 }, code := 0x0101, payload := [1, 2] }] }) }) id;
      let l : LinkId := .xla;
      let x := s.link l;
      decide ((x.state = .up) ∧ (x.unacked ≠ []) ∧ (x.polls < 4))),
    (let s : State := at9 (fun s => { s with links := s.links.map (fun x => { x with state := .up, polls := 4, unacked := [{ count := 8, frame := { type := .evt, code := 3 }, event := some 77 }] }) }) id;
      let l : LinkId := .xla;
      let x := s.link l;
      decide ((x.state = .up) ∧ (x.unacked ≠ []) ∧ (4 ≤ x.polls))),
    (let s : State := at9 (fun s => { s with links := s.links.map (fun x => { x with state := .up, nakDue := true }), tags := List.replicate 3900 { origin := { path := .tunnel, tag := 1 }, code := 0x101, fence := false, order := 1, payload := none, at_ := 4, level := 2 } }) id;
      let l : LinkId := .xla;
      let x := s.link l;
      decide ((x.state = .up) ∧ (x.nakDue = true))),
    (let s : State := at9 id id;
      let l : LinkId := .xla;
      let x := s.link l;
      decide ((x.state ≠ .up ∨ x.nakDue = false))),
    (let s : State := at9 (fun s => { s with links := s.links.map (fun x => { x with state := .up, sendCount := 9, polls := 1, unacked := [{ count := 8, frame := { type := .evt, code := 3 }, event := some 77 }], queue := [{ origin := { path := .link .xla, tag := 9 }, code := 0x0101, payload := [1, 2] }] }) }) id;
      let l : LinkId := .xla;
      let x := s.link l;
      decide ((x.state = .up))),
    (let s : State := at9 id id;
      let l : LinkId := .xla;
      let x := s.link l;
      decide ((x.state ≠ .up))),
    (let s : State := at9 (fun s => { s with links := s.links.map (fun x => { x with state := .retrain, fails := 1 }), resetDue := none }) id;
      let l : LinkId := .xla;
      let x := s.link l;
      decide ((x.state = .retrain) ∧ (x.fails < 2))),
    (let s : State := at9 (fun s => { s with links := s.links.map (fun x => { x with state := .retrain, fails := 2 }), resetDue := some { path := .tunnel, tag := 2 } }) id;
      let l : LinkId := .xla;
      let x := s.link l;
      decide ((x.state = .retrain) ∧ (2 ≤ x.fails))),
    (let s : State := at9 id id;
      let l : LinkId := .xla;
      let x := s.link l;
      decide ((x.state ≠ .retrain))),
    (let s : State := at9 id id;
      decide ((256 ≤ s.freeTags))),
    (let s : State := at9 (fun s => { s with links := s.links.map (fun x => { x with state := .up, nakDue := true }), tags := List.replicate 3900 { origin := { path := .tunnel, tag := 1 }, code := 0x101, fence := false, order := 1, payload := none, at_ := 4, level := 2 } }) id;
      let l : LinkId := .xla;
      let x := s.link l;
      decide ((s.freeTags < 256) ∧ (x.state = .up))),
    (let s : State := at9 (fun s => { s with links := s.links.map (fun (x : Link) => { x with state := .up, queue := [{ origin := { path := .link .xla, tag := 7 }, code := 0x0101, payload := [1, 2] }] }) }) id;
      let l : LinkId := .xla;
      let r : Response := { origin := { path := .link .xla, tag := 7 }, code := 0x0101, payload := [1, 2] };
      let rest : List Response := [];
      let x := s.link l;
      decide ((x.state = .up) ∧ (x.queue = r :: rest) ∧ (x.unacked.length < 16))),
    (let s : State := at9 id id;
      let l : LinkId := .xla;
      let x := s.link l;
      decide ((x.queue = [] ∨ x.state = .retrain))),
    (let s : State := at9 (fun s => { s with links := s.links.map (fun x => { x with state := .up, sendCount := 9, polls := 1, unacked := [{ count := 8, frame := { type := .evt, code := 3 }, event := some 77 }], queue := [{ origin := { path := .link .xla, tag := 9 }, code := 0x0101, payload := [1, 2] }] }) }) id;
      let l : LinkId := .xla;
      let ev : EvEntry := { seq := 1, tide := 4, berth := 9, body := .mode 0 0 0 0 0 0 0 [] };
      let x := s.link l;
      let s : State := { s with retained.held := [] };
      let s : State := { s with retained.heldSlots := [] };
      let s : State := { s with events := [ev] };
      let ev : EvEntry := { ev with sent := none };
      let ev : EvEntry := { ev with berth := 9 };
      let s : State := { s with eventLink := l };
      let s : State := { s with tele := s.tele.set (9) { s.tele[9] with stale := false } };
      let x := s.link l;
      decide ((s.retained.held = []) ∧ (s.retained.heldSlots = []) ∧ (s.events = [ev]) ∧ (ev.sent = none) ∧ (ev.berth = 9) ∧ (s.tele[9].stale = false) ∧ (s.eventLink = l) ∧ (x.state = .up) ∧ ((s.link (otherLink l)).unacked = [] → x.unacked = []) ∧ (laterSeq ev.seq ((s.ackSeq + s.evWindow) % 2 ^ 32) = false))),
    (let s : State := at9 id id;
      decide ((s.retained.held = []) ∧ (s.retained.heldSlots = []) ∧ (s.events = []))),
    (let s : State := at9 id id;
      decide ((s.resetDue = none))),
    (let s : State := at9 id id;
      let o : Origin := { path := .tunnel, tag := 1 };
      let s : State := { s with resetDue := some o };
      decide ((s.resetDue = some o)))] id = true := by decide +kernel

/-- A state and operands that meet the premises of each clause of `Obligations.DeviceCommands`. -/
theorem test_witness_DeviceCommands : List.all [
    (let s : State := at9 id id;
      let o : Origin := { path := .tunnel, tag := 1 };
      let p : List Byte := [];
      decide ((s.starts o 0x0101 p = true) ∧ (p = []))),
    (let s : State := at9 id id;
      let o : Origin := { path := .tunnel, tag := 1 };
      let p : List Byte := [];
      decide ((s.starts o 0x0102 p = true) ∧ (p = []))),
    (let s : State := at9 id id;
      let o : Origin := { path := .tunnel, tag := 1 };
      let p : List Byte := [0, 0, 0x53, 0x52];
      decide ((s.starts o 0x0104 p = true) ∧ (p = [0, 0, 0x53, 0x52]))),
    (let s : State := at9 id id;
      let o : Origin := { path := .tunnel, tag := 1 };
      let q : QuayId := 1;
      let p : List Byte := [1, BitVec.ofNat 8 q.val, 0x53, 0x52];
      decide ((s.starts o 0x0104 p = true) ∧ (p = [1, BitVec.ofNat 8 q.val, 0x53, 0x52]) ∧ (q.val < s.quaysOn) ∧ (s.quays[q].fenced = false))),
    (let s : State := at9 id id;
      let o : Origin := { path := .tunnel, tag := 1 };
      let q : QuayId := 1;
      let p : List Byte := [2, BitVec.ofNat 8 q.val, 0x53, 0x52];
      decide ((s.starts o 0x0104 p = true) ∧ (p = [2, BitVec.ofNat 8 q.val, 0x53, 0x52]) ∧ (q.val < s.quaysOn) ∧ (s.quays[q].fenced = false) ∧ (s.quays[q].gwFenced = false) ∧ (s.quays[q].released = true → s.quays[q].gwBy = none))),
    (let s : State := at9 (fun s => { s with pilot.level := 2, links := s.links.map (fun x => { x with state := .up, resetBy := none }), lastSent := 3 }) id;
      let o : Origin := { path := .tunnel, tag := 1 };
      let p : List Byte := [3, 1, 0x53, 0x52];
      decide ((s.starts o 0x0104 p = true) ∧ (p = [3, 1, 0x53, 0x52]) ∧ (o.path ≠ .link .xlb) ∧ ((s.link .xlb).state ≠ .off) ∧ ((s.link .xlb).resetBy = none))),
    (let s : State := at9 id id;
      let o : Origin := { path := .tunnel, tag := 1 };
      let p : List Byte := [0, 1, 0, 0, 1, 0, 4, 0, 1, 0, 0, 0];
      decide ((s.starts o 0x0105 p = true) ∧ (p = [0, 1, 0, 0, 1, 0, 4, 0, 1, 0, 0, 0]))),
    (let s : State := at9 id id;
      let o : Origin := { path := .tunnel, tag := 1 };
      let p : List Byte := [0, 0, 0, 0];
      decide ((s.starts o 0x0A01 p = true) ∧ (p = [0, 0, 0, 0]))),
    (let s : State := at9 (fun s => { s with pilot.level := 2, links := s.links.map (fun x => { x with state := .up, resetBy := none }), lastSent := 3 }) id;
      let o : Origin := { path := .tunnel, tag := 1 };
      let p : List Byte := [3, 1, 0, 0];
      decide ((s.starts o 0x0A01 p = true) ∧ (p = [3, 1, 0, 0]) ∧ (s.isUp .xla = true) ∧ (s.isUp .xlb = true))),
    (let s : State := at9 (fun s => { s with pilot.level := 2, links := s.links.map (fun x => { x with state := .up, resetBy := none }), lastSent := 3 }) id;
      let o : Origin := { path := .tunnel, tag := 1 };
      let p : List Byte := [1, 0, 0, 0];
      let o : Origin := { o with path := .link .xla };
      decide ((s.starts o 0x0A01 p = true) ∧ (p = [1, 0, 0, 0]) ∧ (s.isUp .xla = true) ∧ (s.isUp .xlb = true) ∧ (o.path = .link .xla))),
    (let s : State := at9 id id;
      let o : Origin := { path := .tunnel, tag := 1 };
      let p : List Byte := [];
      decide ((s.starts o 0x0A02 p = true) ∧ (p = []))),
    (let s : State := at9 (fun s => { s with pilot.level := 2, lastSent := 3, ackSeq := 2 }) id;
      let o : Origin := { path := .link .xla, tag := 7 };
      s.starts o 0x0A03 (leBytes 4 5 ++ [40, 0, 0, 0]) && laterSeq 5 s.lastSent),
    (let s : State := at9 (fun s => { s with pilot.level := 2, lastSent := 3, ackSeq := 2 }) id;
      let o : Origin := { path := .link .xla, tag := 7 };
      s.starts o 0x0A03 (leBytes 4 3 ++ [40, 0, 0, 0]) && !laterSeq 3 s.lastSent && laterSeq 3 s.ackSeq)] id = true := by decide +kernel

/-- A state and operands that meet the premises of each clause of `Obligations.BerthCommands`. -/
theorem test_witness_BerthCommands : List.all [
    (let s : State := at9 id id;
      let b : BerthId := 9;
      let o : Origin := { path := .link .xla, tag := 7 };
      let id : Nat := 100;
      let v : Nat := 10000;
      let x := s.berths[b];
      let usable := b.val < s.berthsOn ∧ s.isFenced b = false ∧ s.isReleased b = true ∧ s.jobs = [];
      let one := leBytes 8 (2 ^ b.val);
      let p : List Byte := one ++ [1, 0, 0, 0] ++ leBytes 2 id ++ leBytes 2 4 ++ leBytes 4 v;
      decide ((s.starts o 0x0201 p = true) ∧ (usable) ∧ (x.mon.parked = false) ∧ (p = one ++ [1, 0, 0, 0] ++ leBytes 2 id ++ leBytes 2 4 ++ leBytes 4 v) ∧ (id < 0x12 → Berth.itemFits (id, leBytes 4 v) = true) ∧ (Berth.itemMask id = 0))),
    (let s : State := at9 id id;
      let b : BerthId := 9;
      let o : Origin := { path := .tunnel, tag := 1 };
      let x := s.berths[b];
      let usable := b.val < s.berthsOn ∧ s.isFenced b = false ∧ s.isReleased b = true ∧ s.jobs = [];
      let one := leBytes 8 (2 ^ b.val);
      let p : List Byte := one;
      let s : State := { s with jobs := [] };
      let s : State := { s with tele := s.tele.set (b) { s.tele[b] with held := false } };
      let s : State := { s with berths := s.berths.set (b) { s.berths[b] with enabled := false } };
      let x := s.berths[b];
      let usable := b.val < s.berthsOn ∧ s.isFenced b = false ∧ s.isReleased b = true ∧ s.jobs = [];
      let one := leBytes 8 (2 ^ b.val);
      decide ((s.starts o 0x0202 p = true) ∧ (usable) ∧ (p = one) ∧ (s.tele[b].held = false) ∧ (x.enabled = false) ∧ (x.cc.state ≠ .held) ∧ (x.cc.state ≠ .lockedOut → (s.begun o 0x0202 p).enableFits (BitVec.ofNat 48 (2 ^ b.val)) = true))),
    (let s : State := at9 id id;
      let b : BerthId := 9;
      let o : Origin := { path := .tunnel, tag := 1 };
      let x := s.berths[b];
      let usable := b.val < s.berthsOn ∧ s.isFenced b = false ∧ s.isReleased b = true ∧ s.jobs = [];
      let one := leBytes 8 (2 ^ b.val);
      let p : List Byte := one;
      decide ((s.starts o 0x0203 p = true) ∧ (usable) ∧ (p = one) ∧ (s.tele[b].held = false) ∧ (x.enabled = true) ∧ (x.cc.state ≠ .lockedOut))),
    (let s : State := at9 id id;
      let b : BerthId := 9;
      let o : Origin := { path := .tunnel, tag := 1 };
      let x := s.berths[b];
      let usable := b.val < s.berthsOn ∧ s.isFenced b = false ∧ s.isReleased b = true ∧ s.jobs = [];
      let one := leBytes 8 (2 ^ b.val);
      let p : List Byte := one;
      let s : State := { s with jobs := [] };
      let s : State := { s with berths := s.berths.set (b) { s.berths[b] with cc.state := .lockedOut } };
      let x := s.berths[b];
      let usable := b.val < s.berthsOn ∧ s.isFenced b = false ∧ s.isReleased b = true ∧ s.jobs = [];
      let one := leBytes 8 (2 ^ b.val);
      decide ((s.starts o 0x0203 p = true) ∧ (usable) ∧ (p = one) ∧ (x.cc.state = .lockedOut))),
    (let s : State := at9 id id;
      let b : BerthId := 9;
      let o : Origin := { path := .tunnel, tag := 1 };
      let usable := b.val < s.berthsOn ∧ s.isFenced b = false ∧ s.isReleased b = true ∧ s.jobs = [];
      let one := leBytes 8 (2 ^ b.val);
      let p : List Byte := one;
      decide ((s.starts o 0x0204 p = true) ∧ (usable) ∧ (p = one) ∧ (s.tele[b].held = false))),
    (let s : State := at9 id id;
      let b : BerthId := 9;
      let o : Origin := { path := .tunnel, tag := 1 };
      let p : List Byte := [BitVec.ofNat 8 b.val, 0, 0, 0];
      decide ((s.starts o 0x0205 p = true) ∧ (b.val < s.berthsOn) ∧ (p = [BitVec.ofNat 8 b.val, 0, 0, 0]))),
    (let s : State := at9 id id;
      let b : BerthId := 9;
      let o : Origin := { path := .tunnel, tag := 1 };
      let x := s.berths[b];
      let usable := b.val < s.berthsOn ∧ s.isFenced b = false ∧ s.isReleased b = true ∧ s.jobs = [];
      let one := leBytes 8 (2 ^ b.val);
      let p : List Byte := one ++ [2, 0, 0, 0];
      let s : State := { s with jobs := [] };
      let s : State := { s with berths := s.berths.set (b) { s.berths[b] with reg.state := .latched } };
      let s : State := { s with berths := s.berths.set (b) { s.berths[b] with pol.clear := none } };
      let x := s.berths[b];
      let usable := b.val < s.berthsOn ∧ s.isFenced b = false ∧ s.isReleased b = true ∧ s.jobs = [];
      let one := leBytes 8 (2 ^ b.val);
      decide ((s.starts o 0x0206 p = true) ∧ (usable) ∧ (p = one ++ [2, 0, 0, 0]) ∧ (x.reg.state = .latched) ∧ (x.pol.clear = none))),
    (let s : State := at9 id id;
      let b : BerthId := 9;
      let o : Origin := { path := .tunnel, tag := 1 };
      let x := s.berths[b];
      let usable := b.val < s.berthsOn ∧ s.isFenced b = false ∧ s.isReleased b = true ∧ s.jobs = [];
      let one := leBytes 8 (2 ^ b.val);
      let p : List Byte := one;
      decide ((s.starts o 0x0207 p = true) ∧ (usable) ∧ (p = one) ∧ (x.errRecTaken = true) ∧ (x.cc.state ≠ .errorRecovery))),
    (let s : State := at9 id (fun x => { x with cc.release := true, id.fenced := false, enabled := false, cc.state := .disabled, st.phyFenced := false, mon.parked := false });
      let b : BerthId := 9;
      let o : Origin := { path := .tunnel, tag := 1 };
      let x := s.berths[b];
      let usable := b.val < s.berthsOn ∧ s.isFenced b = false ∧ s.isReleased b = true ∧ s.jobs = [];
      let one := leBytes 8 (2 ^ b.val);
      let p : List Byte := one;
      decide ((s.starts o 0x0207 p = true) ∧ (usable) ∧ (p = one) ∧ (x.errRecTaken = false))),
    (let s : State := at9 id id;
      let b : BerthId := 9;
      let o : Origin := { path := .tunnel, tag := 1 };
      let usable := b.val < s.berthsOn ∧ s.isFenced b = false ∧ s.isReleased b = true ∧ s.jobs = [];
      let p : List Byte := [BitVec.ofNat 8 b.val, 0, 0, 0];
      decide ((s.starts o 0x020B p = true) ∧ (usable) ∧ (p = [BitVec.ofNat 8 b.val, 0, 0, 0]))),
    (let s : State := at9 id id;
      let b : BerthId := 9;
      let by_ : Option Origin := none;
      let s : State := { s with tele := s.tele.set (b) { s.tele[b] with reset := some (by_, 1) } };
      decide ((s.tele[b].reset = some (by_, 1)))),
    (let s : State := at9 id id;
      let b : BerthId := 9;
      let by_ : Option Origin := none;
      let s : State := { s with tele := s.tele.set (b) { s.tele[b] with reset := some (by_, 2) } };
      decide ((s.tele[b].reset = some (by_, 2)) ∧ (s.tele[b].resets.length < 9))),
    (let s : State := at9 (fun s => { s with pilot.level := 2, jobs := [], quays := s.quays.set 1 { s.quays[1] with released := true, fenced := false, hless := false }, tele := s.tele.set 9 { s.tele[9] with held := false, reset := some (none, 2), resets := List.replicate (if s.tb % 2 = 0 then 9 else 8) 5 } }) id;
      let b : BerthId := 9;
      let by_ : Option Origin := none;
      decide ((s.tele[b].reset = some (by_, 2)) ∧ (9 ≤ s.tele[b].resets.length))),
    (let s : State := at9 id id;
      let b : BerthId := 9;
      decide ((s.tele[b].reset = none))),
    (let s : State := at9 id srcOn;
      let o : Origin := { path := .tunnel, tag := 1 };
      s.starts o 0x0208 [9, 1, 1, 0] && !s.berths[(9 : BerthId)].st.phyFenced && decide ((9 : BerthId).val < s.berthsOn) && !s.isFenced 9 && s.isReleased 9 && decide (s.jobs = [])),
    (let s : State := at9 id srcOn;
      let o : Origin := { path := .tunnel, tag := 1 };
      s.starts o 0x0209 ([9, 2, 0, 4, 1, 0, 3, 0] ++ leBytes 2 4 ++ [0, 0] ++ [7, 8, 9, 1]) && s.berths[(9 : BerthId)].attached && decide ((9 : BerthId).val < s.berthsOn) && !s.isFenced 9 && s.isReleased 9 && decide (s.jobs = [])),
    (let s : State := at9 id srcOn;
      let o : Origin := { path := .tunnel, tag := 1 };
      s.starts o 0x020A ([9, 0] ++ leBytes 2 0xFF01 ++ [7, 0, 0, 0]) && decide ((9 : BerthId).val < s.berthsOn) && !s.isFenced 9 && s.isReleased 9 && decide (s.jobs = []))] id = true := by decide +kernel

/-- A state and operands that meet the premises of each clause of `Obligations.PolicyAndPowerCommands`. -/
theorem test_witness_PolicyAndPowerCommands : List.all [
    (let s : State := at9 id id;
      let o : Origin := { path := .tunnel, tag := 1 };
      let p : List Byte := [3, 0, 0, 0, 4, 0, 0, 0, 1, 2, 3, 4];
      decide ((s.starts o 0x0301 p = true) ∧ (p = [3, 0, 0, 0, 4, 0, 0, 0, 1, 2, 3, 4]))),
    (let s : State := at9 (fun s => { s with pilot.level := 2, tb := 5000, berths := s.berths.set 10 State.reset.berths[10], tables := s.tables.set 3 { s.tables[3] with loading := [1, 2, 3, 4, 5, 6, 7, 8] } }) id;
      let o : Origin := { path := .tunnel, tag := 1 };
      let p : List Byte := [3, 1, 8, 0, 4, 0, 0, 0, 1, 2, 3, 4];
      decide ((s.starts o 0x0301 p = true) ∧ (p = [3, 1, 8, 0, 4, 0, 0, 0, 1, 2, 3, 4]) ∧ (s.tables[3].loading.length = 8))),
    (let s : State := at9 id id;
      let b : BerthId := 9;
      let o : Origin := { path := .tunnel, tag := 1 };
      let p : List Byte := [0, 0, 0, 0] ++ leBytes 8 (2 ^ b.val);
      decide ((s.starts o 0x0302 p = true) ∧ (p = [0, 0, 0, 0] ++ leBytes 8 (2 ^ b.val)) ∧ (b.val < s.berthsOn))),
    (let s : State := at9 id (fun x => { x with pol.windows := [{ id := 7, kind := .prSwap, content := 5, ends := if x.adc.vbc % 2 = 0 then 9000 else 3000 }], pol.oldIds := [] });
      let b : BerthId := 9;
      let o : Origin := { path := .tunnel, tag := 1 };
      let x := s.berths[b];
      let p : List Byte := [7, 0, 0, 0];
      decide ((s.starts o 0x0303 p = true) ∧ (p = [7, 0, 0, 0]) ∧ ((List.finRange 48).all (fun (c : BerthId) => decide (s.berths[c].pol.windows = [] ∧ (c ≠ b → s.berths[c].pol.oldIds = []))) = true → x.pol.oldIds = [(7, .lapsed)]))),
    (let s : State := at9 id id;
      let o : Origin := { path := .tunnel, tag := 1 };
      let p : List Byte := [7, 0, 0, 0];
      decide ((s.starts o 0x0303 p = true) ∧ (p = [7, 0, 0, 0]))),
    (let s : State := at9 id id;
      let o : Origin := { path := .tunnel, tag := 1 };
      let p : List Byte := [0xFF, 0, 0, 0, 8, 0, 0, 0];
      decide ((s.starts o 0x0304 p = true) ∧ (p = [0xFF, 0, 0, 0, 8, 0, 0, 0]))),
    (let s : State := at9 id id;
      let o : Origin := { path := .tunnel, tag := 1 };
      let p : List Byte := [0, 0, 4, 0, 8, 0, 0, 0];
      decide ((s.starts o 0x0304 p = true) ∧ (p = [0, 0, 4, 0, 8, 0, 0, 0]))),
    (let s : State := at9 id id;
      let b : BerthId := 9;
      let o : Origin := { path := .tunnel, tag := 1 };
      let p : List Byte := [BitVec.ofNat 8 b.val, 3, 50, 0];
      decide ((s.starts o 0x0402 p = true) ∧ (p = [BitVec.ofNat 8 b.val, 3, 50, 0]) ∧ (b.val < s.berthsOn))),
    (let s : State := at9 id id;
      let o : Origin := { path := .tunnel, tag := 1 };
      let p : List Byte := [4, 8, 0, 0];
      decide ((s.starts o 0x0403 p = true) ∧ (p = [4, 8, 0, 0]))),
    (let s : State := at9 id id;
      let o : Origin := { path := .tunnel, tag := 1 };
      let p : List Byte := [1, 0, 0, 0] ++ leBytes 4 100;
      decide ((s.starts o 0x0404 p = true) ∧ (p = [1, 0, 0, 0] ++ leBytes 4 100) ∧ (100 ≤ s.bEffOf))),
    (let s : State := at9 id (fun x => { x with pol.windows := [{ id := 7, kind := .request, content := 5, ends := 60000000000 }], pol.oldIds := [] });
      let o : Origin := { path := .tunnel, tag := 1 };
      s.starts o 0x0303 [7, 0, 0, 0] && (List.finRange 48).all (fun (c : BerthId) => decide (c ≠ 9 → s.berths[c].pol.windows = [] ∧ s.berths[c].pol.oldIds = [])) && decide ((s.begun o 0x0303 [7, 0, 0, 0]).arrival o < 60000000000)),
    (let s : State := at9 (fun s => { s with pilot.level := 2, lastSent := 3, ackSeq := 2 }) id;
      let o : Origin := { path := .tunnel, tag := 1 };
      let p : List Byte := [1, 0, 0, 0, 0x60, 0xEA, 0, 0] ++ List.replicate 20 0;
      s.starts o 0x0401 p && State.budgetOk p && (s.begun o 0x0401 p).fitsAfter (.budget (State.budgetWith (s.begun o 0x0401 p).ahead.alloc.budget p) false o))] id = true := by decide +kernel

/-- A state and operands that meet the premises of each clause of `Obligations.TelemetryCommands`. -/
theorem test_witness_TelemetryCommands : List.all [
    (let s : State := at9 id id;
      let o : Origin := { path := .tunnel, tag := 1 };
      let p : List Byte := [4, 8, 1, 0];
      decide ((s.starts o 0x0501 p = true) ∧ (p = [4, 8, 1, 0]))),
    (let s : State := at9 id id;
      let b : BerthId := 9;
      let o : Origin := { path := .tunnel, tag := 1 };
      let p : List Byte := [4, 8, 1, 1];
      decide ((s.starts o 0x0501 p = true) ∧ (p = [4, 8, 1, 1]) ∧ (b.val < 12) ∧ (4 ≤ b.val))),
    (let s : State := at9 (fun s => { s with pilot.level := 2, tb := 5000, jobs := [], snaps := [{ id := 2, tide := 4, pendingFor := [], taken := true, vals := [] }], quays := s.quays.set 1 { s.quays[1] with fenced := false, hless := false }, tele := s.tele.set 9 { s.tele[9] with arm := none, frozen := none }, man := [{ slot := 150, item := .record 9 3 40, sealed := true, seq := 8, wcount := 2, data := [1, 2] }, { slot := 151, item := .record 9 3 400, sealed := true, seq := 9, wcount := 2, data := [1, 2] }] }) id;
      let o : Origin := { path := .tunnel, tag := 1 };
      let p : List Byte := [2, 0, 4, 0];
      decide ((s.starts o 0x0503 p = true) ∧ (p = [2, 0, 4, 0]) ∧ ((s.heldSnap 2).isSome = true))),
    (let s : State := at9 id id;
      let o : Origin := { path := .tunnel, tag := 1 };
      let p : List Byte := [2, 0, 4, 0];
      decide ((s.starts o 0x0503 p = true) ∧ (p = [2, 0, 4, 0]) ∧ (s.heldSnap 2 = none))),
    (let s : State := at9 id id;
      let b : BerthId := 9;
      let o : Origin := { path := .tunnel, tag := 1 };
      let open_ := b.val < s.berthsOn ∧ s.isFenced b = false;
      let p : List Byte := leBytes 8 (2 ^ b.val) ++ [3, 0, 0, 0];
      decide ((s.starts o 0x0504 p = true) ∧ (open_) ∧ (p = leBytes 8 (2 ^ b.val) ++ [3, 0, 0, 0]))),
    (let s : State := at9 id id;
      let b : BerthId := 9;
      let o : Origin := { path := .tunnel, tag := 1 };
      let open_ := b.val < s.berthsOn ∧ s.isFenced b = false;
      let p : List Byte := leBytes 8 (2 ^ b.val) ++ [50, 0, 1, 0];
      decide ((s.starts o 0x0505 p = true) ∧ (open_) ∧ (p = leBytes 8 (2 ^ b.val) ++ [50, 0, 1, 0]))),
    (let s : State := at9 id id;
      let o : Origin := { path := .tunnel, tag := 1 };
      let p : List Byte := [5, 0, 0, 0, 16, 0, 0, 0];
      decide ((s.starts o 0x0601 p = true) ∧ (p = [5, 0, 0, 0, 16, 0, 0, 0]))),
    (let s : State := at9 id id;
      let o : Origin := { path := .tunnel, tag := 1 };
      let p : List Byte := [0, 0xFF, 0, 0, 4, 0, 0, 0];
      decide ((s.starts o 0x0602 p = true) ∧ (p = [0, 0xFF, 0, 0, 4, 0, 0, 0]))),
    (let s : State := at9 id id;
      let b : BerthId := 9;
      let o : Origin := { path := .tunnel, tag := 1 };
      let open_ := b.val < s.berthsOn ∧ s.isFenced b = false;
      let p : List Byte := [0, BitVec.ofNat 8 b.val, 0, 0, 100, 0, 0, 0, 0, 0, 0, 0];
      decide ((s.starts o 0x0603 p = true) ∧ (open_) ∧ (p = [0, BitVec.ofNat 8 b.val, 0, 0, 100, 0, 0, 0, 0, 0, 0, 0]))),
    (let s : State := at9 id id;
      let b : BerthId := 9;
      let o : Origin := { path := .tunnel, tag := 1 };
      let open_ := b.val < s.berthsOn ∧ s.isFenced b = false;
      let p : List Byte := [BitVec.ofNat 8 b.val, 2, 0, 0, 10, 0, 20, 0, 3, 0, 0, 0];
      decide ((s.starts o 0x0604 p = true) ∧ (open_) ∧ (s.ringOut b = false) ∧ (p = [BitVec.ofNat 8 b.val, 2, 0, 0, 10, 0, 20, 0, 3, 0, 0, 0]))),
    (let s : State := at9 id id;
      let b : BerthId := 9;
      let o : Origin := { path := .tunnel, tag := 1 };
      let open_ := b.val < s.berthsOn ∧ s.isFenced b = false;
      let p : List Byte := [BitVec.ofNat 8 b.val, 3, 0, 0, 10, 0, 20, 0, 3, 0, 0, 0];
      decide ((s.starts o 0x0604 p = true) ∧ (open_) ∧ (s.ringOut b = false) ∧ (p = [BitVec.ofNat 8 b.val, 3, 0, 0, 10, 0, 20, 0, 3, 0, 0, 0]))),
    (let s : State := at9 id id;
      let b : BerthId := 9;
      let x := s.tele[b];
      decide ((x.arm = none))),
    (let s : State := at9 id id;
      let b : BerthId := 9;
      let o : Origin := { path := .tunnel, tag := 1 };
      let x := s.tele[b];
      let p : List Byte := [BitVec.ofNat 8 b.val, 1, 0, 0, 0, 0, 0, 0, 16, 0, 0, 0];
      decide ((s.starts o 0x0605 p = true) ∧ (b.val < s.berthsOn) ∧ (x.frozen = none) ∧ (p = [BitVec.ofNat 8 b.val, 1, 0, 0, 0, 0, 0, 0, 16, 0, 0, 0]))),
    (let s : State := at9 id id;
      let b : BerthId := 9;
      let o : Origin := { path := .tunnel, tag := 1 };
      let f : CapFrozen := { first := 4000, stop := 4003, from_ := 6000, slot := 7 };
      let x := s.tele[b];
      let p : List Byte := [BitVec.ofNat 8 b.val, 1, 0, 0, 0, 0, 0, 0, 16, 0, 0, 0];
      let s : State := { s with tele := s.tele.set (b) { s.tele[b] with frozen := some f } };
      let x := s.tele[b];
      decide ((s.starts o 0x0605 p = true) ∧ (b.val < s.berthsOn) ∧ (x.frozen = some f) ∧ (2 ≤ f.size) ∧ (p = [BitVec.ofNat 8 b.val, 1, 0, 0, 0, 0, 0, 0, 16, 0, 0, 0]))),
    (let s : State := at9 id id;
      let o : Origin := { path := .tunnel, tag := 1 };
      let p : List Byte := [0, 0, 0, 0, 4, 0, 0, 0, 9, 8, 7, 6];
      decide ((s.starts o 0x0606 p = true) ∧ (p = [0, 0, 0, 0, 4, 0, 0, 0, 9, 8, 7, 6]))),
    (let s : State := at9 id id;
      let o : Origin := { path := .tunnel, tag := 1 };
      let p : List Byte := [0, 0, 16, 0];
      decide ((s.starts o 0x0607 p = true) ∧ (p = [0, 0, 16, 0])))] id = true := by decide +kernel

/-- A state and operands that meet the premises of each clause of `Obligations.TelemetryEvents`. -/
theorem test_witness_TelemetryEvents : List.all [
    (let s : State := at9 id id;
      let n : Fin 4 := 0;
      decide ((s.snaps[n.val]? = none))),
    (let s : State := at9 id id;
      let n : Fin 4 := 0;
      let z : Snap := { id := 2, tide := 4, pendingFor := [] };
      let s : State := { s with snaps := [z] };
      let z : Snap := { z with taken := false };
      decide ((s.snaps[n.val]? = some z) ∧ (z.taken = false))),
    (let s : State := at9 id id;
      let o : Origin := { path := .tunnel, tag := 1 };
      let z : Snap := { id := 2, tide := 4, pendingFor := [{ path := .tunnel, tag := 1 }], taken := true };
      let n : Fin 4 := 0;
      let s : State := { s with snaps := [z] };
      let z : Snap := { z with taken := true };
      let z : Snap := { z with pendingFor := [o] };
      decide ((s.snaps = [z]) ∧ (n = 0) ∧ (z.taken = true) ∧ (z.pendingFor = [o]))),
    (let s : State := at9 id id;
      let b : BerthId := 9;
      let x := s.tele[b];
      decide ((x.tides < Tele.segTides x.window))),
    (let s : State := at9 (fun s => { s with tele := s.tele.set 9 { s.tele[(9 : BerthId)] with tides := 1000000 } }) id;
      let b : BerthId := 9;
      let x := s.tele[b];
      decide ((Tele.segTides x.window ≤ x.tides))),
    (let s : State := at9 id id;
      let b : BerthId := 9;
      let at_ : Stamp := 6000;
      let a : CapArm := { origin := { path := .tunnel, tag := 1 }, trig := .fault, pre := 10, post := 20, at_ := 100, until_ := some 5000 };
      let x := s.tele[b];
      let a : CapArm := { a with stamp := none };
      let s : State := { s with tele := s.tele.set (b) { s.tele[b] with arm := some a } };
      let x := s.tele[b];
      decide ((x.arm = some a) ∧ (a.stamp = none) ∧ (a.at_ ≤ at_))),
    (let s : State := at9 id id;
      let b : BerthId := 9;
      let at_ : Stamp := 6000;
      let a : CapArm := { origin := { path := .tunnel, tag := 1 }, trig := .fault, pre := 10, post := 20, at_ := 100, until_ := some 5000 };
      let x := s.tele[b];
      decide ((x.arm = none ∨ (x.arm = some a ∧ (a.stamp.isSome = true ∨ at_ < a.at_))))),
    (let s : State := at9 (fun s => { s with tb := 900000, snaps := [{ id := 2, tide := 4, pendingFor := [{ path := .tunnel, tag := 1 }], taken := true, vals := [] }], tags := [{ origin := { path := .tunnel, tag := 1 }, code := 0x0502, fence := false, started := true, order := 1, payload := none, at_ := 4, level := 2 }], tele := s.tele.set 9 { s.tele[9] with window := 1000, tides := 300, total := 1, arm := some { origin := { path := .tunnel, tag := 1 }, pre := 2, post := 3, at_ := 5000, trig := .fault, until_ := some 5000, stamp := some 600000 } } }) id;
      let b : BerthId := 9;
      let t : Stamp := 6000;
      let a : CapArm := { origin := { path := .tunnel, tag := 1 }, trig := .fault, pre := 10, post := 20, at_ := 100, until_ := some 5000 };
      let x := s.tele[b];
      let first := t / 100 - 100 * a.pre;
      let a : CapArm := { a with stamp := some t };
      let s : State := { s with tele := s.tele.set (b) { s.tele[b] with arm := some a } };
      let x := s.tele[b];
      let first := t / 100 - 100 * a.pre;
      decide ((x.arm = some a) ∧ (a.stamp = some t) ∧ (first + 100 * (a.pre + a.post) ≤ s.usNow))),
    (let s : State := at9 id id;
      let b : BerthId := 9;
      let t : Stamp := 6000;
      let a : CapArm := { origin := { path := .tunnel, tag := 1 }, trig := .fault, pre := 10, post := 20, at_ := 100, until_ := some 5000 };
      let x := s.tele[b];
      let first := t / 100 - 100 * a.pre;
      decide ((x.arm = none ∨ (x.arm = some a ∧ (a.stamp = none ∨ (a.stamp = some t ∧ s.usNow < first + 100 * (a.pre + a.post))))))),
    (let s : State := at9 id id;
      let b : BerthId := 9;
      let t : Stamp := 6000;
      let a : CapArm := { origin := { path := .tunnel, tag := 1 }, trig := .fault, pre := 10, post := 20, at_ := 100, until_ := some 5000 };
      let x := s.tele[b];
      let a : CapArm := { a with stamp := none };
      let a : CapArm := { a with until_ := some t };
      let s : State := { s with tele := s.tele.set (b) { s.tele[b] with arm := some a } };
      let x := s.tele[b];
      decide ((x.arm = some a) ∧ (a.stamp = none) ∧ (a.until_ = some t))),
    (let s : State := at9 id id;
      let b : BerthId := 9;
      let a : CapArm := { origin := { path := .tunnel, tag := 1 }, trig := .fault, pre := 10, post := 20, at_ := 100, until_ := some 5000 };
      let x := s.tele[b];
      decide ((x.arm = none ∨ (x.arm = some a ∧ (a.stamp.isSome = true ∨ a.until_ = none))))),
    (let s : State := at9 (fun s => { s with tb := 900000, snaps := [{ id := 2, tide := 4, pendingFor := [{ path := .tunnel, tag := 1 }], taken := true, vals := [] }], tags := [{ origin := { path := .tunnel, tag := 1 }, code := 0x0502, fence := false, started := true, order := 1, payload := none, at_ := 4, level := 2 }], tele := s.tele.set 9 { s.tele[9] with window := 1000, tides := 300, total := 1, arm := some { origin := { path := .tunnel, tag := 1 }, pre := 2, post := 3, at_ := 5000, trig := .fault, until_ := some 5000, stamp := some 600000 } } }) id;
      let b : BerthId := 9;
      let r : PendRec := { slot := 150, seq := 1, berth := 9, cause := 3, tide := 4, stamp := 5000, head := [], ready := false };
      let s : State := { s with records := [r] };
      let r : PendRec := { r with berth := b.val };
      let r : PendRec := { r with ready := false };
      decide ((s.records = [r]) ∧ (r.berth = b.val) ∧ (r.ready = false) ∧ (r.stamp + ms 1 ≤ s.now))),
    (let s : State := at9 id id;
      let b : BerthId := 9;
      let r : PendRec := { slot := 150, seq := 1, berth := 9, cause := 3, tide := 4, stamp := 5000, head := [], ready := true };
      let s : State := { s with records := [r] };
      let r : PendRec := { r with ready := true };
      decide ((s.records = [r]) ∧ (r.ready = true ∨ r.berth ≠ b.val ∨ s.now < r.stamp + ms 1))),
    (let s : State := at9 id id;
      let r : PendRec := { slot := 150, seq := 1, berth := 9, cause := 3, tide := 4, stamp := 5000, head := [], ready := true };
      let s : State := { s with records := [r] };
      let r : PendRec := { r with ready := true };
      decide ((s.records = [r]) ∧ (r.ready = true) ∧ (s.slotAt r.slot = none))),
    (let s : State := at9 id id;
      let r : PendRec := { slot := 150, seq := 1, berth := 9, cause := 3, tide := 4, stamp := 5000, head := [], ready := true };
      decide ((s.records = [] ∨ (s.records = [r] ∧ r.ready = false))))] id = true := by decide +kernel

/-- A state and operands that meet the premises of each clause of `Obligations.SelfTestsAndEcc`. -/
theorem test_witness_SelfTestsAndEcc : List.all [
    (let s : State := at9 id (fun x => { x with st.want := some (some 9, 2), st.running := false, phy.rxMsg := none, phy.tx := none, id.amsActive := false, id.hrActive := false, phy.owed := [] });
      let b : BerthId := 9;
      let x := s.berths[b];
      decide ((x.st.want.isSome = true) ∧ (x.st.running = false) ∧ (State.lbIdle x = true))),
    (let s : State := at9 id id;
      let b : BerthId := 9;
      let x := s.berths[b];
      decide ((x.st.want = none ∨ x.st.running = true ∨ State.lbIdle x = false))),
    (let s : State := at9 id id;
      let b : BerthId := 9;
      let x := s.berths[b];
      decide ((x.st.running = false))),
    (let s : State := at9 id id;
      let b : BerthId := 9;
      let x := s.berths[b];
      let good : BitVec 3 := 4;
      let s : State := { s with berths := s.berths.set (b) { s.berths[b] with st.running := true } };
      let x := s.berths[b];
      decide ((x.st.running = true) ∧ (good = 4) ∧ (s.testWanted 3 b.val 0 = false))),
    (let s : State := at9 id id;
      let b : BerthId := 9;
      let good : BitVec 3 := 0;
      let x := s.berths[b];
      let s : State := { s with berths := s.berths.set (b) { s.berths[b] with st.running := true } };
      let x := s.berths[b];
      decide ((x.st.running = true) ∧ (good ≠ 4))),
    (let s : State := at9 id id;
      let b : BerthId := 9;
      let x := s.berths[b];
      let s : State := { s with berths := s.berths.set (b) { s.berths[b] with st.running := true } };
      let x := s.berths[b];
      decide ((x.st.running = true))),
    (let s : State := at9 id id;
      let b : BerthId := 9;
      let ad : Nat := 400;
      let org : Nat := 100;
      let x := s.berths[b];
      let s : State := { s with berths := s.berths.set (b) { s.berths[b] with st.want := some (some ad, org) } };
      let x := s.berths[b];
      decide ((x.st.want = some (some ad, org)))),
    (let s : State := at9 id id;
      let b : BerthId := 9;
      let org : Nat := 0;
      let x := s.berths[b];
      decide ((x.st.want = none ∨ x.st.want = some (none, org)))),
    (let w : Nat := 0;
      decide ((w < 0x1000000))),
    (let w : Nat := 0x1000000;
      decide ((0x1000000 ≤ w))),
    (let s : State := at9 id id;
      let w : Nat := 0;
      decide ((w < 0x1000000) ∧ (Memory.wf s.mem = true))),
    (let s : State := at9 id id;
      let w : Nat := 0;
      let s : State := { s with harbour.ready := true };
      decide ((w < 0x1000000) ∧ (s.harbour.ready = true)))] id = true := by decide +kernel

/-- A state and operands that meet the premises of each clause of `Obligations.SuppliesAndResets`. -/
theorem test_witness_SuppliesAndResets : List.all [
    (let s : State := at9 id id;
      let mv : Nat := 0;
      let ns : Nat := 3000;
      decide ((s.supplies.vaon = true) ∧ (s.porDue = none) ∧ (s.fallen .vaon mv ns = true))),
    (let s : State := at9 id id;
      let mv : Nat := 0;
      let ns : Nat := 3000;
      decide ((s.supplies.vcore = true) ∧ (s.porDue = none) ∧ (s.fallen .vcore mv ns = true))),
    (let s : State := at9 id id;
      let mv : Nat := 0;
      let ns : Nat := 3000;
      decide ((s.supplies.vio = true) ∧ (s.porDue = none) ∧ (s.fallen .vio mv ns = true))),
    (let s : State := at9 id id;
      let mv : Nat := 400;
      let ns : Nat := 25000;
      let c : BitVec 8 := 4;
      let s : State := { s with supplies.vio := true };
      let s : State := { s with porDue := some c };
      decide ((s.supplies.vio = true) ∧ (s.porDue = some c) ∧ (s.fallen .vio mv ns = true))),
    (let s : State := at9 id id;
      let mv : Nat := 0;
      let ns : Nat := 20000;
      decide ((s.fallen .vbak mv ns = true))),
    (let s : State := at9 (fun s => { s with supplies := { s.supplies with vaon := true, vcore := true, vio := true, vq5 := 0x3F }, porDue := none, hot := false, harbour := { s.harbour with ready := false, unkicked := 5, coreB := true }, time := 500, tideCount := 40000 }) id;
      let q : QuayId := 1;
      let mv : Nat := 0;
      let ns : Nat := 6000;
      decide ((s.supplies.vq5.getLsbD q.val = true) ∧ (s.fallen (.vq5 q) mv ns = true))),
    (let s : State := at9 id id;
      let q : QuayId := 1;
      let mv : Nat := 0;
      let ns : Nat := 0;
      let s : State := { s with quays := s.quays.set (q) { s.quays[q] with up := false } };
      decide ((s.quays[q].up = false) ∧ (s.fallen (.vconnIn q) mv ns = true))),
    (let s : State := at9 id id;
      let mv : Nat := 0;
      let ns : Nat := 0;
      let k : Supply := .vaon;
      decide ((s.fallen k mv ns = false))),
    (let mv : Nat := 0;
      let ns : Nat := 0;
      let k : Supply := .vaon;
      decide ((State.risen k mv ns = false))),
    (let mv : Nat := 6000;
      let ns : Nat := 3000;
      decide ((State.risen .vaon mv ns = true))),
    (let s : State := at9 id id;
      let q : QuayId := 1;
      let mv : Nat := 6000;
      let ns : Nat := 6000;
      decide ((s.supplies.vq5.getLsbD q.val = false) ∧ (State.risen (.vq5 q) mv ns = true))),
    (let s : State := at9 id id;
      let c : BitVec 8 := 0;
      let s : State := { s with supplies.vaon := true };
      let s : State := { s with supplies.vcore := true };
      let s : State := { s with supplies.vio := true };
      let s : State := { s with porDue := some c };
      decide ((s.supplies.vaon = true) ∧ (s.supplies.vcore = true) ∧ (s.supplies.vio = true) ∧ (s.porDue = some c))),
    (let s : State := at9 id id;
      decide ((s.supplies.vaon = false ∨ s.supplies.vcore = false ∨ s.supplies.vio = false ∨ (s.porDue = none ∧ s.phase ≠ .brittle)))),
    (let s : State := at9 id id;
      let w : Nat := 3000;
      let tk : Bool := true;
      let held := s.porDue.isSome = true ∨ s.hot = true;
      decide ((¬ held) ∧ (10000 ≤ w ∨ (2000 ≤ w ∧ tk = true)))),
    (let s : State := at9 id id;
      let w : Nat := 0;
      let tk : Bool := true;
      let held := s.porDue.isSome = true ∨ s.hot = true;
      decide ((held ∨ w < 2000 ∨ (w < 10000 ∧ tk = false)))),
    (let s : State := at9 (fun s => { s with supplies := { s.supplies with vaon := true, vcore := true, vio := true, vq5 := 0x3F }, porDue := none, hot := false, harbour := { s.harbour with ready := false, unkicked := 5, coreB := true }, time := 500, tideCount := 40000 }) id;
      let held := s.porDue.isSome = true ∨ s.hot = true;
      decide ((¬ held) ∧ (s.ticking = true) ∧ (4 ≤ s.harbour.unkicked) ∧ (s.harbour.ready = false))),
    (let s : State := at9 (fun s => { s with supplies := { s.supplies with vaon := true, vcore := true, vio := true, vq5 := 0x3F }, porDue := none, hot := false, harbour := { s.harbour with ready := false, unkicked := 5, coreB := true }, time := 500, tideCount := 40000 }) id;
      let held := s.porDue.isSome = true ∨ s.hot = true;
      let s : State := { s with ticking := true };
      let s : State := { s with harbour.ready := true };
      let held := s.porDue.isSome = true ∨ s.hot = true;
      decide ((¬ held) ∧ (s.ticking = true) ∧ (4 ≤ s.harbour.unkicked) ∧ (s.harbour.ready = true))),
    (let s : State := at9 id id;
      let held := s.porDue.isSome = true ∨ s.hot = true;
      decide ((held ∨ s.ticking = false ∨ s.harbour.unkicked < 4))),
    (let s : State := at9 id id;
      let w : Nat := 100;
      let peak : Int := 1501;
      let held := s.porDue.isSome = true ∨ s.hot = true;
      decide ((¬ held) ∧ (1400 < peak) ∧ (100 ≤ w))),
    (let s : State := at9 id id;
      let w : Nat := 0;
      let peak : Int := 1501;
      let held := s.porDue.isSome = true ∨ s.hot = true;
      decide ((held ∨ peak ≤ 1400 ∨ w < 100))),
    (let s : State := at9 id id;
      let q : QuayId := 1;
      let w : Nat := 100;
      let peak : Int := 1501;
      decide ((s.quays[q].thermal = false) ∧ (s.quays[q].up = true) ∧ (1500 < peak) ∧ (100 ≤ w))),
    (let s : State := at9 id id;
      let q : QuayId := 1;
      let w : Nat := 0;
      let peak : Int := 1501;
      decide ((s.quays[q].thermal = true ∨ s.quays[q].up = false ∨ peak ≤ 1500 ∨ w < 100))),
    (let peak : Int := 1000;
      decide ((peak < 1200))),
    (let peak : Int := 1000;
      decide ((peak < 1300))),
    (let peak : Int := 1501;
      decide ((1200 ≤ peak))),
    (let peak : Int := 1501;
      decide ((1300 ≤ peak))),
    (let s : State := at9 id id;
      decide ((s.time = 0 ∨ s.tideCount % 40000 ≠ 0))),
    (let s : State := at9 (fun s => { s with supplies := { s.supplies with vaon := true, vcore := true, vio := true, vq5 := 0x3F }, porDue := none, hot := false, harbour := { s.harbour with ready := false, unkicked := 5, coreB := true }, time := 500, tideCount := 40000 }) id;
      decide ((s.time ≠ 0) ∧ (s.tideCount % 40000 = 0)))] id = true := by decide +kernel

/-- A state and operands that meet the premises of each clause of `Obligations.StartUp`. -/
theorem test_witness_StartUp : List.all [
    (let s : State := at9 id id;
      let free := s.porDue = none ∧ s.hot = false;
      let s : State := { s with porDue := none };
      let s : State := { s with hot := false };
      let s : State := { s with phase := .brittle };
      let s : State := { s with oscillator := none };
      let free := s.porDue = none ∧ s.hot = false;
      decide ((free) ∧ (s.phase = .brittle) ∧ (s.oscillator = none))),
    (let s : State := at9 id id;
      decide ((s.phase ≠ .brittle ∨ s.oscillator.isSome = true ∨ s.hot = true))),
    (let s : State := at9 id id;
      let xt : Bool := true;
      let free := s.porDue = none ∧ s.hot = false;
      let s : State := { s with porDue := none };
      let s : State := { s with hot := false };
      let s : State := { s with phase := .brittle };
      let s : State := { s with oscillator := some xt };
      let s : State := { s with brittle.loaded := false };
      let free := s.porDue = none ∧ s.hot = false;
      decide ((free) ∧ (s.phase = .brittle) ∧ (s.oscillator = some xt) ∧ (s.brittle.loaded = false))),
    (let s : State := at9 id id;
      decide ((s.phase ≠ .brittle ∨ s.oscillator = none ∨ s.brittle.loaded = true))),
    (let s : State := at9 id id;
      let free := s.porDue = none ∧ s.hot = false;
      let s : State := { s with porDue := none };
      let s : State := { s with hot := false };
      let s : State := { s with phase := .plls };
      let free := s.porDue = none ∧ s.hot = false;
      decide ((free) ∧ (s.phase = .plls))),
    (let s : State := at9 id id;
      decide ((s.phase ≠ .plls))),
    (let s : State := at9 id id;
      let free := s.porDue = none ∧ s.hot = false;
      let s : State := { s with porDue := none };
      let s : State := { s with hot := false };
      let s : State := { s with phase := .boot };
      let free := s.porDue = none ∧ s.hot = false;
      decide ((free) ∧ (s.phase = .boot))),
    (let s : State := at9 id id;
      decide ((s.phase ≠ .boot))),
    (let s : State := at9 id id;
      let free := s.porDue = none ∧ s.hot = false;
      let s : State := { s with porDue := none };
      let s : State := { s with hot := false };
      let s : State := { s with phase := .scrub };
      let free := s.porDue = none ∧ s.hot = false;
      decide ((free) ∧ (s.phase = .scrub))),
    (let s : State := at9 id id;
      decide ((s.phase ≠ .scrub))),
    (let s : State := at9 (fun s => { s with phase := .quays, porDue := none, hot := false, supplies := { s.supplies with vq5 := 0x3F }, quays := (s.quays.set 0 { s.quays[0] with up := true }).set 1 { s.quays[1] with up := false, fenced := false, thermal := false } }) id;
      let free := s.porDue = none ∧ s.hot = false;
      let q : QuayId := 1;
      let k := s.quays[q];
      decide ((free) ∧ (s.phase = .quays) ∧ (q = 1) ∧ (s.quays[0].up = true) ∧ (s.quayReady q = true) ∧ (k.up = false))),
    (let s : State := at9 id id;
      let q : QuayId := 1;
      let k := s.quays[q];
      decide ((k.up = true ∨ s.quayReady q = false ∨ s.phase = .brittle))),
    (let s : State := at9 id id;
      let q : QuayId := 1;
      let k := s.quays[q];
      let free := s.porDue = none ∧ s.hot = false;
      let s : State := { s with porDue := none };
      let s : State := { s with hot := false };
      let s : State := { s with quays := s.quays.set (q) { s.quays[q] with up := true } };
      let s : State := { s with quays := s.quays.set (q) { s.quays[q] with released := false } };
      let s : State := { s with roundPhase := 0 };
      let s : State := { s with lastRelease := none };
      let k := s.quays[q];
      let free := s.porDue = none ∧ s.hot = false;
      decide ((free) ∧ (k.up = true) ∧ (k.released = false) ∧ (s.roundPhase = 0) ∧ (s.lastRelease = none))),
    (let s : State := at9 id id;
      let q : QuayId := 1;
      let k := s.quays[q];
      decide ((k.up = false ∨ k.released = true ∨ s.roundPhase ≠ 0))),
    (let s : State := at9 (fun s => { s with harbour := { s.harbour with testing := none, followed := 40, commit := some ({ path := .tunnel, tag := 1 }, false) }, repair := { s.repair with coreFenced := false } }) id;
      decide ((s.harbour.testing = none) ∧ (s.repair.coreFenced = false) ∧ (40 ≤ s.harbour.followed) ∧ (s.phase ≠ .brittle))),
    (let s : State := at9 id id;
      decide ((s.harbour.testing.isSome = true ∨ s.repair.coreFenced = true ∨ s.harbour.followed < 40))),
    (let s : State := at9 id id;
      let o : Origin := { path := .tunnel, tag := 1 };
      let s : State := { s with harbour.commit := some (o, false) };
      decide ((s.harbour.commit = some (o, false)))),
    (let s : State := at9 id id;
      decide ((s.harbour.commit = none))),
    (let s : State := at9 id id;
      let hmb : Bool := true;
      let s : State := { s with harbour.testing := some hmb };
      decide ((s.harbour.testing = some hmb))),
    (let s : State := at9 id id;
      decide ((s.harbour.testing = none)))] id = true := by decide +kernel

/-- A state and operands that meet the premises of each clause of `Obligations.FirmwareAndFuses`. -/
theorem test_witness_FirmwareAndFuses : List.all [
    (let s : State := at9 id id;
      let o : Origin := { path := .tunnel, tag := 1 };
      let p : List Byte := [1, 1, 0, 0, 0, 0, 0, 0, 4, 0, 0, 0, 9, 8, 7, 6];
      decide ((s.starts o 0x0701 p = true) ∧ (p = [1, 1, 0, 0, 0, 0, 0, 0, 4, 0, 0, 0, 9, 8, 7, 6]))),
    (let s : State := at9 id id;
      let o : Origin := { path := .tunnel, tag := 1 };
      let p : List Byte := [1, 0, 0, 0, 8, 0, 0, 0, 4, 0, 0, 0, 5, 4, 3, 2];
      decide ((s.starts o 0x0701 p = true) ∧ (p = [1, 0, 0, 0, 8, 0, 0, 0, 4, 0, 0, 0, 5, 4, 3, 2]))),
    (let s : State := at9 id id;
      let o : Origin := { path := .tunnel, tag := 1 };
      let p : List Byte := [1, 0, 0, 0];
      decide ((s.starts o 0x0702 p = true) ∧ (p = [1, 0, 0, 0]))),
    (let s : State := at9 (fun s => { s with pilot.level := 2, temp := 300, supplies := { s.supplies with vfuse := false }, harbour := { s.harbour with slots := s.harbour.slots.set 0 { verified := true, current := true } }, brittle := { State.reset.brittle with rows := State.reset.brittle.rows.set 128 0x40#32 } }) id;
      let o : Origin := { path := .tunnel, tag := 1 };
      let p : List Byte := [0, 0, 0, 0];
      decide ((s.starts o 0x0703 p = true) ∧ (p = [0, 0, 0, 0]) ∧ (s.harbour.slots[0].verified = true))),
    (let s : State := at9 id id;
      let o : Origin := { path := .tunnel, tag := 1 };
      let p : List Byte := [0, 0, 0, 0];
      decide ((s.starts o 0x0703 p = true) ∧ (p = [0, 0, 0, 0]))),
    (let s : State := at9 (fun s => { s with pilot.level := 2, temp := 300, supplies := { s.supplies with vfuse := true }, harbour := { s.harbour with ready := true, commit := none, slots := s.harbour.slots.set 0 { verified := true, current := false, release := 0xFFFFFFFF#32 } }, brittle := { State.reset.brittle with rows := State.reset.brittle.rows.set 200 0x8#32 } }) id;
      let o : Origin := { path := .tunnel, tag := 1 };
      let p : List Byte := [0, 0, 0, 0];
      decide ((s.starts o 0x0703 p = true) ∧ (p = [0, 0, 0, 0]) ∧ (s.harbour.slots[0].verified = true) ∧ (s.harbour.slots[0].current = false) ∧ (s.harbour.ready = true → (List.finRange 48).all (fun (c : BerthId) => !s.needsNewer c s.harbour.slots[0].release) = true))),
    (let s : State := at9 id srcOn;
      let b : BerthId := 9;
      let o : Origin := { path := .tunnel, tag := 1 };
      let x := s.berths[b];
      let p : List Byte := leBytes 8 (2 ^ b.val) ++ [0, 1, 0, 0];
      decide ((s.starts o 0x0704 p = true) ∧ (p = leBytes 8 (2 ^ b.val) ++ [0, 1, 0, 0]) ∧ (b.val < s.berthsOn) ∧ (s.isFenced b = false) ∧ (s.isReleased b = true) ∧ (x.id.tug.isSome = true))),
    (let s : State := at9 id id;
      let b : BerthId := 9;
      decide ((s.runsSlot b 0 = false))),
    (let s : State := at9 id id;
      let o : Origin := { path := .tunnel, tag := 1 };
      let p : List Byte := [];
      decide ((s.starts o 0x0705 p = true) ∧ (p = []))),
    (let s : State := at9 id id;
      let o : Origin := { path := .tunnel, tag := 1 };
      let p : List Byte := [129, 2];
      decide ((s.starts o 0x0801 p = true) ∧ (p = [129, 2]))),
    (let s : State := at9 id id;
      let o : Origin := { path := .tunnel, tag := 1 };
      let p : List Byte := [129, 2];
      decide ((s.starts o 0x0803 p = true) ∧ (p = [129, 2]))),
    (let s : State := at9 id id;
      let o : Origin := { path := .tunnel, tag := 1 };
      let p : List Byte := [1, 1, 0, 0, 0, 0, 0, 0, 4, 0, 0, 0, 9, 8, 7, 6];
      decide ((s.starts o 0x0802 p = true))),
    (let s : State := at9 (fun s => { s with pilot.level := 2, temp := 300, supplies := { s.supplies with vfuse := true }, brittle := { State.reset.brittle with rows := State.reset.brittle.rows.set 128 0x40#32 } }) id;
      let o : Origin := { path := .tunnel, tag := 1 };
      let v : Word := 0x105#32;
      let old := (State.rowRead s.brittle 200).1;
      let p : List Byte := [200, 0, 0, 0, 5, 1, 0, 0];
      decide ((s.starts o 0x0802 p = true) ∧ (p = [200, 0, 0, 0, 5, 1, 0, 0]) ∧ (s.burnBars = false) ∧ ((State.rowRead s.brittle 128).1.getLsbD 6 = true) ∧ (v ≠ old))),
    (let s : State := at9 (fun s => { s with pilot.level := 2, temp := 300, supplies := { s.supplies with vfuse := true }, harbour := { s.harbour with ready := true, commit := none, slots := s.harbour.slots.set 0 { verified := true, current := false, release := 0xFFFFFFFF#32 } }, brittle := { State.reset.brittle with rows := State.reset.brittle.rows.set 200 0x8#32 } }) id;
      let o : Origin := { path := .tunnel, tag := 1 };
      let v : Word := 0x105#32;
      let old := (State.rowRead s.brittle 200).1;
      let p : List Byte := [200, 0, 0, 0, 5, 1, 0, 0];
      decide ((s.starts o 0x0802 p = true) ∧ (p = [200, 0, 0, 0, 5, 1, 0, 0]) ∧ (s.burnBars = false) ∧ ((State.rowRead s.brittle 128).1.getLsbD 6 = false) ∧ (old &&& ~~~v ≠ 0))),
    (let s : State := at9 (fun s => { s with pilot.level := 2, temp := 300, supplies := { s.supplies with vfuse := true }, quays := s.quays.set 1 { s.quays[1] with fenced := false, hless := false, released := true }, brittle := State.reset.brittle, tugs := s.tugs.set 3 { s.tugs[3] with slot := 2 } }) id;
      let o : Origin := { path := .tunnel, tag := 1 };
      let v : Word := 0x105#32;
      let old := (State.rowRead s.brittle 200).1;
      let p : List Byte := [200, 0, 0, 0, 5, 1, 0, 0];
      decide ((s.starts o 0x0802 p = true) ∧ (p = [200, 0, 0, 0, 5, 1, 0, 0]) ∧ (s.burnBars = false) ∧ ((State.rowRead s.brittle 128).1.getLsbD 6 = false) ∧ (old &&& ~~~v = 0))),
    (let s : State := at9 (fun s => { s with pilot.level := 2, temp := 300, supplies := { s.supplies with vfuse := true }, brittle := { State.reset.brittle with rows := State.reset.brittle.rows.set 128 0x40#32 } }) id;
      let o : Origin := { path := .tunnel, tag := 1 };
      let p : List Byte := [7, 0, 0, 0];
      decide ((s.starts o 0x0804 p = true) ∧ (p = [7, 0, 0, 0]) ∧ ((State.rowRead s.brittle 128).1.getLsbD 6 = true))),
    (let s : State := at9 id id;
      let o : Origin := { path := .tunnel, tag := 1 };
      let p : List Byte := [7, 0, 0, 0];
      decide ((s.starts o 0x0804 p = true) ∧ (p = [7, 0, 0, 0]) ∧ ((State.rowRead s.brittle 128).1.getLsbD 6 = false) ∧ (s.burnBars = true))),
    (let s : State := at9 (fun s => { s with pilot.level := 2, temp := 300, supplies := { s.supplies with vfuse := true }, quays := s.quays.set 1 { s.quays[1] with fenced := false, hless := false, released := true }, brittle := State.reset.brittle, tugs := s.tugs.set 3 { s.tugs[3] with slot := 2 } }) id;
      let o : Origin := { path := .tunnel, tag := 1 };
      let p : List Byte := [7, 0, 0, 0];
      decide ((s.starts o 0x0804 p = true) ∧ (p = [7, 0, 0, 0]) ∧ ((State.rowRead s.brittle 128).1.getLsbD 6 = false) ∧ (s.burnBars = false)))] id = true := by decide +kernel

/-- A state and operands that meet the premises of each clause of `Obligations.ServiceAndDebug`. -/
theorem test_witness_ServiceAndDebug : List.all [
    (let s : State := at9 id id;
      let o : Origin := { path := .tunnel, tag := 1 };
      let p : List Byte := [4, 3, 0, 0];
      decide ((s.starts o 0x0901 p = true) ∧ (p = [4, 3, 0, 0]))),
    (let s : State := at9 id id;
      let b : BerthId := 9;
      let o : Origin := { path := .tunnel, tag := 1 };
      let x := s.berths[b];
      let nb := BitVec.ofNat 8 b.val;
      let ready := b.val < s.berthsOn ∧ s.reaches b = true ∧ x.id.fenced = false ∧ x.mon.parked = false;
      let p : List Byte := [0, nb, 6, 0];
      decide ((s.starts o 0x0901 p = true) ∧ (ready) ∧ (p = [0, nb, 6, 0]))),
    (let s : State := at9 id id;
      let b : BerthId := 9;
      let o : Origin := { path := .tunnel, tag := 1 };
      let x := s.berths[b];
      let nb := BitVec.ofNat 8 b.val;
      let ready := b.val < s.berthsOn ∧ s.reaches b = true ∧ x.id.fenced = false ∧ x.mon.parked = false;
      let p : List Byte := [6, nb, 0, 0];
      decide ((s.starts o 0x0901 p = true) ∧ (ready) ∧ (x.path.state = .off) ∧ (x.attached = false) ∧ (x.path.testBusy = false) ∧ (p = [6, nb, 0, 0]))),
    (let s : State := at9 id id;
      let o : Origin := { path := .tunnel, tag := 1 };
      let t : TugId := 3;
      let p : List Byte := [1, BitVec.ofNat 8 t.val, 0, 0];
      decide ((s.starts o 0x0901 p = true) ∧ (p = [1, BitVec.ofNat 8 t.val, 0, 0]) ∧ (s.tugs[t].berth = none))),
    (let s : State := at9 bound id;
      let o : Origin := { path := .tunnel, tag := 1 };
      let t : TugId := 3;
      let p : List Byte := [1, BitVec.ofNat 8 t.val, 0, 0];
      decide ((s.starts o 0x0901 p = true) ∧ (p = [1, BitVec.ofNat 8 t.val, 0, 0]) ∧ (s.tugs[t].berth.isSome = true))),
    (let s : State := at9 id id;
      let b : BerthId := 9;
      let o : Origin := { path := .tunnel, tag := 1 };
      let nb := BitVec.ofNat 8 b.val;
      let open_ := b.val < s.berthsOn ∧ s.isFenced b = false;
      let p : List Byte := [0, nb, 0, 0];
      decide ((s.starts o 0x0902 p = true) ∧ (open_) ∧ (p = [0, nb, 0, 0]))),
    (let s : State := at9 id id;
      let b : BerthId := 9;
      let x := s.berths[b];
      decide ((x.id.fenced = false))),
    (let s : State := at9 id id;
      let b : BerthId := 9;
      let o : Origin := { path := .tunnel, tag := 1 };
      let x := s.berths[b];
      let nb := BitVec.ofNat 8 b.val;
      let p : List Byte := [0, nb, 0, 0];
      decide ((s.starts o 0x0903 p = true) ∧ (b.val < s.berthsOn) ∧ (x.id.fenced = false) ∧ (x.st.phyFenced = false) ∧ (p = [0, nb, 0, 0]))),
    (let s : State := at9 id id;
      let b : BerthId := 9;
      let o : Origin := { path := .tunnel, tag := 1 };
      let p : List Byte := [4, 3, 0, 0];
      let x := s.berths[b];
      let nb := BitVec.ofNat 8 b.val;
      let s : State := { s with berths := s.berths.set (b) { s.berths[b] with id.fenced := true } };
      let s : State := { s with quays := s.quays.set (State.quayOf b) { s.quays[State.quayOf b] with up := true } };
      let s : State := { s with quays := s.quays.set (State.quayOf b) { s.quays[State.quayOf b] with hless := false } };
      let s : State := { s with quays := s.quays.set (State.quayOf b) { s.quays[State.quayOf b] with released := true } };
      let x := s.berths[b];
      let nb := BitVec.ofNat 8 b.val;
      decide ((s.starts o 0x0903 p = true) ∧ (b.val < s.berthsOn) ∧ (x.id.fenced = true) ∧ (s.quays[State.quayOf b].up = true) ∧ (s.quays[State.quayOf b].hless = false) ∧ (s.quays[State.quayOf b].released = true) ∧ (s.freeTug = none → p = [0, nb, 0, 0]))),
    (let s : State := at9 (fun s => { s with pilot.level := 2, brittle := { State.reset.brittle with shadow := Vector.replicate 256 0#32 }, tugs := (s.tugs.map (fun t => { t with fenced := true })), quays := s.quays.set 1 { s.quays[1] with fenced := false, hless := false, released := true, up := true } }) id;
      let b : BerthId := 9;
      let o : Origin := { path := .tunnel, tag := 1 };
      let p : List Byte := [4, 3, 0, 0];
      let x := s.berths[b];
      let nb := BitVec.ofNat 8 b.val;
      let s : State := { s with berths := s.berths.set (b) { s.berths[b] with id.fenced := true } };
      let s : State := { s with quays := s.quays.set (State.quayOf b) { s.quays[State.quayOf b] with up := true } };
      let s : State := { s with quays := s.quays.set (State.quayOf b) { s.quays[State.quayOf b] with hless := false } };
      let s : State := { s with quays := s.quays.set (State.quayOf b) { s.quays[State.quayOf b] with released := true } };
      let x := s.berths[b];
      let nb := BitVec.ofNat 8 b.val;
      decide ((s.starts o 0x0903 p = true) ∧ (b.val < s.berthsOn) ∧ (x.id.fenced = true) ∧ (s.quays[State.quayOf b].up = true) ∧ (s.quays[State.quayOf b].hless = false) ∧ (s.quays[State.quayOf b].released = true) ∧ (s.freeTug.isSome = true → p = [0, nb, 0, 0]))),
    (let s : State := at9 (fun s => { s with pilot.level := 2, brittle := { State.reset.brittle with shadow := Vector.replicate 256 0#32 }, tugs := (s.tugs.map (fun t => { t with fenced := true })), quays := s.quays.set 1 { s.quays[1] with fenced := false, hless := false, released := true, up := true } }) srcOn;
      let b : BerthId := 9;
      let o : Origin := { path := .tunnel, tag := 1 };
      let x := s.berths[b];
      let nb := BitVec.ofNat 8 b.val;
      let open_ := b.val < s.berthsOn ∧ s.isFenced b = false;
      let p : List Byte := [nb, 0xFF, 0, 0];
      decide ((s.starts o 0x0904 p = true) ∧ (open_) ∧ (s.isReleased b = true) ∧ (x.id.tug.isSome = true) ∧ (s.freeTug = none) ∧ (p = [nb, 0xFF, 0, 0]))),
    (let s : State := at9 id srcOn;
      let b : BerthId := 9;
      let o : Origin := { path := .tunnel, tag := 1 };
      let x := s.berths[b];
      let nb := BitVec.ofNat 8 b.val;
      let open_ := b.val < s.berthsOn ∧ s.isFenced b = false;
      let p : List Byte := [nb, 0xFF, 0, 0];
      decide ((s.starts o 0x0904 p = true) ∧ (open_) ∧ (s.isReleased b = true) ∧ (x.id.tug.isSome = true) ∧ (s.freeTug.isSome = true) ∧ (p = [nb, 0xFF, 0, 0]))),
    (let s : State := at9 id id;
      let o : Origin := { path := .tunnel, tag := 1 };
      let p : List Byte := [];
      decide ((s.starts o 0x0905 p = true) ∧ (p = []))),
    (let s : State := at9 id id;
      let b : BerthId := 9;
      let o : Origin := { path := .tunnel, tag := 1 };
      let open_ := b.val < s.berthsOn ∧ s.isFenced b = false;
      let p : List Byte := leBytes 4 (0x40000000 + 0x1000 * b.val) ++ [1, 0, 0, 0];
      decide ((s.starts o 0x0B01 p = true) ∧ (open_) ∧ (s.reaches b = true) ∧ (s.debugLevel < 2) ∧ (p = leBytes 4 (0x40000000 + 0x1000 * b.val) ++ [1, 0, 0, 0]))),
    (let s : State := at9 id id;
      let b : BerthId := 9;
      let o : Origin := { path := .tunnel, tag := 1 };
      let x := s.berths[b];
      let open_ := b.val < s.berthsOn ∧ s.isFenced b = false;
      let p : List Byte := leBytes 4 (0x4000021C + 0x1000 * b.val) ++ [1, 0, 0, 0];
      decide ((s.starts o 0x0B01 p = true) ∧ (open_) ∧ (s.reaches b = true) ∧ (x.mon.parked = false) ∧ (s.debugLevel < 2) ∧ (p = leBytes 4 (0x4000021C + 0x1000 * b.val) ++ [1, 0, 0, 0]))),
    (let s : State := at9 id id;
      let o : Origin := { path := .tunnel, tag := 1 };
      let p : List Byte := leBytes 4 0x280002 ++ [1, 0, 0, 0];
      decide ((s.starts o 0x0B01 p = true) ∧ (p = leBytes 4 0x280002 ++ [1, 0, 0, 0]))),
    (let s : State := at9 (fun s => { s with pilot.level := 2, brittle := { State.reset.brittle with shadow := State.reset.brittle.shadow.set 129 2#32 } }) id;
      let o : Origin := { path := .tunnel, tag := 1 };
      let p : List Byte := leBytes 4 0x280000 ++ [1, 0, 0, 0];
      decide ((s.starts o 0x0B01 p = true) ∧ (2 ≤ s.debugLevel) ∧ (p = leBytes 4 0x280000 ++ [1, 0, 0, 0]))),
    (let s : State := at9 id id;
      let o : Origin := { path := .tunnel, tag := 1 };
      let p : List Byte := leBytes 4 0x280000 ++ [1, 0, 0, 0, 5, 6, 7, 8];
      decide ((s.starts o 0x0B02 p = true) ∧ (s.debugLevel = 0) ∧ (p = leBytes 4 0x280000 ++ [1, 0, 0, 0, 5, 6, 7, 8]))),
    (let s : State := at9 id id;
      let o : Origin := { path := .tunnel, tag := 1 };
      let p : List Byte := leBytes 4 0x280002 ++ [1, 0, 0, 0, 5, 6, 7, 8];
      decide ((s.starts o 0x0B02 p = true) ∧ (p = leBytes 4 0x280002 ++ [1, 0, 0, 0, 5, 6, 7, 8]))),
    (let s : State := at9 (fun s => { s with pilot.level := 2, brittle := { State.reset.brittle with shadow := State.reset.brittle.shadow.set 129 1#32 }, tugs := s.tugs.set 3 { s.tugs[3] with berth := none } }) id;
      let o : Origin := { path := .tunnel, tag := 1 };
      let p : List Byte := leBytes 4 0x280000 ++ [1, 0, 0, 0, 5, 6, 7, 8];
      decide ((s.starts o 0x0B02 p = true) ∧ (1 ≤ s.debugLevel) ∧ (p = leBytes 4 0x280000 ++ [1, 0, 0, 0, 5, 6, 7, 8]))),
    (let s : State := at9 bound srcOn;
      let b : BerthId := 9;
      let o : Origin := { path := .tunnel, tag := 1 };
      let open_ := b.val < s.berthsOn ∧ s.isFenced b = false;
      let p : List Byte := leBytes 4 (0x40000020 + 0x1000 * b.val) ++ [1, 0, 0, 0, 5, 6, 7, 8];
      decide ((s.starts o 0x0B02 p = true) ∧ (open_) ∧ (s.reaches b = true) ∧ (s.hasTug b = true) ∧ (p = leBytes 4 (0x40000020 + 0x1000 * b.val) ++ [1, 0, 0, 0, 5, 6, 7, 8])))] id = true := by decide +kernel

/-- A state and operands that meet the premises of each clause of `Obligations.TwoWireTarget`. -/
theorem test_witness_TwoWireTarget : List.all [
    (let s : State := at9 id id;
      decide ((s.smb.on = false))),
    (let s : State := at9 id id;
      let on_ := s.smb.on = true;
      let s : State := { s with smb.on := true };
      let on_ := s.smb.on = true;
      decide ((on_))),
    (let s : State := at9 id id;
      let b : BerthId := 9;
      let sel := s.smb.on = true ∧ s.smb.select = BitVec.ofNat 8 b.val;
      let s : State := { s with smb.on := true };
      let s : State := { s with smb.select := BitVec.ofNat 8 b.val };
      let sel := s.smb.on = true ∧ s.smb.select = BitVec.ofNat 8 b.val;
      decide ((sel))),
    (let s : State := at9 id id;
      let b : BerthId := 9;
      let x := s.berths[b];
      let sel := s.smb.on = true ∧ s.smb.select = BitVec.ofNat 8 b.val;
      let s : State := { s with smb.on := true };
      let s : State := { s with smb.select := BitVec.ofNat 8 b.val };
      let s : State := { s with berths := s.berths.set (b) { s.berths[b] with id.contract := none } };
      let x := s.berths[b];
      let sel := s.smb.on = true ∧ s.smb.select = BitVec.ofNat 8 b.val;
      decide ((sel) ∧ (x.id.contract = none))),
    (let s : State := at9 (fun s => { s with smb := { s.smb with on := true, select := 0xFF, timing := 0x0186050F#32, rsps := [({ origin := { path := .tunnel, tag := 4 }, code := 0x101, payload := [1, 2] }, 0)], part := some (1, [1, 0]), bus := .receive false [true, false] }, phase := .boot }) id;
      let all_ := s.smb.on = true ∧ 48 ≤ s.smb.select.toNat;
      decide ((all_))),
    (let s : State := at9 id id;
      let v : Byte := 3;
      let on_ := s.smb.on = true;
      let plain := s.smb.timing.getLsbD 24 = false;
      let s : State := { s with smb.on := true };
      let on_ := s.smb.on = true;
      let plain := s.smb.timing.getLsbD 24 = false;
      decide ((on_) ∧ (plain) ∧ (v.toNat < s.berthsOn ∨ v = 0xFF))),
    (let s : State := at9 id id;
      let v : Byte := 3;
      let on_ := s.smb.on = true;
      let s : State := { s with smb.on := true };
      let on_ := s.smb.on = true;
      decide ((on_) ∧ (v.toNat < s.berthsOn ∨ v = 0xFF))),
    (let s : State := at9 id id;
      let v : Byte := 3;
      let pec : Byte := 3;
      let on_ := s.smb.on = true;
      let s : State := { s with smb.on := true };
      let on_ := s.smb.on = true;
      decide ((on_) ∧ (v.toNat < s.berthsOn ∨ v = 0xFF) ∧ (pec ≠ pecOf [s.addrW, 0x00, v]))),
    (let s : State := at9 (fun s => { s with smb := { s.smb with on := true, select := 0xFF, timing := 0x0186050F#32, rsps := [({ origin := { path := .tunnel, tag := 4 }, code := 0x101, payload := [1, 2] }, 0)], part := some (1, [1, 0]), bus := .receive false [true, false] }, phase := .boot }) id;
      let v : Byte := 3;
      let on_ := s.smb.on = true;
      decide ((on_) ∧ (s.smb.timing.getLsbD 24 = true) ∧ (v.toNat < s.berthsOn ∨ v = 0xFF))),
    (let s : State := at9 id id;
      let v : Byte := 200;
      let on_ := s.smb.on = true;
      let s : State := { s with smb.on := true };
      let on_ := s.smb.on = true;
      decide ((on_) ∧ (s.berthsOn ≤ v.toNat) ∧ (v ≠ 0xFF))),
    (let s : State := at9 id id;
      let on_ := s.smb.on = true;
      let plain := s.smb.timing.getLsbD 24 = false;
      let s : State := { s with smb.on := true };
      let on_ := s.smb.on = true;
      let plain := s.smb.timing.getLsbD 24 = false;
      decide ((on_) ∧ (plain) ∧ (s.smbBooted = true))),
    (let s : State := at9 (fun s => { s with smb := { s.smb with on := true, select := 0xFF, timing := 0x0186050F#32, rsps := [({ origin := { path := .tunnel, tag := 4 }, code := 0x101, payload := [1, 2] }, 0)], part := some (1, [1, 0]), bus := .receive false [true, false] }, phase := .boot }) id;
      let on_ := s.smb.on = true;
      decide ((on_) ∧ (s.smbBooted = false))),
    (let s : State := at9 id id;
      let w : Word := 0;
      let on_ := s.smb.on = true;
      let s : State := { s with smb.on := true };
      let on_ := s.smb.on = true;
      decide ((on_) ∧ (State.timingOk w = false))),
    (let s : State := at9 id id;
      let w : Word := 0x0086050F;
      let on_ := s.smb.on = true;
      let plain := s.smb.timing.getLsbD 24 = false;
      let s : State := { s with smb.on := true };
      let on_ := s.smb.on = true;
      let plain := s.smb.timing.getLsbD 24 = false;
      decide ((on_) ∧ (plain) ∧ (State.timingOk w = true))),
    (let s : State := at9 (fun s => { s with smb := { s.smb with on := true, select := 0xFF, timing := 0x0186050F#32, rsps := [({ origin := { path := .tunnel, tag := 4 }, code := 0x101, payload := [1, 2] }, 0)], part := some (1, [1, 0]), bus := .receive false [true, false] }, phase := .boot }) id;
      let on_ := s.smb.on = true;
      let won : Bool := true;
      decide ((on_) ∧ (s.alerting = true) ∧ (won = true))),
    (let s : State := at9 id id;
      let won : Bool := true;
      let on_ := s.smb.on = true;
      let s : State := { s with smb.on := true };
      let on_ := s.smb.on = true;
      decide ((on_) ∧ (s.alerting = false ∨ won = false))),
    (let s : State := at9 id id;
      let on_ := s.smb.on = true;
      let s : State := { s with smb.on := true };
      let s : State := { s with smb.bus := .idle };
      let on_ := s.smb.on = true;
      decide ((on_) ∧ (s.smb.bus = .idle))),
    (let s : State := at9 (fun s => { s with smb := { s.smb with on := true, select := 0xFF, timing := 0x0186050F#32, rsps := [({ origin := { path := .tunnel, tag := 4 }, code := 0x101, payload := [1, 2] }, 0)], part := some (1, [1, 0]), bus := .receive false [true, false] }, phase := .boot }) id;
      let on_ := s.smb.on = true;
      decide ((on_) ∧ (s.smb.bus ≠ .idle))),
    (let s : State := at9 id id;
      let on_ := s.smb.on = true;
      let plain := s.smb.timing.getLsbD 24 = false;
      let s : State := { s with smb.on := true };
      let s : State := { s with smb.part := none };
      let on_ := s.smb.on = true;
      let plain := s.smb.timing.getLsbD 24 = false;
      decide ((on_) ∧ (plain) ∧ (s.smbBooted = true) ∧ (s.smb.part = none))),
    (let s : State := at9 id id;
      decide ((s.freeTags ≠ 0) ∧ (s.tagUsed 7 = false) ∧ (s.tagsOn .tunnel < 8))),
    (let s : State := at9 id id;
      let on_ := s.smb.on = true;
      let s : State := { s with smb.on := true };
      let s : State := { s with smb.rsps := [] };
      let on_ := s.smb.on = true;
      decide ((on_) ∧ (s.smbBooted = true) ∧ (s.smb.rsps = []))),
    (let s : State := at9 id id;
      let r : Response := { origin := { path := .link .xla, tag := 7 }, code := 0x0101, payload := [1, 2] };
      let on_ := s.smb.on = true;
      let s : State := { s with smb.on := true };
      let s : State := { s with smb.rsps := [(r, 0)] };
      let on_ := s.smb.on = true;
      decide ((on_) ∧ (s.smbBooted = true) ∧ (s.smb.rsps = [(r, 0)]) ∧ (r.reject = false) ∧ (r.payload.length ≤ 246))),
    (let s : State := at9 id id;
      let r : Response := { origin := { path := .tunnel, tag := 4 }, code := 0x101, payload := List.replicate 300 1 };
      let on_ := s.smb.on = true;
      let s : State := { s with smb.on := true };
      let s : State := { s with smb.rsps := [(r, 0)] };
      let on_ := s.smb.on = true;
      decide ((on_) ∧ (s.smbBooted = true) ∧ (s.smb.rsps = [(r, 0)]) ∧ (246 < r.payload.length) ∧ (r.payload.length ≤ 512))),
    (let s : State := at9 id id;
      let on_ := s.smb.on = true;
      let s : State := { s with smb.on := true };
      let on_ := s.smb.on = true;
      decide ((on_) ∧ (s.smbBooted = true)))] id = true := by decide +kernel

/-- A state and operands that meet the premises of each clause of `Obligations.PilotSessions`. -/
theorem test_witness_PilotSessions : List.all [
    (let s : State := at9 id id;
      decide ((s.pilot.on = false))),
    (let s : State := at9 id id;
      let on_ := s.pilot.on = true;
      let s : State := { s with pilot.on := true };
      let on_ := s.pilot.on = true;
      decide ((on_))),
    (let s : State := at9 id id;
      let c := s.pilot;
      let s : State := { s with pilot.revert := true };
      let c := s.pilot;
      decide ((c.revert = true))),
    (let s : State := at9 id id;
      let c := s.pilot;
      decide ((c.revert = false))),
    (let s : State := at9 id id;
      let on_ := s.pilot.on = true;
      let rate : Nat := 115200;
      let s : State := { s with pilot.on := true };
      let on_ := s.pilot.on = true;
      decide ((on_) ∧ (rate = 115200 ∨ rate = 921600 ∨ rate = 3000000))),
    (let s : State := at9 id id;
      let rate : Nat := 0;
      let on_ := s.pilot.on = true;
      let s : State := { s with pilot.on := true };
      let on_ := s.pilot.on = true;
      decide ((on_) ∧ ([115200, 230400, 460800, 921600, 1500000, 3000000].contains rate = false))),
    (let s : State := at9 id id;
      let on_ := s.pilot.on = true;
      let c := s.pilot;
      let s : State := { s with pilot.on := true };
      let s : State := { s with pilot.blocked := true };
      let on_ := s.pilot.on = true;
      let c := s.pilot;
      decide ((on_) ∧ (c.blocked = true ∨ s.pilotCap < 1))),
    (let s : State := at9 id id;
      let on_ := s.pilot.on = true;
      let c := s.pilot;
      let s : State := { s with pilot.on := true };
      let s : State := { s with pilot.blocked := true };
      let on_ := s.pilot.on = true;
      let c := s.pilot;
      decide ((on_) ∧ (c.blocked = true ∨ s.pilotCap < 2))),
    (let s : State := at9 id id;
      let on_ := s.pilot.on = true;
      let c := s.pilot;
      let code : Word := s.unlockCode;
      let s : State := { s with pilot.on := true };
      let s : State := { s with pilot.blocked := false };
      let on_ := s.pilot.on = true;
      let c := s.pilot;
      decide ((on_) ∧ (c.blocked = false) ∧ (1 ≤ s.pilotCap) ∧ (code = s.unlockCode))),
    (let s : State := at9 id id;
      let code : Word := 0;
      let on_ := s.pilot.on = true;
      let c := s.pilot;
      let s : State := { s with pilot.on := true };
      let s : State := { s with pilot.blocked := false };
      let on_ := s.pilot.on = true;
      let c := s.pilot;
      decide ((on_) ∧ (c.blocked = false) ∧ (1 ≤ s.pilotCap) ∧ (code ≠ s.unlockCode))),
    (let s : State := at9 (fun s => { s with pilot := { s.pilot with on := true, blocked := false, level := 0, fails := 0 }, retained := { s.retained with backup := s.retained.backup.set 8 5#32 }, brittle := { State.reset.brittle with shadow := State.reset.brittle.shadow.set 129 0#32 } }) id;
      decide ((s.retained.backup[8] ≠ 0))),
    (let s : State := at9 id id;
      decide ((s.retained.backup[8] = 0))),
    (let s : State := at9 id id;
      let on_ := s.pilot.on = true;
      let c := s.pilot;
      let code : Word := s.respondCode 77#32;
      let s : State := { s with pilot.on := true };
      let s : State := { s with pilot.blocked := false };
      let s : State := { s with pilot.challenge := some 77#32 };
      let on_ := s.pilot.on = true;
      let c := s.pilot;
      decide ((on_) ∧ (c.blocked = false) ∧ (2 ≤ s.pilotCap) ∧ (c.challenge = some 77#32) ∧ (code = s.respondCode 77#32))),
    (let s : State := at9 id id;
      let code : Word := 0;
      let on_ := s.pilot.on = true;
      let c := s.pilot;
      let s : State := { s with pilot.on := true };
      let s : State := { s with pilot.blocked := false };
      let s : State := { s with pilot.challenge := none };
      let on_ := s.pilot.on = true;
      let c := s.pilot;
      decide ((on_) ∧ (c.blocked = false) ∧ (2 ≤ s.pilotCap) ∧ (c.challenge = none ∨ (c.challenge = some 77#32 ∧ code ≠ s.respondCode 77#32)))),
    (let s : State := at9 id id;
      let on_ := s.pilot.on = true;
      let s : State := { s with pilot.on := true };
      let on_ := s.pilot.on = true;
      decide ((on_) ∧ (s.tagsOn .pilot ≤ 3))),
    (let s : State := at9 id id;
      let y : PilotOut := .banner;
      let c := s.pilot;
      decide ((c.lost = 0) ∧ (c.wait = []) ∧ (c.fits y = true) ∧ (y.isMark = false))),
    (let s : State := at9 (fun s => { s with pilot := { s.pilot with on := true, made := 16380 } }) id;
      let y : PilotOut := .banner;
      let c := s.pilot;
      decide ((c.lost = 0) ∧ (c.wait = []) ∧ (c.fits y = false))),
    (let s : State := at9 (fun s => { s with pilot := { s.pilot with on := true, wait := [.ok] } }) id;
      let c := s.pilot;
      decide ((c.lost = 0) ∧ (c.wait ≠ []))),
    (let s : State := at9 (fun s => { s with pilot := { s.pilot with on := true, made := 16380, lost := 3 } }) id;
      let c := s.pilot;
      decide ((c.lost ≠ 0) ∧ (c.fits (.lost c.lost) = false)))] id = true := by decide +kernel

/-- A state and operands that meet the premises of each clause of `Obligations.PilotCommands`. -/
theorem test_witness_PilotCommands : List.all [
    (let s : State := at9 id id;
      let c := s.pilot;
      let s : State := { s with pilot.on := true };
      let s : State := { s with pilot.level := 0 };
      let c := s.pilot;
      decide ((c.on = true) ∧ (c.level = 0))),
    (let s : State := at9 id id;
      let c := s.pilot;
      let s : State := { s with pilot.on := true };
      let c := s.pilot;
      decide ((c.on = true) ∧ (c.level ≤ 1))),
    (let s : State := at9 (fun s => { s with pilot := { s.pilot with on := true, level := 1 }, tags := [], brittle := { State.reset.brittle with shadow := State.reset.brittle.shadow.set 129 0#32 } }) id;
      let c := s.pilot;
      let at1 := c.on = true ∧ 1 ≤ c.level;
      decide ((at1))),
    (let s : State := at9 (fun s => { s with pilot := { s.pilot with on := true, level := 1 }, tags := [], brittle := { State.reset.brittle with shadow := State.reset.brittle.shadow.set 129 0#32 } }) id;
      let c := s.pilot;
      let at1 := c.on = true ∧ 1 ≤ c.level;
      decide ((at1) ∧ (s.debugLevel < 2))),
    (let s : State := at9 (fun s => { s with pilot := { s.pilot with on := true, level := 1 }, brittle := { s.brittle with shadow := s.brittle.shadow.set 129 2 } }) id;
      let c := s.pilot;
      let at1 := c.on = true ∧ 1 ≤ c.level;
      decide ((at1) ∧ (2 ≤ s.debugLevel))),
    (let s : State := at9 (fun s => { s with pilot := { s.pilot with on := true, level := 1 }, tags := [], brittle := { State.reset.brittle with shadow := State.reset.brittle.shadow.set 129 0#32 } }) id;
      let b : BerthId := 9;
      let c := s.pilot;
      let at1 := c.on = true ∧ 1 ≤ c.level;
      decide ((at1) ∧ (b.val < s.berthsOn) ∧ (s.isFenced b = false) ∧ (s.reaches b = true) ∧ (s.debugLevel < 2))),
    (let s : State := at9 (fun s => { s with pilot := { s.pilot with on := true, level := 2 }, tags := [], brittle := { State.reset.brittle with shadow := State.reset.brittle.shadow.set 129 0#32 }, tele := s.tele.set 9 { s.tele[9] with frozen := some { first := 4000, stop := 4003, from_ := 6000, slot := 7 } } }) id;
      let b : BerthId := 9;
      let c := s.pilot;
      let at2 := c.on = true ∧ 2 ≤ c.level;
      let s : State := { s with pilot.on := true };
      let s : State := { s with tele := s.tele.set (b) { s.tele[b] with frozen := none } };
      let c := s.pilot;
      let at2 := c.on = true ∧ 2 ≤ c.level;
      decide ((at2) ∧ (b.val < s.berthsOn) ∧ (s.tele[b].frozen = none))),
    (let s : State := at9 (fun s => { s with pilot := { s.pilot with on := true, level := 2 }, tags := [], brittle := { State.reset.brittle with shadow := State.reset.brittle.shadow.set 129 0#32 }, tele := s.tele.set 9 { s.tele[9] with frozen := some { first := 4000, stop := 4003, from_ := 6000, slot := 7 } } }) id;
      let b : BerthId := 9;
      let f : CapFrozen := { first := 4000, stop := 4003, from_ := 6000, slot := 7 };
      let c := s.pilot;
      let at2 := c.on = true ∧ 2 ≤ c.level;
      decide ((at2) ∧ (b.val < s.berthsOn) ∧ (s.tele[b].frozen = some f) ∧ (f.size ≤ 3))),
    (let s : State := at9 (fun s => { s with pilot := { s.pilot with on := true, level := 1 }, tags := [], brittle := { State.reset.brittle with shadow := State.reset.brittle.shadow.set 129 0#32 } }) id;
      let c := s.pilot;
      let at1 := c.on = true ∧ 1 ≤ c.level;
      let room := s.tagsOn .pilot < 4;
      decide ((at1) ∧ (room))),
    (let s : State := at9 (fun s => { s with pilot := { s.pilot with on := true, level := 2 }, tags := [], brittle := { State.reset.brittle with shadow := State.reset.brittle.shadow.set 129 0#32 }, tele := s.tele.set 9 { s.tele[9] with frozen := some { first := 4000, stop := 4003, from_ := 6000, slot := 7 } } }) id;
      let c := s.pilot;
      let at2 := c.on = true ∧ 2 ≤ c.level;
      let room := s.tagsOn .pilot < 4;
      decide ((at2) ∧ (room))),
    (let s : State := at9 (fun s => { s with pilot := { s.pilot with on := true, level := 2 }, tags := [], brittle := { State.reset.brittle with shadow := State.reset.brittle.shadow.set 129 0#32 }, tele := s.tele.set 9 { s.tele[9] with frozen := some { first := 4000, stop := 4003, from_ := 6000, slot := 7 } } }) id;
      let c := s.pilot;
      let at2 := c.on = true ∧ 2 ≤ c.level;
      decide ((at2))),
    (let s : State := at9 (fun s => { s with pilot := { s.pilot with on := true, level := 2 }, tags := [0, 1, 2, 3].map (fun (i : Nat) => ({ origin := { path := .pilot, tag := i }, code := 0x101, fence := false, order := 1, payload := none, at_ := 5, level := 1 } : TagEntry)), tele := s.tele.set 9 { s.tele[9] with frozen := none } }) id;
      let c := s.pilot;
      let at1 := c.on = true ∧ 1 ≤ c.level;
      decide ((at1) ∧ (s.tagsOn .pilot = 4))),
    (let s : State := at9 id id;
      let c := s.pilot;
      let room := s.tagsOn .pilot < 4;
      let s : State := { s with pilot.on := true };
      let c := s.pilot;
      let room := s.tagsOn .pilot < 4;
      decide ((c.on = true) ∧ (room)))] id = true := by decide +kernel

end Sys2Proof.Tests
end

/-!
SUPPORT. Bit fields: what `fld` reads after `setFld`, `clampFld`, `bitOn` and a mask of low bits.
-/

namespace Sys2Proof.Machine

/-! ### Bit fields -/

/-- A field's bits are the word's. -/
theorem testBit_fld {n : Nat} (w : BitVec n) (lo len i : Nat) :
    (fld w lo len).testBit i = (decide (i < len) && w.getLsbD (lo + i)) := by
  rw [fld, Nat.testBit_mod_two_pow, Nat.testBit_shiftRight, BitVec.testBit_toNat]

theorem fld_lt {n : Nat} (w : BitVec n) (lo len : Nat) : fld w lo len < 2 ^ len := Nat.mod_lt _ (Nat.two_pow_pos len)

/-- Two words agree in a field where they agree in its bits. -/
theorem fld_congr {n m : Nat} {w : BitVec n} {u : BitVec m} {lo lo' len : Nat}
    (h : ∀ i < len, w.getLsbD (lo + i) = u.getLsbD (lo' + i)) : fld w lo len = fld u lo' len := by
  refine Nat.eq_of_testBit_eq fun i => ?_
  rw [testBit_fld, testBit_fld]
  by_cases hi : i < len
  · rw [h i hi]
  · simp [hi]

/-- The bits of a word after a field of it is replaced. -/
theorem getLsbD_setFld (w : Word) {lo len : Nat} (v i : Nat) (h : lo + len ≤ 32) :
    (setFld w lo len v).getLsbD i = if lo ≤ i ∧ i < lo + len then v.testBit (i - lo) else w.getLsbD i := by
  by_cases hi : i < 32
  · rw [setFld, BitVec.getLsbD_or, BitVec.getLsbD_and, BitVec.getLsbD_not, BitVec.getLsbD_ofNat, BitVec.getLsbD_ofNat,
      Nat.testBit_shiftLeft, Nat.testBit_shiftLeft, Nat.testBit_two_pow_sub_one, Nat.testBit_mod_two_pow]
    by_cases hl : lo ≤ i
    · by_cases hu : i - lo < len
      · rw [if_pos (by omega)]; simp [hi, hl, hu]
      · rw [if_neg (by omega)]; simp [hi, hu]
    · rw [if_neg (by omega)]; simp [hi, hl]
  · rw [BitVec.getLsbD_of_ge _ _ (by omega), BitVec.getLsbD_of_ge _ _ (by omega), if_neg (by omega)]

/-- A field replaced reads back. -/
theorem fld_setFld_self (w : Word) {lo len : Nat} (v : Nat) (h : lo + len ≤ 32) : fld (setFld w lo len v) lo len = v % 2 ^ len := by
  refine Nat.eq_of_testBit_eq fun i => ?_
  rw [testBit_fld, getLsbD_setFld w v _ h, Nat.testBit_mod_two_pow]
  by_cases hi : i < len <;> simp [hi]

/-- A field disjoint from the one replaced reads as before. -/
theorem fld_setFld_other (w : Word) {lo len lo' len' : Nat} (v : Nat) (h : lo + len ≤ 32) (d : lo' + len' ≤ lo ∨ lo + len ≤ lo') :
    fld (setFld w lo len v) lo' len' = fld w lo' len' :=
  fld_congr fun i hi => by rw [getLsbD_setFld w v _ h, if_neg (by omega)]

/-- A number within the range stands, any other comes to its nearer end. -/
theorem clampTo_mem {lo hi : Nat} (v : Nat) (h : lo ≤ hi) : lo ≤ clampTo lo hi v ∧ clampTo lo hi v ≤ hi := by
  unfold clampTo
  split
  · exact ⟨le_refl _, h⟩
  · split <;> omega

/-- A clamped field is at least the lower end of its range. -/
theorem le_fld_clampFld (w : Word) {lo len mn mx : Nat} (h : lo + len ≤ 32) (o : mn ≤ mx) (l : mx < 2 ^ len) :
    mn ≤ fld (clampFld w lo len mn mx) lo len := by
  have hc := clampTo_mem (fld w lo len) o
  rw [clampFld, fld_setFld_self w _ h, Nat.mod_eq_of_lt (by omega)]
  exact hc.1

/-- A clamped field is at most the upper end of its range. -/
theorem fld_clampFld_le (w : Word) {lo len mn mx : Nat} (h : lo + len ≤ 32) (o : mn ≤ mx) :
    fld (clampFld w lo len mn mx) lo len ≤ mx := by
  rw [clampFld, fld_setFld_self w _ h]
  exact (Nat.mod_le _ _).trans (clampTo_mem _ o).2

/-- A field disjoint from the one clamped reads as before. -/
theorem fld_clampFld_other (w : Word) {lo len lo' len' mn mx : Nat} (h : lo + len ≤ 32) (d : lo' + len' ≤ lo ∨ lo + len ≤ lo') :
    fld (clampFld w lo len mn mx) lo' len' = fld w lo' len' := fld_setFld_other w _ h d

theorem getLsbD_of_lowMask {m : Word} {k : Nat} (hm : m.toNat = 2 ^ k - 1) (i : Nat) : m.getLsbD i = decide (i < k) := by
  rw [← BitVec.testBit_toNat, hm, Nat.testBit_two_pow_sub_one]

/-- A mask of the low `k` bits leaves the fields below bit `k`. -/
theorem fld_lowMask {m : Word} {k : Nat} (hm : m.toNat = 2 ^ k - 1) (v : Word) {lo len : Nat} (h : lo + len ≤ k) :
    fld (v &&& m) lo len = fld v lo len :=
  fld_congr fun i hi => by rw [BitVec.getLsbD_and, getLsbD_of_lowMask hm, decide_eq_true (by omega), Bool.and_true]

/-- A mask of the low `k` bits clears the fields from bit `k` on. -/
theorem fld_lowMask_above {m : Word} {k : Nat} (hm : m.toNat = 2 ^ k - 1) (v : Word) {lo len : Nat} (h : k ≤ lo) :
    fld (v &&& m) lo len = 0 := by
  refine Nat.eq_of_testBit_eq fun i => ?_
  rw [testBit_fld, BitVec.getLsbD_and, getLsbD_of_lowMask hm, decide_eq_false (show ¬ lo + i < k by omega)]
  simp

theorem getLsbD_bitOn_self (w : Word) {i : Nat} (h : i < 32) : (bitOn w i).getLsbD i = true := by
  rw [bitOn, BitVec.getLsbD_or, BitVec.getLsbD_ofNat, Nat.testBit_two_pow_self]
  simp [h]

namespace Berth

/-! ### Registers that ignore the reserved code 11 (R15) -/

/-- A two-bit field takes the value written, or keeps the old one where the reserved code was written. -/
theorem fld_keepCode3_self (old v : Word) {lo : Nat} (h : lo + 2 ≤ 32) :
    fld (keepCode3 old v lo) lo 2 = if fld v lo 2 = 3 then fld old lo 2 else fld v lo 2 := by
  unfold keepCode3
  split
  · rw [fld_setFld_self v _ h, Nat.mod_eq_of_lt (fld_lt old lo 2)]
  · rfl

theorem getLsbD_keepCode3_other (old v : Word) {lo i : Nat} (h : lo + 2 ≤ 32) (d : i < lo ∨ lo + 2 ≤ i) :
    (keepCode3 old v lo).getLsbD i = v.getLsbD i := by
  unfold keepCode3
  split
  · rw [getLsbD_setFld v _ _ h, if_neg (by omega)]
  · rfl

theorem fld_keepCode3_other (old v : Word) {lo lo' len' : Nat} (h : lo + 2 ≤ 32) (d : lo' + len' ≤ lo ∨ lo + 2 ≤ lo') :
    fld (keepCode3 old v lo) lo' len' = fld v lo' len' :=
  fld_congr fun i hi => getLsbD_keepCode3_other old v h (by omega)

/-! ### The writes of the CC registers -/

/-- What a write of CC_CFG holds (R50, Table 2.7). -/
def ccCfgHeld (x : Berth) (v : Word) : Word :=
  let old := x.cc.heldCfg.getD x.cc.cfg
  keepCode3 old (keepCode3 old (keepCode3 old (v &&& 0x7F#32) 0) 2) 4

theorem ccCfgWrite_eq (x : Berth) (v : Word) : x.ccCfgWrite v = { x with cc.heldCfg := some (x.ccCfgHeld v) } := rfl

/-- Bit 6 of CC_CFG is held as written. -/
theorem ccCfgHeld_bit6 (x : Berth) (v : Word) : (x.ccCfgHeld v).getLsbD 6 = v.getLsbD 6 := by
  simp (disch := decide) only [ccCfgHeld, getLsbD_keepCode3_other]
  simp

/-- The reserved bits of CC_CFG are held as 0. -/
theorem ccCfgHeld_reserved (x : Berth) (v : Word) : fld (x.ccCfgHeld v) 7 25 = 0 := by
  simp [ccCfgHeld, fld_keepCode3_other, fld_lowMask_above (k := 7) (m := 0x7F#32) rfl]

/-- A code of CC_CFG that is not reserved is held as written. -/
theorem ccCfgHeld_code (x : Berth) (v : Word) {lo : Nat} (hlo : lo = 0 ∨ lo = 2 ∨ lo = 4) (h : fld v lo 2 ≠ 3) :
    fld (x.ccCfgHeld v) lo 2 = fld v lo 2 := by
  rcases hlo with rfl | rfl | rfl <;>
    simp [ccCfgHeld, fld_keepCode3_self, fld_keepCode3_other, fld_lowMask (k := 7) (m := 0x7F#32) rfl, h]

/-- An event bit of CC_EVT that is set unless a condition holds changes the event register alone. -/
theorem ite_ccEvt (c : Prop) [Decidable c] (x : Berth) (i : Nat) :
    (if c then x else x.ccEvt i) = { x with cc.evt := if c then x.cc.evt else bitOn x.cc.evt i } := by
  by_cases h : c
  · rw [if_pos h, if_pos h]
  · rw [if_neg h, if_neg h]; rfl

/-- What a write of CC_TIME_i holds (R56, R57). -/
def ccTimeHeld (i : Fin 3) (v : Word) : Word := if i = 0 then insClamp (ccTimeClamp i v) else ccTimeClamp i v

/-- CC_EVT after a write of CC_TIME_i: CFG_CLAMP is set where the value was changed (R56). -/
def ccTimeEvt (x : Berth) (i : Fin 3) (v : Word) : Word :=
  if ccTimeHeld i v = (if i = 2 then v &&& 0xFFFF#32 else v) then x.cc.evt else bitOn x.cc.evt 7

/-- The value `r` held for CC_TIME_i. -/
def holdCcTime (x : Berth) (i : Fin 3) (r : Word) : Berth := match i with
  | 0 => { x with cc.heldTime0 := some r }
  | 1 => { x with cc.heldTime1 := some r }
  | 2 => { x with cc.heldTime2 := some r }

/-- A write of CC_TIME_i holds its clamped value and sets CFG_CLAMP, and nothing else. -/
theorem ccTimeWrite_eq (x : Berth) (i : Fin 3) (v : Word) :
    x.ccTimeWrite i v = { x with cc.evt := x.ccTimeEvt i v }.holdCcTime i (ccTimeHeld i v) := by
  rw [ccTimeEvt, ← ite_ccEvt]
  match i with
  | 0 => rfl
  | 1 => rfl
  | 2 => rfl

theorem ccTimeEvt_clamped (x : Berth) (i : Fin 3) (v : Word) (h : ccTimeHeld i v ≠ (if i = 2 then v &&& 0xFFFF#32 else v)) :
    (x.ccTimeEvt i v).getLsbD 7 = true := by
  rw [ccTimeEvt, if_neg h]
  exact getLsbD_bitOn_self _ (by decide)

/-- R57: after the reduction of TINS the sum is at most 250 ms. -/
theorem insClamp_sum (v : Word) (h : fld v 0 8 ≤ 250) :
    fld (insClamp v) 0 8 + fld (insClamp v) 16 8 ≤ 250 := by
  unfold insClamp
  split
  · rw [fld_setFld_other v _ (by decide) (by decide), fld_setFld_self v _ (by decide)]
    omega
  · omega

/-- The reduction of TINS leaves the other fields. -/
theorem fld_insClamp_other (v : Word) {lo len : Nat} (d : lo + len ≤ 16 ∨ 24 ≤ lo) : fld (insClamp v) lo len = fld v lo len := by
  unfold insClamp
  split
  · exact fld_setFld_other v _ (by decide) (by omega)
  · rfl

/-- The ranges of CC_TIME_i (R56, R57, Tables 2.8 to 2.10). -/
def CcTimeInRange (i : Fin 3) (r : Word) : Prop :=
  (i = 0 → 100 ≤ fld r 0 8 ∧ fld r 0 8 ≤ 200 ∧ 10 ≤ fld r 8 8 ∧ fld r 8 8 ≤ 20 ∧ fld r 0 8 + fld r 16 8 ≤ 250 ∧ 25 ≤ fld r 24 8 ∧ fld r 24 8 ≤ 100) ∧
  (i = 1 → 50 ≤ fld r 0 8 ∧ fld r 0 8 ≤ 100 ∧ 30 ≤ fld r 8 8 ∧ fld r 8 8 ≤ 70 ∧ 75 ≤ fld r 16 8 ∧ fld r 16 8 ≤ 150 ∧ 10 ≤ fld r 24 8 ∧ fld r 24 8 ≤ 20) ∧
  (i = 2 → 40 ≤ fld r 0 8 ∧ fld r 0 8 ≤ 80 ∧ 55 ≤ fld r 8 8 ∧ fld r 8 8 ≤ 110 ∧ fld r 16 16 = 0)

/-- Whatever is written to CC_TIME_i, the value held is in range. -/
theorem ccTimeHeld_inRange (i : Fin 3) (v : Word) : CcTimeInRange i (ccTimeHeld i v) := by
  match i with
  | 0 =>
    have hdeb : fld (ccTimeClamp 0 v) 0 8 ≤ 250 := by
      have : fld (ccTimeClamp 0 v) 0 8 ≤ 200 := by
        simp (disch := decide) only [ccTimeClamp, fld_clampFld_other, fld_clampFld_le]
      omega
    have hsum := insClamp_sum (ccTimeClamp 0 v) hdeb
    refine ⟨fun _ => ?_, nofun, nofun⟩
    simp (disch := decide) only [ccTimeHeld, if_true, ccTimeClamp, fld_insClamp_other, fld_clampFld_other, le_fld_clampFld,
      fld_clampFld_le, true_and, and_true] at hsum ⊢
    exact hsum
  | 1 =>
    refine ⟨nofun, fun _ => ?_, nofun⟩
    rw [ccTimeHeld, if_neg (by decide)]
    simp (disch := decide) only [ccTimeClamp, fld_clampFld_other, le_fld_clampFld, fld_clampFld_le, and_self]
  | 2 =>
    refine ⟨nofun, nofun, fun _ => ?_⟩
    rw [ccTimeHeld, if_neg (by decide)]
    simp (disch := decide) only [ccTimeClamp, fld_clampFld_other, le_fld_clampFld, fld_clampFld_le, true_and]
    exact fld_lowMask_above (k := 16) rfl v (le_refl _)

/-- What a write of VCONN_CFG queues (R61, Table 2.16). -/
def vconnCfgClamp (v : Word) : Word := clampFld (clampFld (v &&& 0xFFF#32) 0 8 25 150) 8 4 1 15

theorem vconnCfgClamp_range (v : Word) :
    25 ≤ fld (vconnCfgClamp v) 0 8 ∧ fld (vconnCfgClamp v) 0 8 ≤ 150 ∧ 1 ≤ fld (vconnCfgClamp v) 8 4 ∧ fld (vconnCfgClamp v) 12 20 = 0 := by
  simp (disch := decide) only [vconnCfgClamp, fld_clampFld_other, le_fld_clampFld, fld_clampFld_le, true_and]
  exact fld_lowMask_above (k := 12) rfl v (le_refl _)

/-- A write of VCONN_CFG queues its clamped value; besides, only CFG_CLAMP can change. -/
theorem vconnCfgWrite_eq (x : Berth) (v : Word) :
    x.vconnCfgWrite v = { x with
      cc.evt := if vconnCfgClamp v = v &&& 0xFFF#32 then x.cc.evt else bitOn x.cc.evt 7
      id.pend := x.id.pend ++ [.vconnCfg (vconnCfgClamp v)] } :=
  congrArg (fun (y : Berth) => y.addPend (.vconnCfg (vconnCfgClamp v))) (ite_ccEvt (vconnCfgClamp v = v &&& 0xFFF#32) x 7)

/-- A level of CC_RP written while there is no contract is staged, and one below the level in force waits for the boundary (R51). -/
theorem ccRpWrite_noContract (x : Berth) (v : Word) (h : fld v 0 2 ≠ 3) (hc : x.id.contract = none) :
    x.ccRpWrite v = { x with
      cc.rp := BitVec.ofNat 2 (fld v 0 2), stg.ccRp := BitVec.ofNat 2 (fld v 0 2)
      cc.heldRp := if fld v 0 2 < x.cc.rpLevel.toNat then some (BitVec.ofNat 2 (fld v 0 2)) else x.cc.heldRp
      id.pend := if fld v 0 2 < x.cc.rpLevel.toNat then x.id.pend ++ [.rpLower] else x.id.pend } := by
  have hn : (BitVec.ofNat 2 (fld v 0 2)).toNat = fld v 0 2 := by
    rw [BitVec.toNat_ofNat, Nat.mod_eq_of_lt (fld_lt v 0 2)]
  have h3 : BitVec.ofNat 2 (fld v 0 2) ≠ 3#2 := fun e => h (by rw [← hn, e]; rfl)
  have hs : x.id.contract.isSome = false := by rw [hc]; rfl
  unfold ccRpWrite
  by_cases hl : fld v 0 2 < x.cc.rpLevel.toNat
  · simp [h3, hs, hn, hl, addPend]
  · simp [h3, hs, hn, hl]

theorem ccRpWrite_reserved (x : Berth) (v : Word) (h : fld v 0 2 = 3) : x.ccRpWrite v = x := by
  rw [ccRpWrite, h]; rfl

end Berth

/-! ### Discarded commits -/

/-- The counters of a block after one of them is counted up. -/
theorem bump_counters {n : Nat} (base : Nat) (cnt : Vector Word n) (ovf : Word) (i : Fin n) :
    (bump base cnt ovf i).1 = cnt.set i (satInc cnt[i]).1 := by
  unfold bump
  split <;> next h => rw [h]

namespace Berth

/-- A discarded commit counts CNT_COMMIT_DISCARDED; besides, only its OVF bit and the event of saturation can come. -/
theorem discardOne_eq (x : Berth) :
    x.discardOne = { x with
      id.cntDiscarded := (satInc x.id.cntDiscarded).1, id.idOvf := x.discardOne.id.idOvf, evOut := x.discardOne.evOut } := by
  unfold discardOne cntId
  simp only [bump_counters]
  rfl

end Berth

namespace State

/-! ### The shape of a step of one berth -/

/-- A command that changes one berth in its surroundings answers a step of that berth. -/
theorem berthStep_of_atBerth {s : State} {c : Instr} {b : BerthId} {f : Env → Berth → Berth} {p : Berth → Prop}
    (e : exec c s = .next (s.atBerth b f)) (h : p (f (s.env b) s.berths[b]).settled) : s.BerthStep c b p :=
  ⟨_, _, e.trans (congrArg _ (atBerth_eq s b f)), h⟩

theorem reaches_of_hears {s : State} {b : BerthId} (h : s.Hears b) : s.reaches b = true := by
  rw [reaches, h.1, h.2]; rfl

/-- Where writes reach the quay, a write of the CC block is a step of its berth. -/
theorem berthStep_of_ccWrite {s : State} {c : Instr} {b : BerthId} {f : Berth → Berth} {p : Berth → Prop} (h : s.Hears b)
    (e : exec c s = .next (s.ccWrite b f)) (hp : p (f s.berths[b]).settled) : s.BerthStep c b p := by
  rw [ccWrite, if_pos (reaches_of_hears h)] at e
  exact berthStep_of_atBerth e hp

/-- Where writes do not reach the quay, a write of the CC block changes nothing (log entry 52). -/
theorem stands_of_ccWrite {s : State} {c : Instr} {b : BerthId} {f : Berth → Berth} (h : s.reaches b = false)
    (e : exec c s = .next (s.ccWrite b f)) : s.Stands c := by
  rw [ccWrite, if_neg (by simp [h])] at e
  exact e

end State

/-! ### The parts of the state after power-on reset -/

namespace State

theorem reset_berth (b : BerthId) : State.reset.berths[b] = Berth.reset := Vector.getElem_replicate b.isLt
theorem reset_quay (q : QuayId) : State.reset.quays[q] = {} := Vector.getElem_replicate q.isLt
theorem reset_tug (t : TugId) : State.reset.tugs[t] = {} := Vector.getElem_replicate t.isLt
theorem reset_link (l : Fin 2) : State.reset.links[l] = {} := Vector.getElem_replicate l.isLt

end State

end Sys2Proof.Machine

/-!
SUPPORT. The statements of scope (00_scope.md): the writes of the CC registers, the state after power-on reset.
-/

namespace Sys2Proof.Proofs

open Sys2Proof Sys2Proof.Machine Sys2Proof.Machine.State Sys2Proof.Machine.Berth

/-- What a write of CC_TIME_i leaves, in the words of the statement: the held value of register `i`, in range, CFG_CLAMP
where it differs from the one written, and the registers in force. -/
theorem ccTimeWrite_holds (x : Berth) (i : Fin 3) (v : Word) :
    let y := (x.ccTimeWrite i v).settled
    [y.cc.heldTime0, y.cc.heldTime1, y.cc.heldTime2].getD i none = some (ccTimeHeld i v) ∧ y.cc.evt = x.ccTimeEvt i v ∧
      y = { x.settled with cc := y.cc } ∧ y.cc.cfg = x.cc.cfg ∧ y.cc.time0 = x.cc.time0 ∧ y.cc.time1 = x.cc.time1 ∧
      y.cc.time2 = x.cc.time2 ∧ y.cc.state = x.cc.state := by
  rw [ccTimeWrite_eq]
  match i with
  | 0 => exact ⟨rfl, rfl, rfl, rfl, rfl, rfl, rfl, rfl⟩
  | 1 => exact ⟨rfl, rfl, rfl, rfl, rfl, rfl, rfl, rfl⟩
  | 2 => exact ⟨rfl, rfl, rfl, rfl, rfl, rfl, rfl, rfl⟩

/-- A discarded commit is counted, and no change joins those of the next boundary. -/
theorem discardOne_counted (x : Berth) :
    let y := x.discardOne.settled
    y.id.cntDiscarded = (satInc x.id.cntDiscarded).1 ∧ y.id.pend = x.id.pend ∧ y = { x.settled with id := y.id, evOut := y.evOut } := by
  rw [discardOne_eq]
  exact ⟨rfl, rfl, rfl⟩

theorem swapToRdCmd_inPhase (x : Berth) (hp : x.mux.phase = .prSrcOff) (hl : x.lat.ccStatus.getLsbD 22 = true) :
    x.swapToRdCmd = x.addPend .swapToRd := by
  rw [swapToRdCmd, if_pos (by rw [hp, hl]; rfl)]

theorem swapToRdCmd_outside (x : Berth) (h : x.mux.phase ≠ .prSrcOff ∨ x.lat.ccStatus.getLsbD 22 = false) :
    x.swapToRdCmd = x.discardOne := by
  rw [swapToRdCmd, if_neg]
  rcases h with h | h
  · simp [h]
  · rw [h, Bool.and_false]
    exact Bool.false_ne_true

theorem swapToRpCmd_inPhase (x : Berth) (h : x.mux.phase = .prSnkOn ∨ (x.mux.phase = .frsSourcing ∧ x.mux.partnerPsRdy = true)) :
    x.swapToRpCmd = x.addPend .swapToRp := by
  rw [swapToRpCmd, if_pos]
  rcases h with h | ⟨h, hr⟩
  · simp [h]
  · simp [h, hr]

theorem swapToRpCmd_outside (x : Berth) (h : x.mux.phase ≠ .prSnkOn) (hr : x.mux.phase ≠ .frsSourcing ∨ x.mux.partnerPsRdy = false) :
    x.swapToRpCmd = x.discardOne := by
  rw [swapToRpCmd, if_neg]
  rcases hr with hr | hr <;> simp [h, hr]

/-- Settles O21: each write is one change of its berth, which the equation of that register's write tells. -/
theorem ccWrites : Obligations.CcWrites := by
  unfold Obligations.CcWrites
  intro s b w v i x queued counted r held inRange
  refine ⟨fun hh => ?cfg, fun hh => ?time, fun hh h3 => ?rpReserved, fun hh h3 hc => ?rpLevel, fun hh => ?vconn, fun hh => ?cmds,
    fun hh hp hl => ?swapRd, fun hh ho => ?swapRdOut, fun hh hp => ?swapRp, fun hh hp hr => ?swapRpOut, fun hr => ?deaf⟩
  case cfg =>
    refine berthStep_of_ccWrite hh rfl ?_
    exact ⟨rfl, rfl, ccCfgHeld_bit6 x v, ccCfgHeld_reserved x v, ccCfgHeld_code x v (.inl rfl), ccCfgHeld_code x v (.inr (.inl rfl)),
      ccCfgHeld_code x v (.inr (.inr rfl))⟩
  case time =>
    refine berthStep_of_ccWrite hh rfl ?_
    obtain ⟨hheld, hevt, hframe⟩ := ccTimeWrite_holds x i v
    have hr : (held (x.ccTimeWrite i v).settled).getD 0 = ccTimeHeld i v := congrArg (·.getD 0) hheld
    refine ⟨by rw [hr]; exact hheld, by rw [hr]; exact ccTimeHeld_inRange i v, fun hne => ?_, hframe⟩
    rw [hr] at hne
    rw [hevt]
    exact ccTimeEvt_clamped x i v hne
  case rpReserved =>
    refine berthStep_of_ccWrite hh rfl ?_
    rw [ccRpWrite_reserved _ v h3]
  case rpLevel =>
    refine berthStep_of_ccWrite hh rfl ?_
    rw [ccRpWrite_noContract _ v h3 hc]
    exact ⟨rfl, rfl, rfl, rfl, rfl, rfl⟩
  case vconn =>
    refine berthStep_of_ccWrite hh rfl ?_
    obtain ⟨hlo, hhi, hlim, hres⟩ := vconnCfgClamp_range v
    rw [vconnCfgWrite_eq]
    exact ⟨hlo, hhi, hlim, hres, rfl, rfl, rfl⟩
  case cmds =>
    exact ⟨berthStep_of_ccWrite hh rfl rfl, berthStep_of_ccWrite hh rfl rfl, berthStep_of_ccWrite hh rfl rfl,
      berthStep_of_ccWrite hh rfl rfl, berthStep_of_ccWrite hh rfl rfl⟩
  case swapRd =>
    refine berthStep_of_ccWrite hh rfl ?_
    rw [swapToRdCmd_inPhase _ hp hl]
    rfl
  case swapRdOut =>
    refine berthStep_of_ccWrite hh rfl ?_
    rw [swapToRdCmd_outside _ ho]
    exact discardOne_counted x
  case swapRp =>
    refine berthStep_of_ccWrite hh rfl ?_
    rw [swapToRpCmd_inPhase _ hp]
    rfl
  case swapRpOut =>
    refine berthStep_of_ccWrite hh rfl ?_
    rw [swapToRpCmd_outside _ hp hr]
    exact discardOne_counted x
  case deaf => exact ⟨stands_of_ccWrite hr rfl, stands_of_ccWrite hr rfl, stands_of_ccWrite hr rfl⟩

/-- Settles O25: every berth, quay, Tug and link is its default record, which holds the reset values. -/
theorem resetState : Obligations.ResetState := by
  unfold Obligations.ResetState
  refine ⟨rfl, rfl, rfl, rfl, rfl, rfl, rfl, rfl, rfl, rfl, rfl, fun q => ?quay, fun t => ?tug, fun l => ?link, fun b => ?berth⟩
  case quay => rw [reset_quay]; exact ⟨rfl, rfl, rfl⟩
  case tug => rw [reset_tug]; exact ⟨rfl, rfl, rfl⟩
  case link => rw [reset_link]
  case berth =>
    rw [reset_berth]
    and_intros <;> rfl

end Sys2Proof.Proofs

section

-- The proofs of this part are elaborated one after another: at once, they would hold the memory of as many elaborators.
set_option Elab.async false

/-!
SUPPORT. The bytes of a word in memory order, and stores to local data memory.
-/

namespace Sys2Proof.Machine

@[simp] theorem leBytes_length (n v : Nat) : (leBytes n v).length = n := by
  induction n generalizing v with
  | zero => rfl
  | succ n ih => simp [leBytes, ih]

theorem leBytes_getElem (n v i : Nat) (h : i < (leBytes n v).length) : (leBytes n v)[i] = BitVec.ofNat 8 (v / 256 ^ i) := by
  induction n generalizing v i with
  | zero => simp [leBytes] at h
  | succ n ih =>
    cases i with
    | zero => simp [leBytes]
    | succ i => simp [leBytes, ih, Nat.div_div_eq_div_mul, Nat.pow_succ']

/-- The low `n` bytes of a value are bytes of the value. -/
theorem ofNat_low_bytes (v n i : Nat) (h : i < n) : BitVec.ofNat 8 (v % 2 ^ (8 * n) / 256 ^ i) = BitVec.ofNat 8 (v / 256 ^ i) := by
  have p : 2 ^ (8 * n) = 256 ^ i * (256 * 256 ^ (n - i - 1)) := by
    rw [show (256 : Nat) = 2 ^ 8 by rfl, ← Nat.pow_mul, ← Nat.pow_mul, ← Nat.pow_add, ← Nat.pow_add]
    congr 1
    omega
  apply BitVec.eq_of_toNat_eq
  rw [BitVec.toNat_ofNat, BitVec.toNat_ofNat, p, Nat.mod_mul_right_div_self, Nat.mod_mul_right_mod]

namespace State

theorem zStore_local {s : State} {t : TugId} {rd ra : ZReg} {imm : BitVec 18} {n : Nat} (h : s.Runs t)
    (al : (s.tugs[t].reg ra + imm.signExtend 32).toNat % n = 0) (lo : 0x8000 ≤ (s.tugs[t].reg ra + imm.signExtend 32).toNat)
    (hi : (s.tugs[t].reg ra + imm.signExtend 32).toNat < 0x10000) :
    s.zStore t rd ra imm n = { s with
      mem := Memory.writeBytes s.mem (localBase t + (s.tugs[t].reg ra + imm.signExtend 32).toNat)
        (leBytes n ((s.tugs[t].reg rd).toNat % 2 ^ (8 * n)))
      tugs := s.tugs.set t (s.tugs[t].next 1) } := by
  rw [zStore, zGate_runs h]
  simp only [sx, tugWrite_local al lo hi]
  rfl

end State
end Sys2Proof.Machine

namespace Sys2Proof.Proofs

open Sys2Proof Sys2Proof.Machine Sys2Proof.Machine.State

/-- Settles O8: one lemma for the three sizes, and the rules of bytes written in a row. -/
theorem zStores : Obligations.ZStores := by
  unfold Obligations.ZStores
  intro s t rd ra imm r wf x a stored lo hi
  have store (n : Nat) (c : Instr) (e : exec c s = .next (s.zStore t rd ra imm n)) : stored n c := by
    intro al
    refine ⟨_, _, e.trans (congrArg _ (zStore_local r al lo hi)), rfl, rfl, ⟨rfl, rfl⟩, Memory.wf_writeBytes wf .., ?_, ?_⟩
    · intro i h
      rw [Memory.read_writeBytes_in wf _ _ i (by simpa using h), leBytes_getElem, ofNat_low_bytes _ _ _ h]
    · intro b h
      exact Memory.read_writeBytes_out wf _ _ b (by rw [leBytes_length]; exact h)
  exact ⟨store 4 _ rfl, store 2 _ rfl, store 1 _ rfl⟩

end Sys2Proof.Proofs

/-!
SUPPORT. Writes of one berth's registers that no Tug holds back, and the queue of changes for the next boundary.
-/

namespace Sys2Proof.Machine

namespace State

/-- Where writes reach the quay and the berth is not parked, a write of a register is a step of its berth. -/
theorem berthStep_of_regWrite {s : State} {c : Instr} {b : BerthId} {f : Env → Berth → Berth} {p : Berth → Prop} (h : s.Hears b)
    (k : s.berths[b].mon.parked = false) (e : exec c s = .next (s.regWrite b f)) (hp : p (f (s.env b) s.berths[b]).settled) :
    s.BerthStep c b p := by
  rw [regWrite, if_pos (reaches_of_hears h)] at e
  refine berthStep_of_atBerth e ?_
  rw [Berth.unlessParked, k]
  exact hp

end State

namespace Berth

theorem vconnOnCmd_inPhase (x : Berth) (h : x.mux.phase = .vcOn) : x.vconnOnCmd = x.addPend .vconnOn := if_pos h

theorem vconnOnCmd_outside (x : Berth) (h : x.mux.phase ≠ .vcOn) : x.vconnOnCmd = x.discardOne := if_neg h

/-- A threshold without a Tug source ignores both of its registers. -/
theorem thresholdWrite_ignored (x : Berth) (c : Fin 10) (low : Bool) (v : Word) (h0 : c ≠ 0) (h4 : c ≠ 4) (h9 : c ≠ 9) :
    (if low then x.monLowWrite c v else x.monThrWrite c v) = x.monIgnored := by
  have low_ignored : x.monLowWrite c v = x.monIgnored := by
    unfold monLowWrite
    split <;> trivial
  have high_ignored : x.monThrWrite c v = x.monIgnored := by
    unfold monThrWrite
    split <;> trivial
  rw [low_ignored, high_ignored, ite_self]

theorem wantTest_first (x : Berth) (c : Fin 27) (o : Nat) (hc : isComparator c = true) (h : x.mon.wanted = []) :
    x.wantTest c o = { x with mon.wanted := [(c, o)] } := by
  unfold wantTest
  rw [h, hc]
  rfl

/-- A threshold that is ignored sets bit 13 of MON_EVT and counts one discarded commit. -/
theorem monIgnored_counted (x : Berth) :
    let y := x.monIgnored.settled
    y.mon = { x.mon with evt := x.mon.evt ||| 0x2000 } ∧ y.id.cntDiscarded = (satInc x.id.cntDiscarded).1 ∧ y.stg = x.stg ∧
      y = { x.settled with mon := y.mon, id := y.id, evOut := y.evOut } := by
  rw [monIgnored, discardOne_eq]
  exact ⟨rfl, rfl, rfl, rfl⟩

end Berth
end Sys2Proof.Machine

namespace Sys2Proof.Proofs

open Sys2Proof Sys2Proof.Machine Sys2Proof.Machine.State Sys2Proof.Machine.Berth

/-- Settles O30: each write is one change of its berth, quay or table, as its function says. -/
theorem writesForTheBoundary : Obligations.WritesForTheBoundary := by
  unfold Obligations.WritesForTheBoundary
  intro s b q w v n en low time c table x queued
  refine ⟨fun h k => ?cmds, fun h k hp => ?vconn, fun h k hp => ?vconnOut, fun h => ?park, fun h k hw => ?test, fun h k => ?loopback,
    fun h k h0 h4 h9 => ?ignored, fun h k => ?staged, fun h => ?table, fun h => ?noTable, ?window⟩
  case cmds =>
    and_intros <;> exact berthStep_of_regWrite h k rfl rfl
  case vconn =>
    refine berthStep_of_regWrite h k rfl ?_
    rw [vconnOnCmd_inPhase _ hp]
    rfl
  case vconnOut =>
    refine berthStep_of_regWrite h k rfl ?_
    rw [vconnOnCmd_outside _ hp]
    exact discardOne_counted x
  case park =>
    refine berthStep_of_atBerth (f := fun _ x => x.addPend (.parkEn en)) ?_ rfl
    exact congrArg _ (if_pos (reaches_of_hears h))
  case test =>
    refine berthStep_of_regWrite (f := fun _ x => x.wantTest 4 2) h k rfl ?_
    rw [wantTest_first _ _ _ rfl hw]
    rfl
  case loopback => exact ⟨berthStep_of_regWrite h k rfl rfl, berthStep_of_regWrite h k rfl rfl⟩
  case ignored =>
    refine berthStep_of_regWrite h k rfl ?_
    rw [thresholdWrite_ignored _ c low v h0 h4 h9]
    exact monIgnored_counted x
  case staged => exact berthStep_of_regWrite h k rfl rfl
  case table => exact ⟨_, rfl, if_pos h⟩
  case noTable => exact congrArg _ (if_neg (by simp [h]))
  case window =>
    refine ⟨_, rfl, ?_⟩
    cases time
    · simp [vinWrite, atQuay]
    · simp [vinWrite, atQuay]

end Sys2Proof.Proofs

/-!
SUPPORT. COMMIT: the check of R506, and a commit of a berth without a customer's program.
-/

namespace Sys2Proof.Machine

namespace Berth

/-- A refused commit states its reason and is counted in CNT_COMMIT_REFUSED. -/
theorem commitWrite_refused (x : Berth) (tide : Nat) (v : Word) {r : BitVec 4} (h : x.commitReason tide (CommitWord.ofWord v) = some r) :
    let y := (x.commitWrite tide v).settled
    y.id.last = 3 ∧ y.id.reason = r ∧ y.id.cntRefused = (satInc x.id.cntRefused).1 ∧ y.id.pend = x.id.pend ∧
      y = { x.settled with id := y.id, evOut := y.evOut } := by
  rw [commitWrite, h]
  dsimp only [cntId]
  rw [bump_counters]
  exact ⟨rfl, rfl, rfl, rfl, rfl⟩

/-- A commit that passes its check waits for the boundary with what is staged. -/
theorem commitWrite_accepted (x : Berth) (tide : Nat) (v : Word) (h : x.commitReason tide (CommitWord.ofWord v) = none) :
    x.commitWrite tide v = { x with id := { x.id with last := 1, discarded := false, reason := 0, pend := x.id.pend ++
      [.commit { word := CommitWord.ofWord v, epoch := x.id.epoch, staged := x.stg, events := [], post := none, tel := {} }] } } := by
  rw [commitWrite, h]
  rfl

end Berth

namespace State

/-- No customer's program runs on the berth's Tug: it has none, or BP 4.0 runs on it. -/
theorem commitOf_plain {s : State} {b : BerthId} (h : s.berths[b].id.tug = none ∨ s.runsBp b = true) (v : Word) :
    s.commitOf b v = s.atBerth b (fun e x => x.commitWrite e.tide v) := by
  unfold commitOf
  rcases h with h | h
  · rw [h]
  · split
    · rfl
    · rw [if_pos h]

/-- Where COMMIT is heard it reaches the berth's check. -/
theorem berthStep_of_commit {s : State} {w : Writer} {b : BerthId} {v : Word} {p : Berth → Prop} (h : s.Hears b)
    (k : s.berths[b].mon.parked = false) (hc : s.berths[b].id.tug = none ∨ s.runsBp b = true)
    (hw : w = .harbour → s.hasTug b = false) (hp : p (s.berths[b].commitWrite s.tideCount v).settled) :
    s.BerthStep (.commit w b v) b p := by
  have e : s.windowWrite w b 0x020 v = s.atBerth b (fun e x => x.commitWrite e.tide v) := by
    have hw' : (decide (w = .harbour) && s.hasTug b) = false := by
      cases w
      · rfl
      · simpa using hw rfl
    rw [windowWrite, reaches_of_hears h, k, ← commitOf_plain hc]
    simp [hw']
  exact berthStep_of_atBerth (congrArg _ e) hp

end State
end Sys2Proof.Machine

namespace Sys2Proof.Proofs

open Sys2Proof Sys2Proof.Machine Sys2Proof.Machine.State Sys2Proof.Machine.Berth

/-- The kind of a commit is the field COMMIT[9:8]. -/
theorem kind_ofWord (v : Word) : (CommitWord.ofWord v).kind = BitVec.ofNat 2 (fld v 8 2) := rfl

/-- Settles O31: COMMIT runs the check of R506 once, and each failed check names its reason. -/
theorem commitChecked : Obligations.CommitChecked := by
  unfold Obligations.CommitChecked
  intro s b w v x cw plain
  refine ⟨fun h k hc hw hr => ?refused, fun h k hc hw hr => ?accepted, fun hk => ?reserved, fun hk ht => ?token, fun hk ht hm => ?argument,
    fun hk hg => ?grant, fun ht => ?tug, rfl⟩
  case refused =>
    refine berthStep_of_commit h k hc hw ?_
    obtain ⟨r, hr⟩ := Option.isSome_iff_exists.mp hr
    rw [hr]
    exact commitWrite_refused x s.tideCount v hr
  case accepted =>
    refine berthStep_of_commit h k hc hw ?_
    rw [commitWrite_accepted _ _ _ hr]
    rfl
  case reserved => simp [commitReason, cw, kind_ofWord, hk]
  case token => simp [commitReason, cw, kind_ofWord, hk, ht]
  case argument => simp [commitReason, cw, kind_ofWord, hk, ht, hm]
  case grant => simp [commitReason, cw, kind_ofWord, hk, grantCurrent, hg]
  case tug =>
    have e : s.windowWrite .harbour b 0x020 v = s := by
      unfold windowWrite
      split
      · rfl
      · rw [ht]
        rfl
    exact congrArg _ e

end Sys2Proof.Proofs

/-!
SUPPORT. What the answers to the host, its jobs and tests, and the device's records leave of the working parts of the device.
-/

namespace Sys2Proof.Machine

/-- From the first state to the second the working parts stand: berths, quays, Tugs, the allocator, the counts, the tables, the
memory, the Harbourmaster, the fuses and the last release. -/
@[reducible] def State.KeepsParts (s t : State) : Prop :=
  t.berths = s.berths ∧ t.quays = s.quays ∧ t.tugs = s.tugs ∧ t.alloc = s.alloc ∧ t.tideCount = s.tideCount ∧ t.roundPhase = s.roundPhase ∧
    t.ticks = s.ticks ∧ t.phase = s.phase ∧ t.tables = s.tables ∧ t.mem = s.mem ∧ t.harbour = s.harbour ∧ t.brittle = s.brittle ∧ t.lastRelease = s.lastRelease

/-- From the first state to the second the device's books stand: the berths' records, the faults, what waits for the boundary and
the device's events. -/
@[reducible] def State.KeepsBooks (s t : State) : Prop :=
  t.tele = s.tele ∧ t.repair = s.repair ∧ t.later = s.later ∧ t.devOut = s.devOut

/-- The same, of the repair record its marks and counts alone. -/
@[reducible] def State.KeepsMarks (s t : State) : Prop :=
  t.tele = s.tele ∧ t.later = s.later ∧ t.repair.marks = s.repair.marks ∧ t.repair.lasting = s.repair.lasting ∧
    t.repair.coreFenced = s.repair.coreFenced

namespace State

theorem KeepsParts.refl (s : State) : s.KeepsParts s := ⟨rfl, rfl, rfl, rfl, rfl, rfl, rfl, rfl, rfl, rfl, rfl, rfl, rfl⟩
theorem KeepsBooks.refl (s : State) : s.KeepsBooks s := ⟨rfl, rfl, rfl, rfl⟩
theorem KeepsMarks.refl (s : State) : s.KeepsMarks s := ⟨rfl, rfl, rfl, rfl, rfl⟩

theorem KeepsParts.berths {s t : State} (h : s.KeepsParts t) : t.berths = s.berths := h.1
theorem KeepsParts.quays {s t : State} (h : s.KeepsParts t) : t.quays = s.quays := h.2.1
theorem KeepsParts.tugs {s t : State} (h : s.KeepsParts t) : t.tugs = s.tugs := h.2.2.1
theorem KeepsParts.alloc {s t : State} (h : s.KeepsParts t) : t.alloc = s.alloc := h.2.2.2.1
theorem KeepsParts.tideCount {s t : State} (h : s.KeepsParts t) : t.tideCount = s.tideCount := h.2.2.2.2.1
theorem KeepsParts.roundPhase {s t : State} (h : s.KeepsParts t) : t.roundPhase = s.roundPhase := h.2.2.2.2.2.1
theorem KeepsParts.ticks {s t : State} (h : s.KeepsParts t) : t.ticks = s.ticks := h.2.2.2.2.2.2.1
theorem KeepsParts.phase {s t : State} (h : s.KeepsParts t) : t.phase = s.phase := h.2.2.2.2.2.2.2.1
theorem KeepsParts.tables {s t : State} (h : s.KeepsParts t) : t.tables = s.tables := h.2.2.2.2.2.2.2.2.1
theorem KeepsParts.mem {s t : State} (h : s.KeepsParts t) : t.mem = s.mem := h.2.2.2.2.2.2.2.2.2.1
theorem KeepsParts.harbour {s t : State} (h : s.KeepsParts t) : t.harbour = s.harbour := h.2.2.2.2.2.2.2.2.2.2.1
theorem KeepsParts.brittle {s t : State} (h : s.KeepsParts t) : t.brittle = s.brittle := h.2.2.2.2.2.2.2.2.2.2.2.1
theorem KeepsParts.lastRelease {s t : State} (h : s.KeepsParts t) : t.lastRelease = s.lastRelease := h.2.2.2.2.2.2.2.2.2.2.2.2

theorem KeepsBooks.tele {s t : State} (h : s.KeepsBooks t) : t.tele = s.tele := h.1
theorem KeepsBooks.repair {s t : State} (h : s.KeepsBooks t) : t.repair = s.repair := h.2.1
theorem KeepsBooks.later {s t : State} (h : s.KeepsBooks t) : t.later = s.later := h.2.2.1
theorem KeepsBooks.devOut {s t : State} (h : s.KeepsBooks t) : t.devOut = s.devOut := h.2.2.2

theorem KeepsMarks.tele {s t : State} (h : s.KeepsMarks t) : t.tele = s.tele := h.1
theorem KeepsMarks.later {s t : State} (h : s.KeepsMarks t) : t.later = s.later := h.2.1
theorem KeepsMarks.marks {s t : State} (h : s.KeepsMarks t) : t.repair.marks = s.repair.marks := h.2.2.1
theorem KeepsMarks.lasting {s t : State} (h : s.KeepsMarks t) : t.repair.lasting = s.repair.lasting := h.2.2.2.1
theorem KeepsMarks.coreFenced {s t : State} (h : s.KeepsMarks t) : t.repair.coreFenced = s.repair.coreFenced := h.2.2.2.2

theorem KeepsParts.trans {s t u : State} (h : s.KeepsParts t) (g : t.KeepsParts u) : s.KeepsParts u :=
  ⟨g.berths.trans h.berths, g.quays.trans h.quays, g.tugs.trans h.tugs, g.alloc.trans h.alloc, g.tideCount.trans h.tideCount, g.roundPhase.trans h.roundPhase,
    g.ticks.trans h.ticks, g.phase.trans h.phase, g.tables.trans h.tables, g.mem.trans h.mem, g.harbour.trans h.harbour, g.brittle.trans h.brittle,
    g.lastRelease.trans h.lastRelease⟩

theorem KeepsBooks.trans {s t u : State} (h : s.KeepsBooks t) (g : t.KeepsBooks u) : s.KeepsBooks u :=
  ⟨g.tele.trans h.tele, g.repair.trans h.repair, g.later.trans h.later, g.devOut.trans h.devOut⟩

theorem KeepsMarks.trans {s t u : State} (h : s.KeepsMarks t) (g : t.KeepsMarks u) : s.KeepsMarks u :=
  ⟨g.tele.trans h.tele, g.later.trans h.later, g.marks.trans h.marks, g.lasting.trans h.lasting, g.coreFenced.trans h.coreFenced⟩

theorem KeepsBooks.marks {s t : State} (h : s.KeepsBooks t) : s.KeepsMarks t :=
  ⟨h.tele, h.later, congrArg Repair.marks h.repair, congrArg Repair.lasting h.repair, congrArg Repair.coreFenced h.repair⟩

/-- What holds of both branches holds of the choice. -/
theorem keeps_ite {α : Type} {R : α → α → Prop} {s a b : α} {c : Prop} [Decidable c] (ha : R s a) (hb : R s b) : R s (if c then a else b) := by
  split
  · exact ha
  · exact hb

theorem keeps_option {R : State → State → Prop} {s a : State} {α : Type} {f : α → State} (x : Option α) (ha : R s a) (hf : ∀ j, R s (f j)) :
    R s (Option.casesOn x a f) := match x with
  | none => ha
  | some j => hf j

/-- What every step of a run over a list leaves, as a relation of its ends. -/
theorem foldl_rel {α : Type} {R : State → State → Prop} (refl : ∀ s, R s s) (trans : ∀ {s t u}, R s t → R t u → R s u)
    (f : State → α → State) (h : ∀ s x, R s (f s x)) (l : List α) (s : State) : R s (l.foldl f s) := by
  induction l generalizing s with
  | nil => exact refl s
  | cons x r ih => exact trans (h s x) (ih _)

theorem foldl_rel_mem {α : Type} {R : State → State → Prop} (refl : ∀ s, R s s) (trans : ∀ {s t u}, R s t → R t u → R s u)
    (f : State → α → State) (l : List α) (h : ∀ s x, x ∈ l → R s (f s x)) (s : State) : R s (l.foldl f s) := by
  induction l generalizing s with
  | nil => exact refl s
  | cons x r ih => exact trans (h s x List.mem_cons_self) (ih (fun u y hy => h u y (List.mem_cons_of_mem _ hy)) _)

/-- A run over all of `Fin n` does one step at `b`; the steps before and after it are at others. -/
theorem foldl_finRange_at {n : Nat} {R : State → State → Prop} (refl : ∀ s, R s s) (trans : ∀ {s t u}, R s t → R t u → R s u)
    (f : State → Fin n → State) (b : Fin n) (h : ∀ (s : State) x, x ≠ b → R s (f s x)) (s : State) :
    ∃ u, R s u ∧ R (f u b) ((List.finRange n).foldl f s) := by
  obtain ⟨l, r, e⟩ := List.append_of_mem (List.mem_finRange b)
  have nd : (l ++ b :: r).Nodup := e ▸ List.nodup_finRange n
  rw [List.nodup_middle, List.nodup_cons, List.mem_append, not_or] at nd
  rw [e, List.foldl_append, List.foldl_cons]
  exact ⟨_, foldl_rel_mem refl trans f l (fun u x hx => h u x (fun he => nd.1.1 (he ▸ hx))) s,
    foldl_rel_mem refl trans f r (fun u x hx => h u x (fun he => nd.1.2 (he ▸ hx))) _⟩

/-- The part of the device that answers the host: neither parts nor books change. -/
def KeepsAll (s t : State) : Prop := s.KeepsParts t ∧ s.KeepsBooks t

theorem KeepsAll.refl (s : State) : s.KeepsAll s := ⟨.refl s, .refl s⟩

theorem KeepsAll.trans {s t u : State} (h : s.KeepsAll t) (g : t.KeepsAll u) : s.KeepsAll u := ⟨h.1.trans g.1, h.2.trans g.2⟩

theorem queueResponse_keeps (s : State) (r : Response) : s.KeepsAll (s.queueResponse r) := by
  unfold queueResponse
  split
  · exact KeepsAll.refl s
  · exact KeepsAll.refl s
  · exact KeepsAll.refl s
  · exact KeepsAll.refl s

theorem respondRaw_keeps (s : State) (o : Origin) (code : Nat) (payload : List Byte) : s.KeepsAll (s.respondRaw o code payload) :=
  keeps_ite (R := KeepsAll) (KeepsAll.trans (KeepsAll.refl s) (queueResponse_keeps ..)) (KeepsAll.refl s)

theorem respond_keeps (s : State) (o : Origin) (code : Nat) (st : Status) (body : List Byte) : s.KeepsAll (s.respond o code st body) :=
  respondRaw_keeps ..

theorem jobDone_keeps (s : State) (o : Origin) (b : BerthId) (st : Status) : s.KeepsAll (s.jobDone o b st) := by
  unfold jobDone
  split
  · exact KeepsAll.refl s
  · exact keeps_ite (R := KeepsAll) (KeepsAll.refl s) (keeps_ite (R := KeepsAll) (KeepsAll.trans (KeepsAll.refl s) (respondRaw_keeps ..))
      (KeepsAll.refl s))

theorem answerTests_keeps (s : State) (kind index sel : Nat) (pass : Bool) (cls action : Nat) :
    s.KeepsAll (s.answerTests kind index sel pass cls action) :=
  KeepsAll.trans (KeepsAll.refl s) (foldl_rel KeepsAll.refl KeepsAll.trans _ (fun _ _ => respond_keeps ..) _ _)

theorem answerUnfence_keeps (s : State) (kind index sel : Nat) (st : Status) : s.KeepsAll (s.answerUnfence kind index sel st) :=
  KeepsAll.trans (KeepsAll.refl s) (foldl_rel KeepsAll.refl KeepsAll.trans _ (fun _ _ => respond_keeps ..) _ _)

theorem recordDevice_keeps (s : State) (cause quay stamp : Nat) (detail : List Byte) (time : Nat) :
    s.KeepsAll (s.recordDevice cause quay stamp detail time).2 := by
  unfold recordDevice
  dsimp only
  split
  · exact KeepsAll.refl s
  · exact KeepsAll.refl s

/-! ### The marks of faults -/

/-- The part that keeps the repair record's slot: the working parts and the marks stand. -/
def KeepsFaults (s t : State) : Prop := s.KeepsParts t ∧ s.KeepsMarks t

theorem KeepsFaults.refl (s : State) : s.KeepsFaults s := ⟨.refl s, .refl s⟩

theorem KeepsFaults.trans {s t u : State} (h : s.KeepsFaults t) (g : t.KeepsFaults u) : s.KeepsFaults u := ⟨h.1.trans g.1, h.2.trans g.2⟩

theorem retire_faults (s : State) (area slot : Nat) : s.KeepsFaults (s.retire area slot) := by
  unfold retire
  extract_lets spare u _ v r
  have hv : s.KeepsFaults v := by
    clear_value spare
    cases spare with
    | none => exact KeepsFaults.refl s
    | some k => exact KeepsFaults.refl s
  exact keeps_ite (R := KeepsFaults) (KeepsFaults.trans hv (KeepsFaults.refl v)) hv

theorem writeSlot_faults (s : State) (slot seq : Nat) (item : ManItem) (data : List Byte) : s.KeepsFaults (s.writeSlot slot seq item data) :=
  keeps_ite (R := KeepsFaults) (KeepsFaults.trans (KeepsFaults.refl s) (retire_faults ..)) (KeepsFaults.refl s)

theorem writeVersion_faults (s : State) (area : Nat) (item : ManItem) (same : ManItem → Bool) (data : List Byte) :
    s.KeepsFaults (s.writeVersion area item same data).2 := by
  unfold writeVersion
  split
  · exact KeepsFaults.refl s
  · exact KeepsFaults.trans (KeepsFaults.refl s) (writeSlot_faults ..)

theorem saveRepair_faults (s : State) : s.KeepsFaults s.saveRepair := writeVersion_faults ..

theorem setMark_parts (s : State) (m : LocMark) : s.KeepsParts (s.setMark m) := KeepsParts.trans (KeepsParts.refl s) (saveRepair_faults _).1

theorem setMark_marks (s : State) (m : LocMark) :
    (s.setMark m).repair.marks = s.repair.marks.filter (fun (x : LocMark) => x.loc ≠ m.loc) ++ [m] := (saveRepair_faults _).2.marks

theorem setMark_tele (s : State) (m : LocMark) : (s.setMark m).tele = s.tele := (saveRepair_faults _).2.tele

theorem setMark_later (s : State) (m : LocMark) : (s.setMark m).later = s.later := (saveRepair_faults _).2.later

theorem setMark_lasting (s : State) (m : LocMark) : (s.setMark m).repair.lasting = s.repair.lasting := (saveRepair_faults _).2.lasting

theorem markOf_setMark (s : State) (m : LocMark) (l : Loc) (e : m.loc = l) : (s.setMark m).markOf l = m := by
  subst e
  have h : s.repair.marks.find? (fun _ => false) = none := List.find?_eq_none.mpr (by simp)
  simp [setMark_marks, markOf, List.find?_append, List.find?_filter, h]

/-- The location of a mark is the one looked up. -/
theorem markOf_loc (s : State) (l : Loc) : (s.markOf l).loc = l := by
  unfold markOf
  cases h : s.repair.marks.find? (fun m => m.loc = l) with
  | none => rfl
  | some m => simpa using List.find?_some h

theorem markOf_congr {s u : State} (h : u.repair.marks = s.repair.marks) (l : Loc) : u.markOf l = s.markOf l := by
  unfold markOf
  rw [h]

theorem markLasting_parts (s : State) (l : Loc) : s.KeepsParts (s.markLasting l) := KeepsParts.trans (KeepsParts.refl s) (setMark_parts ..)

/-- A lasting fault is counted and its location marked. -/
theorem markLasting_lasting (s : State) (l : Loc) : (s.markLasting l).repair.lasting = (satInc s.repair.lasting).1 := setMark_lasting ..

theorem markLasting_later (s : State) (l : Loc) : (s.markLasting l).later = s.later := setMark_later ..

theorem markOf_markLasting (s : State) (l : Loc) : ((s.markLasting l).markOf l).lasting = true :=
  congrArg LocMark.lasting (markOf_setMark _ { s.markOf l with lasting := true } l (markOf_loc s l))

end State
end Sys2Proof.Machine

namespace Sys2Proof.Machine

/-! ### A vector read at an index of its own size -/

theorem getFin_set_self {α : Type} {n : Nat} (v : Vector α n) (i : Fin n) (x : α) : (v.set i x)[i] = x := Vector.getElem_set_self i.isLt

theorem getFin_set_other {α : Type} {n : Nat} (v : Vector α n) {i j : Fin n} (x : α) (h : i ≠ j) : (v.set i x)[j] = v[j] :=
  Vector.getElem_set_ne i.isLt j.isLt fun e => h (Fin.ext e)

/-- From the first berth to the second the hardware's blocks stand: attachment, power path, regulator and monitors. -/
def Berth.KeepsHw (x y : Berth) : Prop := y.cc = x.cc ∧ y.path = x.path ∧ y.reg = x.reg ∧ y.mon = x.mon

namespace Berth

theorem KeepsHw.cc {x y : Berth} (h : x.KeepsHw y) : y.cc = x.cc := h.1
theorem KeepsHw.path {x y : Berth} (h : x.KeepsHw y) : y.path = x.path := h.2.1
theorem KeepsHw.reg {x y : Berth} (h : x.KeepsHw y) : y.reg = x.reg := h.2.2.1
theorem KeepsHw.mon {x y : Berth} (h : x.KeepsHw y) : y.mon = x.mon := h.2.2.2

theorem KeepsHw.refl (x : Berth) : x.KeepsHw x := ⟨rfl, rfl, rfl, rfl⟩

theorem KeepsHw.trans {x y z : Berth} (h : x.KeepsHw y) (g : y.KeepsHw z) : x.KeepsHw z :=
  ⟨g.cc.trans h.cc, g.path.trans h.path, g.reg.trans h.reg, g.mon.trans h.mon⟩

theorem foldl_hw {α : Type} (f : Berth → α → Berth) (h : ∀ (x : Berth) a, x.KeepsHw (f x a)) (l : List α) (x : Berth) :
    x.KeepsHw (l.foldl f x) := by
  induction l generalizing x with
  | nil => exact KeepsHw.refl x
  | cons a l ih => exact (h x a).trans (ih _)

end Berth

namespace State

theorem cntId_hw (x : Berth) (i : Fin 3) : x.KeepsHw (x.cntId i) := ⟨rfl, rfl, rfl, rfl⟩

theorem disarmAll_hw (x : Berth) : x.KeepsHw x.disarmAll :=
  Berth.KeepsHw.trans (Berth.KeepsHw.refl x) (Berth.foldl_hw _ (fun y (_ : Unit) => cntId_hw y 2) _ _)

/-- What leaves the Tug discards (R443): staged changes, queued commits, armed buffers, and nothing of the hardware. -/
theorem dropStaged_hw (x : Berth) : x.KeepsHw (dropStaged x) := by
  unfold dropStaged
  extract_lets isCommit n src y z
  have hy : x.KeepsHw y := Berth.KeepsHw.refl x
  have hz : y.KeepsHw z := Berth.foldl_hw _ (fun y _ => cntId_hw y 1) _ _
  exact hy.trans (hz.trans ((disarmAll_hw z).trans (Berth.KeepsHw.refl z.disarmAll)))

/-- A Tug that leaves its berth (R443). -/
noncomputable def tugLeaves (k : Tug) (b : BerthId) : Tug := { k with mode := .empty, entry := none, berth := none, last := some b, inPlace := false }

/-- What the Tug's leaving takes from its berth. -/
noncomputable def berthLeft (x : Berth) : Berth := { dropStaged { x with id.tug := none, pol.tookId := false } with pol.tookId := false }

theorem berthLeft_hw (x : Berth) : x.KeepsHw (berthLeft x) := dropStaged_hw _

theorem unbindTug_tugs {s : State} {b : BerthId} {t : TugId} (h : s.berths[b].id.tug = some t) :
    (s.unbindTug b).tugs = s.tugs.set t (tugLeaves s.tugs[t] b) := by
  rw [unbindTug, h]
  exact setBerth_tugs ..

theorem unbindTug_berth {s : State} {b : BerthId} {t : TugId} (h : s.berths[b].id.tug = some t) :
    (s.unbindTug b).berths[b] = { s.berths[b] with id.tug := none, pol.tookId := false } := by
  rw [unbindTug, h]
  exact setBerth_self ..

theorem unbindTug_stands {α : Type} (g : State → α) (hb : ∀ (s : State) c x, g (s.setBerth c x) = g s) (ht : ∀ (s : State) t f, g (s.atTug t f) = g s)
    (s : State) (b : BerthId) : g (s.unbindTug b) = g s := by
  unfold unbindTug
  split
  · rfl
  · exact (hb ..).trans (ht ..)

/-- A berth bound afresh, but for the answer to the request that the new slot ends. -/
noncomputable def rebound (s : State) (b : BerthId) (n : TugId) (why : Entry) (warm : Bool) : State :=
  let sl := match s.tele[b].swap with
    | some (n, _, _, _) => n
    | none => s.tele[b].slot
  ((((s.unbindTug b).atBerth b (fun _ x => dropStaged x)).bindTug b n sl why warm).atTug n (fun k => { k with from_ := s.berths[b].id.tug })).atTele b
    (fun x => { x with slot := sl, swap := none })

theorem rebind_keeps (s : State) (b : BerthId) (n : TugId) (why : Entry) (warm : Bool) : (s.rebound b n why warm).KeepsAll (s.rebind b n why warm) := by
  unfold rebind
  extract_lets old sl swapped
  clear_value swapped
  cases swapped with
  | none => exact KeepsAll.refl _
  | some p => exact jobDone_keeps ..

section Rebound

variable {s : State} {b : BerthId} {n t : TugId} (why : Entry) (warm : Bool) (h : s.berths[b].id.tug = some t)
include h

theorem rebound_berth : (s.rebound b n why warm).berths[b] = { { berthLeft s.berths[b] with id.tug := some n } with pol.tookId := false } := by
  have e : ((s.unbindTug b).atBerth b fun _ x => dropStaged x).berths[b] = berthLeft s.berths[b] := by
    rw [atBerth_self, unbindTug_berth h, berthLeft]
  rw [rebound, atTele_berths, atTug_berths, bindTug, setBerth_self, atTug_berths, e]

theorem rebound_tug : ∃ (k : Tug) (sl : Nat), (s.rebound b n why warm).tugs[n] =
    { { k with berth := some b, slot := sl, entry := some (why, warm), mode := .empty } with from_ := some t } :=
  ⟨(s.unbindTug b).tugs[n], _, by rw [rebound, atTele_tugs, atTug_self, bindTug, setBerth_tugs, atTug_self, atBerth_tugs, h]⟩

theorem rebound_other (hn : n ≠ t) : (s.rebound b n why warm).tugs[t] = tugLeaves s.tugs[t] b := by
  rw [rebound, atTele_tugs, atTug_other _ _ _ _ hn, bindTug, setBerth_tugs, atTug_other _ _ _ _ hn, atBerth_tugs, unbindTug_tugs h,
    getFin_set_self]

end Rebound

theorem rebound_stands {α : Type} (g : State → α) (hb : ∀ (s : State) c x, g (s.setBerth c x) = g s) (ht : ∀ (s : State) t f, g (s.atTug t f) = g s)
    (he : ∀ (s : State) c f, g (s.atTele c f) = g s) (s : State) (b : BerthId) (n : TugId) (why : Entry) (warm : Bool) :
    g (s.rebound b n why warm) = g s := by
  rw [rebound, he, ht, bindTug, hb, ht, atBerth, hb, unbindTug_stands g hb ht]

/-! ### A berth bound afresh: its Tug, its hardware, and the Tug it left -/

section Rebind

variable {s : State} {b : BerthId} {n t : TugId} (why : Entry) (warm : Bool) (h : s.berths[b].id.tug = some t)
include h

theorem rebind_berth : (s.rebind b n why warm).berths[b] = { { berthLeft s.berths[b] with id.tug := some n } with pol.tookId := false } :=
  (congrArg (fun (v : Vector Berth 48) => v[b]) (rebind_keeps ..).1.berths).trans (rebound_berth why warm h)

theorem rebind_tug : (s.rebind b n why warm).berths[b].id.tug = some n := congrArg (·.id.tug) (rebind_berth why warm h)

theorem rebind_hw : s.berths[b].KeepsHw (s.rebind b n why warm).berths[b] := by
  rw [rebind_berth why warm h]
  exact (berthLeft_hw _).trans (Berth.KeepsHw.refl _)

theorem rebind_new : (s.rebind b n why warm).tugs[n].berth = some b ∧ (s.rebind b n why warm).tugs[n].entry = some (why, warm) ∧
    (s.rebind b n why warm).tugs[n].from_ = some t := by
  obtain ⟨k, sl, e⟩ := rebound_tug (n := n) why warm h
  rw [(rebind_keeps s b n why warm).1.tugs, e]
  exact ⟨rfl, rfl, rfl⟩

theorem rebind_old (hn : n ≠ t) : (s.rebind b n why warm).tugs[t] = tugLeaves s.tugs[t] b :=
  (congrArg (fun (v : Vector Tug 52) => v[t]) (rebind_keeps ..).1.tugs).trans (rebound_other why warm h hn)

end Rebind

section

variable (s : State) (b : BerthId) (n : TugId) (why : Entry) (warm : Bool)

theorem rebind_quays : (s.rebind b n why warm).quays = s.quays :=
  (rebind_keeps ..).1.quays.trans (rebound_stands State.quays setBerth_quays (fun _ _ _ => rfl) (fun _ _ _ => rfl) ..)

theorem rebind_mem : (s.rebind b n why warm).mem = s.mem :=
  (rebind_keeps ..).1.mem.trans (rebound_stands State.mem setBerth_mem (fun _ _ _ => rfl) (fun _ _ _ => rfl) ..)

theorem rebind_devOut : (s.rebind b n why warm).devOut = s.devOut :=
  (rebind_keeps ..).2.devOut.trans (rebound_stands State.devOut setBerth_devOut (fun _ _ _ => rfl) (fun _ _ _ => rfl) ..)

end

/-! ### A core test starts -/

theorem atTug_markOf (s : State) (t : TugId) (f : Tug → Tug) (l : Loc) : (s.atTug t f).markOf l = s.markOf l := rfl

theorem coreTest_berths (s : State) (t : TugId) : (s.coreTest t).berths = s.berths := rfl
theorem coreTest_quays (s : State) (t : TugId) : (s.coreTest t).quays = s.quays := rfl
theorem coreTest_mem (s : State) (t : TugId) : (s.coreTest t).mem = s.mem := rfl
theorem coreTest_devOut (s : State) (t : TugId) : (s.coreTest t).devOut = s.devOut := rfl
theorem coreTest_self (s : State) (t : TugId) : (s.coreTest t).tugs[t] = { s.tugs[t] with mode := .testing, spill := 0 } := atTug_self ..
theorem coreTest_other (s : State) {t n : TugId} (h : t ≠ n) : (s.coreTest t).tugs[n] = s.tugs[n] := atTug_other _ _ _ _ h

/-- The free Tug is one without a berth. -/
theorem freeTug_berth {s : State} {n : TugId} (h : s.freeTug = some n) : s.tugs[n].berth = none := by
  have := List.find?_some h
  simp only [tugUnbound, Bool.and_eq_true, Option.isNone_iff_eq_none] at this
  exact this.1.1.1

/-- The rebindings of a berth are counted; the hardware, the Tugs and the events stand. -/
theorem countRebind_keeps (s : State) (b : BerthId) : s.KeepsParts (s.countRebind b) ∧ (s.countRebind b).devOut = s.devOut := by
  unfold countRebind
  extract_lets l u
  exact keeps_ite (R := fun (s t : State) => s.KeepsParts t ∧ t.devOut = s.devOut) ⟨KeepsParts.refl s, rfl⟩ ⟨KeepsParts.refl s, rfl⟩

/-- A core test that fails is a lasting fault of the Tug: it is marked, counted, and its action waits for the boundary. -/
theorem judge_failed (s : State) (l : Loc) (host ext : Bool) : s.judge l false host ext = (2, s.markLasting l) := rfl

theorem judge_host (s : State) (l : Loc) (ext : Bool) : s.judge l true true ext = (0, s) := rfl

/-- A fifth spilled Tide in a row with a Tug free: the berth is rebound and the old Tug tested (R26, R444). -/
theorem tideOverrun_spare {s : State} {b : BerthId} {t n : TugId} (hm : s.tugs[t].mode = .suspended) (hs : s.tugs[t].spill = 5)
    (hk : s.tugs[t].berth = some b) (hf : s.freeTug = some n) :
    s.tideOverrun t = (((s.devEvent (.tideOverrun t n.val 5 s.tugs[t].pcn) b).countRebind b).rebind b n .fault true).coreTest t := by
  rw [tideOverrun, hk]
  dsimp only
  rw [hm, hs, hf]
  rfl

/-- With no Tug free it is tested in place, and the device records it. -/
theorem tideOverrun_inPlace {s : State} {b : BerthId} {t : TugId} (hm : s.tugs[t].mode = .suspended) (hs : s.tugs[t].spill = 5)
    (hk : s.tugs[t].berth = some b) (hf : s.freeTug = none) :
    s.tideOverrun t = (((s.devEvent (.tideOverrun t 0xFF 5 s.tugs[t].pcn) b).recordDevice 0x11 0xFF s.now
      (leBytes 1 t.val ++ leBytes 1 5 ++ [0, 0] ++ leBytes 4 s.tugs[t].pcn.toNat)).2.coreTest t).atTug t
        (fun k => { k with inPlace := true }) := by
  rw [tideOverrun, hk]
  dsimp only
  rw [hm, hs, hf]
  rfl

theorem tideOverrun_stands {s : State} {t : TugId} (h : s.tugs[t].mode ≠ .suspended ∨ s.tugs[t].spill ≠ 5 ∨ s.tugs[t].berth = none) :
    s.tideOverrun t = s := by
  delta tideOverrun
  dsimp only
  split
  · next b hb =>
    refine if_neg fun e => ?_
    rw [Bool.and_eq_true, decide_eq_true_eq, decide_eq_true_eq] at e
    rcases h with h | h | h
    · exact h e.1
    · exact h e.2
    · rw [hb] at h
      cases h
  · rfl

/-- A core test's report and answers, after its judgement `j`. -/
noncomputable def testTold (s : State) (t : TugId) (pass : Bool) (j : Nat × State) : State :=
  let host := s.testWanted 1 t.val 0
  let act := if host && pass then 0 else 2
  let s := j.2.report (.tug t) j.1 (.selftest 1 t 0 (if host then 2 else 1) (if pass then .ok else .selftestFail) j.1 act)
  let s := s.answerTests 1 t.val 0 pass j.1 act
  let s := if s.testWanted 1 t.val 0 && pass then (s.clearMark (.tug t)).atTug t (fun k => { k with fenced := false }) else s
  s.answerUnfence 1 t.val 0 (if pass then .ok else .selftestFail)

theorem tugTestDone_eq {s : State} {t : TugId} {pass : Bool} (hm : s.tugs[t].mode = .testing) (hp : (s.tugs[t].inPlace && pass) = false) :
    let j := s.judge (.tug t) pass (s.testWanted 1 t.val 0) false
    s.tugTestDone t pass = (s.testTold t pass j).atTug t (fun x => { x with inPlace := false, mode := if j.1 = 2 then .testing else .empty }) := by
  delta tugTestDone
  dsimp only
  rw [if_neg (not_not.mpr hm), hp]
  rfl

/-- What a passed test leaves: the count of lasting faults, the berths, the quays and the memory. -/
def TestKeeps (s t : State) : Prop := t.repair.lasting = s.repair.lasting ∧ t.berths = s.berths ∧ t.quays = s.quays ∧ t.mem = s.mem

theorem TestKeeps.refl (s : State) : TestKeeps s s := ⟨rfl, rfl, rfl, rfl⟩

theorem TestKeeps.trans {s t u : State} (h : TestKeeps s t) (g : TestKeeps t u) : TestKeeps s u :=
  ⟨g.1.trans h.1, g.2.1.trans h.2.1, g.2.2.1.trans h.2.2.1, g.2.2.2.trans h.2.2.2⟩

theorem TestKeeps.of_all {s t : State} (h : s.KeepsAll t) : TestKeeps s t := ⟨congrArg Repair.lasting h.2.repair, h.1.berths, h.1.quays, h.1.mem⟩

theorem testTold_passed (s : State) (t : TugId) (n : Nat) : TestKeeps s (s.testTold t true (n, s)) := by
  delta testTold
  extract_lets host act v w x
  have hv : TestKeeps s v := keeps_ite (R := TestKeeps) (TestKeeps.refl s) (TestKeeps.refl s)
  have hw : v.KeepsAll w := answerTests_keeps ..
  have hx : TestKeeps w x := keeps_ite (R := TestKeeps) ⟨setMark_lasting .., (setMark_parts ..).berths, (setMark_parts ..).quays, (setMark_parts ..).mem⟩
    (TestKeeps.refl w)
  exact hv.trans ((TestKeeps.of_all hw).trans (hx.trans (TestKeeps.of_all (answerUnfence_keeps ..))))

/-- A failed test's report waits for the boundary; with the answers nothing else of the device changes. -/
theorem testTold_failed (s v : State) (t : TugId) :
    let u := s.testTold t false (2, v)
    v.KeepsParts u ∧ u.repair = v.repair ∧ u.later.length = v.later.length + 1 := by
  delta testTold
  extract_lets host act y w x u
  have hy : v.KeepsParts y ∧ y.repair = v.repair ∧ y.later.length = v.later.length + 1 := ⟨KeepsParts.refl v, rfl, List.length_append⟩
  have hw : y.KeepsAll w := answerTests_keeps ..
  have hx : x = w := if_neg fun e => Bool.false_ne_true ((Bool.and_false _).symm.trans e)
  obtain ⟨hp, -, hr, hl, -⟩ := hw.trans (hx ▸ answerUnfence_keeps x 1 t.val 0 _ : w.KeepsAll u)
  exact ⟨hy.1.trans hp, hr.trans hy.2.1, (congrArg List.length hl).trans hy.2.2⟩

theorem atTug_atTug_tugs (s : State) (t : TugId) (f g : Tug → Tug) :
    ((s.atTug t f).atTug t g).tugs = s.tugs.set t (g (f s.tugs[t])) := by
  rw [atTug, atTug_self]
  exact Vector.set_set ..

theorem overrun_inPlace_tugs {s u : State} (h : u.tugs = s.tugs) (t : TugId) :
    ((u.coreTest t).atTug t (fun k => { k with inPlace := true })).tugs =
      s.tugs.set t { s.tugs[t] with mode := .testing, spill := 0, inPlace := true } :=
  (atTug_atTug_tugs ..).trans (congrArg (fun (v : Vector Tug 52) => v.set t { v[t] with mode := .testing, spill := 0, inPlace := true }) h)

/-- A spill that rebinds: the berth's new Tug, the old one in its test, the event, and the hardware. -/
theorem overrun_rebinds {s : State} {b : BerthId} {t n : TugId} (e : EvBody) (hx : s.berths[b].id.tug = some t) (hn : n ≠ t) :
    let u := (((s.devEvent e b).countRebind b).rebind b n .fault true).coreTest t
    u.berths[b].id.tug = some n ∧ u.tugs[n].berth = some b ∧ u.tugs[n].entry = some (.fault, true) ∧ u.tugs[n].from_ = some t ∧
      u.tugs[t].berth = none ∧ u.tugs[t].mode = .testing ∧ u.devOut.length = s.devOut.length + 1 ∧ u.mem = s.mem ∧ u.quays = s.quays ∧
      s.berths[b].KeepsHw u.berths[b] := by
  intro u
  have hc := countRebind_keeps (s.devEvent e b) b
  have hb : ((s.devEvent e b).countRebind b).berths[b] = s.berths[b] := congrArg (fun (v : Vector Berth 48) => v[b]) hc.1.berths
  have hx' : ((s.devEvent e b).countRebind b).berths[b].id.tug = some t := (congrArg (·.id.tug) hb).trans hx
  have hh := rebind_hw (n := n) .fault true hx'
  rw [hb] at hh
  have et := coreTest_self (((s.devEvent e b).countRebind b).rebind b n .fault true) t
  rw [rebind_old .fault true hx' hn] at et
  have new := rebind_new (n := n) .fault true hx'
  rw [← coreTest_other _ hn.symm] at new
  exact ⟨rebind_tug .fault true hx', new.1, new.2.1, new.2.2, congrArg Tug.berth et, congrArg Tug.mode et,
    (congrArg List.length ((coreTest_devOut ..).trans ((rebind_devOut ..).trans hc.2))).trans List.length_append, (coreTest_mem ..).trans ((rebind_mem ..).trans hc.1.mem),
    (coreTest_quays ..).trans ((rebind_quays ..).trans hc.1.quays), hh⟩

end State
end Sys2Proof.Machine

namespace Sys2Proof.Proofs

open Sys2Proof Sys2Proof.Machine Sys2Proof.Machine.State

/-- Settles O40: the spill that hands the berth over, and the core test that passes or fails. -/
theorem tugOverruns : Obligations.TugOverruns := by
  unfold Obligations.TugOverruns
  intro s b t n pass
  refine ⟨fun hm hs hk hx hf => ?spare, fun hm hs hk hx hf => ?inPlace, fun h => ?stands, fun h => ?done, fun hm hp hw => ?passed, fun hm => ?failed⟩
  case spare =>
    have hn : n ≠ t := fun e => nomatch (congrArg (fun (i : TugId) => s.tugs[i].berth) e).symm.trans (freeTug_berth hf) |>.symm.trans hk
    exact ⟨_, congrArg Host.Outcome.next (tideOverrun_spare hm hs hk hf), overrun_rebinds _ hx hn⟩
  case inPlace =>
    have h := recordDevice_keeps (s.devEvent (.tideOverrun t 0xFF 5 s.tugs[t].pcn) b) 0x11 0xFF s.now
      (leBytes 1 t.val ++ leBytes 1 5 ++ [0, 0] ++ leBytes 4 s.tugs[t].pcn.toNat) s.time
    exact ⟨_, congrArg Host.Outcome.next (tideOverrun_inPlace hm hs hk hf), h.1.berths,
      overrun_inPlace_tugs h.1.tugs t, (congrArg List.length h.2.devOut).trans List.length_append,
      h.1.mem, h.1.quays⟩
  case stands => exact congrArg Host.Outcome.next (tideOverrun_stands h)
  case done => exact congrArg Host.Outcome.next (if_pos h)
  case passed =>
    refine ⟨_, congrArg Host.Outcome.next (tugTestDone_eq hm (by rw [hp]; rfl)), ?_⟩
    rw [hw, judge_host]
    exact ⟨congrArg Tug.mode (atTug_self ..), testTold_passed s t 0⟩
  case failed =>
    refine ⟨_, congrArg Host.Outcome.next (tugTestDone_eq hm (Bool.and_false _)), ?_⟩
    rw [judge_failed]
    obtain ⟨hp, hr, hl⟩ := testTold_failed s (s.markLasting (.tug t)) t
    rw [markLasting_later] at hl
    have lp := markLasting_parts s (.tug t)
    refine ⟨congrArg Tug.mode (atTug_self ..), congrArg Tug.inPlace (atTug_self ..), (congrArg Repair.lasting hr).trans (markLasting_lasting ..), ?_,
      (congrArg List.length (atTug_later ..)).trans hl,
      (atTug_berths ..).trans (hp.berths.trans lp.berths), (atTug_quays ..).trans (hp.quays.trans lp.quays), (atTug_mem ..).trans (hp.mem.trans lp.mem)⟩
    have e := markOf_congr (congrArg Repair.marks hr) (.tug t)
    exact (congrArg LocMark.lasting ((atTug_markOf ..).trans e)).trans (markOf_markLasting s (.tug t))

end Sys2Proof.Proofs

/-!
SUPPORT. Pilot's commands: the level asked for, the views, and the mailbox commands run under a Pilot tag.
-/

namespace Sys2Proof.Machine.State

/-- Pilot's state as a line begins: the console's pending reversion ends. -/
noncomputable def pilotLined (s : State) : State := { s with pilot := { s.pilot with revert := false } }

theorem pilotLine_on {s : State} (h : s.pilot.on = true) (f : State → State) : s.pilotLine f = f s.pilotLined := if_pos h

theorem pilotAt_low {s : State} {need : Nat} (h : s.pilot.on = true) (hl : s.pilot.level < need) (f : State → State) :
    s.pilotAt need f = s.pilotLined.sayErr .notPermitted := (pilotLine_on h _).trans (if_pos hl)

theorem pilotAt_runs {s : State} {need : Nat} (h : s.pilot.on = true) (hl : need ≤ s.pilot.level) (f : State → State) :
    s.pilotAt need f = f s.pilotLined := (pilotLine_on h _).trans (if_neg (Nat.not_lt.mpr hl))

theorem pilotTake_full {s : State} (h : 4 ≤ s.tagsOn .pilot) (code level : Nat) (p : List Byte) (f : Origin → State → State) :
    s.pilotTake code level p f = s.sayErr .noResource := if_pos h

/-- A command accepted from Pilot, with its level. -/
noncomputable def pilotTook (s : State) (code level : Nat) (p : List Byte) : State :=
  let o : Origin := { path := .pilot, tag := s.pilotTag }
  let e := s.enterTag o code false (some p) s.now
  { e with tags := e.tags.map (fun (g : TagEntry) => if g.origin = o then { g with level := level } else g) }

theorem pilotTake_room {s : State} (h : s.tagsOn .pilot < 4) (code level : Nat) (p : List Byte) (f : Origin → State → State) :
    s.pilotTake code level p f = f { path := .pilot, tag := s.pilotTag } (s.pilotTook code level p) := if_neg (Nat.not_le.mpr h)

theorem pilotRun_room {s : State} {need v : Nat} (h : s.pilot.on = true) (hl : need ≤ s.pilot.level) (hr : s.tagsOn .pilot < 4)
    (hv : max 1 s.pilot.level = v) (code : Nat) (p : List Byte) (run : Origin → List Byte → State → Host.Outcome State Fault Refusal) :
    s.pilotRun need code p run = (s.pilotLined.pilotTook code v p).landed
      (run { path := .pilot, tag := s.pilotTag } p (s.pilotLined.pilotTook code v p)) := by
  subst hv
  exact (pilotAt_runs h hl _).trans (pilotTake_room (s := s.pilotLined) hr ..)

theorem pilotRun_full {s : State} {need : Nat} (h : s.pilot.on = true) (hl : need ≤ s.pilot.level) (hr : s.tagsOn .pilot = 4) (code : Nat) (p : List Byte)
    (run : Origin → List Byte → State → Host.Outcome State Fault Refusal) :
    s.pilotRun need code p run = s.pilotLined.sayErr .noResource :=
  (pilotAt_runs h hl _).trans (pilotTake_full (s := s.pilotLined) (Nat.le_of_eq hr.symm) ..)

/-! ### The view of the device -/

theorem peekBars_none {s : State} {a n : Nat} (he : s.runError a n = none) (hn : (n = 0 || 124 < n) = false) (hd : s.debugLevel < 2) :
    s.peekBars a n = none := by
  rw [peekBars, he, hn, decide_eq_false (Nat.not_le.mpr hd)]
  rfl

theorem peekBars_locked {s : State} {a n : Nat} (he : s.runError a n = none) (hn : (n = 0 || 124 < n) = false) (hd : 2 ≤ s.debugLevel) :
    s.peekBars a n = some .notPermitted := by
  rw [peekBars, he, hn, decide_eq_true hd]
  rfl

theorem pilotWords_barred {s : State} {a n : Nat} {st : Status} (h : s.peekBars a n = some st) : s.pilotWords a n = s.sayErr st := by
  rw [pilotWords, h]

theorem pilotWords_read {s : State} {a n : Nat} (h : s.peekBars a n = none) : s.pilotWords a n =
    (s.viewRead a n).2.2.sayOk ((fours 31 ((wordsAt a n).zip (hideBackup a (s.viewRead a n).1))).map s.wordLine) := by
  rw [pilotWords, h]

theorem exchangeBase_le (n : Nat) : exchangeBase n + 0x1000 ≤ 0x1100000 :=
  (Nat.add_le_add_right (Nat.add_le_add_left (Nat.mul_le_mul_left 4 (Nat.mod_lt _ (by decide)).le) _) _).trans
    (by decide : 0x00E88000 + 4 * 384001 + 0x1000 ≤ 0x1100000)

/-- The backup registers are no exchange area and no window: a read of them is not speculative. -/
theorem specAt_backup (s : State) {a : Nat} (h : 0x70000000 ≤ a) : s.specAt a = false := by
  have out : ¬(a < 0x40030000) := Nat.not_lt.mpr ((by decide : 0x40030000 ≤ 0x70000000).trans h)
  rw [specAt, decide_eq_false out, Bool.and_false, if_neg Bool.false_ne_true, List.any_eq_false]
  intro t _ e
  exact Nat.lt_irrefl a ((of_decide_eq_true ((Bool.and_eq_true ..).mp e).2).trans_le
    ((exchangeBase_le t).trans ((by decide : 0x1100000 ≤ 0x70000000).trans h)))

theorem wordLine_backup (s : State) {x : List (Nat × Word)} (h : ∀ y ∈ x, 0x70000000 ≤ y.1) :
    s.wordLine x = .words (x.map (fun (y : Nat × Word) => y.2.toNat)) :=
  if_neg (ne_true_of_eq_false (List.any_eq_false.mpr fun y hy => ne_true_of_eq_false (specAt_backup s (h y hy))))

/-- The keys among the backup registers print as zero (R419). -/
theorem pilotWords_hidden {s : State} (hd : s.debugLevel < 2) :
    s.pilotWords 0x7F004020 2 = { s with freeCtr := s.freeCtr + 1 }.sayOk [.words [0, 0]] :=
  (pilotWords_read (peekBars_none (by rfl) rfl hd)).trans (congrArg (fun l => State.sayOk { s with freeCtr := s.freeCtr + 1 } [l])
    (wordLine_backup s (x := [(0x7F004020, 0), (0x7F004024, 0)]) (by decide)))

theorem viewWord_backup (s : State) : s.viewWord 0x7F004000 = s.retained.backup[0] := by
  rw [viewWord, if_neg (by decide), if_neg (by decide), if_neg (by decide), if_neg (by decide), if_neg (by decide), if_neg (by decide),
    if_neg (by decide)]
  rfl

theorem hideBackup_shown (w : Word) : hideBackup 0x7F004000 [w] = [w] := by simp [hideBackup, wordsAt]

theorem fours_one (x : Nat × Word) : fours 31 [x] = [[x]] := by
  rw [fours, if_neg (by simp), List.take_of_length_le (by simp), List.drop_eq_nil_of_le (by simp), fours, if_pos rfl]

theorem backup_line (s : State) (w : Word) : s.wordLine [(0x7F004000, w)] = .words [w.toNat] :=
  wordLine_backup s fun y hy => by
    rw [List.mem_singleton.mp hy]
    exact (by decide : 0x70000000 ≤ 0x7F004000)

theorem pilotWords_backup {s : State} (hd : s.debugLevel < 2) :
    s.pilotWords 0x7F004000 1 = { s with freeCtr := s.freeCtr + 1 }.sayOk [.words [s.retained.backup[0].toNat]] := by
  rw [pilotWords_read (peekBars_none (by rfl) rfl hd), show (s.viewRead 0x7F004000 1).1 = [s.viewWord 0x7F004000] from rfl, hideBackup_shown, viewWord_backup]
  refine congrArg (State.sayOk _) ?_
  change (fours 31 [(0x7F004000, _)]).map _ = _
  rw [fours_one, List.map_singleton, backup_line]

/-! ### The registers of a block -/

theorem windowBar_open {s : State} {b : BerthId} (hb : b.val < s.berthsOn) (hf : s.isFenced b = false) (hr : s.reaches b = true) :
    s.windowBar b.val = none := by
  rw [windowBar, dif_pos b.isLt, if_neg (Nat.not_le.mpr hb), if_neg (ne_true_of_eq_false hf), hr]
  rfl

/-- An address in the windows of the berths (Table 1.9). -/
theorem viewError_window (s : State) {a : Nat} (h4 : a % 4 = 0) (lo : 0x40000000 ≤ a) (hi : a < 0x40030000) :
    s.viewError a = s.windowBar ((a - 0x40000000) / 0x1000) := by
  have above {n : Nat} (h : n ≤ 0x40000000) : decide (a < n) = false := decide_eq_false (Nat.not_lt.mpr (h.trans lo))
  rw [viewError, if_neg (not_not.mpr h4), above (by decide), above (by decide), Bool.and_false, Bool.or_false, if_neg Bool.false_ne_true,
    if_pos (by rw [decide_eq_true lo, decide_eq_true hi]; rfl)]

/-- The word at offset `o` of a berth's window. -/
noncomputable def windowAddr (b : BerthId) (o : Nat) : Nat := 0x40000000 + 0x1000 * b.val + o

theorem windowAddr_mod (b : BerthId) {o : Nat} (h : o < 0x1000) : windowAddr b o % 0x1000 = o := by
  rw [windowAddr, show 0x40000000 = 0x1000 * 0x40000 from rfl, ← Nat.mul_add, Nat.mul_add_mod, Nat.mod_eq_of_lt h]

theorem windowAddr_lt (b : BerthId) {o : Nat} (h : o < 0x1000) : windowAddr b o < 0x40030000 :=
  (Nat.add_lt_add_left h _).trans_le (Nat.add_assoc .. ▸ Nat.add_le_add_left (Nat.mul_le_mul_left 0x1000 (Nat.succ_le_of_lt b.isLt)) 0x40000000)

theorem windowAddr_berth (b : BerthId) {o : Nat} (h : o < 0x1000) : (windowAddr b o - 0x40000000) / 0x1000 = b.val := by
  rw [windowAddr, Nat.add_assoc, Nat.add_sub_cancel_left, Nat.mul_add_div (by decide), Nat.div_eq_of_lt h, Nat.add_zero]

theorem windowAddr_four (b : BerthId) {o : Nat} (h : o % 4 = 0) : windowAddr b o % 4 = 0 :=
  Nat.mod_eq_zero_of_dvd (Nat.dvd_add (Nat.dvd_add (by decide) (Nat.dvd_mul_right_of_dvd (by decide) _)) (Nat.dvd_of_mod_eq_zero h))

/-- A word of a berth's window is reached when the berth is. -/
theorem runError_window {s : State} {b : BerthId} (hb : b.val < s.berthsOn) (hf : s.isFenced b = false) (hr : s.reaches b = true)
    {o : Nat} (h4 : o % 4 = 0) (ho : o < 0x1000) : s.runError (windowAddr b o) 1 = none := by
  refine List.findSome?_eq_none_iff.mpr (List.forall_mem_singleton.mpr ?_)
  refine (viewError_window s (windowAddr_four b h4) ((Nat.le_add_right ..).trans (Nat.le_add_right ..)) (windowAddr_lt b ho)).trans ?_
  exact (congrArg s.windowBar (windowAddr_berth b ho)).trans (windowBar_open hb hf hr)

theorem readOne_plain (x : List Word × State) {a : Nat} (h : a % 0x1000 ≠ 0x21C) : (readOne x a).2 = x.2 := by
  refine if_neg fun e => h ?_
  exact (of_decide_eq_true ((Bool.and_eq_true ..).mp e).1).2.2

/-- The free counter moved on. -/
noncomputable def movedOn (s : State) (n : Nat) : State := { s with freeCtr := s.freeCtr + n }

theorem movedOn_movedOn (s : State) (m n : Nat) : (s.movedOn m).movedOn n = s.movedOn (m + n) :=
  congrArg (fun k => { s with freeCtr := k }) (Nat.add_assoc ..)

theorem viewRead_plain (s : State) {a : Nat} (h : a % 0x1000 ≠ 0x21C) : (s.viewRead a 1).2.2 = s.movedOn 1 :=
  congrArg (fun (u : State) => u.movedOn 1) (readOne_plain ([], s) (a := a + 4 * 0) h)

/-- A run of reads that each moves the free counter alone. -/
theorem foldl_movedOn {α β : Type} (f : β × State → α → β × State) (l : List α) (h : ∀ x, ∀ o ∈ l, (f x o).2 = x.2.movedOn 1) (x : β × State) :
    (l.foldl f x).2 = x.2.movedOn l.length := by
  induction l generalizing x with
  | nil => rfl
  | cons o l ih =>
    rw [List.foldl_cons, ih (fun y p hp => h y p (List.mem_cons_of_mem _ hp)), h x o List.mem_cons_self, movedOn_movedOn, List.length_cons,
      Nat.add_comm]

/-- A block's registers printed: the free counter moves by one for each, and the line is added. -/
theorem pilotBlock_prints {s : State} {b : BerthId} (hb : b.val < s.berthsOn) (hf : s.isFenced b = false) (hr : s.reaches b = true)
    (hd : s.debugLevel < 2) : ∃ l, s.pilotBlock b.val 7 = (s.movedOn 7).sayOk l := by
  have hbar : (if blockRegs 7 = [] || 48 ≤ b.val then some Status.badArg else s.peekBars (0x40000000 + 0x1000 * b.val) 1) = none := by
    rw [decide_eq_false (Nat.not_le.mpr b.isLt), show decide (blockRegs 7 = []) = false from rfl, if_neg (by decide)]
    exact peekBars_none (runError_window hb hf hr (o := 0) rfl (by decide)) rfl hd
  rw [pilotBlock, hbar]
  dsimp only
  have small : ∀ o ∈ blockRegs 7, o < 0x1000 ∧ o ≠ 0x21C := by decide
  exact ⟨_, congrArg (fun (u : State) => u.sayOk _) (foldl_movedOn (β := List PilotOut) _ (blockRegs 7)
    (fun x o ho => viewRead_plain x.2 (a := windowAddr b o) fun e => (small o ho).2 ((windowAddr_mod b (small o ho).1).symm.trans e)) (_, s))⟩

/-! ### The operands of a command -/

theorem leAt_berth : ∀ b : Fin 48, leAt [BitVec.ofNat 8 b.val] 0 1 = b.val := by decide

theorem berthNo_val (b : BerthId) : berthNo b.val = b := Fin.ext (Nat.mod_eq_of_lt b.isLt)

/-- A berth named in a command's first byte is present (R306). -/
theorem berthChecks_free {s : State} {b : BerthId} {q : List Byte} (h : leAt q 0 1 = b.val) (hb : b.val < s.berthsOn) (l : List Check) :
    firstBad (s.berthChecks q 0 false ++ l) = firstBad l := by
  rw [berthChecks, h, decide_eq_false (Nat.not_le.mpr hb), decide_eq_false (Nat.not_le.mpr b.isLt), Bool.and_false, Bool.false_and]
  rfl

/-- The operand of a dump is good. -/
theorem dumpChecks {s : State} {b : BerthId} (hb : b.val < s.berthsOn) :
    firstBad (s.berthChecks [BitVec.ofNat 8 b.val] 0 false ++ [((decide (256 ≤ b.val), Status.badArg) : Check)]) = none := by
  rw [berthChecks_free (leAt_berth b) hb, decide_eq_false (Nat.not_le.mpr (b.isLt.trans (by decide)))]
  rfl

theorem pilotDump_none {s : State} {b : BerthId} (hb : b.val < s.berthsOn) (hf : s.tele[b].frozen = none) (rel : Bool) :
    s.pilotDump b.val rel = s.sayErr .notPermitted := by
  rw [pilotDump, dumpChecks hb]
  dsimp only
  rw [show s.tele[berthNo b.val].frozen = none from (congrArg (fun (c : BerthId) => s.tele[c].frozen) (berthNo_val b)).trans hf]

theorem pilotDump_some {s : State} {b : BerthId} {f : CapFrozen} (hb : b.val < s.berthsOn) (hf : s.tele[b].frozen = some f) (rel : Bool) :
    s.pilotDump b.val rel = (s.say ((List.range f.size).map (fun (i : Nat) => PilotOut.capSet i (setOfBytes (s.ringRead b (f.first + i)))) ++
      if rel then [.release b] else [])).sayOk [] := by
  rw [pilotDump, dumpChecks hb]
  dsimp only
  rw [show s.tele[berthNo b.val].frozen = some f from (congrArg (fun (c : BerthId) => s.tele[c].frozen) (berthNo_val b)).trans hf]
  dsimp only
  rw [berthNo_val]

theorem pilotSlots_all (s : State) : s.pilotSlots 4 0xFF = s.sayOk ((s.areaSlots 4).map (fun (k : Nat) => PilotOut.bytes (s.listEntry k))) := by
  have h : firstBad ((if 0xFF = 0xFF then [] else s.berthChecks [BitVec.ofNat 8 0xFF] 0 false) ++ [((6 ≤ 4 || 256 ≤ 0xFF, .badArg) : Check)]) = none := rfl
  rw [pilotSlots, h]
  exact congrArg (fun (l : List Nat) => s.sayOk (l.map (fun (k : Nat) => PilotOut.bytes (s.listEntry k)))) (List.filter_eq_self.mpr fun _ _ => rfl)

/-- The payload of a poke of one word. -/
theorem poke_payload (w : Word) : leBytes 4 0x280000 ++ leBytes 2 [w].length ++ [0, 0] ++ [w].flatMap (fun (w : Word) => leBytes 4 w.toNat) =
    [0, 0, 0x28, 0, 1, 0, 0, 0] ++ leBytes 4 w.toNat :=
  congrArg₂ List.append (by decide : leBytes 4 0x280000 ++ leBytes 2 1 ++ [0, 0] = [0, 0, 0x28, 0, 1, 0, 0, 0]) (List.append_nil _)

/-! ### What Pilot prints -/

theorem ite_eq_of {α : Type} {p : Prop} [Decidable p] {x y z : α} (hx : x = z) (hy : y = z) : (if p then x else y) = z := by
  rw [hx, hy, ite_self]

theorem put_level (p : Pilot) (x : PilotOut) : (p.put x).level = p.level := (apply_ite Pilot.level ..).trans (ite_self _)

theorem report_level (p : Pilot) : p.report.level = p.level := (apply_ite Pilot.level ..).trans (ite_eq_of (put_level ..) rfl)

theorem add_level (p : Pilot) (x : PilotOut) : (p.add x).level = p.level :=
  (apply_ite Pilot.level ..).trans (ite_eq_of ((put_level ..).trans (report_level p)) (report_level p))

theorem say_level (p : Pilot) (l : List PilotOut) : (p.say l).level = p.level := by
  induction l generalizing p with
  | nil => rfl
  | cons x l ih => exact (ih (p.add x)).trans (add_level p x)

theorem say_say (s : State) (l m : List PilotOut) : (s.say l).say m = s.say (l ++ m) :=
  congrArg (fun p => { s with pilot := p }) (List.foldl_append ..).symm

theorem sayOk_say (s : State) (l : List PilotOut) : (s.say l).sayOk [] = s.say (l ++ [.ok, .prompt s.pilot.level]) :=
  (congrArg (fun n => (s.say l).say [.ok, .prompt n]) (say_level ..)).trans (say_say ..)

end Sys2Proof.Machine.State

namespace Sys2Proof.Proofs

open Sys2Proof Sys2Proof.Machine Sys2Proof.Machine.State

/-- Settles O59: below its level a command is answered at once (`pilotAt_low`), at it the command does its own (`pilotAt_runs`); a mailbox
command takes the lowest free Pilot tag (`pilotRun_room`) unless four are taken (`pilotRun_full`). -/
theorem pilotCommands : Obligations.PilotCommands := by
  unfold Obligations.PilotCommands
  intro s b t a m kinds w f rel c at1 at2 room n deny bad o took
  refine ⟨fun h hl => ?level0, fun h hl => ?level1, ?_⟩
  case level0 =>
    have low {i : Instr} {g : State → State} (e : exec i s = .next (s.pilotAt 1 g)) : s.Gives i deny :=
      ⟨_, e, pilotAt_low h (Nat.lt_of_le_of_lt hl.le Nat.zero_lt_one) g⟩
    exact ⟨low rfl, low (congrArg Host.Outcome.next (if_neg (by decide))), low rfl, low rfl, low rfl, low (congrArg Host.Outcome.next (if_neg (by decide))),
      low rfl, low rfl, low rfl, low rfl⟩
  case level1 =>
    have low (g : State → State) : s.pilotAt 2 g = n.say [.err .notPermitted, .prompt c.level] := pilotAt_low h (Nat.lt_succ_of_le hl) g
    exact ⟨⟨_, rfl, ite_eq_of (low _) (low _)⟩, ⟨_, congrArg Host.Outcome.next (if_neg (by decide)), low _⟩, ⟨_, rfl, low _⟩⟩
  refine ⟨fun h => ⟨_, rfl, pilotAt_runs h.1 h.2 _ |>.trans (dif_pos t.isLt)⟩, fun h => ⟨_, rfl, pilotAt_runs h.1 h.2 _⟩, fun h hd => ?_, fun h hd => ?_,
    fun h => ⟨_, rfl, pilotAt_runs h.1 h.2 _⟩, fun h hd => ?_, fun h => ⟨⟨_, rfl, pilotAt_runs h.1 h.2 _⟩, ⟨_, rfl, pilotAt_runs h.1 h.2 _⟩⟩, fun h hb hf hr hd => ?_,
    fun h => ⟨_, rfl, pilotAt_runs h.1 h.2 _⟩, fun h => ⟨_, rfl, pilotAt_runs h.1 h.2 _⟩, fun h => ⟨_, rfl, ?_⟩, fun h => ⟨_, rfl, pilotAt_runs h.1 h.2 _⟩,
    fun h => ⟨_, rfl, pilotAt_runs h.1 h.2 _⟩, fun h hb hf => ?_, fun h hb hf hs => ?_,
    fun h hr => ⟨_, rfl, pilotRun_room h.1 h.2 hr rfl ..⟩, fun h hr => ?_, fun h => ⟨⟨_, rfl, pilotAt_runs h.1 h.2 _⟩, ⟨_, rfl, pilotAt_runs h.1 h.2 _⟩⟩,
    fun h hr => ?_, fun h hr => ⟨_, rfl, pilotRun_room h.1 h.2 hr rfl ..⟩, fun h hr => ?_, fun h => ⟨⟨_, rfl, pilotAt_runs h.1 h.2 _⟩, ⟨_, rfl, pilotAt_runs h.1 h.2 _⟩⟩,
    fun h hr => ?_, fun h hr => ⟨⟨_, rfl, pilotRun_full h.1 h.2 hr ..⟩, ⟨_, rfl, ?_⟩⟩, fun h hr => ⟨_, rfl, ?_⟩, fun h hr => ⟨_, rfl, ?_⟩⟩
  · exact ⟨_, rfl, (pilotAt_runs h.1 h.2 _).trans (pilotWords_hidden (s := n) hd)⟩
  · exact ⟨_, rfl, (pilotAt_runs h.1 h.2 _).trans (pilotWords_backup (s := n) hd)⟩
  · exact ⟨_, rfl, (pilotAt_runs h.1 h.2 _).trans (pilotWords_barred (peekBars_locked (s := n) (by rfl) rfl hd))⟩
  · obtain ⟨l, e⟩ := pilotBlock_prints (s := n) hb hf hr hd
    exact ⟨_, congrArg Host.Outcome.next ((pilotAt_runs h.1 h.2 _).trans e), rfl, rfl, rfl, rfl, say_level ..⟩
  · exact (pilotAt_runs h.1 h.2 _).trans (pilotSlots_all n)
  · exact ⟨_, rfl, (pilotAt_runs h.1 h.2 _).trans (pilotDump_none (s := n) hb hf rel)⟩
  · refine ⟨_, rfl, (pilotAt_runs h.1 h.2 _).trans ((pilotDump_some (s := n) hb hf rel).trans (sayOk_say ..))⟩
  · exact ⟨_, congrArg Host.Outcome.next (if_neg (Nat.not_le.mpr (b.isLt.trans (by decide)))), pilotRun_room h.1 h.2 hr rfl ..⟩
  · exact ⟨_, congrArg Host.Outcome.next (if_neg (by decide)), pilotRun_room h.1 h.2 hr rfl ..⟩
  · refine ⟨_, congrArg Host.Outcome.next (if_neg Bool.false_ne_true), (pilotRun_room h.1 h.2 hr (Nat.max_eq_right (Nat.le_of_succ_le h.2)) ..).trans ?_⟩
    exact congrArg (fun p => State.landed (n.pilotTook 0x0B02 c.level p) (execDbgPoke o p (n.pilotTook 0x0B02 c.level p))) (poke_payload w)
  · exact ⟨_, congrArg Host.Outcome.next (if_neg (by decide)), pilotRun_room h.1 h.2 hr (Nat.max_eq_right (Nat.le_of_succ_le h.2)) ..⟩
  · exact (pilotLine_on h.1 _).trans (pilotTake_full (s := n) (Nat.le_of_eq hr.symm) ..)
  · exact (pilotLine_on h _).trans (pilotTake_room (s := n) hr ..)
  · exact (pilotLine_on h _).trans (pilotTake_room (s := n) hr ..)

end Sys2Proof.Proofs

/-!
SUPPORT. How a mailbox command begins and how it is answered: what neither touches, and what runs once its checks pass.
-/

namespace Sys2Proof.Machine

/-- From the first link to the second only the frames on its line and its queue differ. -/
def Link.Talks (x y : Link) : Prop := y = { x with line := y.line, queue := y.queue }

namespace State

/-- The parts that talk to the host, put in place. -/
noncomputable def talked (s : State) (k : List TagEntry) (n : Nat) (l : Vector Link 2) (m : Smb) (p : Pilot) : State :=
  { s with tags := k, nextOrder := n, links := l, smb := m, pilot := p }

/-- From the first state to the second only the parts that talk to the host differ: the tags, and of the links the line and the queue. -/
def Talks (s t : State) : Prop :=
  (∀ (α : Type) (g : State → α), (∀ u k n l m p, g (u.talked k n l m p) = g u) → g t = g s) ∧
    ∀ l, Link.Talks (s.link l) (t.link l)

theorem Talks.refl (s : State) : s.Talks s := ⟨fun _ _ _ => rfl, fun _ => rfl⟩

theorem Talks.trans {s t u : State} (h : s.Talks t) (g : t.Talks u) : s.Talks u :=
  ⟨fun α p hp => (g.1 α p hp).trans (h.1 α p hp), fun l => by
    have e := g.2 l
    rw [h.2 l] at e
    exact e⟩

/-- What neither the tags nor the links' lines are is the same. -/
theorem Talks.same {s t : State} (h : s.Talks t) {α : Type} (g : State → α)
    (hg : ∀ u k n l m p, g (u.talked k n l m p) = g u) : g t = g s := h.1 α g hg

theorem Talks.berths {s t : State} (h : s.Talks t) : t.berths = s.berths := h.same State.berths fun _ _ _ _ _ _ => rfl
theorem Talks.quays {s t : State} (h : s.Talks t) : t.quays = s.quays := h.same State.quays fun _ _ _ _ _ _ => rfl
theorem Talks.mem {s t : State} (h : s.Talks t) : t.mem = s.mem := h.same State.mem fun _ _ _ _ _ _ => rfl

theorem Talks.link_same {s t : State} (h : s.Talks t) {α : Type} (g : Link → α) (hg : ∀ x l q, g { x with line := l, queue := q } = g x) (l : LinkId) :
    g (t.link l) = g (s.link l) := (congrArg g (h.2 l)).trans (hg ..)

/-- A change of the tags alone. -/
theorem talks_tags (s : State) (k : List TagEntry) (n : Nat) : s.Talks { s with tags := k, nextOrder := n } :=
  ⟨fun _ _ hg => hg s k n s.links s.smb s.pilot, fun _ => rfl⟩

theorem queued_talks (s : State) (i : Fin 2) (q : List Response) :
    s.Talks { s with links := s.links.set i { s.links[i] with queue := q } } :=
  ⟨fun _ _ hg => hg s s.tags s.nextOrder _ s.smb s.pilot, fun l => by
    change Link.Talks s.links[linkIdx l] (s.links.set i _)[linkIdx l]
    by_cases e : i = linkIdx l
    · subst e
      rw [getFin_set_self]
      rfl
    · rw [getFin_set_other _ _ e]
      rfl⟩

theorem queueResponse_talks (s : State) (r : Response) : s.Talks (s.queueResponse r) := by
  unfold queueResponse
  split
  · exact queued_talks s 0 _
  · exact queued_talks s 1 _
  · exact ⟨fun _ _ hg => hg s s.tags s.nextOrder s.links _ s.pilot, fun _ => rfl⟩
  · exact ⟨fun _ _ hg => hg s _ s.nextOrder s.links s.smb _, fun _ => rfl⟩

theorem respond_talks (s : State) (o : Origin) (code : Nat) (st : Status) (body : List Byte) : s.Talks (s.respond o code st body) :=
  keeps_ite (R := Talks) (Talks.trans (talks_tags s _ s.nextOrder) (queueResponse_talks ..)) (Talks.refl s)

theorem credit_talks (s : State) : s.Talks s.credit :=
  ⟨fun _ _ hg => hg s s.tags s.nextOrder _ s.smb s.pilot, fun l => by
    change Link.Talks s.links[linkIdx l] (s.links.map _)[linkIdx l]
    rw [show (s.links.map _)[linkIdx l] = _ from Vector.getElem_map _ (linkIdx l).isLt]
    exact keeps_ite (R := Link.Talks) rfl rfl⟩

theorem enterTag_talks (s : State) (o : Origin) (code : Nat) (fence : Bool) (payload : Option (List Byte)) (t : Stamp) :
    s.Talks (s.enterTag o code fence payload t) :=
  have h := talks_tags s _ _
  keeps_ite (R := Talks) h (h.trans (credit_talks _))

theorem start_talks (s : State) (o : Origin) : s.Talks (s.start o) := talks_tags s _ s.nextOrder

/-- A command taken has its tag, entered now or before. -/
theorem takeCmd_talks (s : State) (o : Origin) (code : Nat) (p : List Byte) : ∀ q, (s.takeCmd o code p).2 = some q → s.Talks (s.takeCmd o code p).1 := by
  have entered := enterTag_talks s o code false (some p) s.now
  unfold takeCmd
  split
  · split
    · exact fun _ h => nomatch h
    · exact fun _ _ => start_talks s o
  · split
    · exact fun _ h => nomatch h
    · split
      · exact fun _ h => nomatch h
      · dsimp only
        split
        · exact fun _ h => nomatch h
        · exact fun _ _ => entered.trans (start_talks _ o)

theorem starts_iff {s : State} {o : Origin} {code : Nat} {p : List Byte} (h : s.starts o code p = true) :
    (s.takeCmd o code p).2 = some p ∧ (s.begun o code p).pathBars o code p = false := by
  obtain ⟨taken, free⟩ := (Bool.and_eq_true ..).mp h
  exact ⟨of_decide_eq_true taken, (Bool.not_eq_true' _).mp free⟩

/-- Beginning a command enters its tag, and nothing of the device moves. -/
theorem begun_talks {s : State} {o : Origin} {code : Nat} {p : List Byte} (h : s.starts o code p = true) : s.Talks (s.begun o code p) :=
  takeCmd_talks s o code p p (starts_iff h).1

theorem firstBad_append (l : List Check) (st : Status) : firstBad (l ++ [(false, st)]) = firstBad l := by
  rw [firstBad, List.find?_append]
  exact congrArg (Option.map _) (Option.or_none ..)

theorem runCmd_starts {s : State} {o : Origin} {code : Nat} {p : List Byte} (h : s.starts o code p = true) {checks : State → List Byte → List Check}
    {r : Option Status} (hc : firstBad (checks (s.begun o code p) p) = r) (go : State → List Byte → State) :
    s.runCmd o code p checks go = r.elim (go (s.begun o code p) p) ((s.begun o code p).respond o code) := by
  have e : s.takeCmd o code p = (s.begun o code p, some p) := Prod.ext rfl (starts_iff h).1
  rw [runCmd, e]
  dsimp only
  rw [(starts_iff h).2, firstBad_append, hc]
  cases r with
  | none => rfl
  | some st => rfl

/-- A command whose checks pass does its own. -/
theorem runCmd_passes {s : State} {o : Origin} {code : Nat} {p : List Byte} (h : s.starts o code p = true) {checks : State → List Byte → List Check}
    (hc : firstBad (checks (s.begun o code p) p) = none) (go : State → List Byte → State) :
    s.runCmd o code p checks go = go (s.begun o code p) p := runCmd_starts h hc go

/-- A command whose first failed check answers `st` does nothing else. -/
theorem runCmd_fails {s : State} {o : Origin} {code : Nat} {p : List Byte} (h : s.starts o code p = true) {checks : State → List Byte → List Check}
    {st : Status} (hc : firstBad (checks (s.begun o code p) p) = some st) (go : State → List Byte → State) :
    s.runCmd o code p checks go = (s.begun o code p).respond o code st := runCmd_starts h hc go

end State
end Sys2Proof.Machine

/-!
SUPPORT. What detaching and opening a berth leave: its Tug, its fence and the fences of its comparators.
-/

namespace Sys2Proof.Machine.Berth

/-- From the first berth to the second its Tug stands, its fence and its comparators' fences. -/
def KeepsSeat (x y : Berth) : Prop := y.id.tug = x.id.tug ∧ y.id.fenced = x.id.fenced ∧ y.mon.fence = x.mon.fence

theorem KeepsSeat.refl (x : Berth) : x.KeepsSeat x := ⟨rfl, rfl, rfl⟩

theorem KeepsSeat.trans {x y z : Berth} (h : x.KeepsSeat y) (g : y.KeepsSeat z) : x.KeepsSeat z :=
  ⟨g.1.trans h.1, g.2.1.trans h.2.1, g.2.2.trans h.2.2⟩

theorem foldl_seat {α : Type} (f : Berth → α → Berth) (h : ∀ (x : Berth) a, x.KeepsSeat (f x a)) (l : List α) (x : Berth) :
    x.KeepsSeat (l.foldl f x) := by
  induction l generalizing x with
  | nil => exact KeepsSeat.refl x
  | cons a l ih => exact (h x a).trans (ih _)

theorem ite_seat {x a b : Berth} {c : Prop} [Decidable c] (ha : x.KeepsSeat a) (hb : x.KeepsSeat b) : x.KeepsSeat (if c then a else b) :=
  State.keeps_ite (R := KeepsSeat) ha hb

/-! ### The transmitter and the power path -/

theorem endTx_seat (b : Berth) (r : TxResult) : b.KeepsSeat (b.endTx r) := by
  unfold endTx
  split
  · exact KeepsSeat.refl b
  · exact KeepsSeat.refl b

theorem openSink_seat (b : Berth) : b.KeepsSeat b.openSink := ite_seat (KeepsSeat.refl b) (KeepsSeat.refl b)

theorem startDischarge_seat (b : Berth) (t : Stamp) : b.KeepsSeat (b.startDischarge t) := ite_seat (KeepsSeat.refl b) (KeepsSeat.refl b)

/-- The choice of an opening by the path's state. -/
noncomputable def bySource (c : PathState) (x y z : Berth) : Berth := match c with
  | .srcRamp => x
  | .srcOn => y
  | _ => z

theorem bySource_rule {P : Berth → Prop} {c : PathState} {x y z : Berth} (hx : P x) (hy : P y) (hz : c ≠ .srcOn → P z) : P (bySource c x y z) := by
  cases c with
  | srcRamp => exact hx
  | srcOn => exact hy
  | _ => exact hz nofun

theorem openSource_seat (b : Berth) (t : Stamp) (dis : Bool) : b.KeepsSeat (b.openSource t dis) := by
  unfold openSource
  extract_lets _ _ y _ z
  have hy : b.KeepsSeat y := by
    refine bySource_rule (P := b.KeepsSeat) (c := b.path.state) ?_ ?_ fun _ => KeepsSeat.refl b
    · exact KeepsSeat.refl b
    · exact KeepsSeat.refl b
  have hz : b.KeepsSeat z := hy
  exact hz.trans (ite_seat (startDischarge_seat z t) (KeepsSeat.refl z))

/-! ### The regulator -/

theorem setTarget_seat (b : Berth) (mv : Nat) (t : Stamp) : b.KeepsSeat (b.setTarget mv t) := by
  unfold setTarget
  extract_lets y tgt
  have hy : b.KeepsSeat y := ite_seat (KeepsSeat.refl b) (KeepsSeat.refl b)
  exact hy.trans (ite_seat (KeepsSeat.refl y) (KeepsSeat.refl y))

theorem restart_seat (b : Berth) : b.KeepsSeat b.restart :=
  ite_seat (KeepsSeat.refl b) (ite_seat (KeepsSeat.refl b) (ite_seat (KeepsSeat.refl b) (ite_seat (KeepsSeat.refl b) (KeepsSeat.refl b))))

theorem regStandby_seat (b : Berth) (t : Stamp) : b.KeepsSeat (b.regStandby t) :=
  ite_seat (KeepsSeat.refl b) (setTarget_seat { b with reg.mode := .standby } 5000 t)

theorem applyMode_seat (b : Berth) (m : RegMode) (vref : Nat) (t : Stamp) : b.KeepsSeat (b.applyMode m vref t) := by
  unfold applyMode
  split
  · split
    · exact KeepsSeat.refl b
    · exact KeepsSeat.refl b
    · exact KeepsSeat.refl b
    · exact KeepsSeat.refl b
  · extract_lets _ y
    have hy : b.KeepsSeat y := setTarget_seat { b with reg.mode := m } _ t
    exact hy.trans (ite_seat (restart_seat { y with reg.zeroDue := true }) (KeepsSeat.refl y))

/-! ### The policy and the connection -/

theorem disarmAll_seat (b : Berth) : b.KeepsSeat b.disarmAll :=
  foldl_seat (fun x (_ : Unit) => x.cntId 2) (fun x _ => KeepsSeat.refl x) _ { b with phy.arm := 0 }

theorem setPhase_seat (b : Berth) (p : Phase) : b.KeepsSeat (b.setPhase p) :=
  ite_seat (KeepsSeat.refl b) (ite_seat (KeepsSeat.refl b) (KeepsSeat.refl b))

theorem newEpoch_seat (b : Berth) : b.KeepsSeat b.newEpoch := by
  refine KeepsSeat.trans ?_ ((disarmAll_seat _).trans (setPhase_seat _ .idle))
  exact KeepsSeat.refl b

theorem finishCmd_seat (b : Berth) (st : Status) : b.KeepsSeat (b.finishCmd st) := by
  unfold finishCmd
  split
  · exact KeepsSeat.refl b
  · exact KeepsSeat.refl b

theorem endCommands_seat (b : Berth) (st : Status) : b.KeepsSeat (b.endCommands st) :=
  (finishCmd_seat b st).trans ((foldl_seat (fun (x : Berth) c => x.answerHost c st) (fun x _ => KeepsSeat.refl x) _ _).trans (KeepsSeat.refl _))

theorem flushOwed_seat (b : Berth) : b.KeepsSeat b.flushOwed := by
  refine KeepsSeat.trans (KeepsSeat.refl b) (foldl_seat _ (fun x a => ?_) _ _)
  cases a with
  | resp d => exact KeepsSeat.refl x
  | ev e => exact KeepsSeat.refl x

theorem endEvery_seat (b : Berth) (st : Status) : b.KeepsSeat (b.endEvery st) :=
  (finishCmd_seat b st).trans ((foldl_seat (fun (x : Berth) c => x.answerHost c st) (fun x _ => KeepsSeat.refl x) _ _).trans (flushOwed_seat _))

theorem pushOvr_seat (b : Berth) : b.KeepsSeat (b.pushOwed { mark := .endOvr, data := 0 }) := ite_seat (KeepsSeat.refl b) (KeepsSeat.refl b)

theorem cutRx_seat (b : Berth) : b.KeepsSeat b.cutRx := by
  unfold cutRx
  extract_lets _ y
  have hy : b.KeepsSeat y := by
    subst y
    split
    · exact ite_seat (KeepsSeat.refl b) (KeepsSeat.refl b)
    · exact KeepsSeat.refl b
  refine hy.trans ?_
  split
  · exact KeepsSeat.refl y
  · exact ite_seat (KeepsSeat.refl y) (pushOvr_seat { y with phy.rxMsg := none })

theorem clearConnection_seat (b : Berth) : b.KeepsSeat b.clearConnection := (cutRx_seat b).trans (KeepsSeat.refl b.cutRx)

theorem cntDetach_seat (b : Berth) : b.KeepsSeat b.cntDetach := by
  unfold cntDetach
  split
  · exact KeepsSeat.refl b
  · exact KeepsSeat.refl b

theorem emit_seat (b : Berth) (e : EvBody) : b.KeepsSeat (b.emit e) := ite_seat (KeepsSeat.refl b) (KeepsSeat.refl b)

theorem vconnOff_seat (b : Berth) : b.KeepsSeat b.vconnOff := KeepsSeat.refl b

theorem regIdle_seat (b : Berth) : b.KeepsSeat b.regIdle := KeepsSeat.refl b

theorem addPend_seat (b : Berth) (p : Pend) : b.KeepsSeat (b.addPend p) := KeepsSeat.refl b

theorem ccEvt_seat (b : Berth) (i : Nat) : b.KeepsSeat (b.ccEvt i) := KeepsSeat.refl b

theorem detach_seat (b : Berth) (t reason : Nat) (st : Status) : b.KeepsSeat (b.detach t reason st) := by
  unfold detach
  refine ite_seat (KeepsSeat.refl b) ?_
  extract_lets left wasSrc dur x1 x2 x3 x4 _ _ x5 x6
  have h2 : b.KeepsSeat x2 := (endTx_seat b _).trans ((openSink_seat _).trans ((openSource_seat ..).trans (vconnOff_seat _)))
  clear_value x2
  have h3 : x2.KeepsSeat x3 := ite_seat ((regIdle_seat x2).trans (applyMode_seat ..)) (ite_seat (regStandby_seat ..) (KeepsSeat.refl x2))
  clear_value x3
  have h4 : x3.KeepsSeat x4 := (newEpoch_seat x3).trans (endCommands_seat ..)
  clear_value x4
  have h5 : x4.KeepsSeat x5 := (clearConnection_seat x4).trans ⟨rfl, rfl, rfl⟩
  clear_value x5
  have h6 : x5.KeepsSeat x6 := (addPend_seat x5 _).trans ((cntDetach_seat _).trans ((ccEvt_seat ..).trans (emit_seat ..)))
  clear_value x6
  refine h2.trans (h3.trans (h4.trans (h5.trans (h6.trans ?_))))
  split
  · exact ite_seat (KeepsSeat.refl x6) (KeepsSeat.refl x6)
  · exact KeepsSeat.refl x6

theorem dropStaged_seat (x : Berth) : x.KeepsSeat (State.dropStaged x) := by
  unfold State.dropStaged
  extract_lets isCommit n _ y z
  have hy : x.KeepsSeat y := KeepsSeat.refl x
  have hz : y.KeepsSeat z := foldl_seat (fun (x : Berth) (_ : Unit) => x.discardOne) (fun y _ => KeepsSeat.refl y) _ _
  exact hy.trans (hz.trans ((disarmAll_seat z).trans (KeepsSeat.refl z.disarmAll)))

theorem lockClosed_seat (b : Berth) (t : Stamp) (st : Status) : b.KeepsSeat (b.lockClosed t st) := by
  unfold lockClosed
  extract_lets y z
  have hz : b.KeepsSeat z := (detach_seat ..).trans ((endEvery_seat ..).trans (dropStaged_seat _))
  split
  · exact hz
  · exact hz.trans (KeepsSeat.refl z)

end Sys2Proof.Machine.Berth

/-!
SUPPORT. The DEVICE and LINK commands: the length of what they answer, a quay's reset, and the links.
-/

namespace Sys2Proof.Machine

theorem length_flatMap_const {α β : Type} {f : α → List β} {n : Nat} (h : ∀ x, (f x).length = n) (l : List α) : (l.flatMap f).length = l.length * n := by
  induction l with
  | nil => exact (Nat.zero_mul n).symm
  | cons x l ih => rw [List.flatMap_cons, List.length_append, h, ih, List.length_cons, Nat.succ_mul, Nat.add_comm]

namespace State

theorem length_padTo (n : Nat) (l : List Byte) : (padTo n l).length = n := by
  rw [padTo, List.length_take_of_le]
  rw [List.length_append, List.length_replicate]
  exact Nat.sub_le_iff_le_add'.mp le_rfl

theorem length_identifyBody (s : State) : s.identifyBody.length = 244 := by
  rw [identifyBody, setBytes8, List.length_append, length_flatMap_const (fun _ => leBytes_length 4 _), List.length_finRange]
  simp only [List.length_append, length_padTo, leBytes_length, length_flatMap_const (fun _ => leBytes_length 4 _), List.length_cons, List.length_nil]

theorem length_stateBody (s : State) : s.stateBody.length = 48 := by
  simp only [stateBody, List.length_append, leBytes_length, length_flatMap_const (fun _ => leBytes_length 2 _), Vector.length_toList]

theorem length_linkBody (s : State) : s.linkBody.length = 36 := by
  have entry (x : Link) : (leBytes 1 x.state.code ++ leBytes 1 (flag x.inverted 0) ++ [0, 0]
      ++ leBytes 4 x.frameErrs.toNat ++ leBytes 4 x.retrains.toNat ++ leBytes 4 x.resent.toNat).length = 16 := by
    simp only [List.length_append, leBytes_length, List.length_cons, List.length_nil]
  rw [linkBody, List.length_append, length_flatMap_const entry, Vector.length_toList]
  rfl

/-! ### The reset of a quay -/

/-- The berths stand. -/
theorem foldl_berths {α : Type} (f : State → α → State) (h : ∀ s x, (f s x).berths = s.berths) (l : List α) (s : State) : (l.foldl f s).berths = s.berths :=
  foldl_rel (R := fun (s t : State) => t.berths = s.berths) (fun _ => rfl) (fun h g => g.trans h) f h l s

theorem respond_berths (s : State) (o : Origin) (code : Nat) (st : Status) (body : List Byte) : (s.respond o code st body).berths = s.berths :=
  (respond_keeps ..).1.berths

theorem jobDone_berths (s : State) (o : Origin) (b : BerthId) (st : Status) : (s.jobDone o b st).berths = s.berths := (jobDone_keeps ..).1.berths

theorem cutJobs_berths (s : State) (b : BerthId) (but : Option Origin) (st : Status) : (s.cutJobs b but st).berths = s.berths :=
  foldl_berths _ (fun s _ => ite_eq_of (x := s.berths) rfl (jobDone_berths s ..) |> fun h => (apply_ite State.berths ..).trans h) _ s

theorem cutTests_parts (s : State) (b : BerthId) (st : Status) : s.KeepsParts (s.cutTests b st) :=
  KeepsParts.trans (KeepsParts.refl s) (foldl_rel (R := KeepsParts) KeepsParts.refl KeepsParts.trans _ (fun _ _ => (respond_keeps ..).1) _ _)

theorem cutService_parts (s : State) (b : BerthId) (st : Status) : s.KeepsParts (s.cutService b st) := by
  unfold cutService
  extract_lets x u v w
  have hv : s.KeepsParts v := KeepsParts.trans (cutTests_parts s b st) (KeepsParts.refl u)
  clear_value v
  have hw : s.KeepsParts w := by
    subst w
    split
    · exact hv.trans (jobDone_keeps ..).1
    · exact hv
  clear_value w
  split
  · exact hw.trans (respond_keeps ..).1
  · exact hw

theorem cutService_berths (s : State) (b : BerthId) (st : Status) : (s.cutService b st).berths = s.berths := (cutService_parts ..).berths

theorem cutCapture_berths (s : State) (b : BerthId) (st : Status) : (s.cutCapture b st).berths = s.berths :=
  foldl_berths _ (fun _ _ => respond_berths ..) _ _

theorem stopTug_berths (s : State) (b : BerthId) : (s.stopTug b).berths = s.berths := by
  unfold stopTug
  split
  · rfl
  · rfl

/-- What a reset leaves of the berth. -/
noncomputable def resetBerth (t : Stamp) (lost : Bool) (x : Berth) : Berth :=
  let y := (x.lockClosed t .berthReset).afterReset
  if lost then y.lostDomain else y

theorem resetBerthBlock_berths (s : State) (b : BerthId) (lost : Bool) :
    (s.resetBerthBlock b lost).berths = (s.atBerth b (fun _ x => resetBerth s.now lost x)).berths :=
  (stopTug_berths ..).trans ((cutCapture_berths ..).trans ((cutService_berths ..).trans (cutJobs_berths ..)))

/-- The berth stands detached and open, with the fences of its comparators. -/
def IsReset (f : BitVec 27) (x : Berth) : Prop :=
  x.cc.state = .held ∧ x.path.state ≠ .srcOn ∧ x.path.state ≠ .snkOn ∧ x.id.contract = none ∧ x.mon.fence = f

theorem resetBerth_isReset (t : Stamp) (x : Berth) : IsReset x.mon.fence (resetBerth t false x) := by
  have gone {p : PathState} (h1 : p ≠ .locked) (h2 : p ≠ .off) (c : Prop) [Decidable c] : (if c then PathState.locked else .off) ≠ p := by
    split
    · exact h1.symm
    · exact h2.symm
  exact ⟨rfl, gone (by decide) (by decide) _, gone (by decide) (by decide) _, rfl, (Berth.lockClosed_seat ..).2.2⟩

theorem mem_berthsOf {q : QuayId} {b : BerthId} (h : quayOf b = q) : b ∈ berthsOf q := by
  subst h
  exact List.mem_map.mpr ⟨⟨b.val % 8, Nat.mod_lt _ (by decide)⟩, List.mem_finRange _,
    Fin.ext ((congrArg (· + b.val % 8) (Nat.mul_comm ..)).trans (Nat.div_add_mod ..))⟩

theorem quayOf_mem {q : QuayId} {b : BerthId} (h : b ∈ berthsOf q) : quayOf b = q := by
  obtain ⟨i, -, rfl⟩ := List.mem_map.mp h
  exact Fin.ext ((congrArg (· / 8) (Nat.add_comm ..)).trans ((Nat.add_mul_div_right _ _ (by decide)).trans
    ((congrArg (· + q.val) (Nat.div_eq_of_lt i.isLt)).trans (Nat.zero_add _))))

theorem IsReset.settled {f : BitVec 27} {x : Berth} (h : IsReset f x) : IsReset f x.settled := h

/-- What the step at `b` makes, and every step keeps, holds after a run over `b`. -/
theorem foldl_makes {α : Type} {I P : State → Prop} {f : State → α → State} {b : α} (step : ∀ s x, I s → I (f s x) ∧ (b = x ∨ P s → P (f s x)))
    (l : List α) (s : State) (h : I s) (hb : b ∈ l ∨ P s) : P (l.foldl f s) := by
  induction l generalizing s with
  | nil => exact hb.resolve_left List.not_mem_nil
  | cons x l ih =>
    refine ih (f s x) (step s x h).1 ?_
    rcases hb with hb | hp
    · exact (List.mem_cons.mp hb).symm.imp_right fun e => (step s x h).2 (.inl e)
    · exact .inr ((step s x h).2 (.inr hp))

/-- One berth of a quay in the quay's reset. -/
noncomputable def resetSeat (lost : Bool) (s : State) (b : BerthId) : State :=
  (s.resetBerthBlock b lost).atTele b (fun t => { t.restart with resets := [], held := false, reset := none })

theorem resetSeat_berths (s : State) (b : BerthId) (lost : Bool) : (resetSeat lost s b).berths = (s.atBerth b (fun _ x => resetBerth s.now lost x)).berths :=
  (atTele_berths ..).trans (resetBerthBlock_berths ..)

theorem resetSeat_self (s : State) (b : BerthId) : IsReset s.berths[b].mon.fence (resetSeat false s b).berths[b] := by
  have h := (resetBerth_isReset s.now s.berths[b]).settled
  rw [resetSeat_berths, atBerth_self]
  generalize resetBerth s.now false s.berths[b] = y at h
  exact h

theorem resetSeat_other (s : State) {b c : BerthId} (lost : Bool) (h : c ≠ b) : (resetSeat lost s c).berths[b] = s.berths[b] := by
  rw [resetSeat_berths, atBerth_other _ _ _ _ h]

theorem resetQuay_eq (s : State) (q : QuayId) (lost : Bool) : ∃ g : Quay → Quay, s.resetQuay q lost = ((berthsOf q).foldl (resetSeat lost) s).atQuay q g ∧
    ∀ x, (g x).up = false ∧ (g x).released = false := by
  delta resetQuay
  refine ⟨_, congrArg (fun t => State.atQuay t q _) ?_, fun _ => ⟨rfl, rfl⟩⟩
  rfl

theorem resetQuay_berths (s : State) (q : QuayId) (lost : Bool) : (s.resetQuay q lost).berths = ((berthsOf q).foldl (resetSeat lost) s).berths := by
  obtain ⟨g, e, -⟩ := resetQuay_eq s q lost
  rw [e, atQuay_berths]

theorem resetSeats_own (s : State) {b : BerthId} (l : List BerthId) (h : b ∈ l) :
    IsReset s.berths[b].mon.fence (l.foldl (resetSeat false) s).berths[b] := by
  refine foldl_makes (I := fun t => t.berths[b].mon.fence = s.berths[b].mon.fence) (P := fun t => IsReset s.berths[b].mon.fence t.berths[b])
    (f := resetSeat false) (b := b) (fun t c ht => ?_) l s rfl (.inl h)
  by_cases e : c = b
  · subst e
    have own := resetSeat_self t c
    rw [ht] at own
    exact ⟨own.2.2.2.2, fun _ => own⟩
  · rw [resetSeat_other t false e]
    exact ⟨ht, fun hc => hc.resolve_left (Ne.symm e)⟩

theorem resetSeats_other (s : State) {b : BerthId} (lost : Bool) (l : List BerthId) (h : b ∉ l) :
    (l.foldl (resetSeat lost) s).berths[b] = s.berths[b] :=
  foldl_rel_mem (R := fun (s t : State) => t.berths[b] = s.berths[b]) (fun _ => rfl) (fun h g => g.trans h) (resetSeat lost) l
    (fun t _ hc => resetSeat_other t lost fun e => h (e ▸ hc)) s

/-- A quay's reset detaches its berths and opens their paths. -/
theorem resetQuay_own (s : State) {q : QuayId} {b : BerthId} (h : quayOf b = q) : IsReset s.berths[b].mon.fence (s.resetQuay q false).berths[b] := by
  rw [resetQuay_berths]
  exact resetSeats_own s _ (mem_berthsOf h)

theorem resetQuay_other (s : State) {q : QuayId} {b : BerthId} (lost : Bool) (h : quayOf b ≠ q) : (s.resetQuay q lost).berths[b] = s.berths[b] := by
  rw [resetQuay_berths]
  exact resetSeats_other s lost _ fun hb => h (quayOf_mem hb)

/-! ### The links -/

theorem link_atLink (s : State) (l : LinkId) (f : Link → Link) : (s.atLink l f).link l = f (s.link l) := getFin_set_self ..

theorem link_atLink_other (s : State) {l k : LinkId} (f : Link → Link) (h : linkIdx l ≠ linkIdx k) : (s.atLink l f).link k = s.link k :=
  getFin_set_other _ _ h

/-- A link in a state. -/
noncomputable def inState (new : LinkState) (x : Link) : Link := { x with state := new }

theorem link_toState (s : State) (l : LinkId) (new : LinkState) : (s.toState l new).link l = inState new (s.link l) := by
  by_cases h : (s.link l).state = new
  · exact (congrArg (fun (u : State) => u.link l) (if_pos h)).trans (congrArg (fun n => inState n (s.link l)) h)
  · exact (congrArg (fun (u : State) => u.link l) (if_neg h)).trans (link_atLink s l (inState new))

theorem link_toState_other (s : State) {l k : LinkId} (new : LinkState) (h : linkIdx l ≠ linkIdx k) : (s.toState l new).link k = s.link k :=
  keeps_ite (R := fun (s t : State) => t.link k = s.link k) rfl (link_atLink_other s (inState new) h)

/-- A link's frames not yet acknowledged fall, and the answers among them wait again. -/
noncomputable def unsent (q : List Response) (x : Link) : Link :=
  { x with unacked := [], sendCount := 0, rxCount := 0, polls := 0, nakDue := false, queue := q ++ x.queue }

theorem link_requeue (s : State) (l : LinkId) : ∃ q r, ∀ k, (s.requeue l).link k =
    ((s.atLink l (unsent q)).atLink (otherLink l) (fun x => { x with queue := r ++ x.queue })).link k := ⟨_, _, fun _ => rfl⟩

theorem otherLink_ne (l : LinkId) : linkIdx (otherLink l) ≠ linkIdx l := by
  cases l
  · decide
  · decide

/-- A failed link stands in its new state, without a frame of before. -/
theorem link_failLink (s : State) (l : LinkId) (new : LinkState) : ∃ q, (s.failLink l new).link l =
    { inState new (unsent q (s.link l)) with fresh := true, locked := false, ready := false, fails := 0 } := by
  obtain ⟨q, r, e⟩ := link_requeue s l
  refine ⟨q, (link_atLink ..).trans ?_⟩
  rw [link_toState, e, link_atLink_other _ _ (otherLink_ne l), link_atLink]

/-- The other link stands but for its queue. -/
theorem link_failLink_other (s : State) {l k : LinkId} (new : LinkState) (h : linkIdx l ≠ linkIdx k) : ∃ q, (s.failLink l new).link k =
    { s.link k with queue := q } := by
  obtain ⟨q, r, e⟩ := link_requeue s l
  have he : otherLink l = k := match l, k, h with
    | .xla, .xlb, _ => rfl
    | .xlb, .xla, _ => rfl
    | .xla, .xla, h => absurd rfl h
    | .xlb, .xlb, h => absurd rfl h
  refine ⟨r ++ (s.link k).queue, (link_atLink_other _ _ h).trans ((link_toState_other _ _ h).trans ((e k).trans ?_))⟩
  rw [he, link_atLink, link_atLink_other _ _ h]

theorem toState_berths (s : State) (l : LinkId) (new : LinkState) : (s.toState l new).berths = s.berths :=
  keeps_ite (R := fun (s t : State) => t.berths = s.berths) rfl rfl

theorem toState_mem (s : State) (l : LinkId) (new : LinkState) : (s.toState l new).mem = s.mem :=
  keeps_ite (R := fun (s t : State) => t.mem = s.mem) rfl rfl

theorem failLink_berths (s : State) (l : LinkId) (new : LinkState) : (s.failLink l new).berths = s.berths := toState_berths (s.requeue l) l new

theorem failLink_mem (s : State) (l : LinkId) (new : LinkState) : (s.failLink l new).mem = s.mem := toState_mem (s.requeue l) l new

/-- A link that LINK_CONFIG names stays in use. -/
noncomputable def named (x : Link) : Link := { x with enabled := true, closing := false }

/-- A link that LINK_CONFIG leaves out is no longer enabled. -/
noncomputable def leftOut (x : Link) : Link := { x with enabled := false }

/-- LINK_CONFIG at one link: what it names stays or comes up, what it leaves out goes off. -/
noncomputable def linkTurned (o : Origin) (q : List Byte) (s : State) (l : LinkId) : State :=
  if linkOn q l then
    (if (s.link l).state = .off then (s.atLink l (fun (y : Link) => { named y with fresh := true })).toState l .down else s.atLink l named)
  else if (s.link l).state = .off then s.atLink l leftOut
  else if o.path = .link l then s.atLink l (fun (y : Link) => { y with closing := true })
  else (s.failLink l .off).atLink l leftOut

theorem goLinkConfig_turns {s : State} {q : List Byte} (o : Origin) (h : leAt q 0 1 ≠ 0) (hu : s.lastUp q = false) : ∃ u,
    (∀ l, u.link l = s.link l) ∧ u.eventLink = linkNo (leAt q 1 1) ∧ u.berths = s.berths ∧ u.mem = s.mem ∧
    s.goLinkConfig o q = (linkTurned o q (linkTurned o q u .xla) .xlb).respond o 0x0A01 .ok :=
  ⟨{ s with eventLink := linkNo (leAt q 1 1) }, fun _ => rfl, rfl, rfl, rfl, (if_neg h).trans (if_neg (ne_true_of_eq_false hu))⟩

/-- An UP link that LINK_CONFIG names. -/
theorem linkTurned_named {s : State} {q : List Byte} {l : LinkId} (o : Origin) (hl : linkOn q l = true) (hu : (s.link l).state ≠ .off) :
    linkTurned o q s l = s.atLink l named := (if_pos hl).trans (if_neg hu)

/-- A link in use that LINK_CONFIG leaves out, asked over another path. -/
theorem linkTurned_left {s : State} {o : Origin} {q : List Byte} {l : LinkId} (hl : linkOn q l = false) (hu : (s.link l).state ≠ .off)
    (ho : o.path ≠ .link l) : linkTurned o q s l = (s.failLink l .off).atLink l leftOut :=
  (if_neg (ne_true_of_eq_false hl)).trans ((if_neg hu).trans (if_neg ho))

theorem isUp_iff {s : State} {l : LinkId} : s.isUp l = true ↔ (s.link l).state = .up := decide_eq_true_iff

theorem up_ne_off {x : Link} (h : x.state = .up) : x.state ≠ .off := fun e => nomatch h.symm.trans e

theorem lastUp_named {s : State} {q : List Byte} (h : linkOn q .xla = true) (hu : s.isUp .xla = true) : s.lastUp q = false := by
  have named : [LinkId.xla, .xlb].any (fun (l : LinkId) => s.isUp l && linkOn q l) = true :=
    List.any_eq_true.mpr ⟨.xla, List.mem_cons_self, (congrArg₂ and hu h).trans rfl⟩
  rw [lastUp, named]
  exact Bool.and_false _

/-! ### The checks of the commands -/

theorem leAt_quay : ∀ q : Fin 6, leAt [BitVec.ofNat 8 q.val] 0 1 = q.val := by decide

theorem quayNo_val (q : QuayId) : quayNo q.val = q := dif_pos q.isLt

/-- A DEV_RESET of a released quay, or of its gangway, is permitted. -/
theorem resetChecks_quay {s : State} {o : Origin} {q : QuayId} {sc : Nat} {p : List Byte} (hs : sc = 1 ∨ sc = 2) (h0 : leAt p 0 1 = sc)
    (h1 : leAt p 1 1 = q.val) (h2 : leAt p 2 2 = 0x5253) (on : q.val < s.quaysOn) (hf : (s.quays[q].fenced || (sc = 2 && s.quays[q].gwFenced)) = false)
    (hr : s.quays[q].released = true) : firstBad (s.resetChecks o p) = none := by
  simp only [resetChecks, h0, h1, h2, quayNo_val, hf, hr, decide_eq_false (Nat.not_le.mpr on), decide_eq_false (Nat.not_le.mpr q.isLt), Bool.and_false]
  rcases hs with rfl | rfl
  · rfl
  · rfl

/-- A DEV_RESET of a link that stands in use, asked over another path, is permitted. -/
theorem resetChecks_link {s : State} {o : Origin} (ho : o.path ≠ .link .xlb) (hl : (s.link .xlb).state ≠ .off) :
    firstBad (s.resetChecks o [3, 1, 0x53, 0x52]) = none := by
  have free : (decide (o.path = .link .xlb) || decide ((s.link .xlb).state = .off)) = false := by rw [decide_eq_false ho, decide_eq_false hl]; rfl
  exact congrArg (fun c => firstBad [(c, Status.notPermitted)]) free

/-! ### DEV_RESET -/

/-- A reset before this one that still waits is told. -/
noncomputable def toldOver (s : State) : Option Origin → State
  | some o => s.respond o 0x0104 .superseded
  | none => s

/-- A quay reset for the host. -/
noncomputable def quayReset (s : State) (q : QuayId) (o : Origin) : State :=
  (s.resetQuay q false).atQuay q (fun (x : Quay) => { x with why := some 7, resetBy := some (o, 0x0104) })

theorem quayReset_quay (s : State) (q : QuayId) (o : Origin) : let x := (s.quayReset q o).quays[q]
    x.up = false ∧ x.released = false ∧ x.why = some 7 ∧ x.resetBy = some (o, 0x0104) := by
  obtain ⟨g, e, hg⟩ := resetQuay_eq s q false
  rw [quayReset, atQuay_self, e, atQuay_self]
  exact ⟨(hg _).1, (hg _).2, rfl, rfl⟩

theorem quayReset_berths (s : State) (q : QuayId) (o : Origin) : (s.quayReset q o).berths = (s.resetQuay q false).berths := atQuay_berths ..

/-- A gangway told to train again, for the host's reset. -/
noncomputable def gangwayReset (s : State) (i : Nat) (o : Origin) : State :=
  ((s.gwCount (quayNo i)).2.atQuay (quayNo i) (fun (x : Quay) => { x with retrain := true, trained := false, gwBy := some o })).partReport 7 2 i

/-- A link reset for the host. -/
noncomputable def linkReset (s : State) (i : Nat) (o : Origin) : State :=
  ((s.failLink (linkNo i) .down).atLink (linkNo i) (fun (x : Link) => { x with resetBy := some o })).partReport 7 3 i

theorem goReset_quay (s : State) (o : Origin) (q : QuayId) : s.goReset o [1, BitVec.ofNat 8 q.val, 0x53, 0x52] = s.quayReset q o :=
  (rfl : _ = s.quayReset (quayNo (leAt [BitVec.ofNat 8 q.val] 0 1)) o).trans
    (congrArg (fun k => s.quayReset k o) ((congrArg quayNo (leAt_quay q)).trans (quayNo_val q)))

theorem goReset_gangway {s : State} (o : Origin) {q : QuayId} (hb : s.quays[q].gwBy = none) :
    s.goReset o [2, BitVec.ofNat 8 q.val, 0x53, 0x52] = s.gangwayReset q.val o := by
  have e : s.goReset o [2, BitVec.ofNat 8 q.val, 0x53, 0x52] =
    (s.toldOver s.quays[quayNo (leAt [BitVec.ofNat 8 q.val] 0 1)].gwBy).gangwayReset (leAt [BitVec.ofNat 8 q.val] 0 1) o := rfl
  rw [e]
  simp only [leAt_quay, quayNo_val, hb]
  rfl

theorem goReset_link {s : State} (o : Origin) (hb : (s.link .xlb).resetBy = none) : s.goReset o [3, 1, 0x53, 0x52] = s.linkReset 1 o := by
  have e : s.goReset o [3, 1, 0x53, 0x52] =
    (s.toldOver (s.link (linkNo (leAt [3, 1, 0x53, 0x52] 1 1))).resetBy).linkReset (leAt [3, 1, 0x53, 0x52] 1 1) o := rfl
  rw [e, show leAt [3, 1, 0x53, 0x52] 1 1 = 1 by decide, show linkNo 1 = .xlb from rfl, hb]
  rfl

theorem pushHistory_only (s : State) (c sc i : Nat) : ∃ r, s.pushHistory c sc i = { s with retained := r } := ⟨_, rfl⟩

theorem partReport_stands {α : Type} (g : State → α) (hr : ∀ s r, g { s with retained := r } = g s) (hd : ∀ s e n, g (State.devEvent s e n) = g s) (s : State)
    (c sc i : Nat) : g (s.partReport c sc i) = g s := by
  obtain ⟨r, e⟩ := pushHistory_only s c sc i
  rw [partReport, hd, e, hr]

/-- A gangway reset trains again for the one that asked. -/
noncomputable def gangwayAsked (o : Origin) (l : List Nat) (x : Quay) : Quay := { x with retrain := true, trained := false, gwBy := some o, gwResets := l }

theorem gangwayReset_quay (s : State) (q : QuayId) (o : Origin) : ∃ l, (s.gangwayReset q.val o).quays[q] = gangwayAsked o l s.quays[q] := by
  rw [gangwayReset, quayNo_val, partReport_stands State.quays (fun _ _ => rfl) devEvent_quays, atQuay_self, gwCount, atQuay_self]
  exact ⟨_, rfl⟩

theorem linkReset_berths (s : State) (o : Origin) : (s.linkReset 1 o).berths = s.berths := by
  rw [linkReset, partReport_stands State.berths (fun _ _ => rfl) devEvent_berths]
  exact failLink_berths s .xlb .down

theorem linkReset_mem (s : State) (o : Origin) : (s.linkReset 1 o).mem = s.mem := by
  rw [linkReset, partReport_stands State.mem (fun _ _ => rfl) devEvent_mem]
  exact failLink_mem s .xlb .down

theorem gangwayReset_berths (s : State) (i : Nat) (o : Origin) : (s.gangwayReset i o).berths = s.berths := by
  rw [gangwayReset, partReport_stands State.berths (fun _ _ => rfl) devEvent_berths]
  rfl

theorem gangwayReset_mem (s : State) (i : Nat) (o : Origin) : (s.gangwayReset i o).mem = s.mem := by
  rw [gangwayReset, partReport_stands State.mem (fun _ _ => rfl) devEvent_mem]
  rfl

/-- A link reset is down, without a frame of before. -/
theorem linkReset_link (s : State) (o : Origin) :
    let x := (s.linkReset 1 o).link .xlb
    x.state = .down ∧ x.fresh = true ∧ x.sendCount = 0 ∧ x.rxCount = 0 ∧ x.unacked = [] ∧ x.resetBy = some o := by
  obtain ⟨q, e⟩ := link_failLink s .xlb .down
  rw [linkReset, partReport_stands (fun u => u.link .xlb) (fun _ _ => rfl) (fun _ _ _ => rfl), show linkNo 1 = .xlb from rfl, link_atLink, e]
  exact ⟨rfl, rfl, rfl, rfl, rfl, rfl⟩

/-! ### LINK_CONFIG -/

/-- Both links kept, the events on the second. -/
theorem goLinkConfig_both {s : State} (o : Origin) (hx : s.isUp .xla = true) (hy : s.isUp .xlb = true) :
    let t := s.goLinkConfig o [3, 1, 0, 0]
    t.eventLink = .xlb ∧ t.isUp .xla = true ∧ t.isUp .xlb = true ∧ (t.link .xla).enabled = true ∧ (t.link .xlb).enabled = true ∧ t.berths = s.berths ∧
      t.mem = s.mem := by
  obtain ⟨u, hu, he, hb, hm, e⟩ := goLinkConfig_turns (s := s) o (q := [3, 1, 0, 0]) (by decide) (lastUp_named (by decide) hx)
  have hx' : (u.link .xla).state = .up := (congrArg Link.state (hu .xla)).trans (isUp_iff.mp hx)
  have hy' : (u.link .xlb).state = .up := (congrArg Link.state (hu .xlb)).trans (isUp_iff.mp hy)
  have xlb := link_atLink_other u (l := .xla) (k := .xlb) named (by decide)
  have k := respond_talks ((u.atLink .xla named).atLink .xlb named) o 0x0A01 .ok []
  rw [linkTurned_named o (by decide) (up_ne_off hx'), linkTurned_named o (by decide) (xlb ▸ up_ne_off hy')] at e
  have a : ((u.atLink .xla named).atLink .xlb named).link .xla = named (u.link .xla) := (link_atLink_other _ _ (by decide)).trans (link_atLink ..)
  have b : ((u.atLink .xla named).atLink .xlb named).link .xlb = named (u.link .xlb) := (link_atLink ..).trans (congrArg named xlb)
  have same {α : Type} (g : Link → α) (hg : ∀ x l q, g { x with line := l, queue := q } = g x) := k.link_same g hg
  rw [e]
  exact ⟨(k.same State.eventLink fun _ _ _ _ _ _ => rfl).trans he, isUp_iff.mpr ((same Link.state (fun _ _ _ => rfl) _).trans (a ▸ hx')),
    isUp_iff.mpr ((same Link.state (fun _ _ _ => rfl) _).trans (b ▸ hy')), (same Link.enabled (fun _ _ _ => rfl) _).trans (a ▸ rfl),
    (same Link.enabled (fun _ _ _ => rfl) _).trans (b ▸ rfl), k.berths.trans hb, k.mem.trans hm⟩

/-- The second link, left out, goes off. -/
theorem goLinkConfig_first {s : State} {o : Origin} (hx : s.isUp .xla = true) (hy : s.isUp .xlb = true) (ho : o.path = .link .xla) :
    let t := s.goLinkConfig o [1, 0, 0, 0]
    (t.link .xlb).state = .off ∧ (t.link .xlb).enabled = false ∧ (t.link .xlb).unacked = [] ∧ t.isUp .xla = true ∧ t.berths = s.berths ∧
      t.mem = s.mem := by
  obtain ⟨u, hu, he, hb, hm, e⟩ := goLinkConfig_turns (s := s) o (q := [1, 0, 0, 0]) (by decide) (lastUp_named (by decide) hx)
  have hx' : (u.link .xla).state = .up := (congrArg Link.state (hu .xla)).trans (isUp_iff.mp hx)
  have hy' : (u.link .xlb).state = .up := (congrArg Link.state (hu .xlb)).trans (isUp_iff.mp hy)
  have xlb := link_atLink_other u (l := .xla) (k := .xlb) named (by decide)
  have xla := link_atLink u .xla named
  rw [linkTurned_named o (by decide) (up_ne_off hx'), linkTurned_left (by decide) (xlb ▸ up_ne_off hy') (by rw [ho]; decide)] at e
  have hvb : (u.atLink .xla named).berths = s.berths := hb
  have hvm : (u.atLink .xla named).mem = s.mem := hm
  generalize u.atLink .xla named = v at e xla hvb hvm
  obtain ⟨p, a⟩ := link_failLink_other v (l := .xlb) (k := .xla) .off (by decide)
  obtain ⟨q, b⟩ := link_failLink v .xlb .off
  have hb' := (failLink_berths v .xlb .off).trans hvb
  have hm' := (failLink_mem v .xlb .off).trans hvm
  rw [e]
  generalize v.failLink .xlb .off = w at a b hb' hm'
  have k := respond_talks (w.atLink .xlb leftOut) o 0x0A01 .ok []
  have a' := (link_atLink_other w (l := .xlb) (k := .xla) leftOut (by decide)).trans a
  have b' := (link_atLink w .xlb leftOut).trans (congrArg leftOut b)
  have same {α : Type} (g : Link → α) (hg : ∀ x l q, g { x with line := l, queue := q } = g x) := k.link_same g hg
  exact ⟨(same Link.state (fun _ _ _ => rfl) _).trans (congrArg Link.state b'), (same Link.enabled (fun _ _ _ => rfl) _).trans (congrArg Link.enabled b'),
    (same Link.unacked (fun _ _ _ => rfl) _).trans (congrArg Link.unacked b'),
    isUp_iff.mpr ((same Link.state (fun _ _ _ => rfl) _).trans ((congrArg Link.state a').trans ((congrArg Link.state xla).trans hx'))),
    k.berths.trans hb', k.mem.trans hm'⟩

/-! ### LINK_EVENT_ACK -/

/-- From the first state to the second what the host has acknowledged stands, and the berths and the memory. -/
def KeepsAcks (s t : State) : Prop :=
  t.ackSeq = s.ackSeq ∧ t.evWindow = s.evWindow ∧ t.events = s.events ∧ t.berths = s.berths ∧ t.mem = s.mem

theorem KeepsAcks.refl (s : State) : s.KeepsAcks s := ⟨rfl, rfl, rfl, rfl, rfl⟩

theorem KeepsAcks.trans {s t u : State} (h : s.KeepsAcks t) (g : t.KeepsAcks u) : s.KeepsAcks u :=
  ⟨g.1.trans h.1, g.2.1.trans h.2.1, g.2.2.1.trans h.2.2.1, g.2.2.2.1.trans h.2.2.2.1, g.2.2.2.2.trans h.2.2.2.2⟩

theorem Talks.acks {s t : State} (h : s.Talks t) : s.KeepsAcks t :=
  ⟨h.same State.ackSeq fun _ _ _ _ _ _ => rfl, h.same State.evWindow fun _ _ _ _ _ _ => rfl, h.same State.events fun _ _ _ _ _ _ => rfl, h.berths, h.mem⟩

theorem refillHeld_acks (s : State) : s.KeepsAcks s.refillHeld := by
  unfold refillHeld
  split
  · exact KeepsAcks.refl s
  · exact keeps_ite (R := KeepsAcks) (KeepsAcks.refl s) (KeepsAcks.refl s)

/-- The events up to a number acknowledged. -/
noncomputable def acked (s : State) (n ack : Nat) : State :=
  { s with ackSeq := ack, evWindow := n, events := s.events.filter (fun (z : EvEntry) => z.sent.isNone || laterSeq z.seq ack)
           retained.held := s.retained.held.filter (fun (z : EvEntry) => z.sent.isNone || laterSeq z.seq ack) }

/-- A number already sent and not yet acknowledged frees the events up to it. -/
theorem goEventAck_frees {s : State} (o : Origin) {p : List Byte} (hl : laterSeq (leAt p 0 4) s.lastSent = false)
    (ha : laterSeq (leAt p 0 4) s.ackSeq = true) : (s.acked (leAt p 4 2) (leAt p 0 4)).KeepsAcks (s.goEventAck o p) := by
  have e : s.goEventAck o p = ((s.acked (leAt p 4 2) (if laterSeq (leAt p 0 4) s.ackSeq then leAt p 0 4 else s.ackSeq)).refillHeld.linkFlags).respond o 0x0A03
    .ok (leBytes 4 s.lastSent) := if_neg (ne_true_of_eq_false hl)
  rw [e, if_pos ha]
  exact (refillHeld_acks _).trans (respond_talks ..).acks

theorem ackChecks {p : List Byte} (hn : p.length = 8) (h6 : leAt p 6 2 = 0) (h4 : leAt p 4 2 = 40) :
    firstBad [lenCheck p 8, reserved p 6 2, (leAt p 4 2 = 0 || 1024 < leAt p 4 2, .badArg)] = none := by
  rw [lenCheck, reserved, hn, h6, h4]
  rfl

end State
end Sys2Proof.Machine

namespace Sys2Proof.Proofs

open Sys2Proof Sys2Proof.Machine Sys2Proof.Machine.State

/-- Settles O47: a command begun answers or does its own (`runCmd_passes`); a quay's reset is `resetQuay_own` and `resetQuay_other`, LINK_CONFIG
`goLinkConfig_both` and `goLinkConfig_first`, LINK_EVENT_ACK `goEventAck_frees`. -/
theorem deviceCommands : Obligations.DeviceCommands := by
  unfold Obligations.DeviceCommands
  intro s o p q b e id gs rs cf lc ls ea
  refine ⟨fun h hp => ?_, fun h hp => ?_, fun h hp => ?_, fun h hp on hf hr => ?_, fun h hp on hf hg hr hb => ?_, fun h hp ho hl hb => ?_,
    fun h hp => ?_, fun h hp => ?_, fun h hp hx hy => ?_, fun h hp hx hy ho => ?_, fun h hp => ?_, fun h hn h6 h4 h0 hl => ?_,
    fun h hn h6 h4 h0 hl ha => ?_⟩
  · subst hp
    exact ⟨_, congrArg Host.Outcome.next (runCmd_passes h rfl _), rfl, length_identifyBody _⟩
  · subst hp
    exact ⟨_, congrArg Host.Outcome.next (runCmd_passes h rfl _), rfl, length_stateBody _⟩
  · subst hp
    exact ⟨_, congrArg Host.Outcome.next (runCmd_passes h rfl _), rfl⟩
  · subst hp
    have k := begun_talks h
    have hq := k.quays
    have checked := resetChecks_quay (s := rs) (o := o) (q := q) (p := [1, BitVec.ofNat 8 q.val, 0x53, 0x52]) (.inl rfl) rfl (leAt_quay q) rfl
      ((k.same State.quaysOn fun _ _ _ _ _ _ => rfl) ▸ on) ((Bool.or_false _).trans (hq ▸ hf)) (hq ▸ hr)
    refine ⟨_, congrArg Host.Outcome.next ((runCmd_passes h checked _).trans (goReset_quay rs o q)), ?_⟩
    obtain ⟨h1, h2, h3, h4⟩ := quayReset_quay rs q o
    refine ⟨h1, h2, h3, h4, fun hb => ?_, fun hb => ?_⟩
    · obtain ⟨hc, hsrc, hsnk, hid, hm⟩ := resetQuay_own rs hb
      rw [quayReset_berths]
      rw [k.berths] at hm
      with_reducible exact ⟨hc, hsrc, hsnk, hid, hm⟩
    · rw [quayReset_berths, resetQuay_other rs false hb, k.berths]
  · subst hp
    have k := begun_talks h
    have hq := k.quays
    have checked := resetChecks_quay (s := rs) (o := o) (q := q) (p := [2, BitVec.ofNat 8 q.val, 0x53, 0x52]) (.inr rfl) rfl (leAt_quay q) rfl
      ((k.same State.quaysOn fun _ _ _ _ _ _ => rfl) ▸ on) (hq ▸ (congrArg₂ or hf hg).trans rfl) (hq ▸ hr)
    obtain ⟨l, e⟩ := gangwayReset_quay rs q o
    refine ⟨_, congrArg Host.Outcome.next ((runCmd_passes h checked _).trans (goReset_gangway o (hq ▸ hb))), ?_,
      (gangwayReset_berths ..).trans k.berths, (gangwayReset_mem ..).trans k.mem⟩
    rw [e, hq]
    rfl
  · subst hp
    have k := begun_talks h
    have hl' : (rs.link .xlb).state ≠ .off := (k.link_same Link.state (fun _ _ _ => rfl) .xlb) ▸ hl
    obtain ⟨h1, h2, h3, h4, h5, h6⟩ := linkReset_link rs o
    refine ⟨_, congrArg Host.Outcome.next ((runCmd_passes h (resetChecks_link ho hl') _).trans
      (goReset_link o ((k.link_same Link.resetBy (fun _ _ _ => rfl) .xlb).trans hb))), h1, h2, h3, h4, h5, h6,
      (linkReset_berths ..).trans k.berths, (linkReset_mem ..).trans k.mem⟩
  · subst hp
    exact ⟨_, congrArg Host.Outcome.next (runCmd_passes h rfl _), rfl⟩
  · subst hp
    exact ⟨_, congrArg Host.Outcome.next (runCmd_passes h rfl _), rfl⟩
  · subst hp
    have k := begun_talks h
    have up (l : LinkId) : lc.isUp l = s.isUp l := k.link_same (fun x => decide (x.state = .up)) (fun _ _ _ => rfl) l
    obtain ⟨h1, h2, h3, h4, h5, h6, h7⟩ := goLinkConfig_both (s := lc) o ((up _).trans hx) ((up _).trans hy)
    exact ⟨_, congrArg Host.Outcome.next (runCmd_passes h rfl _), h1, h2, h3, h4, h5, h6.trans k.berths, h7.trans k.mem⟩
  · subst hp
    have k := begun_talks h
    have up (l : LinkId) : lc.isUp l = s.isUp l := k.link_same (fun x => decide (x.state = .up)) (fun _ _ _ => rfl) l
    obtain ⟨h1, h2, h3, h4, h5, h6⟩ := goLinkConfig_first (s := lc) ((up _).trans hx) ((up _).trans hy) ho
    exact ⟨_, congrArg Host.Outcome.next (runCmd_passes h rfl _), h1, h2, h3, h4, h5.trans k.berths, h6.trans k.mem⟩
  · subst hp
    exact ⟨_, congrArg Host.Outcome.next (runCmd_passes h rfl _), rfl, length_linkBody _⟩
  · have k := begun_talks h
    rw [← h0, ← k.same State.lastSent fun _ _ _ _ _ _ => rfl] at hl
    exact ⟨_, congrArg Host.Outcome.next (runCmd_passes h (ackChecks hn h6 h4) _), if_pos hl⟩
  · have k := begun_talks h
    rw [← k.same State.lastSent fun _ _ _ _ _ _ => rfl] at hl
    rw [← k.same State.ackSeq fun _ _ _ _ _ _ => rfl] at ha
    subst h0
    obtain ⟨hack, hwin, hev, hb, hm⟩ := goEventAck_frees (s := ea) o hl ha
    exact ⟨_, congrArg Host.Outcome.next (runCmd_passes h (ackChecks hn h6 h4) _), hack, hwin.trans h4,
      hev.trans (congrArg _ (k.same State.events fun _ _ _ _ _ _ => rfl)), hb.trans k.berths, hm.trans k.mem⟩

end Sys2Proof.Proofs

/-!
SUPPORT. The refutation of O43: a berth without a partner whose source path stands closed.
-/

namespace Sys2Proof.Proofs

open Sys2Proof Sys2Proof.Machine Sys2Proof.Machine.State

/-- A dual-role berth that presents Rd to no partner while its source path stands closed, on a quay in harbour-less mode whose
gangway is trained and tested. -/
noncomputable def strayPath : State :=
  { State.reset with
    quays := State.reset.quays.set (0 : QuayId) { hless := true, trained := true }
    berths := State.reset.berths.set (0 : BerthId) { Berth.reset with cc.state := .unattachedSnk, cc.cfg := 2, path.state := .srcOn } }

theorem strayPath_opens : (strayPath.hlessRelease 0 0).berths[(0 : BerthId)].path.state = .off := by decide +kernel

theorem strayPath_quay : strayPath.quays[(0 : QuayId)] = { hless := true, trained := true } := getFin_set_self ..

theorem strayPath_closed : strayPath.berths[(0 : BerthId)].path.state = .srcOn := congrArg (fun (x : Berth) => x.path.state) (getFin_set_self ..)

/-- Refutes O43: a release from harbour-less mode takes a dual-role berth without a partner to its unattached state anew, and that opens its
source path; the statement has the path stand whatever the attachment. -/
theorem not_gangways : ¬ Obligations.Gangways := by
  intro h
  obtain ⟨-, -, -, -, -, -, -, -, -, -, release, -⟩ := h strayPath 0 0 0 0 0 0 0 0
  obtain ⟨u, e, -, -, -, -, -, -, stays⟩ := release (congrArg Quay.hless strayPath_quay) (congrArg Quay.trained strayPath_quay)
    (congrArg Quay.gwFenced strayPath_quay) (congrArg Quay.laneTest strayPath_quay) (congrArg Quay.laneWant strayPath_quay) rfl
  have opens : u.berths[(0 : BerthId)].path.state = .off := Host.Outcome.next.inj e ▸ strayPath_opens
  rw [stays (by decide) strayPath_closed] at opens
  exact absurd opens (by decide)

end Sys2Proof.Proofs

/-!
SUPPORT. Bytes and numbers read back from memory, ranges replaced, and what the services of a Tug leave.
-/

namespace Sys2Proof.Machine

namespace Memory

/-! ### Reads of a range -/

theorem length_readBytes (m : List Host.Cell) (a n : Nat) : (readBytes m a n).length = n := by
  induction n generalizing a with
  | zero => rfl
  | succ n ih => exact congrArg (· + 1) (ih _)

theorem readBytes_getElem (m : List Host.Cell) (a n i : Nat) (h : i < (readBytes m a n).length) : (readBytes m a n)[i] = read m (a + i) := by
  induction n generalizing a i with
  | zero => exact absurd h (Nat.not_lt_zero i)
  | succ n ih =>
    cases i with
    | zero => rfl
    | succ i => exact (ih (a + 1) i (Nat.lt_of_succ_lt_succ h)).trans (congrArg (read m) (Nat.succ_add_eq_add_succ a i))

theorem readBytes_congr {m k : List Host.Cell} {a n : Nat} (h : ∀ i, i < n → read m (a + i) = read k (a + i)) : readBytes m a n = readBytes k a n := by
  induction n generalizing a with
  | zero => rfl
  | succ n ih =>
    refine congrArg₂ List.cons (h 0 n.succ_pos) (ih fun i hi => ?_)
    rw [Nat.add_right_comm, Nat.add_assoc]
    exact h (i + 1) (Nat.succ_lt_succ hi)

theorem readLe_congr {m k : List Host.Cell} {a n : Nat} (h : ∀ i, i < n → read m (a + i) = read k (a + i)) : readLe m a n = readLe k a n := by
  induction n generalizing a with
  | zero => rfl
  | succ n ih =>
    refine congrArg₂ (fun (x : Byte) y => x.toNat + 256 * y) (h 0 n.succ_pos) (ih fun i hi => ?_)
    rw [Nat.add_right_comm, Nat.add_assoc]
    exact h (i + 1) (Nat.succ_lt_succ hi)

/-- What a memory holds at an address up, as a number's bytes. -/
theorem readLe_of_bytes {m : List Host.Cell} {a n v : Nat} (h : ∀ i, i < n → read m (a + i) = BitVec.ofNat 8 (v / 256 ^ i)) :
    readLe m a n = v % 256 ^ n := by
  induction n generalizing a v with
  | zero => exact (Nat.mod_one v).symm
  | succ n ih =>
    have low : (read m a).toNat = v % 256 := by
      rw [show read m a = BitVec.ofNat 8 v from (h 0 n.succ_pos).trans (by rw [Nat.pow_zero, Nat.div_one])]
      exact BitVec.toNat_ofNat ..
    rw [readLe, low, ih (v := v / 256) fun i hi => ?_, Nat.pow_succ', Nat.mod_mul]
    rw [Nat.add_right_comm, Nat.add_assoc, h (i + 1) (Nat.succ_lt_succ hi), Nat.div_div_eq_div_mul, Nat.pow_succ']

/-! ### A number written -/

theorem disjoint_at {o n k p i : Nat} (h : p + k ≤ o ∨ o + n ≤ p) (hi : i < k) : p + i < o ∨ o + n ≤ p + i :=
  h.imp (Nat.lt_of_lt_of_le (Nat.add_lt_add_left hi p)) fun g => g.trans (Nat.le_add_right ..)

section Field

variable {m : List Host.Cell} (wf : wf m = true) (base : Nat) {o n k v : Nat}
include wf

/-- A number written reads back, or as many of its low bytes as are asked. -/
theorem readLe_field (h : k ≤ n) : readLe (writeBytes m (base + o) (leBytes n v)) (base + o) k = v % 256 ^ k :=
  readLe_of_bytes fun i hi => by rw [read_writeBytes_in wf _ _ i (by rw [leBytes_length]; exact hi.trans_le h), leBytes_getElem]

/-- A number written in a block, and a byte of the block that it does not cover. -/
theorem read_field_other {p : Nat} (h : p < o ∨ o + n ≤ p) : read (writeBytes m (base + o) (leBytes n v)) (base + p) = read m (base + p) :=
  read_writeBytes_out wf _ _ _ (by
    rw [leBytes_length, Nat.add_assoc]
    exact h.imp (Nat.add_lt_add_left · base) (Nat.add_le_add_left · base))

theorem readLe_field_other {p : Nat} (h : p + k ≤ o ∨ o + n ≤ p) :
    readLe (writeBytes m (base + o) (leBytes n v)) (base + p) k = readLe m (base + p) k :=
  readLe_congr fun i hi => by
    rw [Nat.add_assoc]
    exact read_field_other wf base (disjoint_at h hi)

/-- A byte outside the part of a block in which a number is written. -/
theorem read_field_out {a lo hi : Nat} (hl : lo ≤ o) (hh : o + n ≤ hi) (ha : a < base + lo ∨ base + hi ≤ a) :
    read (writeBytes m (base + o) (leBytes n v)) a = read m a :=
  read_writeBytes_out wf _ _ _ (by
    rw [leBytes_length, Nat.add_assoc]
    exact ha.imp (Nat.lt_of_lt_of_le · (Nat.add_le_add_left hl base)) (Nat.add_le_add_left hh base).trans)

theorem wf_field : Memory.wf (writeBytes m (base + o) (leBytes n v)) = true := wf_writeBytes wf ..

end Field

theorem writeBytes_append (m : List Host.Cell) (a : Nat) (l r : List Byte) : writeBytes m a (l ++ r) = writeBytes (writeBytes m a l) (a + l.length) r := by
  induction l generalizing m a with
  | nil => rfl
  | cons x l ih =>
    refine (ih _ (a + 1)).trans ?_
    rw [List.length_cons, Nat.add_right_comm, Nat.add_assoc]
    rfl

/-! ### A range replaced -/

theorem read_append_absent {m r : List Host.Cell} {c : Nat} (h : ∀ x ∈ m, x.1 ≠ c) : read (m ++ r) c = read r c := by
  induction m with
  | nil => rfl
  | cons x m ih => exact (if_neg (Ne.symm (h x List.mem_cons_self))).trans (ih fun y hy => h y (List.mem_cons_of_mem _ hy))

theorem read_absent {m : List Host.Cell} {c : Nat} (h : ∀ x ∈ m, x.1 ≠ c) : read m c = 0 := by
  rw [← List.append_nil m, read_append_absent h]
  rfl

theorem read_filter_append (m r : List Host.Cell) {c : Nat} (p : Host.Cell → Bool) (hp : ∀ v, p (c, v) = true) (hr : read r c = 0) :
    read (m.filter p ++ r) c = read m c := by
  induction m with
  | nil => exact hr
  | cons x m ih =>
    obtain ⟨b, v⟩ := x
    by_cases e : c = b
    · subst e
      rw [List.filter_cons_of_pos (hp v)]
      exact (if_pos rfl).trans (if_pos rfl).symm
    · refine Eq.trans ?_ (if_neg e).symm
      by_cases g : p (b, v) = true
      · rw [List.filter_cons_of_pos g]
        exact (if_neg e).trans ih
      · rw [List.filter_cons_of_neg g, ih]

theorem read_cells_below {r : List Host.Cell} {c : Nat} (l : List Byte) {a : Nat} (h : c < a) : read (cells a l ++ r) c = read r c := by
  induction l generalizing a with
  | nil => rfl
  | cons v l ih =>
    have tail := ih (Nat.lt_succ_of_lt h)
    rw [cells]
    split
    · exact tail
    · exact (if_neg (Nat.ne_of_lt h)).trans tail

theorem read_cells_append {r : List Host.Cell} {c : Nat} (hr : read r c = 0) (l : List Byte) {i a : Nat} (e : c = a + i) :
    read (cells a l ++ r) c = l.getD i 0 := by
  induction l generalizing a i with
  | nil => exact hr
  | cons v l ih =>
    rw [cells]
    cases i with
    | zero =>
      subst e
      split
      · next h => exact (read_cells_below l (Nat.lt_succ_self _)).trans (hr.trans h.symm)
      · exact if_pos rfl
    | succ i =>
      have tail := ih (a := a + 1) (i := i) (e.trans (Nat.succ_add_eq_add_succ a i).symm)
      split
      · exact tail
      · exact (if_neg (e ▸ Nat.ne_of_gt (Nat.lt_add_of_pos_right i.succ_pos))).trans tail

theorem filter_absent {m : List Host.Cell} {c : Nat} {p : Host.Cell → Bool} (h : ∀ v, p (c, v) = false) : ∀ x ∈ m.filter p, x.1 ≠ c := by
  rintro ⟨b, v⟩ hx rfl
  exact Bool.false_ne_true ((h v).symm.trans (List.mem_filter.mp hx).2)

/-- A range replaced reads as its list, and as 0 where that ends. -/
theorem read_setRange (m : List Host.Cell) (a n : Nat) (l : List Byte) {i : Nat} (h : i < n) :
    read (setRange m a n l) (a + i) = (l.take n).getD i 0 := by
  rw [setRange, List.append_assoc, read_append_absent (filter_absent fun _ => decide_eq_false (Nat.not_lt.mpr (Nat.le_add_right a i)))]
  exact read_cells_append (read_absent (filter_absent fun _ => decide_eq_false (Nat.not_le.mpr (Nat.add_lt_add_left h a)))) _ rfl

/-- Outside the range replaced nothing changes. -/
theorem read_setRange_out (m : List Host.Cell) (a n : Nat) (l : List Byte) {c : Nat} (h : c < a ∨ a + n ≤ c) :
    read (setRange m a n l) c = read m c := by
  rw [setRange, List.append_assoc]
  rcases h with h | h
  · refine read_filter_append m _ _ (fun _ => decide_eq_true h) ((read_cells_below _ h).trans (read_absent (filter_absent fun _ => decide_eq_false ?_)))
    exact Nat.not_le.mpr (h.trans_le (Nat.le_add_right ..))
  · rw [read_append_absent (filter_absent fun _ => decide_eq_false (Nat.not_lt.mpr ((Nat.le_add_right ..).trans h))), read_append_absent fun x hx => ?_]
    · exact (congrArg (fun k => read k c) (List.append_nil _).symm).trans (read_filter_append m [] _ (fun _ => decide_eq_true h) rfl)
    · exact Nat.ne_of_lt ((cells_below a _ x hx).trans_le ((Nat.add_le_add_left (List.length_take_le ..) a).trans h))

/-- Two regions of `n` bytes side by side, each with a list that need not fill it: bytes, then zeros. -/
theorem read_halves (m : List Host.Cell) (base : Nat) {n c d a : Nat} {l l' : List Byte} (hc : c ≤ n) (hd : d ≤ n) (hl : l.length ≤ c) (hl' : l'.length ≤ d) :
    let u := setRange (setRange m base n l) (base + n) n l'
    (a < c → read u (base + a) = l.getD a 0) ∧ (c ≤ a → a < n → read u (base + a) = 0) ∧ (a < d → read u (base + n + a) = l'.getD a 0) ∧
      (a < base ∨ base + (n + n) ≤ a → read u a = read m a) := by
  intro u
  have low (h : a < n) : read u (base + a) = l.getD a 0 :=
    (read_setRange_out _ _ _ _ (.inl (Nat.add_lt_add_left h _))).trans ((read_setRange _ _ _ _ h).trans
      (congrArg (List.getD · a 0) (List.take_of_length_le (hl.trans hc))))
  refine ⟨fun h => low (h.trans_le hc), fun h g => (low g).trans (List.getD_eq_default _ _ (hl.trans h)),
    fun h => (read_setRange _ _ _ _ (h.trans_le hd)).trans (congrArg (List.getD · a 0) (List.take_of_length_le (hl'.trans hd))), fun h => ?_⟩
  rw [← Nat.add_assoc] at h
  exact (read_setRange_out _ _ _ _ (h.imp_left (Nat.lt_of_lt_of_le · (Nat.le_add_right ..)))).trans
    (read_setRange_out _ _ _ _ (h.imp_right (Nat.le_trans (Nat.le_add_right ..))))

/-! ### A state-block copy closed (R28) -/

/-- The header of a copy, as MIRROR_SEAL writes it over the flushed region. -/
noncomputable def headed (m : List Host.Cell) (base tide berth program n : Nat) : List Host.Cell :=
  writeBytes (writeBytes (writeBytes (writeBytes m (base + 0xFE0) (leBytes 8 tide)) (base + 0xFE8) (leBytes 4 berth)) (base + 0xFEC) (leBytes 4 program))
    (base + 0xFF0) (leBytes 4 n)

/-- A headed copy with its check and its seal. -/
noncomputable def closed (m : List Host.Cell) (base sl : Nat) : List Host.Cell :=
  writeBytes (writeBytes m (base + 0xFF4) (leBytes 4 (crc32 (readBytes m base 0xFF4)).toNat)) (base + 0xFF8) (leBytes 4 sl)

section Closed

variable {m : List Host.Cell} (wf : wf m = true) (base : Nat) {sl : Nat}
include wf

/-- A number of the header stands as the copy is closed. -/
theorem readLe_closed {p k : Nat} (h : p + k ≤ 0xFF4) : readLe (closed m base sl) (base + p) k = readLe m (base + p) k :=
  (readLe_field_other (wf_field wf base) base (.inl (h.trans (by decide)))).trans (readLe_field_other wf base (.inl h))

theorem read_closed {p : Nat} (h : p < 0xFF4) : read (closed m base sl) (base + p) = read m (base + p) :=
  (read_field_other (wf_field wf base) base (.inl (h.trans (by decide)))).trans (read_field_other wf base (.inl h))

theorem readLe_check : readLe (closed m base sl) (base + 0xFF4) 4 = (crc32 (readBytes (closed m base sl) base 0xFF4)).toNat := by
  rw [show readBytes (closed m base sl) base 0xFF4 = readBytes m base 0xFF4 from readBytes_congr fun i hi => read_closed wf base hi]
  refine (readLe_field_other (wf_field wf base) base (.inl (by decide))).trans ((readLe_field wf base le_rfl).trans (Nat.mod_eq_of_lt ?_))
  exact (crc32 _).isLt

theorem readLe_seal : readLe (closed m base sl) (base + 0xFF8) 4 = sl % 256 ^ 4 := readLe_field (wf_field wf base) base le_rfl

theorem read_closed_out {a : Nat} (h : a < base + 0xFE0 ∨ base + 0x1000 ≤ a) : read (closed m base sl) a = read m a :=
  (read_field_out (wf_field wf base) base (by decide) (by decide) h).trans (read_field_out wf base (by decide) (by decide) h)

end Closed

section Headed

variable {m : List Host.Cell} (wf : wf m = true) (base tide berth program n : Nat)
include wf

theorem wf_headed : Memory.wf (headed m base tide berth program n) = true := wf_field (wf_field (wf_field (wf_field wf base) base) base) base

theorem readLe_headed :
    let u := headed m base tide berth program n
    (∀ k, k ≤ 8 → readLe u (base + 0xFE0) k = tide % 256 ^ k) ∧ readLe u (base + 0xFE8) 4 = berth % 256 ^ 4 ∧
      readLe u (base + 0xFEC) 4 = program % 256 ^ 4 ∧ readLe u (base + 0xFF0) 4 = n % 256 ^ 4 := by
  have w1 := wf_field (o := 0xFE0) (n := 8) (v := tide) wf base
  have w2 := wf_field (o := 0xFE8) (n := 4) (v := berth) w1 base
  have w3 := wf_field (o := 0xFEC) (n := 4) (v := program) w2 base
  refine ⟨fun k hk => ?_, ?_, ?_, readLe_field w3 base le_rfl⟩
  · have room {o : Nat} (h : 0xFE8 ≤ o) : 0xFE0 + k ≤ o := (Nat.add_le_add_left hk _).trans h
    exact (readLe_field_other w3 base (.inl (room (by decide)))).trans ((readLe_field_other w2 base (.inl (room (by decide)))).trans
      ((readLe_field_other w1 base (.inl (room le_rfl))).trans (readLe_field wf base hk)))
  · exact (readLe_field_other w3 base (.inl (by decide))).trans ((readLe_field_other w2 base (.inl (by decide))).trans (readLe_field w1 base le_rfl))
  · exact (readLe_field_other w3 base (.inl (by decide))).trans (readLe_field w2 base le_rfl)

theorem read_headed_out {a : Nat} (h : a < base + 0xFE0 ∨ base + 0x1000 ≤ a) : read (headed m base tide berth program n) a = read m a := by
  have w1 := wf_field (o := 0xFE0) (n := 8) (v := tide) wf base
  have w2 := wf_field (o := 0xFE8) (n := 4) (v := berth) w1 base
  have w3 := wf_field (o := 0xFEC) (n := 4) (v := program) w2 base
  exact (read_field_out w3 base (by decide) (by decide) h).trans ((read_field_out w2 base (by decide) (by decide) h).trans
    ((read_field_out w1 base (by decide) (by decide) h).trans (read_field_out wf base le_rfl (by decide) h)))

end Headed

theorem writeBytes_header (m : List Host.Cell) (base tide berth program n : Nat) :
    writeBytes m (base + 0xFE0) (leBytes 8 tide ++ leBytes 4 berth ++ leBytes 4 program ++ leBytes 4 n) = headed m base tide berth program n := by
  simp only [writeBytes_append, List.length_append, leBytes_length, Nat.add_assoc]
  rfl

/-- The memory with `n` bytes from `src` flushed to the copy at `base`, headed and closed. -/
noncomputable def sealed (m : List Host.Cell) (base src n tide berth program : Nat) : List Host.Cell :=
  closed (headed (writeBytes m base (readBytes m src n)) base tide berth program n) base ((tide % 2 ^ 32) ^^^ 0x5EA1B10C)

/-- What a sealed copy holds, and the memory around it. -/
theorem sealed_reads {m : List Host.Cell} (wf : Memory.wf m = true) (base src tide : Nat) {n berth program : Nat} (hn : n < 0x1000)
    (hb : berth < 256 ^ 4) (hp : program < 256 ^ 4) :
    let u := sealed m base src n tide berth program
    (readLe u (base + 0xFF8) 4 = (readLe u (base + 0xFE0) 4) ^^^ 0x5EA1B10C ∧ readLe u (base + 0xFF4) 4 = (crc32 (readBytes u base 0xFF4)).toNat ∧
      readLe u (base + 0xFE8) 4 = berth) ∧
    readLe u (base + 0xFF0) 4 = n ∧ readLe u (base + 0xFE0) 8 = tide % 2 ^ 64 ∧ readLe u (base + 0xFEC) 4 = program ∧
    (∀ a, a < base ∨ base + 0x1000 ≤ a → read u a = read m a) ∧ ∀ a, a < n → a < 0xFE0 → read u (base + a) = read m (src + a) := by
  intro u
  have short {n : Nat} (h : n < 256 ^ 4) : n % 256 ^ 4 = n := Nat.mod_eq_of_lt h
  have w := wf_writeBytes wf base (readBytes m src n)
  obtain ⟨low, hb', hp', hn'⟩ := readLe_headed w base tide berth program n
  have w' := wf_headed w base tide berth program n
  have out (a : Nat) (h : a < base + 0xFE0 ∨ base + 0x1000 ≤ a) : read u a = read (writeBytes m base (readBytes m src n)) a :=
    (read_closed_out w' base h).trans (read_headed_out w base tide berth program n h)
  have kept {p k : Nat} (h : p + k ≤ 0xFF4) : readLe u (base + p) k = readLe (headed _ base tide berth program n) (base + p) k := readLe_closed w' base h
  refine ⟨⟨?_, readLe_check w' base, (kept (by decide)).trans (hb'.trans (short hb))⟩, (kept (by decide)).trans (hn'.trans (short (hn.trans (by decide)))),
    (kept (by decide)).trans (low 8 le_rfl), (kept (by decide)).trans (hp'.trans (short hp)), fun a h => ?_, fun a h g => ?_⟩
  · rw [kept (p := 0xFE0) (by decide), low 4 (by decide)]
    exact (readLe_seal w' base).trans (short (Nat.xor_lt_two_pow (n := 32) (Nat.mod_lt _ (by decide)) (by decide)))
  · refine (out a (h.imp_left (Nat.lt_of_lt_of_le · (Nat.le_add_right ..)))).trans (read_writeBytes_out wf _ _ _ (h.imp_right (Nat.le_trans ?_)))
    rw [length_readBytes]
    exact Nat.add_le_add_left hn.le base
  · refine (out _ (.inl (Nat.add_lt_add_left g base))).trans ?_
    rw [read_writeBytes_in wf _ _ a (by rw [length_readBytes]; exact h), readBytes_getElem]

end Memory

theorem Berth.KeepsHw.settled {x y : Berth} (h : x.KeepsHw y) : x.KeepsHw y.settled := ⟨h.cc, h.path, h.reg, h.mon⟩

namespace State

/-- Memory with the copy of the present Tide sealed from a Tug's state region. -/
noncomputable def sealedMem (s : State) (t : TugId) (b : BerthId) : List Host.Cell :=
  Memory.sealed s.mem (blockBase t + s.tideCount % 2 * 0x1000) (localBase t + 0x8000) s.tugs[t].mirNow.toNat s.tideCount b.val s.tugs[t].program.toNat

/-- The state with a memory in which a Tug's copy is sealed. -/
noncomputable def copySealed (s : State) (t : TugId) (m : List Host.Cell) : State :=
  { s with mem := m }.atTug t (fun k => { k with sealed := true })

theorem copySealed_eq (s : State) (t : TugId) (m : List Host.Cell) : s.copySealed t m =
    { s with mem := (s.copySealed t m).mem, tugs := s.tugs.set t { s.tugs[t] with sealed := true } } := rfl

/-- What a memory's reads say of the copies in it. -/
theorem copySealed_reads {s : State} {t : TugId} {b : BerthId} {c n tide p src : Nat} {m m0 : List Host.Cell} (a : Nat) :
    let base := blockBase t + c * 0x1000
    let u := s.copySealed t m
    (Memory.readLe m (base + 0xFF8) 4 = (Memory.readLe m (base + 0xFE0) 4) ^^^ 0x5EA1B10C ∧
        Memory.readLe m (base + 0xFF4) 4 = (crc32 (Memory.readBytes m base 0xFF4)).toNat ∧ Memory.readLe m (base + 0xFE8) 4 = b.val) ∧
      Memory.readLe m (base + 0xFF0) 4 = n ∧ Memory.readLe m (base + 0xFE0) 8 = tide ∧ Memory.readLe m (base + 0xFEC) 4 = p ∧
      (∀ a, a < base ∨ base + 0x1000 ≤ a → Memory.read m a = Memory.read m0 a) ∧
      (∀ a, a < n → a < 0xFE0 → Memory.read m (base + a) = Memory.read m0 (src + a)) →
    u.copyValid t c b = true ∧ u.copyLe t c 0xFF0 4 = n ∧ u.copyLe t c 0xFE0 8 = tide ∧ u.copyLe t c 0xFEC 4 = p ∧
      (a < base ∨ base + 0x1000 ≤ a → Memory.read u.mem a = Memory.read m0 a) ∧
      (a < n → a < 0xFE0 → Memory.read u.mem (base + a) = Memory.read m0 (src + a)) := by
  rintro base u ⟨⟨h1, h2, h3⟩, hn, ht, hp, out, kept⟩
  exact ⟨Bool.and_eq_true_iff.mpr ⟨Bool.and_eq_true_iff.mpr ⟨decide_eq_true h1, decide_eq_true h2⟩, decide_eq_true h3⟩, hn, ht, hp, out a, kept a⟩

theorem mirrorSeal_eq {s : State} {t : TugId} {b : BerthId} (hm : s.tugs[t].mode = .moored ∨ s.tugs[t].mode = .suspended)
    (hs : s.tugs[t].sealed = false) (hb : s.tugs[t].berth = some b) : s.mirrorSeal t = s.copySealed t (s.sealedMem t b) := by
  have go : ((decide (s.tugs[t].mode = .moored) || decide (s.tugs[t].mode = .suspended)) && !s.tugs[t].sealed) = true := by
    rw [hs]
    rcases hm with h | h
    · rw [h]
      rfl
    · rw [h]
      rfl
  refine (if_pos go).trans ?_
  rw [hb]
  dsimp only
  rw [Memory.writeBytes_header]
  rfl

/-! ### A cold load (R284) -/

theorem length_imageBytes (s : State) (slot off n : Nat) : (s.imageBytes slot off n).length ≤ n := by
  rw [imageBytes]
  split
  · exact List.length_take_le ..
  · exact (Memory.length_readBytes ..).le

/-- The memory of a Tug loaded from its slot's image: code, data, and 0 in the rest of its local memory. -/
noncomputable def coldMem (s : State) (t : TugId) : List Host.Cell :=
  let k := s.tugs[t]
  let code := min 0x8000 (s.imageWord k.slot 0x10)
  Memory.setRange (Memory.setRange s.mem (localBase t) 0x8000 (s.imageBytes k.slot 0x100 code)) (localBase t + 0x8000) 0x8000
    (s.imageBytes k.slot (0x100 + code) (min 0x8000 (s.imageWord k.slot 0x14)))

/-- The registers of a cold load for a berth. -/
noncomputable def coldTug (s : State) (t : TugId) (b : BerthId) (why : Entry) : Tug :=
  let k := s.tugs[t]
  let w (n : Nat) : Word := BitVec.ofNat 32 n
  { z := #v[w b.val, w 0, w (entryCode why), w 0, 0, 0, 0, 0, 0, 0, 0, 0], user := #v[0, 0, w (s.imageWord k.slot 0x24), 0]
    exc := #v[0, 0, w (s.imageWord k.slot 0x28), 0], pcn := w (s.imageWord k.slot 0x18) &&& ~~~3#32
    vbase := w (s.imageWord k.slot 0x20) &&& 0x7F80#32, mirlen := mirlenOf (w (s.imageWord k.slot 0x2C))
    cycle := 1, mode := .loaded, berth := k.berth, last := k.last, fenced := k.fenced, slot := k.slot
    program := Config.programWord (w (s.imageWord k.slot 0x08)) k.slot, format := w (s.imageWord k.slot 0x0C)
    release := w (s.imageWord k.slot 0x08), sig := s.imageBytes k.slot 0x80 64, entry := some (why, false), busErrs := k.busErrs }

/-- What a Tug does with an entry, a berth and a mode: the work of a load, or nothing. -/
noncomputable def ifDue {α : Type} (work : Entry → Bool → BerthId → α) (d : α) : Option (Entry × Bool) → Option BerthId → TugMode → α
  | some (why, warm), some b, .empty => work why warm b
  | _, _, _ => d

theorem ifDue_due {α : Type} {work : Entry → Bool → BerthId → α} {d : α} {e : Option (Entry × Bool)} {o : Option BerthId} {m : TugMode} {why : Entry}
    {warm : Bool} {b : BerthId} (he : e = some (why, warm)) (ho : o = some b) (hm : m = .empty) : ifDue work d e o m = work why warm b := by
  rw [he, ho, hm]
  rfl

theorem ifDue_idle {α : Type} {work : Entry → Bool → BerthId → α} {d : α} {e : Option (Entry × Bool)} {o : Option BerthId} {m : TugMode}
    (h : e = none ∨ o = none ∨ m ≠ .empty) : ifDue work d e o m = d := by
  cases e with
  | none => rfl
  | some e =>
    cases o with
    | none => rfl
    | some b =>
      cases m with
      | empty => exact absurd rfl ((h.resolve_left nofun).resolve_left nofun)
      | _ => rfl

/-- The state with a Tug cold loaded. -/
noncomputable def coldLoaded (s : State) (t : TugId) (b : BerthId) (why : Entry) : State :=
  { s with mem := s.coldMem t }.atTug t (fun _ => s.coldTug t b why)

theorem programLoad_cold {s : State} {t : TugId} {b : BerthId} {why : Entry} (he : s.tugs[t].entry = some (why, false))
    (hb : s.tugs[t].berth = some b) (hm : s.tugs[t].mode = .empty) :
    s.programLoad t = s.coldLoaded t b why :=
  ifDue_due (α := State) he hb hm

theorem programLoad_stands {s : State} {t : TugId} (h : s.tugs[t].entry = none ∨ s.tugs[t].berth = none ∨ s.tugs[t].mode ≠ .empty) :
    s.programLoad t = s := ifDue_idle (α := State) h

theorem coldMem_reads (s : State) (t : TugId) (a : Nat) :
    let k := s.tugs[t]
    let code := min 0x8000 (s.imageWord k.slot 0x10)
    let dat := min 0x8000 (s.imageWord k.slot 0x14)
    (a < code → Memory.read (s.coldMem t) (localBase t + a) = (s.imageBytes k.slot 0x100 code).getD a 0) ∧
      (code ≤ a → a < 0x8000 → Memory.read (s.coldMem t) (localBase t + a) = 0) ∧
      (a < dat → Memory.read (s.coldMem t) (localBase t + 0x8000 + a) = (s.imageBytes k.slot (0x100 + code) dat).getD a 0) ∧
      (a < localBase t ∨ localBase t + 0x10000 ≤ a → Memory.read (s.coldMem t) a = Memory.read s.mem a) :=
  Memory.read_halves s.mem (localBase t) (Nat.min_le_left ..) (Nat.min_le_left ..) (length_imageBytes ..) (length_imageBytes ..)

/-! ### An entry (R281, R284) -/

theorem tugEntry_stands {s : State} {t : TugId} (h : s.tugs[t].mode ≠ .loaded ∨ s.tugs[t].cycle ≠ 0 ∨ s.tugs[t].berth = none) :
    s.tugEntry t = s := by
  rw [tugEntry]
  cases hb : s.tugs[t].berth with
  | none => rfl
  | some b =>
    refine if_neg fun g => ?_
    obtain ⟨hm, hc⟩ := Bool.and_eq_true_iff.mp g
    exact h.elim (· (of_decide_eq_true hm)) (Or.elim · (· (of_decide_eq_true hc)) fun h => nomatch h.symm.trans hb)

/-- A Tug that runs its program on berth `b`. -/
noncomputable def entered (s : State) (t : TugId) (b : BerthId) : State :=
  (s.atTug t (fun k => { k with mode := .running, entry := none, from_ := none })).atTele b (fun x => { x with slot := s.tugs[t].slot })

section Entered

variable {s : State} {t : TugId} {b : BerthId} (hm : s.tugs[t].mode = .loaded) (hc : s.tugs[t].cycle = 0) (hb : s.tugs[t].berth = some b)

include hm hc hb

theorem tugEntry_eq : s.tugEntry t = (let u := if s.opensWithSoft s.tugs[t] b then (s.entered t b).atBerth b (fun _ x => x.softResetDue) else s.entered t b
    if s.tugs[t].slot = 0 then u.bpRun t b else u) := by
  rw [tugEntry, hb]
  exact if_pos (by rw [hm, hc]; rfl)

theorem tugEntry_program (h : s.tugs[t].slot ≠ 0) : s.tugEntry t = s.entered t b := by
  rw [tugEntry_eq hm hc hb, opensWithSoft, decide_eq_false h]
  exact if_neg h

theorem tugEntry_bp (h : s.tugs[t].slot = 0) : ∃ f, s.tugEntry t = ((s.entered t b).setBerth b f).bpRun t b ∨ s.tugEntry t = (s.entered t b).bpRun t b := by
  rw [tugEntry_eq hm hc hb, if_pos h]
  cases s.opensWithSoft s.tugs[t] b with
  | false => exact ⟨s.berths[b], .inr rfl⟩
  | true => exact ⟨_, .inl rfl⟩

end Entered

theorem entered_entry {s : State} {t : TugId} {b : BerthId} : (s.entered t b).tugs[t].entry = none :=
  congrArg Tug.entry (atTug_self s t (fun k => { k with mode := .running, entry := none, from_ := none }))

theorem foldl_spares {α : Type} {a : Nat} (f : List Host.Cell → α → List Host.Cell)
    (h : ∀ m p, Memory.wf m = true → Memory.wf (f m p) = true ∧ Memory.read (f m p) a = Memory.read m a) (l : List α) :
    ∀ m, Memory.wf m = true → Memory.wf (l.foldl f m) = true ∧ Memory.read (l.foldl f m) a = Memory.read m a := by
  induction l with
  | nil => exact fun m w => ⟨w, rfl⟩
  | cons p l ih =>
    intro m w
    obtain ⟨w', e⟩ := h m p w
    exact ⟨(ih _ w').1, (ih _ w').2.trans e⟩

theorem length_requestBytes (r : ReqRec) : (requestBytes r).length = 32 := by
  simp only [requestBytes, List.length_append, leBytes_length]
  rfl

theorem ringPosts_read {s : State} (w : s.memWf) (t : TugId) (b : BerthId) {a : Nat} (h : a < exchangeBase t + 0x800 ∨ exchangeBase t + 0x1000 ≤ a) :
    Memory.read (s.ringPosts t b).mem a = Memory.read s.mem a := by
  refine (foldl_spares _ (fun m p w => ?_) s.berths[b].id.pend s.mem w).2
  have skip : Memory.wf m = true ∧ Memory.read m a = Memory.read m a := ⟨w, rfl⟩
  cases p with
  | commit c =>
    cases hc : c.post with
    | none => simpa only [hc] using skip
    | some r =>
      simp only [hc]
      refine ⟨Memory.wf_writeBytes w .., Memory.read_writeBytes_out w _ _ _ (h.imp (Nat.lt_of_lt_of_le · (Nat.le_add_right ..)) (Nat.le_trans ?_))⟩
      rw [length_requestBytes, Nat.add_assoc, Nat.add_assoc]
      have := Nat.mod_lt c.staged.evtIndex.toNat (by decide : 0 < 64)
      exact Nat.add_le_add_left (by omega) _
  | _ => exact skip

/-- What one Tide of BP 4.0 leaves of a Tug that entered, and the memory around its ring of records. -/
theorem bpRun_reads {s : State} {m : List Host.Cell} {tele : Vector Tele 48} {quays : Vector Quay 6} (hm : s.mem = m) (w : Memory.wf m = true)
    (ht : s.tele = tele) (hq : s.quays = quays) (t : TugId) (b : BerthId) (a : Nat) (he : s.tugs[t].entry = none) :
    let u := s.bpRun t b
    u.tugs[t].mode = .moored ∧ u.tugs[t].entry = none ∧ u.tugs[t].spill = 0 ∧ u.tele = tele ∧ u.quays = quays ∧
      (a < exchangeBase t + 0x800 ∨ exchangeBase t + 0x1000 ≤ a → Memory.read u.mem a = Memory.read m a) := by
  subst hm
  have e : (s.bpRun t b).tugs[t].entry = s.tugs[t].entry := (congrArg Tug.entry (atTug_self ..)).trans
    (congrArg (fun (v : Vector Tug 52) => v[t].entry) (atBerth_tugs ..))
  refine ⟨congrArg Tug.mode (atTug_self ..), e.trans he, congrArg Tug.spill (atTug_self ..), (atBerth_tele ..).trans ht, (atBerth_quays ..).trans hq,
    fun h => (ringPosts_read ?_ t b h).trans (congrArg (Memory.read · a) (atBerth_mem ..))⟩
  exact (congrArg (Memory.wf · = true) (atBerth_mem ..)).mpr w

theorem atTug_none {s : State} {t : TugId} {f : Tug → Tug} (h : f s.tugs[t] = s.tugs[t]) : s.atTug t f = s :=
  congrArg (fun v => { s with tugs := v }) ((congrArg (s.tugs.set t) h).trans (Vector.set_getElem_self ..))

/-! ### Program swaps and remaps (R446, R452) -/

theorem jobDone_tele (s : State) (o : Origin) (b : BerthId) (st : Status) : (s.jobDone o b st).tele = s.tele := (jobDone_keeps ..).2.tele

/-- A swap that takes place: the Tug emptied for the new slot, the berth's staged work dropped. -/
noncomputable def swapped (s : State) (b : BerthId) (t : TugId) (slot : Nat) (why : Entry) : State :=
  ((s.atBerth b (fun _ x => dropStaged x)).atTug t (fun k => { k with mode := .empty, slot := slot, entry := some (why, true), from_ := some t })).atTele b
    (fun x => { x with swap := none, slot := slot })

theorem doSwap_eq {s : State} {b : BerthId} {t : TugId} {slot until_ : Nat} {force : Bool} {o : Origin} (hs : s.tele[b].swap = some (slot, force, until_, o))
    (ht : s.berths[b].id.tug = some t) (why : Entry) : s.doSwap b why = (s.swapped b t slot why).jobDone o b .ok := by
  rw [doSwap, hs, ht]
  rfl

/-- What a swap leaves (R452), in the form the statement gives it. -/
def Restarts (s : State) (b : BerthId) (t : TugId) (slot : Nat) (why : Entry) (u : State) : Prop :=
  u.tele[b].swap = none ∧ u.tele[b].slot = slot ∧
    u.tugs = s.tugs.set t { s.tugs[t] with mode := .empty, slot := slot, entry := some (why, true), from_ := some t } ∧
    u.mem = s.mem ∧ u.quays = s.quays ∧ s.berths[b].KeepsHw u.berths[b]

theorem doSwap_restarts {s : State} {b : BerthId} {t : TugId} {slot until_ : Nat} {force : Bool} {o : Origin}
    (hs : s.tele[b].swap = some (slot, force, until_, o)) (ht : s.berths[b].id.tug = some t) (why : Entry) :
    s.Restarts b t slot why (s.doSwap b why) := by
  rw [doSwap_eq hs ht]
  obtain ⟨hp, hk⟩ := jobDone_keeps (s.swapped b t slot why) o b .ok
  have tele : ((s.swapped b t slot why).jobDone o b .ok).tele[b] = _ := (congrArg (fun (v : Vector Tele 48) => v[b]) hk.tele).trans (atTele_self ..)
  have tugs : (s.atBerth b (fun _ x => dropStaged x)).tugs = s.tugs := atBerth_tugs ..
  refine ⟨congrArg Tele.swap tele, congrArg Tele.slot tele, hp.tugs.trans ?_, hp.mem.trans (atBerth_mem ..), hp.quays.trans (atBerth_quays ..), ?_⟩
  · exact congrArg (fun (v : Vector Tug 52) => v.set t { v[t] with mode := .empty, slot := slot, entry := some (why, true), from_ := some t }) tugs
  · rw [hp.berths]
    exact (congrArg (Berth.KeepsHw s.berths[b]) (atBerth_self s b (fun _ x => dropStaged x))).mpr (Berth.KeepsHw.settled (dropStaged_hw _))

theorem swapTimeout_idle {s : State} {b : BerthId} (h : s.tele[b].swap = none) : s.swapTimeout b = s := by
  rw [swapTimeout, h]

section Swap

variable {s : State} {b : BerthId} {slot until_ : Nat} {force : Bool} {o : Origin} (h : s.tele[b].swap = some (slot, force, until_, o))
include h

theorem swapTimeout_eq : s.swapTimeout b = if s.ticks < until_ then s
    else if !force then (s.atTele b (fun x => { x with swap := none })).jobDone o b .swapDeferred
    else if forceOk s.berths[b] then s.doSwap b .forced else s := by
  rw [swapTimeout, h]

end Swap

theorem remapTimeout_eq {s : State} {b : BerthId} {want : Option TugId} {until_ : Nat} (h : s.tele[b].remap = some (want, until_, none)) :
    s.remapTimeout b = if s.ticks < until_ then s else s.doRemap b := by
  rw [remapTimeout, h]

/-- A berth with its remap taken up. -/
noncomputable def remapTaken (s : State) (b : BerthId) : State := s.atTele b (fun x => { x with remap := none })

section Remap

variable {s : State} {b : BerthId} {want : Option TugId} {until_ : Nat} (h : s.tele[b].remap = some (want, until_, none))
include h

theorem doRemap_without (hw : s.remapTarget want = none) : s.doRemap b = s.remapTaken b := by
  have e : (s.remapTaken b).remapTarget want = none := hw
  rw [doRemap, h]
  dsimp only
  rw [show (s.atTele b _).remapTarget want = none from e]
  rfl

theorem doRemap_to {n t : TugId} (hw : s.remapTarget want = some n) (ht : s.berths[b].id.tug = some t) :
    s.doRemap b = ((s.remapTaken b).rebind b n .remap true).coreTest t := by
  have e : (s.remapTaken b).remapTarget want = some n := hw
  rw [doRemap, h, ht]
  dsimp only
  rw [show (s.atTele b _).remapTarget want = some n from e]
  rfl

end Remap

theorem rebind_remap (s : State) (b : BerthId) (n : TugId) (why : Entry) (warm : Bool) : (s.rebind b n why warm).tele[b].remap = s.tele[b].remap := by
  have e : ((s.unbindTug b).atBerth b (fun _ x => dropStaged x)).tele = s.tele :=
    (atBerth_tele ..).trans (unbindTug_stands State.tele setBerth_tele (fun _ _ _ => rfl) s b)
  rw [(rebind_keeps ..).2.tele, rebound, atTele_self]
  exact (congrArg (fun (v : Vector Tele 48) => v[b].remap) (setBerth_tele ..)).trans (congrArg (fun (v : Vector Tele 48) => v[b].remap) e)

end State
end Sys2Proof.Machine

namespace Sys2Proof.Proofs

open Sys2Proof Sys2Proof.Machine Sys2Proof.Machine.State

/-- Settles O39: each command of a Tug's service, by the equation of its branch and the reads of the memory it writes. -/
theorem tugService : Obligations.TugService := by
  unfold Obligations.TugService
  intro s b t n why a slot until_ force o want
  refine ⟨fun h => ?snapshot, fun h => ?suspend, fun h => ?suspendStands, fun w hm hs hb => ?seal_, fun h => ?sealStands, fun he hb hm => ?load,
    fun h => congrArg Host.Outcome.next (programLoad_stands h), fun hm hc hb h => ?entry, fun w hm hc hb h => ?entryBp,
    fun h => congrArg Host.Outcome.next (tugEntry_stands h), fun ht hh hr hs => ?swap, fun ht hh => ?swapStands, fun h hu => ?early,
    fun h hu => ?dropped, fun h hu ht hf => ?forced, fun h hf => ?kept, fun h => congrArg Host.Outcome.next (swapTimeout_idle h),
    fun h hu => congrArg Host.Outcome.next ((remapTimeout_eq h).trans (if_pos hu)), fun h hu hw ht hn => ?remap, fun h hu hw => ?remapNone⟩
  case snapshot => exact berthStep_of_atBerth (congrArg Host.Outcome.next (if_pos (reaches_of_hears h))) rfl
  case suspend =>
    have e : (s.tugSuspend t).tugs[t] = _ := (atTug_self ..).trans (if_pos h)
    refine ⟨_, rfl, congrArg (fun k => { s with tugs := s.tugs.set t k }) (atTug_self ..).symm, ?_⟩
    rw [e]
    rfl
  case suspendStands => exact congrArg Host.Outcome.next (atTug_none (if_neg h))
  case seal_ =>
    exact ⟨s.copySealed t (s.sealedMem t b), congrArg Host.Outcome.next (mirrorSeal_eq hm hs hb), copySealed_eq .., copySealed_reads a
      (Memory.sealed_reads w (blockBase t + s.tideCount % 2 * 0x1000) (localBase t + 0x8000) s.tideCount s.tugs[t].mirNow.isLt
        (b.isLt.trans (by decide)) s.tugs[t].program.isLt)⟩
  case sealStands =>
    refine congrArg Host.Outcome.next (if_neg fun g => ?_)
    obtain ⟨hm, hs⟩ := Bool.and_eq_true_iff.mp g
    refine h.elim (fun h => ?_) (fun h => (Bool.or_eq_true_iff.mp hm).elim (h.1 <| of_decide_eq_true ·) (h.2 <| of_decide_eq_true ·))
    rw [h] at hs
    exact nomatch hs
  case load =>
    have e : (s.coldLoaded t b why).tugs[t] = s.coldTug t b why := atTug_self ..
    exact ⟨s.coldLoaded t b why, congrArg Host.Outcome.next (programLoad_cold he hb hm),
      congrArg (fun k => { s with mem := s.coldMem t, tugs := s.tugs.set t k }) e.symm, congrArg Tug.mode e, congrArg Tug.entry e, congrArg Tug.z e,
      congrArg Tug.user e, congrArg Tug.exc e, congrArg Tug.pcn e, congrArg Tug.fl e, congrArg Tug.imask e, congrArg Tug.bank e,
      (congrArg Tug.berth e).trans hb, (congrArg Tug.slot e).trans rfl, (congrArg Tug.fenced e).trans rfl, coldMem_reads s t a⟩
  case entry =>
    refine ⟨_, congrArg Host.Outcome.next (tugEntry_program hm hc hb h), rfl⟩
  case entryBp =>
    have ht : (s.entered t b).tele = s.tele.set b { s.tele[b] with slot := 0 } := congrArg (fun n => s.tele.set b { s.tele[b] with slot := n }) h
    obtain ⟨f, e | e⟩ := tugEntry_bp hm hc hb h
    · exact ⟨_, congrArg Host.Outcome.next e, bpRun_reads (setBerth_mem (s.entered t b) b f) w ((setBerth_tele (s.entered t b) b f).trans ht)
        (setBerth_quays (s.entered t b) b f) t b a ((congrArg (fun (v : Vector Tug 52) => v[t].entry) (setBerth_tugs (s.entered t b) b f)).trans entered_entry)⟩
    · exact ⟨_, congrArg Host.Outcome.next e, bpRun_reads (s := s.entered t b) rfl w ht rfl t b a entered_entry⟩
  case swap =>
    refine ⟨_, congrArg Host.Outcome.next ?_, doSwap_restarts hs ht .mooring⟩
    rw [swapAtMooring, ht]
    exact (if_pos hh).trans (if_neg (by rw [hr]; exact nofun))
  case swapStands =>
    refine congrArg Host.Outcome.next ?_
    rw [swapAtMooring, ht]
    exact if_neg (by rw [hh]; exact nofun)
  case early => exact congrArg Host.Outcome.next ((swapTimeout_eq h).trans (if_pos hu))
  case dropped =>
    obtain ⟨hp, hk⟩ := jobDone_keeps (s.atTele b (fun x => { x with swap := none })) o b .swapDeferred
    exact ⟨_, congrArg Host.Outcome.next ((swapTimeout_eq h).trans (if_neg hu.not_gt)), hk.tele, hp.tugs, hp.berths, hp.mem⟩
  case forced =>
    exact ⟨_, congrArg Host.Outcome.next ((swapTimeout_eq h).trans ((if_neg hu.not_gt).trans (if_pos hf))), doSwap_restarts h ht .forced⟩
  case kept =>
    refine congrArg Host.Outcome.next ((swapTimeout_eq h).trans (ite_eq_of rfl ((if_neg (c := (!true) = true) nofun).trans (if_neg (ne_true_of_eq_false hf)))))
  case remap =>
    have e := (remapTimeout_eq h).trans ((if_neg hu.not_gt).trans (doRemap_to h hw ht))
    have ht' : (s.remapTaken b).berths[b].id.tug = some t := ht
    obtain ⟨hb, he, hf⟩ := rebind_new (n := n) .remap true ht'
    have keep : ∀ {k : Tug}, ((s.remapTaken b).rebind b n .remap true).tugs[n] = k → (((s.remapTaken b).rebind b n .remap true).coreTest t).tugs[n] = k :=
      (coreTest_other _ hn.symm).trans
    have old : (((s.remapTaken b).rebind b n .remap true).coreTest t).tugs[t] = _ := (coreTest_self ..).trans
      (congrArg (fun (k : Tug) => { k with mode := .testing, spill := 0 }) (rebind_old .remap true ht' hn))
    have hw := rebind_hw (n := n) .remap true ht'
    refine ⟨_, congrArg Host.Outcome.next e, ?_, rebind_tug .remap true ht', (congrArg Tug.berth (keep rfl)).trans hb, (congrArg Tug.entry (keep rfl)).trans he,
      (congrArg Tug.from_ (keep rfl)).trans hf, congrArg Tug.berth old, congrArg Tug.mode old, hw.cc, hw.path, rebind_mem ..⟩
    exact (rebind_remap ..).trans (congrArg Tele.remap (atTele_self ..))
  case remapNone => exact ⟨_, congrArg Host.Outcome.next ((remapTimeout_eq h).trans ((if_neg hu.not_gt).trans (doRemap_without h hw))), rfl⟩

end Sys2Proof.Proofs

/-!
SUPPORT. The steps of start-up, each at its turn: the supplies, the boot, the scrub and the core tests.
-/

namespace Sys2Proof.Machine.State

theorem inReset_of_free {s : State} (h : s.porDue = none ∧ s.hot = false) : s.inReset = false := by rw [inReset, h.1, h.2]; rfl

theorem hot_inReset {s : State} (h : s.hot = true) : s.inReset = true := by rw [inReset, h, Bool.or_true]

/-! ### Fuses and boot -/

/-- What the fuse load leaves (R412). -/
def FusesRead (s : State) (pins : BitVec 4) (u : State) : Prop :=
  let shadow : Vector Word 256 := Vector.ofFn (fun (r : Fin 256) => (State.rowRead s.brittle r).1)
  u.brittle.shadow = shadow ∧ u.brittle.loaded = true ∧ u.smb.on = true ∧ u.addrPins = pins ∧
    (shadow[(129 : Fin 256)].getLsbD 15 = false → u.smb.addr = 0x60#7 + BitVec.ofNat 7 pins.toNat) ∧
    (State.factoryOk shadow = true → u.phase = .plls ∧ u.factoryBad = s.factoryBad) ∧
    (State.factoryOk shadow = false → u.phase = .brittle ∧ u.factoryBad = true ∧ u.attn = true) ∧
    u.berths = s.berths ∧ u.quays = s.quays ∧ u.mem = s.mem

theorem brittleLoad_loads {s : State} (pins : BitVec 4) (h : s.inReset = false) (hp : s.phase = .brittle) (ho : s.oscillator.isNone = false)
    (hl : s.brittle.loaded = false) : s.FusesRead pins (s.brittleLoad pins) := by
  unfold brittleLoad
  refine (congrArg (s.FusesRead pins) (if_neg ?_)).mpr ?_
  · rw [h, hp, ho, hl]
    decide
  · extract_lets v ovr addr u w
    by_cases hv : factoryOk v = true
    · exact (congrArg (s.FusesRead pins) (if_pos hv)).mpr ⟨rfl, rfl, rfl, rfl, fun h => if_neg (ne_true_of_eq_false h), fun _ => ⟨rfl, rfl⟩,
        fun h => absurd hv (ne_true_of_eq_false h), rfl, rfl, rfl⟩
    · exact (congrArg (s.FusesRead pins) (if_neg hv)).mpr ⟨rfl, rfl, rfl, rfl, fun h => if_neg (ne_true_of_eq_false h), fun h => absurd h hv,
        fun _ => ⟨hp, rfl, rfl⟩, rfl, rfl, rfl⟩

/-- From the first state to the second only the device's events grow. -/
def OnlyEvents (s t : State) : Prop := t = { s with devOut := t.devOut }

theorem OnlyEvents.refl (s : State) : s.OnlyEvents s := rfl

theorem OnlyEvents.trans {s t u : State} (h : s.OnlyEvents t) (g : t.OnlyEvents u) : s.OnlyEvents u :=
  Eq.trans g (congrArg (fun (v : State) => { v with devOut := u.devOut }) h)

/-- What does not read the events stands. -/
theorem OnlyEvents.keeps {s t : State} (h : s.OnlyEvents t) {α : Type} (g : State → α) (hg : ∀ s d, g { s with devOut := d } = g s) : g t = g s :=
  (congrArg g h).trans (hg ..)

theorem devEvent_only (s : State) (e : EvBody) (b : Nat) : s.OnlyEvents (s.devEvent e b) := rfl

theorem harbourBoot_boots {s : State} (rel : Word) (h : s.inReset = false) (hp : s.phase = .boot) (l : Fin 2) :
    let u := s.harbourBoot rel
    u.phase = .scrub ∧ u.harbour = { coreB := s.hmaFenced, relA := 0x04000000#32 ||| (rel &&& 0xFFFF#32) } ∧ u.pilot.on = true ∧
      (s.links[l].enabled = true → u.links[l] = { s.links[l] with state := .down, fresh := true }) ∧
      (s.links[l].enabled = false → u.links[l] = s.links[l]) ∧ u.berths = s.berths ∧ u.quays = s.quays ∧ u.mem = s.mem := by
  intro u
  have hu : u = _ := if_neg (by simp [h, hp])
  clear_value u
  revert hu
  extract_lets up v one
  intro hu
  have hv : v.OnlyEvents u := hu ▸ foldl_rel OnlyEvents.refl OnlyEvents.trans one (fun t i => keeps_ite (R := OnlyEvents) rfl rfl) _ v
  have hl : u.links[l] = up s.links[l] := (hv.keeps (·.links[l]) fun _ _ => rfl).trans (Vector.getElem_map ..)
  refine ⟨hv.keeps State.phase fun _ _ => rfl, hv.keeps State.harbour fun _ _ => rfl, hv.keeps (·.pilot.on) fun _ _ => rfl, fun e => ?_, fun e => ?_,
    hv.keeps State.berths fun _ _ => rfl, hv.keeps State.quays fun _ _ => rfl, hv.keeps State.mem fun _ _ => rfl⟩
  · exact hl.trans (if_pos e)
  · exact hl.trans (if_neg (ne_true_of_eq_false e))

/-! ### The scrub of Hold -/

/-- From the first state to the second stands what the scrub restores nothing of: the phase, the memory, the Manifest, the marks of
the retained domain, and each berth's attachment and power path. -/
def KeepsScrub (s t : State) : Prop :=
  (t.phase = s.phase ∧ t.mem = s.mem ∧ t.man = s.man ∧ t.retValid = s.retValid ∧ t.retained.valid = s.retained.valid) ∧
    ∀ b : BerthId, t.berths[b].cc = s.berths[b].cc ∧ t.berths[b].path = s.berths[b].path

theorem KeepsScrub.refl (s : State) : s.KeepsScrub s := ⟨⟨rfl, rfl, rfl, rfl, rfl⟩, fun _ => ⟨rfl, rfl⟩⟩

theorem KeepsScrub.trans {s t u : State} (h : s.KeepsScrub t) (g : t.KeepsScrub u) : s.KeepsScrub u :=
  ⟨⟨g.1.1.trans h.1.1, g.1.2.1.trans h.1.2.1, g.1.2.2.1.trans h.1.2.2.1, g.1.2.2.2.1.trans h.1.2.2.2.1, g.1.2.2.2.2.trans h.1.2.2.2.2⟩,
    fun b => ⟨(g.2 b).1.trans (h.2 b).1, (g.2 b).2.trans (h.2 b).2⟩⟩

/-- The berths rewritten one by one, each with its attachment and power path. -/
theorem berths_scrub (s : State) (f : BerthId → Berth) (tb : Vector PolSlot 64)
    (h : ∀ b, (f b).cc = s.berths[b].cc ∧ (f b).path = s.berths[b].path) : s.KeepsScrub { s with tables := tb, berths := Vector.ofFn f } :=
  ⟨⟨rfl, rfl, rfl, rfl, rfl⟩, fun b => by
    rw [show ({ s with tables := tb, berths := Vector.ofFn f } : State).berths[b] = f b from Vector.getElem_ofFn ..]
    exact h b⟩

theorem resumeSeq_scrub (s : State) : s.KeepsScrub s.resumeSeq := by
  unfold resumeSeq
  split
  · exact KeepsScrub.refl s
  · exact KeepsScrub.refl s

theorem restoreItem_scrub (s : State) (id : Nat) (v : List Byte) : s.KeepsScrub (s.restoreItem id v) := by
  unfold restoreItem
  refine keeps_ite (R := KeepsScrub) (keeps_ite (R := KeepsScrub) (KeepsScrub.refl s) (KeepsScrub.refl s))
    (keeps_ite (R := KeepsScrub) (berths_scrub s _ _ fun b => by exact ⟨rfl, rfl⟩) ?_)
  split
  · exact KeepsScrub.refl s
  · split
    · exact KeepsScrub.refl s
    · exact KeepsScrub.refl s

/-- What a Manifest's saved budget makes. -/
noncomputable def ofBudget (f : Budget → State) (d : State) : Option ManSlot → State
  | some { item := .budget x, .. } => f x
  | _ => d

theorem ofBudget_keeps {R : State → State → Prop} {s d : State} {f : Budget → State} (hd : R s d) (hf : ∀ x, R s (f x)) (o : Option ManSlot) :
    R s (ofBudget f d o) := by
  rcases o with _ | ⟨_, item⟩
  · exact hd
  · cases item with
    | budget x => exact hf x
    | _ => exact hd

/-- What a Manifest's saved item of the configuration makes. -/
noncomputable def ofConfig (f : List Byte → State) (d : State) : Option ManSlot → State
  | some { item := .config _ v, .. } => f v
  | _ => d

theorem ofConfig_keeps {R : State → State → Prop} {s d : State} {f : List Byte → State} (hd : R s d) (hf : ∀ x, R s (f x)) (o : Option ManSlot) :
    R s (ofConfig f d o) := by
  rcases o with _ | ⟨_, item⟩
  · exact hd
  · cases item with
    | config _ v => exact hf v
    | _ => exact hd

theorem restoreConfig_scrub (s : State) : s.KeepsScrub s.restoreConfig := by
  unfold restoreConfig
  extract_lets tables bound v _ w
  have hv : s.KeepsScrub v := berths_scrub s (fun b => { s.berths[b] with pol.table := (bound[b.val]?).getD 0 }) tables fun b => ⟨rfl, rfl⟩
  have hw : v.KeepsScrub w := ofBudget_keeps (R := KeepsScrub) (f := fun x => { v with alloc.budget := x }) (KeepsScrub.refl v) (fun _ => KeepsScrub.refl v) _
  exact (hv.trans hw).trans (foldl_rel KeepsScrub.refl KeepsScrub.trans _ (fun t id =>
    ofConfig_keeps (R := KeepsScrub) (f := fun v => t.restoreItem id v) (KeepsScrub.refl t) (fun _ => restoreItem_scrub ..) _) _ _)

theorem restoreGlaze_scrub (s : State) : s.KeepsScrub s.restoreGlaze := by
  unfold restoreGlaze
  split
  · exact KeepsScrub.refl s
  · exact keeps_ite (R := KeepsScrub) (KeepsScrub.refl s) (KeepsScrub.refl s)

theorem restoreCounts_scrub (s : State) : s.KeepsScrub s.restoreCounts := by
  delta restoreCounts
  extract_lets c
  clear_value c
  cases c with
  | none => exact KeepsScrub.refl s
  | some x => exact ⟨⟨rfl, rfl, rfl, rfl, rfl⟩, fun _ => ⟨rfl, rfl⟩⟩

theorem recordDevice_scrub (s : State) (cause quay stamp : Nat) (detail : List Byte) (time : Nat) :
    s.KeepsScrub (s.recordDevice cause quay stamp detail time).2 := by
  delta recordDevice
  extract_lets r
  clear_value r
  cases r with
  | none => exact KeepsScrub.refl s
  | some k => exact KeepsScrub.refl s

theorem resetRecord_scrub (s : State) : s.KeepsScrub s.resetRecord := by
  delta resetRecord
  extract_lets time n at0
  have h (cause : Nat) (d : List Byte) : s.KeepsScrub (at0 cause d) :=
    KeepsScrub.trans (recordDevice_scrub { s with tideCount := 0 } ..) (KeepsScrub.refl _)
  exact keeps_ite (R := KeepsScrub) (h ..) (keeps_ite (R := KeepsScrub) (h ..) (KeepsScrub.refl s))

/-- What the scrub makes of a Manifest slot: an unsealed one is free. -/
noncomputable def scrubbed (m : ManSlot) : ManSlot := if m.sealed then m else { m with item := .free, data := [], raw := none }

theorem freeUnsealed_scrub (s : State) : { s with man := s.man.map scrubbed }.KeepsScrub s.freeUnsealed := by
  delta freeUnsealed
  extract_lets l v
  have hv : s.OnlyEvents v := foldl_rel OnlyEvents.refl OnlyEvents.trans _ (fun _ _ => devEvent_only ..) _ s
  clear_value l
  have hm : v.man = s.man := hv.keeps State.man fun _ _ => rfl
  exact ⟨⟨hv.keeps State.phase fun _ _ => rfl, hv.keeps State.mem fun _ _ => rfl, congrArg (List.map scrubbed) hm, hv.keeps State.retValid fun _ _ => rfl,
    hv.keeps (·.retained.valid) fun _ _ => rfl⟩, fun b => ⟨hv.keeps (·.berths[b].cc) fun _ _ => rfl, hv.keeps (·.berths[b].path) fun _ _ => rfl⟩⟩

/-- A device whose scrub of Hold is done, before what it restores. -/
noncomputable def scrubStart (s : State) : State :=
  { s with phase := .quays, retValid := s.retained.valid, retained.valid := true, man := s.man.map scrubbed }

theorem holdScrub_scrubs {s : State} (rtc : Option Nat) (h : s.inReset = false) (hp : s.phase = .scrub) :
    s.scrubStart.KeepsScrub (s.holdScrub rtc) := by
  delta holdScrub
  rw [if_neg (by simp [h, hp])]
  extract_lets ok src s1 s2 set src2 s3 src3 s4 s5
  have h2 : s.scrubStart.KeepsScrub s2 :=
    (freeUnsealed_scrub s1).trans (resumeSeq_scrub _)
  have h3 : s2.KeepsScrub s3 := by
    cases rtc with
    | none => exact KeepsScrub.refl _
    | some r => exact KeepsScrub.refl _
  have h4 : s3.KeepsScrub s4 := keeps_ite (R := KeepsScrub) (KeepsScrub.refl _) (KeepsScrub.refl _)
  have h5 : s4.KeepsScrub s5 := (restoreConfig_scrub s4).trans (restoreGlaze_scrub _)
  exact h2.trans (h3.trans (h4.trans (h5.trans ((keeps_ite (R := KeepsScrub) (restoreCounts_scrub s5) (KeepsScrub.refl s5)).trans (resetRecord_scrub _)))))

theorem scrubbed_frees (m : ManSlot) : ((scrubbed m).sealed || (scrubbed m).item = .free) = true := by
  unfold scrubbed
  split
  · next h => rw [h, Bool.true_or]
  · exact Bool.or_true _

/-- The Manifest after the scrub: every slot sealed or free, the sealed ones as they were. -/
theorem scrubbed_man (l : List ManSlot) (z : ManSlot) :
    (l.map scrubbed).all (fun (m : ManSlot) => m.sealed || m.item = .free) = true ∧ (z ∈ l → z.sealed = true → z ∈ l.map scrubbed) := by
  refine ⟨?_, fun h hs => List.mem_map.mpr ⟨z, h, if_pos hs⟩⟩
  rw [List.all_map]
  exact List.all_eq_true.mpr fun m _ => scrubbed_frees m

/-! ### A quay brought up -/

/-- From the first state to the second the quays, the memory and the berth stand. -/
def Spares (b : BerthId) (s t : State) : Prop := t.quays = s.quays ∧ t.mem = s.mem ∧ t.berths[b] = s.berths[b]

theorem Spares.refl (b : BerthId) (s : State) : Spares b s s := ⟨rfl, rfl, rfl⟩

theorem Spares.trans {b : BerthId} {s t u : State} (h : Spares b s t) (g : Spares b t u) : Spares b s u :=
  ⟨g.1.trans h.1, g.2.1.trans h.2.1, g.2.2.trans h.2.2⟩

theorem atBerth_spares {b c : BerthId} (s : State) (f : Env → Berth → Berth) (h : c ≠ b) : Spares b s (s.atBerth c f) :=
  ⟨atBerth_quays .., atBerth_mem .., atBerth_other _ _ _ _ h⟩

/-- From the first state to the second the quays and the memory stand, and of the berth what its attachment turns on. -/
def SparesSeat (b : BerthId) (s t : State) : Prop :=
  t.quays = s.quays ∧ t.mem = s.mem ∧ t.berths[b].cc.state = s.berths[b].cc.state ∧ t.berths[b].cc.dbRd = s.berths[b].cc.dbRd ∧
    t.berths[b].path = s.berths[b].path ∧ t.berths[b].reg = s.berths[b].reg

theorem SparesSeat.refl (b : BerthId) (s : State) : SparesSeat b s s := ⟨rfl, rfl, rfl, rfl, rfl, rfl⟩

theorem SparesSeat.trans {b : BerthId} {s t u : State} (h : SparesSeat b s t) (g : SparesSeat b t u) : SparesSeat b s u := by
  obtain ⟨h1, h2, h3, h4, h5, h6⟩ := h
  obtain ⟨g1, g2, g3, g4, g5, g6⟩ := g
  exact ⟨g1.trans h1, g2.trans h2, g3.trans h3, g4.trans h4, g5.trans h5, g6.trans h6⟩

theorem Spares.seat {b : BerthId} {s t : State} (h : Spares b s t) : SparesSeat b s t :=
  ⟨h.1, h.2.1, congrArg (·.cc.state) h.2.2, congrArg (·.cc.dbRd) h.2.2, congrArg Berth.path h.2.2, congrArg Berth.reg h.2.2⟩

theorem devEvent_spares (b : BerthId) (s : State) (e : EvBody) (n : Nat) : Spares b s (s.devEvent e n) := ⟨rfl, rfl, rfl⟩

theorem mismatch_seat (b c : BerthId) (s : State) : SparesSeat b s (s.atBerth c (fun _ x => { x with cc.shadowMismatch := true })) := by
  by_cases h : c = b
  · subst h
    refine ⟨atBerth_quays .., atBerth_mem .., ?_⟩
    rw [atBerth_self]
    exact ⟨rfl, rfl, rfl, rfl⟩
  · exact (atBerth_spares s _ h).seat

theorem quay_seat {q n i : Nat} (h : n = 8 * q) (hi : i < 8) : (n + i) / 8 = q := by
  rw [h, Nat.mul_add_div (by decide), Nat.div_eq_of_lt hi, Nat.add_zero]

theorem quayOf_of_mem {q : QuayId} {c : BerthId} (h : c ∈ State.berthsOf q) : State.quayOf c = q := by
  obtain ⟨i, -, rfl⟩ := List.mem_map.mp h
  exact Fin.ext (quay_seat (Nat.mul_comm ..) i.isLt)

/-- A berth of a quay brought up with `v` mV on VBC (R65, R66). -/
noncomputable def broughtUp (v : Nat) (x : Berth) : Berth :=
  if 800 ≤ v && !x.cc.dbRd && x.cc.state = .held then
    { x with cc.state := .backFeed, cc.backfeedPwrup := true, mon.ded := x.mon.ded.set 4 true }.ccEvt 5
  else { x with mon.ded := (x.mon.ded.set 4 (800 ≤ v)).set 5 (3670 ≤ v) }

theorem broughtUp_seat (v : Nat) (x : Berth) :
    (broughtUp v x).cc.state = (if x.cc.state = .held ∧ 800 ≤ v ∧ x.cc.dbRd = false then .backFeed else x.cc.state) ∧
      (broughtUp v x).path = x.path ∧ (broughtUp v x).reg = x.reg := by
  unfold broughtUp
  by_cases h : x.cc.state = .held ∧ 800 ≤ v ∧ x.cc.dbRd = false
  · rw [if_pos h, if_pos (by simp [h])]
    exact ⟨rfl, rfl, rfl⟩
  · rw [if_neg h, if_neg (fun e => h (by simpa [and_assoc, and_comm] using e))]
    exact ⟨rfl, rfl, rfl⟩

theorem quayTurn {s : State} {q : QuayId} (h : ∀ k : QuayId, q.val ≤ k.val ∨ s.quayReady k = false ∨ s.quays[k].up = true) :
    (List.finRange 6).all (fun (k : Fin 6) => decide (q.val ≤ k.val) || !s.quayReady k || s.quays[k].up) = true := by
  rw [List.all_eq_true]
  intro k _
  rcases h k with h | h | h
  · rw [decide_eq_true h]
    rfl
  · rw [h, Bool.not_false, Bool.or_true, Bool.true_or]
  · rw [h, Bool.or_true]

/-- The check of a quay's dead-battery row: a mismatch is marked on its berths and told. -/
noncomputable def rowChecked (s : State) (q : QuayId) : State :=
  let d := s.deadbatt q
  let diff := s.quays[q].row ^^^ d.2
  if diff = 0 then s
  else (s.atBerths (State.berthsOf q) (fun _ x => { x with cc.shadowMismatch := true })).devEvent
    (.otpWeak d.1 1 (BitVec.ofNat 32 (diff.toNat * 2 ^ (8 * (q.val % 4)))))

/-- The `i`-th berth of a quay. -/
noncomputable def seatOf (q : QuayId) (i : Fin 8) : BerthId := ⟨8 * q.val + i.val, by omega⟩

theorem quayOf_seatOf (q : QuayId) (i : Fin 8) : State.quayOf (seatOf q i) = q := Fin.ext (quay_seat rfl i.isLt)

theorem seatOf_mod (q : QuayId) (i : Fin 8) : (seatOf q i).val % 8 = i.val := (Nat.mul_add_mod ..).trans (Nat.mod_eq_of_lt i.isLt)

theorem seatOf_quayOf {q : QuayId} {b : BerthId} (h : State.quayOf b = q) : ∃ i : Fin 8, i.val = b.val % 8 ∧ seatOf q i = b :=
  ⟨⟨b.val % 8, Nat.mod_lt _ (by decide)⟩, rfl, Fin.ext ((congrArg (fun (k : QuayId) => 8 * k.val + b.val % 8) h.symm).trans (Nat.div_add_mod ..))⟩

/-- The berths of a quay brought up. -/
noncomputable def seatsUp (s : State) (q : QuayId) (vbc : Vector Nat 8) : State :=
  (List.finRange 8).foldl (fun (t : State) (i : Fin 8) => t.atBerth (seatOf q i) (fun _ x => broughtUp vbc[i] x)) s

/-- The phase in which the quays are released. -/
noncomputable def toRelease (s : State) : State := { s with phase := .release }

/-- A quay with its power up. -/
noncomputable def poweredUp (vcm : Nat) (x : Quay) : Quay := { x with up := true, vconnVq5 := decide (vcm < 4600) }

theorem quayBringup_eq {s : State} {q : QuayId} (vcm : Nat) (vbc : Vector Nat 8) (h : s.inReset = false) (hp : s.phase = .quays)
    (ht : ∀ k : QuayId, q.val ≤ k.val ∨ s.quayReady k = false ∨ s.quays[k].up = true) (hr : s.quayReady q = true) (hu : s.quays[q].up = false) :
    s.quayBringup q vcm vbc [] = (((s.atQuay q (poweredUp vcm)).rowChecked q).seatsUp q vbc).toRelease := by
  delta quayBringup
  extract_lets turn late onVq5 s1 d diff s2 one s3 s4
  have e : s3 = ((s.atQuay q (poweredUp vcm)).rowChecked q).seatsUp q vbc := rfl
  refine (if_neg ?_).trans (congrArg toRelease (Eq.trans (b := s3) rfl e))
  have hl : late = true := Bool.or_eq_true_iff.mpr (.inl (Bool.or_eq_true_iff.mpr (.inl (decide_eq_true hp))))
  rw [show turn = true from quayTurn ht, hl, h, hr, hu]
  decide

theorem rowChecked_spares {b : BerthId} {q : QuayId} (s : State) (h : State.quayOf b ≠ q) : Spares b s (s.rowChecked q) :=
  keeps_ite (R := Spares b) (Spares.refl b s) (Spares.trans
    (foldl_rel_mem (Spares.refl b) Spares.trans _ _ (fun t _ hc => atBerth_spares t _ (fun e => h (e ▸ quayOf_of_mem hc))) s) (devEvent_spares ..))

theorem rowChecked_seat (b : BerthId) (q : QuayId) (s : State) : SparesSeat b s (s.rowChecked q) :=
  keeps_ite (R := SparesSeat b) (SparesSeat.refl b s) (SparesSeat.trans
    (foldl_rel (SparesSeat.refl b) SparesSeat.trans _ (fun t c => mismatch_seat b c t) _ s) (devEvent_spares ..).seat)

theorem seatsUp_spares {b : BerthId} {q : QuayId} (s : State) (vbc : Vector Nat 8) (h : State.quayOf b ≠ q) : Spares b s (s.seatsUp q vbc) :=
  foldl_rel (Spares.refl b) Spares.trans _ (fun t i => atBerth_spares t _ fun e => h (e ▸ quayOf_seatOf q i)) _ s

theorem seatsUp_seat {q : QuayId} (i : Fin 8) (s : State) (vbc : Vector Nat 8) :
    ∃ t, Spares (seatOf q i) s t ∧ Spares (seatOf q i) (t.atBerth (seatOf q i) (fun _ x => broughtUp vbc[i] x)) (s.seatsUp q vbc) :=
  foldl_finRange_at (Spares.refl _) Spares.trans _ i (fun t j hj => atBerth_spares t _ fun e => hj
    (Fin.ext ((seatOf_mod q j).symm.trans ((congrArg (fun (c : BerthId) => c.val % 8) e).trans (seatOf_mod q i))))) s

/-- What bringing its quay up leaves of a berth: its attachment, power path and regulator. -/
def SeatBrought (vbc : Vector Nat 8) (b : BerthId) (s u : State) : Prop :=
  let x := s.berths[b]
  u.quays = s.quays ∧ u.mem = s.mem ∧ u.berths[b].cc.state =
      (if x.cc.state = .held ∧ 800 ≤ vbc.toList.getD (b.val % 8) 0 ∧ x.cc.dbRd = false then .backFeed else x.cc.state) ∧
    u.berths[b].path = x.path ∧ u.berths[b].reg = x.reg

theorem seatsUp_own {s : State} {q : QuayId} (vbc : Vector Nat 8) {b : BerthId} (h : State.quayOf b = q) : SeatBrought vbc b s (s.seatsUp q vbc) := by
  obtain ⟨i, hi, rfl⟩ := seatOf_quayOf h
  have hv : vbc.toList.getD ((seatOf q i).val % 8) 0 = vbc[i] := by
    rw [← hi]
    simp [List.getD]
  obtain ⟨t, ⟨tq, tm, tb⟩, uq, um, ub⟩ := seatsUp_seat i s vbc
  have e := ub.trans ((atBerth_self ..).trans (congrArg (fun x => { broughtUp vbc[i] x with pol.tookId := false }) tb))
  obtain ⟨hc, hp, hr⟩ := broughtUp_seat vbc[i] s.berths[seatOf q i]
  refine ⟨uq.trans ((atBerth_quays ..).trans tq), um.trans ((atBerth_mem ..).trans tm), ?_, (congrArg Berth.path e).trans hp, (congrArg Berth.reg e).trans hr⟩
  rw [hv]
  exact (congrArg (·.cc.state) e).trans hc

/-- A quay brought up: its power, its phase, and its berths alone changed. -/
def QuayBrought (q : QuayId) (vcm : Nat) (vbc : Vector Nat 8) (b : BerthId) (s u : State) : Prop :=
  let x := s.berths[b]
  u.quays[q].up = true ∧ u.quays[q].released = s.quays[q].released ∧ u.quays[q].vconnVq5 = decide (vcm < 4600) ∧ u.phase = .release ∧ u.mem = s.mem ∧
    (quayOf b ≠ q → u.berths[b] = x) ∧
    (quayOf b = q → u.berths[b].cc.state =
        (if x.cc.state = .held ∧ 800 ≤ vbc.toList.getD (b.val % 8) 0 ∧ x.cc.dbRd = false then .backFeed else x.cc.state) ∧
      u.berths[b].path = x.path ∧ u.berths[b].reg = x.reg)

theorem quayBringup_brings {s : State} {q : QuayId} (vcm : Nat) (vbc : Vector Nat 8) (h : s.inReset = false) (hp : s.phase = .quays)
    (ht : ∀ k : QuayId, q.val ≤ k.val ∨ s.quayReady k = false ∨ s.quays[k].up = true) (hr : s.quayReady q = true) (hu : s.quays[q].up = false) (b : BerthId) :
    QuayBrought q vcm vbc b s (s.quayBringup q vcm vbc []) := by
  rw [quayBringup_eq vcm vbc h hp ht hr hu]
  have hb : (s.atQuay q (poweredUp vcm)).berths[b] = s.berths[b] := congrArg (fun (v : Vector Berth 48) => v[b]) (atQuay_berths ..)
  have hm : (s.atQuay q (poweredUp vcm)).mem = s.mem := atQuay_mem ..
  have hq : (s.atQuay q (poweredUp vcm)).quays[q] = poweredUp vcm s.quays[q] := atQuay_self ..
  generalize s.atQuay q (poweredUp vcm) = v at hb hm hq
  obtain ⟨rq, rm, rc, rd, rp, rr⟩ := rowChecked_seat b q v
  have own {c : BerthId} (hc : quayOf c = q) := seatsUp_own (s := v.rowChecked q) vbc hc
  obtain ⟨oq, om, -⟩ := own (quayOf_seatOf q 0)
  have uq : ((v.rowChecked q).seatsUp q vbc).quays[q] = poweredUp vcm s.quays[q] := (congrArg (fun (x : Vector Quay 6) => x[q]) (oq.trans rq)).trans hq
  refine ⟨congrArg Quay.up uq, (congrArg Quay.released uq).trans rfl, congrArg Quay.vconnVq5 uq, rfl, om.trans (rm.trans hm), fun n => ?_, fun e => ?_⟩
  · exact (seatsUp_spares _ vbc n).2.2.trans ((rowChecked_spares v n).2.2.trans hb)
  · obtain ⟨-, -, hc, hp, hr⟩ := own e
    rw [rc, rd, hb] at hc
    rw [hb] at rp rr
    exact ⟨hc, hp.trans rp, hr.trans rr⟩

end Sys2Proof.Machine.State

/-!
SUPPORT. The release of a quay (R65, R66): every berth of it takes a Tug of its own, or stands fenced.
-/

namespace Sys2Proof.Machine.Berth

theorem presentRp_seat (b : Berth) (l : BitVec 2) : b.KeepsSeat (b.presentRp l) := KeepsSeat.refl b

theorem openBoth_seat (b : Berth) (t : Stamp) (dis : Bool) : b.KeepsSeat (b.openBoth t dis) := (openSink_seat b).trans (openSource_seat ..)

theorem toDisabled_seat (b : Berth) (t : Stamp) : b.KeepsSeat (b.toDisabled t) := by
  unfold toDisabled
  extract_lets x y c
  refine ite_seat (KeepsSeat.refl b) ?_
  have hx : b.KeepsSeat x := detach_seat ..
  clear_value x
  have hy : x.KeepsSeat y := KeepsSeat.trans (KeepsSeat.refl x) ((openBoth_seat x.stopCcTimers t true).trans (KeepsSeat.refl _))
  clear_value c y
  refine hx.trans (hy.trans (KeepsSeat.trans ?_ ((regStandby_seat _ t).trans (presentRp_seat _ 3))))
  exact KeepsSeat.refl y

/-- The choice by a berth's role. -/
noncomputable def byRole (r : Nat) (a b c : Berth) : Berth := match r with
  | 0 => a
  | 1 => b
  | _ => c

theorem byRole_seat {r : Nat} {x a b c : Berth} (ha : x.KeepsSeat a) (hb : x.KeepsSeat b) (hc : x.KeepsSeat c) : x.KeepsSeat (byRole r a b c) := by
  unfold byRole
  split
  · exact ha
  · exact hb
  · exact hc

theorem toUnattached_seat (b : Berth) (e : Env) (t : Stamp) : b.KeepsSeat (b.toUnattached e t) := by
  unfold toUnattached
  extract_lets run x c c2 y
  have hx : b.KeepsSeat x := KeepsSeat.refl b
  clear_value x
  have hy : x.KeepsSeat y := KeepsSeat.trans (KeepsSeat.refl x) (openBoth_seat ..)
  clear_value y
  refine hx.trans (hy.trans (ite_seat (KeepsSeat.refl y) (byRole_seat (r := y.role) ?_ ?_ ?_)))
  · exact KeepsSeat.refl y
  · exact KeepsSeat.refl y
  · exact KeepsSeat.refl y

theorem startPassTest_seat (b : Berth) (t : Stamp) (clear : Bool) : b.KeepsSeat (b.startPassTest t clear) :=
  KeepsSeat.trans (KeepsSeat.refl b) (ite_seat (applyMode_seat ..) (KeepsSeat.refl _))

/-- The choice of a release by the attachment. -/
noncomputable def byHold (c : CcState) (x y z : Berth) : Berth := match c with
  | .backFeed => x
  | .held => y
  | _ => z

theorem byHold_seat {c : CcState} {b x y z : Berth} (hx : b.KeepsSeat x) (hy : b.KeepsSeat y) (hz : b.KeepsSeat z) : b.KeepsSeat (byHold c x y z) := by
  unfold byHold
  split
  · exact hx
  · exact hy
  · exact hz

theorem doRelease_seat (b : Berth) (e : Env) (t : Stamp) : b.KeepsSeat (b.doRelease e t) := by
  refine KeepsSeat.trans (y := ({ b with cc.release := true, cc.dbRd := false } : Berth).usbSafe) (KeepsSeat.refl b) ?_
  delta doRelease
  generalize ({ b with cc.release := true, cc.dbRd := false } : Berth).usbSafe = x
  refine ite_seat (toDisabled_seat ..) (ite_seat (KeepsSeat.refl x) (byHold_seat (c := x.cc.state) ?_ (toUnattached_seat x e t) (KeepsSeat.refl x)))
  obtain ⟨ht, hf, hm⟩ := startPassTest_seat { x with tm.clr := if x.vbcAbove08 then none else some (t + ms 100) } t false
  exact ⟨ht, hf, hm⟩

end Sys2Proof.Machine.Berth

namespace Sys2Proof.Machine.State

/-- From the first state to the second the quays, the fuses and the last release stand, and every berth but `c`. -/
def Releases (c : BerthId) (s t : State) : Prop :=
  t.quays = s.quays ∧ t.brittle = s.brittle ∧ t.lastRelease = s.lastRelease ∧ ∀ b : BerthId, b ≠ c → t.berths[b] = s.berths[b]

theorem Releases.refl (c : BerthId) (s : State) : Releases c s s := ⟨rfl, rfl, rfl, fun _ _ => rfl⟩

theorem Releases.trans {c : BerthId} {s t u : State} (h : Releases c s t) (g : Releases c t u) : Releases c s u := by
  obtain ⟨hq, hf, hl, hb⟩ := h
  obtain ⟨gq, gf, gl, gb⟩ := g
  exact ⟨gq.trans hq, gf.trans hf, gl.trans hl, fun b n => (gb b n).trans (hb b n)⟩

theorem KeepsParts.releases {s t : State} (c : BerthId) (h : s.KeepsParts t) : Releases c s t :=
  ⟨h.quays, h.brittle, h.lastRelease, fun b _ => congrArg (fun (v : Vector Berth 48) => v[b]) h.berths⟩

theorem setBerth_releases (s : State) (c : BerthId) (x : Berth) : Releases c s (s.setBerth c x) :=
  ⟨setBerth_quays .., setBerth_brittle .., setBerth_lastRelease .., fun _ n => setBerth_other _ _ _ _ n.symm⟩

/-- From the first state to the second the Tugs stand, and the Tug that each berth names. -/
def SameTugs (s t : State) : Prop := t.tugs = s.tugs ∧ ∀ c : BerthId, t.berths[c].id.tug = s.berths[c].id.tug

theorem SameTugs.trans {s t u : State} (h : SameTugs s t) (g : SameTugs t u) : SameTugs s u := ⟨g.1.trans h.1, fun c => (g.2 c).trans (h.2 c)⟩

theorem KeepsParts.sameTugs {s t : State} (h : s.KeepsParts t) : SameTugs s t :=
  ⟨h.tugs, fun c => congrArg (fun (v : Vector Berth 48) => v[c].id.tug) h.berths⟩

theorem setBerth_sameTugs {s : State} {b : BerthId} {x : Berth} (h : x.id.tug = s.berths[b].id.tug) : SameTugs s (s.setBerth b x) := by
  refine ⟨setBerth_tugs .., fun c => ?_⟩
  by_cases e : b = c
  · subst e
    exact (congrArg (·.id.tug) (setBerth_self ..)).trans h
  · exact congrArg (·.id.tug) (setBerth_other _ _ _ _ e)

/-- Every Tug that a berth names is bound to it for a release. -/
def Seated (s : State) : Prop :=
  ∀ (c : BerthId) (n : TugId), s.berths[c].id.tug = some n → s.tugs[n].berth = some c ∧ s.tugs[n].entry = some (.release, false)

theorem Seated.same {s t : State} (h : s.Seated) (g : SameTugs s t) : t.Seated := fun c n e => by
  rw [g.1]
  exact h c n ((g.2 c).symm.trans e)

theorem Seated.unbindTug {s : State} (h : s.Seated) (b : BerthId) : (s.unbindTug b).Seated := by
  cases hb : s.berths[b].id.tug with
  | none =>
    rw [State.unbindTug, hb]
    exact h
  | some t =>
    intro c n e
    by_cases hc : b = c
    · subst hc
      rw [unbindTug_berth hb] at e
      exact nomatch e
    · have e' : s.berths[c].id.tug = some n := by
        rw [State.unbindTug, hb] at e
        exact (congrArg (·.id.tug) (setBerth_other _ _ _ _ hc)).symm.trans e
      obtain ⟨h1, h2⟩ := h c n e'
      have hn : t ≠ n := fun en => hc (Option.some.inj (((h b t hb).1.symm.trans (congrArg (fun (i : TugId) => s.tugs[i].berth) en)).trans h1))
      rw [unbindTug_tugs hb, getFin_set_other _ _ hn]
      exact ⟨h1, h2⟩

theorem Seated.bindTug {s : State} (h : s.Seated) {b : BerthId} {t : TugId} (ht : ∀ c, c ≠ b → s.tugs[t].berth ≠ some c) (slot : Nat) :
    (s.bindTug b t slot .release false).Seated := by
  intro c n e
  rw [State.bindTug, setBerth_tugs]
  by_cases hc : b = c
  · subst hc
    have en : t = n := Option.some.inj ((congrArg (·.id.tug) (setBerth_self ..)).symm.trans e)
    subst en
    rw [atTug_self]
    exact ⟨rfl, rfl⟩
  · obtain ⟨h1, h2⟩ := h c n ((congrArg (·.id.tug) (setBerth_other _ _ _ _ hc)).symm.trans e)
    have hn : t ≠ n := fun en => ht c (Ne.symm hc) (by rw [en]; exact h1)
    rw [atTug_other _ _ _ _ hn]
    exact ⟨h1, h2⟩

theorem ownTug_berth {s : State} {b : BerthId} {t : TugId} (h : s.ownTug b = some t) : s.tugs[t].berth = none := by
  by_cases hu : s.tugUnbound ⟨b.val, by omega⟩ = true
  · obtain rfl := Option.some.inj ((if_pos hu).symm.trans h)
    obtain ⟨hf, -⟩ := Bool.and_eq_true_iff.mp hu
    exact Option.isNone_iff_eq_none.mp (Bool.and_eq_true_iff.mp hf).1
  · exact freeTug_berth ((if_neg hu).symm.trans h)

/-- What the release of a berth does: the berth, where its quay is on, fenced or with a Tug, the Tugs seated if they were, all else
as it was. -/
def ReleasesOne (c : BerthId) (on : Prop) (s t : State) : Prop :=
  Releases c s t ∧ (s.Seated → t.Seated) ∧ (on → t.berths[c].id.fenced = true ∨ t.berths[c].id.tug ≠ none)

theorem ReleasesOne.after {c : BerthId} {on : Prop} {s t u : State} (h : ReleasesOne c on t u) (r : Releases c s t) (k : SameTugs s t) :
    ReleasesOne c on s u :=
  ⟨r.trans h.1, fun hs => h.2.1 (hs.same k), h.2.2⟩

theorem atTug_releases (c : BerthId) (s : State) (t : TugId) (f : Tug → Tug) : Releases c s (s.atTug t f) := Releases.refl c s

theorem unbindTug_releases (s : State) (c : BerthId) : Releases c s (s.unbindTug c) := by
  unfold unbindTug
  split
  · exact Releases.refl c s
  · exact (atTug_releases ..).trans (setBerth_releases ..)

/-- What of a berth does not turn on its Tug stands as the Tug leaves it. -/
theorem unbindTug_keeps {α : Type} (g : Berth → α) (hg : ∀ x, g { x with id.tug := none, pol.tookId := false } = g x) (s : State) (c : BerthId) :
    g (s.unbindTug c).berths[c] = g s.berths[c] := by
  cases hb : s.berths[c].id.tug with
  | none => rw [unbindTug, hb]
  | some t => rw [unbindTug_berth hb, hg]

theorem unbindTug_tug (s : State) (c : BerthId) : (s.unbindTug c).berths[c].id.tug = none := by
  cases hb : s.berths[c].id.tug with
  | none => rw [unbindTug, hb]; exact hb
  | some t => rw [unbindTug_berth hb]

theorem fenceBerth_one (s : State) (c : BerthId) (on : Prop) : ReleasesOne c on s (s.fenceBerth c) := by
  unfold fenceBerth
  split
  · next hf => exact ⟨Releases.refl c s, id, fun _ => .inl hf⟩
  · extract_lets u
    have hu : SameTugs s u := setBerth_sameTugs (Berth.toDisabled_seat ..).1
    have ru : Releases c s u := setBerth_releases ..
    have fu : u.berths[c].id.fenced = true := congrArg (·.id.fenced) (atBerth_self ..)
    clear_value u
    have pv := cutService_parts u c .berthFenced
    generalize u.cutService c .berthFenced = v at pv
    have pw := (saveRepair_faults (v.unbindTug c)).1
    have fv : (v.unbindTug c).berths[c].id.fenced = true := (unbindTug_keeps (·.id.fenced) (fun _ => rfl) v c).trans
      ((congrArg (fun (w : Vector Berth 48) => w[c].id.fenced) pv.berths).trans fu)
    refine ⟨ru.trans ((pv.releases c).trans ((unbindTug_releases v c).trans (pw.releases c))),
      fun h => (((h.same hu).same pv.sameTugs).unbindTug c).same pw.sameTugs, fun _ => .inl ?_⟩
    exact (congrArg (fun (w : Vector Berth 48) => w[c].id.fenced) pw.berths).trans fv

theorem bindRelease_one {s : State} {c : BerthId} {t : TugId} {on : Prop} (ht : s.Seated → ∀ d, d ≠ c → s.tugs[t].berth ≠ some d) {slot : Nat} :
    ReleasesOne c on s ((s.bindTug c t slot .release false).atBerth c (fun e x => x.doRelease e (s.bindTug c t slot .release false).now)) := by
  have ru : Releases c s (s.bindTug c t slot .release false) := (atTug_releases ..).trans (setBerth_releases ..)
  have hu := fun (h : s.Seated) => h.bindTug (ht h) slot
  have bu : (s.bindTug c t slot .release false).berths[c].id.tug = some t := congrArg (·.id.tug) (setBerth_self ..)
  generalize s.bindTug c t slot .release false = u at ru hu bu
  have hk : SameTugs u (u.atBerth c (fun e x => x.doRelease e u.now)) := setBerth_sameTugs (Berth.doRelease_seat ..).1
  exact ⟨ru.trans (setBerth_releases ..), fun h => (hu h).same hk, fun _ => .inr fun e => nomatch bu.symm.trans ((hk.2 c).symm.trans e)⟩

theorem releaseBerth_one (s : State) (c : BerthId) (on : Prop) : ReleasesOne c on s (s.releaseBerth c .release) := by
  unfold releaseBerth
  extract_lets known
  have own : ∀ t, known = some t → s.berths[c].id.tug = some t := by
    subst known
    intro t e
    split at e
    · next n hn =>
      split at e
      · exact nomatch e
      · exact hn.trans e
    · exact nomatch e
  clear_value known
  cases ho : known.or (s.ownTug c) with
  | none => exact fenceBerth_one s c on
  | some t =>
    refine bindRelease_one fun h d hd e => ?_
    rcases Option.or_eq_some_iff.mp ho with ho | ⟨-, ho⟩
    · exact hd (Option.some.inj (e.symm.trans (h c t (own t ho)).1))
    · exact nomatch (ownTug_berth ho).symm.trans e

theorem atBerth_one {s : State} {c : BerthId} {on : Prop} {f : Env → Berth → Berth} (hf : ∀ e (x : Berth), x.KeepsSeat (f e x))
    (h : on → s.berths[c].id.fenced = true) : ReleasesOne c on s (s.atBerth c f) :=
  ⟨setBerth_releases .., fun hs => hs.same (setBerth_sameTugs (hf ..).1),
    fun ho => .inl ((congrArg (·.id.fenced) (atBerth_self ..)).trans ((hf ..).2.1.trans (h ho)))⟩

theorem berthsOn_congr {s t : State} (h : t.brittle = s.brittle) : t.berthsOn = s.berthsOn := congrArg (fun (f : Brittle) => berthsOn { s with brittle := f }) h

theorem releaseOne_one (s : State) (c : BerthId) : ReleasesOne c (c.val < s.berthsOn) s (s.releaseOne c) := by
  unfold releaseOne
  extract_lets u x v
  have ru : Releases c s u := setBerth_releases ..
  have hu : SameTugs s u := setBerth_sameTugs (keeps_ite (R := fun (x y : Berth) => y.id.tug = x.id.tug) rfl
    (keeps_ite (R := fun (x y : Berth) => y.id.tug = x.id.tug) rfl rfl))
  rw [← berthsOn_congr ru.2.1]
  refine ReleasesOne.after ?_ ru hu
  clear_value u
  by_cases hf : u.berths[c].id.fenced = true
  · exact (congrArg (ReleasesOne c _ u) (if_pos hf)).mpr (atBerth_one (fun _ x => Berth.toDisabled_seat x u.now) fun _ => hf)
  · refine (congrArg (ReleasesOne c _ u) (if_neg hf)).mpr ?_
    by_cases hc : c.val < u.berthsOn
    · have pv : u.KeepsParts v := keeps_ite (R := KeepsParts) (recordDevice_keeps ..).1 (KeepsParts.refl u)
      refine (congrArg (ReleasesOne c _ u) (if_neg ?_)).mpr (ReleasesOne.after (releaseBerth_one v c _) (pv.releases c) pv.sameTugs)
      rw [decide_eq_true hc]
      exact Bool.noConfusion
    · exact (congrArg (ReleasesOne c _ u) (if_pos (by rw [decide_eq_false hc]; rfl))).mpr
        (atBerth_one (fun e x => Berth.doRelease_seat x e u.now) fun h => absurd h hc)

/-- What a berth stands with once released: a fence, or a Tug bound for its release. -/
def HasTug (s : State) (b : BerthId) : Prop :=
  s.berths[b].id.fenced = false → s.berths[b].id.tug.any (fun (n : TugId) => s.tugs[n].berth = some b && s.tugs[n].entry = some (.release, false)) = true

theorem Seated.hasTug {s : State} (h : s.Seated) {b : BerthId} (hb : s.berths[b].id.fenced = true ∨ s.berths[b].id.tug ≠ none) : s.HasTug b := by
  intro hf
  obtain ⟨n, hn⟩ := Option.ne_none_iff_exists'.mp (hb.resolve_left (by rw [hf]; exact Bool.noConfusion))
  obtain ⟨h1, h2⟩ := h b n hn
  rw [hn]
  exact Bool.and_eq_true_iff.mpr ⟨decide_eq_true h1, decide_eq_true h2⟩

/-- The release of a quay's berths, one after another. -/
theorem releaseAll {s : State} (q : QuayId) (b : BerthId) :
    let u := (berthsOf q).foldl releaseOne s
    u.quays = s.quays ∧ u.lastRelease = s.lastRelease ∧ (quayOf b ≠ q → u.berths[b] = s.berths[b]) ∧
      (quayOf b = q → s.Seated → b.val < s.berthsOn → u.HasTug b) := by
  intro u
  have out : u.quays = s.quays ∧ u.lastRelease = s.lastRelease ∧ (quayOf b ≠ q → u.berths[b] = s.berths[b]) :=
    foldl_rel_mem (R := fun (s t : State) => t.quays = s.quays ∧ t.lastRelease = s.lastRelease ∧ (quayOf b ≠ q → t.berths[b] = s.berths[b]))
      (fun _ => ⟨rfl, rfl, fun _ => rfl⟩) (fun h g => ⟨g.1.trans h.1, g.2.1.trans h.2.1, fun n => (g.2.2 n).trans (h.2.2 n)⟩) _ _
      (fun t c hc => (releaseOne_one t c).1 |> fun r => ⟨r.1, r.2.2.1, fun n => r.2.2.2 b fun e => n (e ▸ quayOf_mem hc)⟩) s
  refine ⟨out.1, out.2.1, out.2.2, fun hb hs hon => ?_⟩
  have made := foldl_makes (I := fun t => t.Seated ∧ t.brittle = s.brittle)
    (P := fun t => t.Seated ∧ (t.berths[b].id.fenced = true ∨ t.berths[b].id.tug ≠ none)) (b := b) (f := releaseOne) (fun t c ht => ?_) (berthsOf q) s ⟨hs, rfl⟩
    (.inl (mem_berthsOf hb))
  · with_reducible exact made.1.hasTug made.2
  · obtain ⟨rel, seated, one⟩ := releaseOne_one t c
    refine ⟨⟨seated ht.1, rel.2.1.trans ht.2⟩, fun h => ⟨seated ht.1, ?_⟩⟩
    by_cases e : b = c
    · subst e
      exact one ((berthsOn_congr ht.2).symm ▸ hon)
    · rw [rel.2.2.2 b e]
      exact (h.resolve_left e).2

/-! ### The quay released, the start-up over -/

/-- From the first state to the second the berths, quays and Tugs stand, the last release, the phase and the report. -/
def KeepsRun (s t : State) : Prop :=
  t.berths = s.berths ∧ t.quays = s.quays ∧ t.tugs = s.tugs ∧ t.lastRelease = s.lastRelease ∧ t.phase = s.phase ∧ t.reported = s.reported

theorem KeepsRun.refl (s : State) : s.KeepsRun s := ⟨rfl, rfl, rfl, rfl, rfl, rfl⟩

theorem KeepsRun.trans {s t u : State} (h : s.KeepsRun t) (g : t.KeepsRun u) : s.KeepsRun u := by
  obtain ⟨h1, h2, h3, h4, h5, h6⟩ := h
  obtain ⟨g1, g2, g3, g4, g5, g6⟩ := g
  exact ⟨g1.trans h1, g2.trans h2, g3.trans h3, g4.trans h4, g5.trans h5, g6.trans h6⟩

theorem holdFault_run (s : State) (x : EvEntry) : s.KeepsRun (s.holdFault x) := keeps_ite (R := KeepsRun) (KeepsRun.refl s) (KeepsRun.refl s)

/-- A report of a reset, told to the host. -/
theorem publish_run (s : State) (a b c d e f g h : Nat) : s.KeepsRun (s.publish (.resetReport a b c d e f g h)) := by
  unfold publish
  extract_lets masked u x n
  have hu : s.KeepsRun u := KeepsRun.refl s
  clear_value u masked
  refine keeps_ite (R := KeepsRun) (KeepsRun.refl s) (hu.trans ?_)
  clear hu
  refine keeps_ite (R := KeepsRun) (keeps_ite (R := KeepsRun) (KeepsRun.refl u) (holdFault_run ..)) (keeps_ite (R := KeepsRun) (KeepsRun.refl u) ?_)
  cases hc : u.coalesce x with
  | none => exact keeps_ite (R := KeepsRun) (KeepsRun.refl u) (KeepsRun.refl u)
  | some v =>
    unfold coalesce at hc
    split at hc
    · exact nomatch hc
    · exact Option.some.inj hc ▸ KeepsRun.refl u

theorem renumberHeld_run (s : State) : s.KeepsRun s.renumberHeld := KeepsRun.refl s

/-- From the first state to the second the start-up is over and reported; the berths, Tugs, quays and the last release stand. -/
def IsRun (s t : State) : Prop :=
  t.phase = .running ∧ t.reported = true ∧ t.berths = s.berths ∧ t.tugs = s.tugs ∧ t.quays = s.quays ∧ t.lastRelease = s.lastRelease

theorem IsRun.keeps {s t u : State} (h : s.IsRun t) (g : t.KeepsRun u) : s.IsRun u := by
  obtain ⟨hp, hr, hb, ht, hq, hl⟩ := h
  obtain ⟨gb, gq, gt, gl, gp, gr⟩ := g
  exact ⟨gp.trans hp, gr.trans hr, gb.trans hb, gt.trans ht, gq.trans hq, gl.trans hl⟩

theorem running_runs (s : State) : s.IsRun s.running := by
  unfold running
  extract_lets u n e
  by_cases h : s.reported = true
  · exact (congrArg s.IsRun (if_pos h)).mpr ⟨rfl, h, rfl, rfl, rfl, rfl⟩
  · refine (congrArg s.IsRun (if_neg h)).mpr (IsRun.keeps (t := { u with reported := true, pwrgd := true }) ⟨rfl, rfl, rfl, rfl, rfl, rfl⟩ ?_)
    exact (publish_run { u with reported := true, pwrgd := true } _ _ _ _ _ _ _ _).trans (renumberHeld_run _)

theorem partReport_parts (s : State) (c sc i : Nat) : s.KeepsParts (s.partReport c sc i) := KeepsParts.refl s

/-- The quay that answers: nothing waits in it, all else as it was. -/
theorem answerQuay_answers (s : State) (q : QuayId) : ∃ (u : State) (g : Quay → Quay), s.KeepsParts u ∧
    s.answerQuay q = u.atQuay q g ∧ ∀ x, (g x).released = x.released := by
  unfold answerQuay
  extract_lets k u v w
  refine ⟨w, _, ?_, rfl, fun _ => rfl⟩
  have hu : s.KeepsParts u := by
    subst u
    split
    · exact (recordDevice_keeps ..).1
    · exact KeepsParts.refl s
  clear_value u
  have hv : u.KeepsParts v := by
    subst v
    split
    · exact partReport_parts ..
    · exact KeepsParts.refl u
  clear_value v
  refine hu.trans (hv.trans ?_)
  subst w
  split
  · exact (respond_keeps ..).1
  · exact KeepsParts.refl v


/-- A quay about to release its berths. -/
noncomputable def releasing (s : State) (q : QuayId) : State :=
  { s with bringupMs := (s.startUs + 25 * (s.ticks - 1)) / 1000, lastRelease := some s.ticks }.atQuay q
    (fun x => { x with released := true, releasedAt := s.ticks })

/-- The start-up over, once every quay is released. -/
noncomputable def finished (s : State) : State := if s.allReleased then s.running else s

theorem finished_keeps (s : State) : s.finished.berths = s.berths ∧ s.finished.tugs = s.tugs ∧ s.finished.quays = s.quays ∧
    s.finished.lastRelease = s.lastRelease ∧ (s.finished.allReleased = true → s.finished.phase = .running ∧ s.finished.reported = true) := by
  unfold finished
  by_cases h : s.allReleased = true
  · obtain ⟨hp, hr, hb, ht, hq, hl⟩ := running_runs s
    rw [if_pos h]
    exact ⟨hb, ht, hq, hl, fun _ => ⟨hp, hr⟩⟩
  · rw [if_neg h]
    exact ⟨rfl, rfl, rfl, rfl, fun e => absurd e h⟩

/-- A quay's berths released, the start-up over with the last of them. -/
def QuayFreed (q : QuayId) (b : BerthId) (s u : State) : Prop :=
  u.quays[q].released = true ∧ u.lastRelease = some s.ticks ∧ (quayOf b ≠ q → u.berths[b] = s.berths[b]) ∧
    (u.allReleased = true → u.phase = .running ∧ u.reported = true) ∧ (quayOf b = q → s.Seated → b.val < s.berthsOn → u.HasTug b)

section Release

variable {s : State} {q : QuayId} (hr : s.inReset = false) (hu : s.quays[q].up = true) (hd : s.quays[q].released = false) (hp : s.roundPhase = 0)
  (hl : s.lastRelease = none)
include hr hu hd hp hl

theorem berthRelease_eq : s.berthRelease q = (((berthsOf q).foldl releaseOne (s.releasing q)).answerQuay q).finished := by
  unfold berthRelease
  rw [hl]
  refine (if_neg ?_).trans rfl
  rw [hr, hu, hd, hp]
  exact Bool.noConfusion

theorem berthRelease_releases (b : BerthId) : QuayFreed q b s (s.berthRelease q) := by
  rw [berthRelease_eq hr hu hd hp hl]
  have r := releaseAll (s := s.releasing q) q b
  have qr : (s.releasing q).quays[q].released = true := congrArg Quay.released (atQuay_self ..)
  generalize (berthsOf q).foldl releaseOne (s.releasing q) = v at r
  obtain ⟨rq, rl, rb, rt⟩ := r
  obtain ⟨w, g, hw, e, hg⟩ := answerQuay_answers v q
  rw [e]
  obtain ⟨fb, ft, fq, fl, fr⟩ := finished_keeps (w.atQuay q g)
  have eb := fb.trans ((atQuay_berths ..).trans hw.berths)
  have ew : w.quays[q].released = true := (congrArg (fun (x : Vector Quay 6) => x[q].released) (hw.quays.trans rq)).trans qr
  refine ⟨(congrArg (fun (x : Vector Quay 6) => x[q].released) fq).trans ((congrArg Quay.released (atQuay_self w q g)).trans ((hg _).trans ew)),
    fl.trans ((atQuay_lastRelease ..).trans (hw.lastRelease.trans rl)), fun n => (congrArg (fun (x : Vector Berth 48) => x[b]) eb).trans (rb n), fr,
    fun hb hs hon => ?_⟩
  unfold HasTug
  rw [eb, ft.trans ((atQuay_tugs ..).trans hw.tugs)]
  exact rt hb hs hon

end Release

/-! ### The standby, and the core tests -/

theorem standbyTimeout_ends {s : State} {o : Origin} (h : s.harbour.commit = some (o, false)) : s.standbyTimeout =
    ({ s with harbour := { s.harbour with commit := none, ready := false, followed := 0 } } : State).respond o 0x0703 .timeout := by
  rw [standbyTimeout, h]

theorem judge_parts (s : State) (l : Loc) (pass host ext : Bool) : s.KeepsParts (s.judge l pass host ext).2 := by
  unfold judge
  cases pass with
  | false => exact markLasting_parts ..
  | true =>
    by_cases h : (host || ext) = true
    · exact (congrArg (fun (j : Nat × State) => s.KeepsParts j.2) (if_pos h)).mpr (KeepsParts.refl s)
    · refine (congrArg (fun (j : Nat × State) => s.KeepsParts j.2) (if_neg h)).mpr ?_
      extract_lets m recent
      split
      · exact KeepsParts.trans (KeepsParts.refl s) (setMark_parts ..)
      · exact KeepsParts.trans (KeepsParts.refl s) (setMark_parts ..)

/-- The Harbourmaster with its test over. -/
noncomputable def coreTested (s : State) : State := { s with harbour.testing := none, harbour.followed := 0, harbour.ready := false }

theorem coreTestDone_eq {s : State} {c : Bool} (h : s.harbour.testing = some c) (pass : Bool) : s.coreTestDone pass =
    (if (s.judge (.core c) pass false false).1 = 2 then ({ (s.judge (.core c) pass false false).2.coreTested with repair.coreFenced := true } : State).saveRepair
      else (s.judge (.core c) pass false false).2.coreTested) := by
  unfold coreTestDone
  rw [h]
  rfl

theorem coreTestDone_keeps {s : State} {c : Bool} (h : s.harbour.testing = some c) (pass : Bool) :
    (s.coreTestDone pass).harbour = s.coreTested.harbour ∧ (s.coreTestDone pass).berths = s.berths ∧ (s.coreTestDone pass).mem = s.mem := by
  rw [coreTestDone_eq h]
  have hj := judge_parts s (.core c) pass false false
  generalize s.judge (.core c) pass false false = j at hj
  obtain ⟨n, v⟩ := j
  have hv : v.coreTested.harbour = s.coreTested.harbour := congrArg (fun h => { h with testing := none, followed := 0, ready := false }) hj.harbour
  have hs := (saveRepair_faults { v.coreTested with repair.coreFenced := true }).1
  exact keeps_ite (R := fun (s t : State) => t.harbour = s.coreTested.harbour ∧ t.berths = s.berths ∧ t.mem = s.mem)
    ⟨hs.harbour.trans hv, hs.berths.trans hj.berths, hs.mem.trans hj.mem⟩ ⟨hv, hj.berths, hj.mem⟩

theorem coreTestDone_failed {s : State} {c : Bool} (h : s.harbour.testing = some c) :
    (s.coreTestDone false).repair.coreFenced = true ∧ ((s.coreTestDone false).markOf (.core c)).lasting = true := by
  have e : s.coreTestDone false = ({ (s.markLasting (.core c)).coreTested with repair.coreFenced := true } : State).saveRepair := (coreTestDone_eq h false).trans rfl
  have hs := (saveRepair_faults { (s.markLasting (.core c)).coreTested with repair.coreFenced := true }).2
  rw [e]
  exact ⟨hs.coreFenced, (congrArg LocMark.lasting (markOf_congr hs.marks (.core c))).trans (markOf_markLasting s (.core c))⟩

end Sys2Proof.Machine.State

namespace Sys2Proof.Proofs

open Sys2Proof Sys2Proof.Machine Sys2Proof.Machine.State

/-- Settles O54: each step of start-up in its turn, by the equation of its branch. -/
theorem startUp : Obligations.StartUp := by
  unfold Obligations.StartUp
  intro s b q t xt hmb pins us vcm rel rtc vbc l z o
  refine ⟨fun hf hp ho => ?osc, fun h => ?oscStands, fun hf hp ho hl => ?load, fun h => ?loadStands, fun hf hp => ?pll, fun h => ?pllStands, fun hf hp => ?boot,
    fun h => ?bootStands, fun hf hp => ?scrub, fun h => ?scrubStands, fun hf hp h1 h0 hr hu => ?bringup, fun h => ?bringupStands,
    fun hf hu hd hp hl => ?release, fun h => ?releaseStands, fun ht hc hn hp => ?ready, fun h => ?readyStands, fun h => ?timeout, fun h => ?timeoutStands,
    fun h => ?failed, fun h => ?passed, fun h => ?testStands⟩
  case osc =>
    refine ⟨_, congrArg Host.Outcome.next (if_neg ?_), rfl⟩
    rw [inReset_of_free hf, hp, ho]
    decide
  case oscStands =>
    refine congrArg Host.Outcome.next (if_pos ?_)
    rcases h with h | h | h
    · rw [decide_eq_true h, Bool.or_true, Bool.true_or]
    · rw [h, Bool.or_true]
    · rw [hot_inReset h, Bool.true_or, Bool.true_or]
  case load =>
    refine ⟨_, rfl, brittleLoad_loads pins (inReset_of_free hf) hp ?_ hl⟩
    rw [ho]
    rfl
  case loadStands =>
    refine congrArg Host.Outcome.next (if_pos ?_)
    rcases h with h | h | h
    · rw [decide_eq_true h, Bool.or_true, Bool.true_or, Bool.true_or]
    · rw [h]
      simp
    · rw [h, Bool.or_true]
  case pll =>
    refine ⟨_, congrArg Host.Outcome.next (if_neg ?_), rfl⟩
    rw [inReset_of_free hf, hp]
    decide
  case pllStands => exact congrArg Host.Outcome.next (if_pos (by rw [decide_eq_true h, Bool.or_true]))
  case boot => exact ⟨_, rfl, harbourBoot_boots rel (inReset_of_free hf) hp l⟩
  case bootStands => exact congrArg Host.Outcome.next (if_pos (by rw [decide_eq_true h, Bool.or_true]))
  case scrub =>
    obtain ⟨⟨kp, km, kn, kv, kr⟩, kb⟩ := holdScrub_scrubs rtc (inReset_of_free hf) hp
    refine ⟨_, rfl, kp, kr, kv, km, ?_, ?_, kb b⟩
    · rw [kn]
      exact (scrubbed_man s.man z).1
    · rw [kn]
      exact (scrubbed_man s.man z).2
  case scrubStands => exact congrArg Host.Outcome.next (if_pos (by rw [decide_eq_true h, Bool.or_true]))
  case bringup =>
    subst h1
    refine ⟨_, rfl, quayBringup_brings vcm vbc (inReset_of_free hf) hp (fun k => ?_) hr hu b⟩
    by_cases hk : k = 0
    · exact .inr (.inr (hk ▸ h0))
    · exact .inl (Nat.one_le_iff_ne_zero.mpr fun e => hk (Fin.ext e))
  case bringupStands =>
    refine congrArg Host.Outcome.next (if_pos ?_)
    rcases h with h | h | h
    · rw [h, Bool.or_true]
    · rw [h, Bool.not_false, Bool.or_true, Bool.true_or]
    · rw [h]
      simp
  case release =>
    obtain ⟨hq, ht, hb, ha, hs⟩ := berthRelease_releases (inReset_of_free hf) hu hd hp hl b
    refine ⟨_, rfl, hq, ht, fun n => ⟨congrArg Berth.cc (hb n), congrArg Berth.path (hb n)⟩, ha, fun n hn hf hon => hs n (fun c i e => ?_) hon hf⟩
    exact nomatch e.symm.trans (Option.isNone_iff_eq_none.mp (List.all_eq_true.mp hn c (List.mem_finRange c)))
  case releaseStands =>
    refine congrArg Host.Outcome.next (if_pos ?_)
    rcases h with h | h | h
    · rw [h, Bool.not_false, Bool.or_true, Bool.true_or, Bool.true_or, Bool.true_or]
    · rw [h, Bool.or_true, Bool.true_or, Bool.true_or]
    · rw [decide_eq_true h, Bool.or_true, Bool.true_or]
  case ready =>
    refine ⟨_, congrArg Host.Outcome.next (if_neg ?_), rfl, fun h => congrArg (Option.map fun (x : Origin × Bool) => (x.1, true)) h, rfl⟩
    rw [ht, hc, decide_eq_false hn.not_gt, decide_eq_false hp]
    decide
  case readyStands =>
    refine congrArg Host.Outcome.next (if_pos ?_)
    rcases h with h | h | h
    · rw [h, Bool.true_or, Bool.true_or, Bool.true_or]
    · rw [h, Bool.or_true, Bool.true_or, Bool.true_or]
    · rw [decide_eq_true h, Bool.or_true, Bool.true_or]
  case timeout => exact ⟨_, congrArg Host.Outcome.next (standbyTimeout_ends h), rfl⟩
  case timeoutStands => exact congrArg Host.Outcome.next (by rw [standbyTimeout, h])
  case failed =>
    obtain ⟨hh, hb, hm⟩ := coreTestDone_keeps h false
    exact ⟨_, rfl, congrArg Harbour.testing hh, congrArg Harbour.ready hh, (coreTestDone_failed h).1, (coreTestDone_failed h).2, hb, hm⟩
  case passed =>
    obtain ⟨hh, hb, hm⟩ := coreTestDone_keeps h true
    exact ⟨_, rfl, congrArg Harbour.testing hh, congrArg Harbour.followed hh, congrArg Harbour.ready hh, hb, hm⟩
  case testStands =>
    have e (pass : Bool) : s.coreTestDone pass = s := by rw [coreTestDone, h]
    exact ⟨congrArg Host.Outcome.next (e true), congrArg Host.Outcome.next (e false)⟩

end Sys2Proof.Proofs

/-!
SUPPORT. The SERVICE and DEBUG commands: what their checks find, and what each does.
-/

namespace Sys2Proof.Machine

namespace Berth

/-! ### A berth disabled -/

/-- From the first berth to the second the CC block and the power path stand. -/
def KeepsPort (x y : Berth) : Prop := y.cc = x.cc ∧ y.path = x.path

theorem KeepsPort.refl (x : Berth) : x.KeepsPort x := ⟨rfl, rfl⟩

theorem KeepsPort.trans {x y z : Berth} (h : x.KeepsPort y) (g : y.KeepsPort z) : x.KeepsPort z := ⟨g.1.trans h.1, g.2.trans h.2⟩

theorem setTarget_port (b : Berth) (mv : Nat) (t : Stamp) : b.KeepsPort (b.setTarget mv t) := by
  unfold setTarget
  extract_lets y tgt
  have hy : b.KeepsPort y := State.keeps_ite (R := KeepsPort) (KeepsPort.refl b) (KeepsPort.refl b)
  exact hy.trans (State.keeps_ite (R := KeepsPort) (KeepsPort.refl y) (KeepsPort.refl y))

theorem regStandby_port (b : Berth) (t : Stamp) : b.KeepsPort (b.regStandby t) :=
  State.keeps_ite (R := KeepsPort) (KeepsPort.refl b) (setTarget_port { b with reg.mode := .standby } 5000 t)

theorem usbSafe_seat (b : Berth) : b.KeepsSeat b.usbSafe := KeepsSeat.refl b

/-- A power path that carries nothing. -/
def Shut (b : Berth) : Prop := b.path.state ≠ .srcOn ∧ b.path.state ≠ .snkOn

theorem regStandby_shut {b : Berth} (h : b.Shut) (t : Stamp) : (b.regStandby t).Shut := by
  rw [Shut, (regStandby_port b t).2]
  exact h

theorem presentRp_shut {b : Berth} (h : b.Shut) (l : BitVec 2) : (b.presentRp l).Shut := h

theorem off_shut : PathState.off ≠ .srcOn ∧ PathState.off ≠ .snkOn := by decide

theorem openSink_sinks (b : Berth) : b.openSink.path.state ≠ .snkOn := by
  unfold openSink
  split
  · exact off_shut.2
  · next h => exact h

theorem startDischarge_shut {b : Berth} (h : b.Shut) (t : Stamp) : (b.startDischarge t).Shut :=
  State.keeps_ite (R := fun (b x : Berth) => b.Shut → x.Shut) (fun _ => (by decide : PathState.discharge ≠ .srcOn ∧ PathState.discharge ≠ .snkOn)) (fun h => h) h

theorem openSource_shut {b : Berth} (h : b.path.state ≠ .snkOn) (t : Stamp) (dis : Bool) : (b.openSource t dis).Shut := by
  unfold openSource
  extract_lets _ _ y _ z
  have hy : y.Shut := by
    refine bySource_rule (P := Shut) (c := b.path.state) ?_ ?_ fun hs => ⟨hs, h⟩
    · exact off_shut
    · exact off_shut
  have hz : z.Shut := hy
  exact State.keeps_ite (R := fun (b x : Berth) => b.Shut → x.Shut) (s := z) (fun h => startDischarge_shut h t) (fun h => h) hz

theorem openBoth_shut (b : Berth) (t : Stamp) (dis : Bool) : (b.openBoth t dis).Shut := openSource_shut (openSink_sinks b) t dis

theorem toDisabled_locked {b : Berth} (h : b.cc.state = .lockedOut) (t : Stamp) : (b.toDisabled t).cc.state = .lockedOut :=
  (congrArg (fun (x : Berth) => x.cc.state) (if_pos h)).trans h

theorem toDisabled_shut {b : Berth} (h : b.cc.state ≠ .lockedOut) (t : Stamp) : (b.toDisabled t).cc.state = .disabled ∧ (b.toDisabled t).Shut := by
  unfold toDisabled
  rw [if_neg h]
  extract_lets x y c
  have hy : y.Shut := openBoth_shut ..
  clear_value y
  refine ⟨congrArg Cc.state (regStandby_port _ t).1, presentRp_shut ?_ 3⟩
  refine regStandby_shut ?_ t
  exact hy

end Berth

namespace State

/-! ### Operands -/

theorem berth_toNat (b : BerthId) : (BitVec.ofNat 8 b.val).toNat = b.val := Nat.mod_eq_of_lt (b.isLt.trans (by decide))

theorem tug_toNat (t : TugId) : (BitVec.ofNat 8 t.val).toNat = t.val := Nat.mod_eq_of_lt (t.isLt.trans (by decide))

theorem tugNo_val (t : TugId) : tugNo t.val = t := Fin.ext (Nat.mod_eq_of_lt t.isLt)

theorem firstBad_skip {c : Bool} {st : Status} {l : List Check} (h : c = false) : firstBad ((c, st) :: l) = firstBad l := by
  rw [h]
  rfl

theorem firstBad_hit {c : Bool} {st : Status} {l : List Check} (h : c = true) : firstBad ((c, st) :: l) = some st := by
  rw [h]
  rfl

/-- A berth present and in service, as the state begun sees it. -/
theorem Talks.service {s w : State} (k : s.Talks w) {b : BerthId} (h : b.val < s.berthsOn ∧ s.isFenced b = false) :
    b.val < w.berthsOn ∧ w.isFenced b = false :=
  ⟨(k.same State.berthsOn fun _ _ _ _ _ _ => rfl).symm ▸ h.1, (k.same (isFenced · b) fun _ _ _ _ _ _ => rfl).trans h.2⟩

/-! ### SVC_SELFTEST -/

/-- A self-test's operands within their ranges: what is left is whether the part is free for it. -/
theorem selfChecks_bars {s : State} {q : List Byte} {k i sel : Nat} (hl : q.length = 4) (hk : leAt q 0 1 = k) (hi : leAt q 1 1 = i) (hs : leAt q 2 1 = sel)
    (ha : (ofBerth k && decide (i < 48 ∧ s.berthsOn ≤ i)) = false) (hq : k ≠ 2)
    (hr : (7 ≤ k || leAt q 3 1 ≠ 0 || (ofBerth k && 48 ≤ i) || (k = 1 && 52 ≤ i) || (k = 2 && (6 ≤ i || 4 ≤ sel)) || (k = 4 && 8 ≤ i)
      || (k = 0 && !(decide (sel < 27) && Berth.isComparator ⟨sel % 27, Nat.mod_lt _ (by decide)⟩))) = false) :
    firstBad (s.selfChecks q) = if s.testBars k i sel then some .notPermitted else none := by
  subst hk hi hs
  refine (firstBad_skip (decide_eq_false (not_not.mpr hl))).trans ((firstBad_skip ha).trans ((firstBad_skip ?_).trans ((firstBad_skip hr).trans ?_)))
  · rw [decide_eq_false hq]
    rfl
  · cases h : s.testBars (leAt q 0 1) (leAt q 1 1) (leAt q 2 1) with
    | false => exact firstBad_skip rfl
    | true => exact firstBad_hit rfl

theorem replaceRow_faults (s : State) (row sub : Nat) : s.KeepsFaults (s.replaceRow row sub) := by
  unfold replaceRow
  split
  · exact keeps_ite (R := KeepsFaults) ((KeepsFaults.refl s).trans (saveRepair_faults _)) ((KeepsFaults.refl s).trans (saveRepair_faults _))
  · exact KeepsFaults.refl s

/-- From the first state to the second the berths, quays and Tugs stand. -/
def SameParts (s t : State) : Prop := t.berths = s.berths ∧ t.quays = s.quays ∧ t.tugs = s.tugs

theorem KeepsParts.same {s t : State} (h : s.KeepsParts t) : s.SameParts t := ⟨h.berths, h.quays, h.tugs⟩

/-- A row that fails is marked for good, whatever takes its place. -/
theorem rowFails (s : State) (row sub bank : Nat) (o : Origin) :
    let u := (((s.markLasting (.holdRow row)).replaceRow row sub).selfEvent 4 bank 0 2 false 2 0).respond o 0x0901 .selftestFail
    s.SameParts u ∧ (u.markOf (.holdRow row)).lasting = true := by
  have hm := markLasting_parts s (.holdRow row)
  have e := markOf_markLasting s (.holdRow row)
  generalize s.markLasting (.holdRow row) = v at hm e
  have hr := replaceRow_faults v row sub
  generalize v.replaceRow row sub = w at hr
  have ha := respond_keeps (w.selfEvent 4 bank 0 2 false 2 0) o 0x0901 .selftestFail []
  exact ⟨(hm.trans (hr.1.trans (KeepsParts.trans (KeepsParts.refl w) ha.1))).same,
    (congrArg LocMark.lasting (markOf_congr ((congrArg Repair.marks ha.2.repair).trans hr.2.marks) (.holdRow row))).trans e⟩

/-! ### SVC_FENCE, SVC_UNFENCE and SVC_REMAP_TUG -/

theorem partChecks_berth {s : State} {b : BerthId} {x y : Byte} (hb : b.val < s.berthsOn) (l : List Check) :
    firstBad (s.partChecks [0, BitVec.ofNat 8 b.val, x, y] ++ l) = firstBad l := by
  refine (firstBad_skip rfl).trans ((firstBad_skip ?_).trans (firstBad_skip rfl))
  exact decide_eq_false fun h => absurd hb (Nat.not_lt.mpr (berth_toNat b ▸ h.2))

theorem partRange_berth (b : BerthId) : State.partRange [0, BitVec.ofNat 8 b.val, 0, 0] = (false, .badArg) := by
  have h : leAt [0, BitVec.ofNat 8 b.val, 0, 0] 1 1 = b.val := berth_toNat b
  rw [partRange, h, decide_eq_false (Nat.not_le.mpr b.isLt)]
  rfl

theorem fenceBar_open {s : State} {b : BerthId} (h : s.isFenced b = false) (x y : Byte) : (s.fenceBar [0, BitVec.ofNat 8 b.val, x, y]).1 = false := by
  have hb : berthNo (leAt [0, BitVec.ofNat 8 b.val, x, y] 1 1) = b := (congrArg berthNo (berth_toNat b)).trans (berthNo_val b)
  obtain ⟨hf, hl⟩ := Bool.or_eq_false_iff.mp h
  have hq : (s.quays[quayOf b].fenced || s.quays[quayOf b].hless) = false := Bool.or_eq_false_iff.mpr ⟨(Bool.or_eq_false_iff.mp hf).2, hl⟩
  rw [← hb] at hq
  exact (congrArg (decide (leAt [0, BitVec.ofNat 8 b.val, x, y] 1 1 < 48) && ·) hq).trans (Bool.and_false _)

theorem fenceChecks {s : State} {b : BerthId} (h : b.val < s.berthsOn ∧ s.isFenced b = false) :
    firstBad (s.partChecks [0, BitVec.ofNat 8 b.val, 0, 0] ++ [s.fenceBar [0, BitVec.ofNat 8 b.val, 0, 0], State.partRange [0, BitVec.ofNat 8 b.val, 0, 0]]) = none := by
  rw [partChecks_berth h.1, partRange_berth]
  exact (firstBad_skip (fenceBar_open h.2 0 0)).trans rfl

theorem unfenceChecks {s : State} {b : BerthId} (h : b.val < s.berthsOn) :
    firstBad (s.partChecks [0, BitVec.ofNat 8 b.val, 0, 0] ++ [State.partRange [0, BitVec.ofNat 8 b.val, 0, 0]]) = none := by
  rw [partChecks_berth h, partRange_berth]
  rfl

/-- A berth shut off as it is fenced. -/
noncomputable def fencedOff (x : Berth) (t : Stamp) : Berth :=
  let y := x.toDisabled t
  { y with enabled := x.enabled, id.fenced := true, st.evt := bitOn y.st.evt 2 }

theorem fenceBerth_keeps {α : Type} (g : Berth → α) (hg : ∀ x, g { x with id.tug := none, pol.tookId := false } = g x)
    (ht : ∀ x : Berth, g { x with pol.tookId := false } = g x) {s : State} {b : BerthId} (h : s.berths[b].id.fenced = false) :
    g (s.fenceBerth b).berths[b] = g (fencedOff s.berths[b] s.now) ∧ (s.fenceBerth b).berths[b].id.tug = none ∧ (s.fenceBerth b).mem = s.mem := by
  have e : s.fenceBerth b = ((((s.atBerth b (fun _ x => fencedOff x s.now)).cutService b .berthFenced).unbindTug b).saveRepair).capacity 1 :=
    if_neg (ne_true_of_eq_false h)
  rw [e]
  have hs : g (s.atBerth b (fun _ x => fencedOff x s.now)).berths[b] = g (fencedOff s.berths[b] s.now) := (congrArg g (atBerth_self ..)).trans (ht _)
  have hm : (s.atBerth b (fun _ x => fencedOff x s.now)).mem = s.mem := atBerth_mem ..
  generalize s.atBerth b (fun _ x => fencedOff x s.now) = u at hs hm
  have pv := cutService_parts u b .berthFenced
  generalize u.cutService b .berthFenced = v at pv
  have gw := (unbindTug_keeps g hg v b).trans ((congrArg (fun (w : Vector Berth 48) => g w[b]) pv.berths).trans hs)
  have tw := unbindTug_tug v b
  have mw : (v.unbindTug b).mem = v.mem := unbindTug_stands State.mem setBerth_mem (fun _ _ _ => rfl) v b
  generalize v.unbindTug b = w at gw tw mw
  have px := (saveRepair_faults w).1
  exact ⟨(congrArg (fun (w : Vector Berth 48) => g w[b]) px.berths).trans gw, (congrArg (fun (w : Vector Berth 48) => w[b].id.tug) px.berths).trans tw,
    px.mem.trans (mw.trans (pv.mem.trans hm))⟩

/-- What a fence leaves of the berth (R443): disabled, its paths open, without a Tug. -/
def Fenced (b : BerthId) (s u : State) : Prop :=
  u.berths[b].id.fenced = true ∧ u.berths[b].id.tug = none ∧ u.mem = s.mem ∧ (s.berths[b].cc.state = .lockedOut → u.berths[b].cc.state = .lockedOut) ∧
    (s.berths[b].cc.state ≠ .lockedOut → u.berths[b].cc.state = .disabled ∧ u.berths[b].path.state ≠ .srcOn ∧ u.berths[b].path.state ≠ .snkOn)

theorem doFence_fences {s : State} {b : BerthId} (h : s.berths[b].id.fenced = false) (o : Origin) : Fenced b s (s.doFence 0 b.val o) := by
  have e : s.doFence 0 b.val o = (s.fenceBerth b).respond o 0x0902 .ok := congrArg (fun c => (s.fenceBerth c).respond o 0x0902 .ok) (berthNo_val b)
  rw [e]
  obtain ⟨hf, ht, hm⟩ := fenceBerth_keeps (·.id.fenced) (fun _ => rfl) (fun _ => rfl) h
  have hc := (fenceBerth_keeps Berth.cc (fun _ => rfl) (fun _ => rfl) h).1
  have hq := (fenceBerth_keeps Berth.path (fun _ => rfl) (fun _ => rfl) h).1
  generalize s.fenceBerth b = v at hf ht hm hc hq
  obtain ⟨hp, -⟩ := respond_keeps v o 0x0902 .ok []
  unfold Fenced
  rw [hp.berths, hp.mem]
  refine ⟨hf, ht, hm, fun hl => (congrArg Cc.state hc).trans (Berth.toDisabled_locked hl _), fun hl => ?_⟩
  obtain ⟨hd, hs⟩ := Berth.toDisabled_shut hl s.now
  rw [hq]
  exact ⟨(congrArg Cc.state hc).trans hd, hs⟩

/-! ### The unfencing -/

theorem unfence_serves {s : State} {b : BerthId} (h : s.berths[b].id.fenced = false) (hp : s.berths[b].st.phyFenced = false) (o : Origin) :
    s.unfenceBerth o b = s.respond o 0x0903 .ok := (if_neg (ne_true_of_eq_false h)).trans (if_neg (ne_true_of_eq_false hp))

/-- A berth no longer fenced, its PHY neither. -/
noncomputable def unfenced (s : State) (b : BerthId) : State := s.atBerth b (fun _ y => { y with id.fenced := false, st.phyFenced := false })

section Unfence

variable {s : State} {b : BerthId} (hf : s.berths[b].id.fenced = true) (hu : s.quays[quayOf b].up = true) (hl : s.quays[quayOf b].hless = false)
  (hr : s.quays[quayOf b].released = true) (o : Origin)
include hf hu hl hr

theorem unfence_allowed : s.unfenceBerth o b = if s.freeTug.isNone then s.respond o 0x0903 .noResource
    else (((s.unfenced b).saveRepair.capacity 1).startReset b none).awaitBack o 7 b := by
  refine (if_pos hf).trans (if_neg ?_)
  rw [hu, hl, hr]
  decide

end Unfence

theorem cutJobs_parts (s : State) (b : BerthId) (but : Option Origin) (st : Status) : s.KeepsParts (s.cutJobs b but st) :=
  foldl_rel (R := KeepsParts) KeepsParts.refl KeepsParts.trans _ (fun s _ => keeps_ite (R := KeepsParts) (KeepsParts.refl s) (jobDone_keeps ..).1) _ s

theorem cutCapture_parts (s : State) (b : BerthId) (st : Status) : s.KeepsParts (s.cutCapture b st) :=
  KeepsParts.trans (KeepsParts.refl s) (foldl_rel (R := KeepsParts) KeepsParts.refl KeepsParts.trans _ (fun _ _ => (respond_keeps ..).1) _ _)

theorem stopTug_mem (s : State) (b : BerthId) : (s.stopTug b).mem = s.mem := by
  unfold stopTug
  split
  · rfl
  · rfl

/-- The berths and the memory as a reset that begins leaves them. -/
theorem startReset_leaves (s : State) (b : BerthId) (o : Option Origin) : ∃ f : Berth → Berth, (∀ x : Berth, x.KeepsSeat (f x)) ∧
    (s.startReset b o).berths = (s.atBerth b (fun _ x => f x)).berths ∧ (s.startReset b o).mem = s.mem := by
  refine ⟨fun x => ((((x.lockClosed s.now .berthReset).openBoth s.now true).vconnOff).usbSafe).regStandby s.now,
    fun x => (Berth.lockClosed_seat x s.now .berthReset).trans ((Berth.openBoth_seat _ s.now true).trans ?_), ?_⟩
  · exact (Berth.vconnOff_seat _).trans ((Berth.usbSafe_seat _).trans (Berth.regStandby_seat ..))
  · unfold startReset
    extract_lets recent u v
    have hm : u.mem = s.mem := atBerth_mem ..
    have pv := (cutJobs_parts u b o .berthReset).trans ((cutService_parts ..).trans (cutCapture_parts ((u.cutJobs b o .berthReset).cutService b .berthReset) b .berthReset))
    have hb : v.berths = u.berths := (stopTug_berths _ b).trans pv.berths
    have hv : v.mem = u.mem := (stopTug_mem _ b).trans pv.mem
    clear_value v
    exact ⟨hb, hv.trans hm⟩

theorem awaitBack_berths (s : State) (o : Origin) (k i : Nat) : (s.awaitBack o k i).berths = s.berths := rfl

theorem awaitBack_mem (s : State) (o : Origin) (k i : Nat) : (s.awaitBack o k i).mem = s.mem := rfl

theorem restarted_leaves {u v : State} {b : BerthId} (h : u.berths[b].id.fenced = false) (pu : u.KeepsParts v) (o : Origin) :
    ((v.startReset b none).awaitBack o 7 b).berths[b].id.fenced = false ∧ ((v.startReset b none).awaitBack o 7 b).mem = u.mem := by
  obtain ⟨f, seat, eb, em⟩ := startReset_leaves v b none
  have ef : (v.startReset b none).berths[b].id.fenced = v.berths[b].id.fenced :=
    (congrArg (fun (w : Vector Berth 48) => w[b].id.fenced) eb).trans ((congrArg (·.id.fenced) (atBerth_self ..)).trans (seat _).2.1)
  rw [awaitBack_berths, awaitBack_mem]
  exact ⟨ef.trans ((congrArg (fun (w : Vector Berth 48) => w[b].id.fenced) pu.berths).trans h), em.trans pu.mem⟩

theorem unfenced_leaves (s : State) (b : BerthId) : (s.unfenced b).berths[b].id.fenced = false ∧ (s.unfenced b).mem = s.mem :=
  ⟨congrArg (·.id.fenced) (atBerth_self ..), atBerth_mem ..⟩

/-- A fenced berth taken back with a Tug at hand: no longer fenced, and no byte of memory changes. -/
theorem unfence_opens {s : State} {b : BerthId} (hf : s.berths[b].id.fenced = true) (hu : s.quays[quayOf b].up = true)
    (hl : s.quays[quayOf b].hless = false) (hr : s.quays[quayOf b].released = true) (hi : s.freeTug.isNone = false) (o : Origin) :
    (s.unfenceBerth o b).berths[b].id.fenced = false ∧ (s.unfenceBerth o b).mem = s.mem := by
  rw [unfence_allowed hf hu hl hr o, if_neg (ne_true_of_eq_false hi)]
  obtain ⟨g1, g2⟩ := unfenced_leaves s b
  generalize s.unfenced b = v at g1 g2 ⊢
  obtain ⟨g3, g4⟩ := restarted_leaves (v := v.saveRepair.capacity 1) g1 ((saveRepair_faults v).1.trans (KeepsParts.refl _)) o
  with_reducible exact ⟨g3, g4.trans g2⟩

theorem goUnfence_berth (s : State) (o : Origin) (b : BerthId) : s.goUnfence o [0, BitVec.ofNat 8 b.val, 0, 0] = s.unfenceBerth o b := by
  have e (n : Byte) : s.goUnfence o [0, n, 0, 0] = s.unfenceBerth o (berthNo n.toNat) := rfl
  rw [e, berth_toNat, berthNo_val]

/-! ### SVC_REMAP_TUG -/

theorem berthAt_first {q : List Byte} {b : BerthId} (h : leAt q 0 1 = b.val) : berthAt q 0 = b :=
  (dif_pos (h.trans_lt b.isLt)).trans (Fin.ext h)

theorem berthChecks_open {s : State} {q : List Byte} {b : BerthId} (hq : leAt q 0 1 = b.val) (h : b.val < s.berthsOn ∧ s.isFenced b = false) (l : List Check) :
    firstBad (s.berthChecks q 0 true ++ l) = firstBad l := by
  refine (firstBad_skip ?_).trans ((firstBad_skip ?_).trans (firstBad_skip (decide_eq_false ?_)))
  · rw [hq, decide_eq_false (Nat.not_le.mpr h.1), Bool.and_false]
  · rw [berthAt_first hq, h.2, Bool.and_false]
  · rw [hq]
    exact Nat.not_le.mpr b.isLt

/-! ### SVC_HEALTH -/

theorem length_healthBody (s : State) : s.healthBody.length = 56 := by
  simp only [healthBody, List.length_append, leBytes_length, length_flatMap_const (fun _ => leBytes_length 4 _), Vector.length_toList, List.length_cons, List.length_nil]

/-! ### DBG_PEEK and DBG_POKE -/

theorem leNat_leBytes (n v : Nat) : leNat (leBytes n v) = v % 256 ^ n := by
  induction n generalizing v with
  | zero => exact (Nat.mod_one v).symm
  | succ n ih =>
    rw [leBytes, leNat, ih, BitVec.toNat_ofNat]
    exact (Nat.mod_mul (x := v) (a := 256)).symm.trans (congrArg (v % ·) (Nat.pow_succ' (n := n)).symm)

/-- A payload that begins with an address. -/
theorem leAt_address {a : Nat} (h : a < 256 ^ 4) (l : List Byte) : leAt (leBytes 4 a ++ l) 0 4 = a :=
  (congrArg leNat (List.take_left' (leBytes_length 4 a))).trans ((leNat_leBytes 4 a).trans (Nat.mod_eq_of_lt h))

theorem leAt_behind (a i n : Nat) (l : List Byte) : leAt (leBytes 4 a ++ l) (4 + i) n = leAt l i n := by
  rw [leAt, ← List.drop_drop, List.drop_left' (leBytes_length 4 a)]
  rfl

/-- A run of one word, asked for well. -/
theorem viewChecks_word {s : State} {q : List Byte} {a : Nat} (ha : leAt q 0 4 = a) (hn : leAt q 4 2 = 1) (h6 : leAt q 6 2 = 0) (he : s.viewError a = none)
    (l : List Check) : firstBad (s.viewChecks q ++ l) = firstBad l := by
  have e : s.runError (leAt q 0 4) (leAt q 4 2) = none := by
    rw [ha, hn]
    exact List.findSome?_eq_none_iff.mpr (List.forall_mem_singleton.mpr he)
  refine (firstBad_skip ?_).trans (firstBad_skip ?_)
  · rw [e]
    rfl
  · rw [hn, h6]
    decide

theorem viewChecks_misses {s : State} {q : List Byte} {a : Nat} {st : Status} (ha : leAt q 0 4 = a) (hn : leAt q 4 2 = 1) (he : s.viewError a = some st)
    (l : List Check) : firstBad (s.viewChecks q ++ l) = some st := by
  have e : s.runError (leAt q 0 4) (leAt q 4 2) = some st := by
    rw [ha, hn]
    rw [runError, show wordsAt a 1 = [a] from rfl, List.findSome?_cons, he]
  refine (firstBad_hit ?_).trans ?_
  · rw [e]
    rfl
  · rw [e]
    rfl

theorem windowAddr_word (b : BerthId) {o : Nat} (h : o < 0x1000) : windowAddr b o < 256 ^ 4 := (windowAddr_lt b h).trans (by decide)

theorem windowBerth_addr (b : BerthId) {o : Nat} (h : o < 0x1000) : windowBerth (windowAddr b o) = b :=
  Fin.ext ((congrArg (· % 48) (windowAddr_berth b h)).trans (Nat.mod_eq_of_lt b.isLt))

/-- A word of an open berth's window may be viewed. -/
theorem viewError_open {s : State} {b : BerthId} (h : b.val < s.berthsOn ∧ s.isFenced b = false) (hr : s.reaches b = true) {o : Nat} (h4 : o % 4 = 0)
    (ho : o < 0x1000) : s.viewError (windowAddr b o) = none :=
  (viewError_window s (windowAddr_four b h4) ((Nat.le_add_right ..).trans (Nat.le_add_right ..)) (windowAddr_lt b ho)).trans
    ((congrArg s.windowBar (windowAddr_berth b ho)).trans (windowBar_open h.1 h.2 hr))

theorem viewWord_window (s : State) (b : BerthId) {o : Nat} (h : o < 0x1000) : s.viewWord (windowAddr b o) = s.berths[b].winRead (s.env b) o := by
  have lo : 0x40000000 ≤ windowAddr b o := (Nat.le_add_right ..).trans (Nat.le_add_right ..)
  rw [viewWord, if_neg (Nat.not_lt.mpr ((by decide : 0x1000000 ≤ 0x40000000).trans lo)), if_neg (Nat.not_lt.mpr ((by decide : 0x20340000 ≤ 0x40000000).trans lo)),
    if_pos (windowAddr_lt b h), windowAddr_mod b h]
  exact congrArg (fun c => s.berths[c].winRead (s.env c) o) (windowBerth_addr b h)

theorem hideBackup_window (b : BerthId) {o : Nat} (h : o < 0x1000) (w : Word) : hideBackup (windowAddr b o) [w] = [w] := by
  have hi : ¬(0x7F004020 ≤ windowAddr b o + 4 * 0) := Nat.not_le.mpr ((windowAddr_lt b h).trans (by decide))
  refine congrArg (fun x => [x]) (if_neg ?_)
  rw [decide_eq_false hi]
  exact Bool.noConfusion

theorem specAt_first (s : State) (b : BerthId) : s.specAt (windowAddr b 0) = false := by
  have lo : 0x40000000 ≤ windowAddr b 0 := (Nat.le_add_right ..).trans (Nat.le_add_right ..)
  rw [specAt, decide_eq_true lo, decide_eq_true (windowAddr_lt b (by decide)), if_pos (Bool.and_self true), windowAddr_mod b (by decide)]
  rfl

theorem runsWord (s : State) (a : Nat) : (s.viewRead a 1).1 = [s.viewWord a] ∧ (s.viewRead a 1).2.1 = (s.specAt a || false) := ⟨rfl, rfl⟩

/-- A view of a register that stands still. -/
theorem goPeek_first {s : State} {q : List Byte} {b : BerthId} (o : Origin) (ha : leAt q 0 4 = windowAddr b 0) (hn : leAt q 4 2 = 1) : s.goPeek o q =
    (s.movedOn 1).respond o 0x0B01 .ok ([0, 0, 0, 0] ++ leBytes 4 (s.berths[b].winRead (s.env b) 0).toNat) := by
  have hw : (if o.path = .pilot then hideBackup (windowAddr b 0) [s.viewWord (windowAddr b 0)] else [s.viewWord (windowAddr b 0)]) =
      [s.berths[b].winRead (s.env b) 0] := by
    rw [hideBackup_window b (by decide), ite_self, viewWord_window s b (by decide)]
  rw [goPeek, ha, hn, (runsWord ..).1, (runsWord ..).2, specAt_first, viewRead_plain s (by rw [windowAddr_mod b (by decide)]; decide)]
  rw [hw, List.flatMap_singleton]
  rfl

/-- A read of an entry of the receive FIFO takes it. -/
theorem readOne_rxData {s : State} {a : Nat} {b : BerthId} (ha : 0x40000000 ≤ a ∧ a < 0x40030000 ∧ a % 0x1000 = 0x21C) (hb : windowBerth a = b)
    (hp : s.berths[b].mon.parked = false) (l : List Word) : (readOne (l, s) a).2 = s.atBerth b (fun _ y => y.rxDataRead) := by
  subst hb
  refine if_pos ?_
  rw [decide_eq_true ha, hp]
  rfl

/-- A view of the receive FIFO takes its first entry. -/
theorem goPeek_rxData {s : State} {q : List Byte} {a : Nat} {b : BerthId} (o : Origin) (hq : leAt q 0 4 = a) (hn : leAt q 4 2 = 1)
    (ha : 0x40000000 ≤ a ∧ a < 0x40030000 ∧ a % 0x1000 = 0x21C) (hb : windowBerth a = b)
    (hp : s.berths[b].mon.parked = false) : ∃ l, s.goPeek o q = ((s.atBerth b (fun _ y => y.rxDataRead)).movedOn 1).respond o 0x0B01 .ok l := by
  have hr : (s.viewRead a 1).2.2 = (s.atBerth b (fun _ y => y.rxDataRead)).movedOn 1 :=
    congrArg (fun (u : State) => u.movedOn 1) (readOne_rxData (a := a + 4 * 0) ha hb hp [])
  rw [goPeek, hq, hn, hr]
  exact ⟨_, rfl⟩

end State

namespace Memory

/-- A byte other than 0 written in a memory of any form reads back, and the other addresses read as before. -/
theorem read_write_ne {v : Byte} (hv : v ≠ 0) (a c : Nat) (m : List Host.Cell) : read (write m a v) c = if c = a then v else read m c := by
  induction m with
  | nil =>
    rw [write, if_neg hv]
    rfl
  | cons x r ih =>
    obtain ⟨b, w⟩ := x
    rw [write, if_neg hv, if_neg hv]
    split
    · rfl
    · split
      · next h =>
        subst h
        rw [read, read]
        split
        · rfl
        · rfl
      · next h =>
        rw [read, read, ih]
        split
        · next e => rw [if_neg (fun e' => h (e'.symm.trans e))]
        · rfl

theorem poked (m : List Host.Cell) (a c : Nat) :
    let u := writeBytes m a [5, 6, 7, 8]
    readBytes u a 4 = [5, 6, 7, 8] ∧ (c < a ∨ a + 4 ≤ c → read u c = read m c) := by
  intro u
  have e (c : Nat) : read u c = if c = a + 1 + 1 + 1 then 8 else if c = a + 1 + 1 then 7 else if c = a + 1 then 6 else if c = a then 5 else read m c :=
    (read_write_ne (by decide) (a + 1 + 1 + 1) c _).trans (by
      rw [read_write_ne (by decide), read_write_ne (by decide), read_write_ne (by decide)])
  constructor
  · have r4 : readBytes u a 4 = [read u a, read u (a + 1), read u (a + 1 + 1), read u (a + 1 + 1 + 1)] := rfl
    rw [r4, e, e, e, e, if_neg (by omega), if_neg (by omega), if_neg (by omega), if_pos rfl, if_neg (by omega), if_neg (by omega), if_pos rfl,
      if_neg (by omega), if_pos rfl, if_pos rfl]
  · intro h
    rw [e, if_neg (by omega), if_neg (by omega), if_neg (by omega), if_neg (by omega)]

end Memory

namespace State

/-! ### The tests of parts of the Harbour -/

/-- With one self-test more under way. -/
noncomputable def tested (s : State) (o : Origin) (kind index sel : Nat) : State :=
  { s with tests := s.tests ++ [{ origin := o, code := 0x0901, kind := kind, index := index, sel := sel }] }

theorem goSelftest_comparator (s : State) (o : Origin) (b : BerthId) (bad : Option Nat) :
    s.goSelftest o [0, BitVec.ofNat 8 b.val, 6, 0] bad = (s.tested o 0 b.val 6).atBerth b (fun _ x => x.wantTest 6 2) := by
  have e (n : Byte) : s.goSelftest o [0, n, 6, 0] bad = (s.tested o 0 n.toNat 6).atBerth (berthNo n.toNat) (fun _ x => x.wantTest 6 2) := rfl
  rw [e, berth_toNat, berthNo_val]

theorem goSelftest_gate (s : State) (o : Origin) (b : BerthId) (bad : Option Nat) :
    s.goSelftest o [6, BitVec.ofNat 8 b.val, 0, 0] bad = (s.tested o 6 b.val 0).atBerth b (fun _ x => gateStart x) := by
  have e (n : Byte) : s.goSelftest o [6, n, 0, 0] bad = (s.tested o 6 n.toNat 0).atBerth (berthNo n.toNat) (fun _ x => gateStart x) := rfl
  rw [e, berth_toNat, berthNo_val]

theorem goSelftest_core (s : State) (o : Origin) (t : TugId) (bad : Option Nat) :
    s.goSelftest o [1, BitVec.ofNat 8 t.val, 0, 0] bad = (s.tested o 1 t.val 0).coreTest t := by
  have e (n : Byte) : s.goSelftest o [1, n, 0, 0] bad = (s.tested o 1 n.toNat 0).coreTest (tugNo n.toNat) := rfl
  rw [e, tug_toNat, tugNo_val]

/-- A test of a berth that runs: its mark in the berth, its entry among the tests. -/
theorem tested_atBerth (s : State) (o : Origin) (k i sel : Nat) (b : BerthId) (f : Berth → Berth) :
    let u := (s.tested o k i sel).atBerth b (fun _ x => f x)
    u.berths = s.berths.set b (f s.berths[b]).settled ∧ u.quays = s.quays ∧
      u.tests = s.tests ++ [{ origin := o, code := 0x0901, kind := k, index := i, sel := sel }] := by
  intro u
  have e : u = _ := atBerth_eq ..
  rw [e]
  exact ⟨rfl, rfl, rfl⟩

/-- The bars of a berth's test. -/
theorem testBars_ready {s : State} {b : BerthId} (hr : s.reaches b = true) (hf : s.berths[b].id.fenced = false) (hp : s.berths[b].mon.parked = false)
    {k sel : Nat} (hk : k = 0 ∨ k = 6 ∧ s.berths[b].path.state = .off ∧ s.berths[b].attached = false ∧ s.berths[b].path.testBusy = false) :
    s.testBars k b.val sel = false := by
  rw [← berthNo_val b] at hr hf hp hk
  obtain rfl | ⟨rfl, ho, ha, ht⟩ := hk
  · show (!s.reaches (berthNo b.val) || s.berths[berthNo b.val].id.fenced || s.berths[berthNo b.val].mon.parked || _ || _) = false
    rw [hr, hf, hp]
    rfl
  · show (!s.reaches (berthNo b.val) || s.berths[berthNo b.val].id.fenced || s.berths[berthNo b.val].mon.parked || _ && !(_ && !s.berths[berthNo b.val].attached && !s.berths[berthNo b.val].path.testBusy) || _) = false
    rw [hr, hf, hp, ho, ha, ht]
    rfl

theorem testBars_core (s : State) (t : TugId) (sel : Nat) : s.testBars 1 t.val sel = s.tugs[t].berth.isSome :=
  congrArg (fun (t : TugId) => s.tugs[t].berth.isSome) (tugNo_val t)

theorem testChecks_berth {s : State} {b : BerthId} (hb : b.val < s.berthsOn) (hr : s.reaches b = true) (hf : s.berths[b].id.fenced = false)
    (hp : s.berths[b].mon.parked = false) {k sel : Byte} (hk : k = 0 ∧ sel = 6 ∨ k = 6 ∧ sel = 0 ∧ s.berths[b].path.state = .off ∧
      s.berths[b].attached = false ∧ s.berths[b].path.testBusy = false) : firstBad (s.selfChecks [k, BitVec.ofNat 8 b.val, sel, 0]) = none := by
  have hn := berth_toNat b
  have absent (k : Nat) : (ofBerth k && decide (b.val < 48 ∧ s.berthsOn ≤ b.val)) = false := by
    rw [decide_eq_false fun h => absurd hb (Nat.not_lt.mpr h.2), Bool.and_false]
  have h48 : decide (48 ≤ b.val) = false := decide_eq_false (Nat.not_le.mpr b.isLt)
  obtain ⟨rfl, rfl⟩ | ⟨rfl, rfl, ho⟩ := hk
  · rw [selfChecks_bars (q := [0, BitVec.ofNat 8 b.val, 6, 0]) (k := 0) (sel := 6) rfl rfl hn rfl (absent 0) (by decide) (by rw [h48]; rfl), testBars_ready hr hf hp (.inl rfl)]
    rfl
  · rw [selfChecks_bars (q := [6, BitVec.ofNat 8 b.val, 0, 0]) (k := 6) (sel := 0) rfl rfl hn rfl (absent 6) (by decide) (by rw [h48]; rfl), testBars_ready hr hf hp (.inr ⟨rfl, ho⟩)]
    rfl

theorem testChecks_core (s : State) (t : TugId) :
    firstBad (s.selfChecks [1, BitVec.ofNat 8 t.val, 0, 0]) = if s.tugs[t].berth.isSome then some .notPermitted else none := by
  have h52 : decide (52 ≤ t.val) = false := decide_eq_false (Nat.not_le.mpr t.isLt)
  rw [selfChecks_bars (q := [1, BitVec.ofNat 8 t.val, 0, 0]) (k := 1) (sel := 0) rfl rfl (tug_toNat t) rfl rfl (by decide) (by rw [h52]; rfl), testBars_core]

/-! ### The remap -/

theorem remapChecks {s : State} {b : BerthId} (h : b.val < s.berthsOn ∧ s.isFenced b = false) (hr : s.isReleased b = true)
    (ht : s.berths[b].id.tug.isSome = true) :
    let q := [BitVec.ofNat 8 b.val, 0xFF, 0, 0]
    firstBad ([State.lenCheck q 4] ++ s.berthChecks q 0 true ++ [(leAt q 2 2 ≠ 0 || (52 ≤ leAt q 1 1 && leAt q 1 1 ≠ 0xFF), .badArg),
      (!s.isReleased (State.berthAt q 0) || s.berths[State.berthAt q 0].id.tug.isNone, .notPermitted)]) = none := by
  intro q
  have hq : leAt q 0 1 = b.val := berth_toNat b
  rw [List.append_assoc]
  refine (firstBad_skip rfl).trans ((berthChecks_open hq h _).trans ((firstBad_skip rfl).trans (firstBad_skip ?_)))
  rw [← berthAt_first hq] at hr ht
  rw [hr, Option.isNone_eq_false_iff.mpr ht]
  rfl

theorem goRemap_any (s : State) (o : Origin) (b : BerthId) : s.goRemap o [BitVec.ofNat 8 b.val, 0xFF, 0, 0] =
    if s.freeTug.isNone then s.respond o 0x0904 .noResource else { s with later := s.later ++ [.remapTug b none o] } := by
  have e (n : Byte) : s.goRemap o [n, 0xFF, 0, 0] =
    if s.freeTug.isNone then s.respond o 0x0904 .noResource else { s with later := s.later ++ [.remapTug (berthNo n.toNat) none o] } := rfl
  rw [e, berth_toNat, berthNo_val]

/-! ### Views of Hold and of a window -/

theorem viewError_hold (s : State) : s.viewError 0x280000 = none := rfl

theorem viewError_odd (s : State) : s.viewError 0x280002 = some .badArg := rfl

theorem windowAddr_comm (b : BerthId) (o : Nat) : 0x40000000 + o + 0x1000 * b.val = windowAddr b o := Nat.add_right_comm ..

theorem windowAddr_fifo (b : BerthId) : 0x40000000 ≤ windowAddr b 0x21C ∧ windowAddr b 0x21C < 0x40030000 ∧ windowAddr b 0x21C % 0x1000 = 0x21C :=
  ⟨(Nat.le_add_right ..).trans (Nat.le_add_right ..), windowAddr_lt b (by decide), windowAddr_mod b (by decide)⟩

/-- What an entry taken from the receive FIFO by a view leaves. -/
theorem fifo_taken (s : State) (b : BerthId) (o : Origin) (l : List Byte) :
    let u := ((s.atBerth b (fun _ y => y.rxDataRead)).movedOn 1).respond o 0x0B01 .ok l
    u.berths = s.berths.set b s.berths[b].rxDataRead.settled ∧ u.mem = s.mem ∧ u.freeCtr = s.freeCtr + 1 := by
  have hb : (s.atBerth b (fun _ y => y.rxDataRead)).berths = s.berths.set b s.berths[b].rxDataRead.settled := congrArg State.berths (atBerth_eq ..)
  have hm := atBerth_mem s b (fun _ y => y.rxDataRead)
  have hc := atBerth_freeCtr s b (fun _ y => y.rxDataRead)
  generalize s.atBerth b (fun _ y => y.rxDataRead) = v at hb hm hc
  have k := respond_talks (v.movedOn 1) o 0x0B01 .ok l
  refine ⟨k.berths.trans hb, k.mem.trans hm, (k.same State.freeCtr fun _ _ _ _ _ _ => rfl).trans ?_⟩
  exact congrArg (· + 1) hc

section Asked

variable {s : State} {q : List Byte} {a : Nat} {c d : Bool} {st st' : Status} (hc : c = false) (ha : leAt q 0 4 = a) (hn : leAt q 4 2 = 1)
include hc ha hn

theorem view_passes (h6 : leAt q 6 2 = 0) (he : s.viewError a = none) (hd : d = false) : firstBad ([(c, st)] ++ s.viewChecks q ++ [(d, st')]) = none := by
  rw [List.append_assoc]
  exact (firstBad_skip hc).trans ((viewChecks_word ha hn h6 he _).trans (firstBad_skip hd))

theorem view_denied (h6 : leAt q 6 2 = 0) (he : s.viewError a = none) (hd : d = true) : firstBad ([(c, st)] ++ s.viewChecks q ++ [(d, st')]) = some st' := by
  rw [List.append_assoc]
  exact (firstBad_skip hc).trans ((viewChecks_word ha hn h6 he _).trans (firstBad_hit hd))

theorem view_misses {e : Status} (he : s.viewError a = some e) : firstBad ([(c, st)] ++ s.viewChecks q ++ [(d, st')]) = some e := by
  rw [List.append_assoc]
  exact (firstBad_skip hc).trans (viewChecks_misses ha hn he _)

end Asked

/-- A poke of a Hold word writes its four bytes. -/
theorem goPoke_hold (s : State) (o : Origin) : s.goPoke o (leBytes 4 0x280000 ++ [1, 0, 0, 0, 5, 6, 7, 8]) =
    ({ s with mem := Memory.writeBytes s.mem 0x280000 [5, 6, 7, 8] } : State).respond o 0x0B02 .ok := rfl

theorem commitBar_tug {s : State} {b : BerthId} (h : s.hasTug b = true) {a : Nat} (ha : a = windowAddr b 0x20) : s.commitBar a = true := by
  have lo : 0x40000000 ≤ a := ha ▸ (Nat.le_add_right ..).trans (Nat.le_add_right ..)
  rw [commitBar, decide_eq_true lo, ha, decide_eq_true (windowAddr_lt b (by decide)), windowAddr_mod b (by decide), windowBerth_addr b (by decide), h]
  rfl

theorem poked_hold (s : State) (o : Origin) (c : Nat) :
    let u := ({ s with mem := Memory.writeBytes s.mem 0x280000 [5, 6, 7, 8] } : State).respond o 0x0B02 .ok
    s.SameParts u ∧ Memory.readBytes u.mem 0x280000 4 = [5, 6, 7, 8] ∧ (c < 0x280000 ∨ 0x280004 ≤ c → Memory.read u.mem c = Memory.read s.mem c) := by
  intro u
  have k : KeepsParts _ u := (respond_keeps ..).1
  rw [k.mem]
  exact ⟨k.same, Memory.poked s.mem 0x280000 c⟩

theorem commitBar_one {s : State} {b : BerthId} (h : s.hasTug b = true) : (wordsAt (windowAddr b 0x20) 1).any s.commitBar = true :=
  (Bool.or_false _).trans (commitBar_tug (a := windowAddr b 0x20 + 4 * 0) h rfl)

theorem commitBar_hold (s : State) : (wordsAt 0x280000 1).any s.commitBar = false := rfl

/-- The checks of DBG_POKE. -/
noncomputable def pokeChecks (s : State) (q : List Byte) : List Check :=
  [(decide (q.length < 8) || q.length ≠ 8 + 4 * leAt q 4 2, .badLength)] ++ s.viewChecks q
    ++ [(decide (1 ≤ s.debugLevel) || (wordsAt (leAt q 0 4) (leAt q 4 2)).any s.commitBar, .notPermitted)]

theorem pokeChecks_hold {s : State} (hd : s.debugLevel = 0) : firstBad (s.pokeChecks (leBytes 4 0x280000 ++ [1, 0, 0, 0, 5, 6, 7, 8])) = none :=
  view_passes rfl rfl rfl rfl (viewError_hold s)
    (Bool.or_eq_false_iff.mpr ⟨decide_eq_false (Nat.not_le.mpr (Nat.lt_one_iff.mpr hd)), commitBar_hold s⟩)

theorem pokeChecks_commit {s : State} {b : BerthId} (h : b.val < s.berthsOn ∧ s.isFenced b = false) (hr : s.reaches b = true) (ht : s.hasTug b = true) :
    firstBad (s.pokeChecks (leBytes 4 (windowAddr b 0x20) ++ [1, 0, 0, 0, 5, 6, 7, 8])) = some .notPermitted := by
  have hq := leAt_address (windowAddr_word b (by decide : 0x20 < 0x1000)) [1, 0, 0, 0, 5, 6, 7, 8]
  refine view_denied rfl hq rfl rfl (viewError_open h hr (by decide) (by decide)) (Bool.or_eq_true_iff.mpr (.inr ?_))
  rw [hq]
  exact commitBar_one ht

end State

open State in
/-- Settles O56: each command's checks pass, or the first that fails gives the answer, and what its act leaves is read off its parts. -/
theorem serviceAndDebug : Obligations.ServiceAndDebug := by
  unfold Obligations.ServiceAndDebug
  intro s b o p a bad t x nb open_ ready same gave
  refine ⟨fun h hp => ?_, fun h hp => ?_, fun h hr hp => ?_, fun h hr ho ha ht hp => ?_, fun h hp ht => ?_, fun h hp ht => ?_, fun h hb hp => ?_,
    fun hf => doFence_fences hf o, fun h hb hf hy hp => ?_, fun h hb hf hu hl hr ht hp => ?_, fun h hb hf hu hl hr ht hp => ?_,
    fun h hb hr hi ht hp => ?_, fun h hb hr hi ht hp => ?_, fun h hp => ?_, fun h hb hr hd hp => ?_, fun h hb hr hm hd hp => ?_, fun h hp => ?_, fun h hd hp => ?_,
    fun h hd hp => ?_, fun h hp => ?_, fun h hd hp => ?_, fun h hb hr ht hp => ?_⟩
  · subst hp
    have k := begun_talks h
    have e := (respond_keeps ((s.begun o 0x0901 [4, 3, 0, 0]).selfEvent 4 3 0 2 true 0 0) o 0x0901 .ok [0, 0, 0, 0]).1.same
    exact ⟨_, congrArg Host.Outcome.next (runCmd_passes h rfl _), rfl, e.1.trans k.berths, e.2.1.trans k.quays, e.2.2.trans (k.same State.tugs fun _ _ _ _ _ _ => rfl)⟩
  · subst hp
    have k := begun_talks h
    obtain ⟨⟨h1, h2, h3⟩, hm⟩ := rowFails (s.begun o 0x0901 [4, 3, 0, 0]) (Config.holdRow (0x600000 + a % 0x200000)) (subOf (0x600000 + a % 0x200000)) 3 o
    exact ⟨_, congrArg Host.Outcome.next (runCmd_passes h rfl _), ⟨h1.trans k.berths, h2.trans k.quays, h3.trans (k.same State.tugs fun _ _ _ _ _ _ => rfl)⟩, hm⟩
  · subst hp
    obtain ⟨hb, hr, hf, hq⟩ := hr
    have k := begun_talks h
    have e := k.berths
    have checked := testChecks_berth (s := s.begun o 0x0901 [0, nb, 6, 0]) (k := 0) (sel := 6) (k.same State.berthsOn (fun _ _ _ _ _ _ => rfl) ▸ hb)
      ((k.same (reaches · b) fun _ _ _ _ _ _ => rfl).trans hr) (e ▸ hf) (e ▸ hq) (.inl ⟨rfl, rfl⟩)
    refine ⟨_, congrArg Host.Outcome.next ((runCmd_passes h checked _).trans (goSelftest_comparator ..)), ?_⟩
    obtain ⟨h1, h2, h3⟩ := tested_atBerth (s.begun o 0x0901 [0, nb, 6, 0]) o 0 b.val 6 b (fun x => x.wantTest 6 2)
    exact ⟨h1.trans (by rw [e]), h2.trans k.quays, h3.trans (by rw [k.same State.tests fun _ _ _ _ _ _ => rfl])⟩
  · subst hp
    obtain ⟨hb, hr, hf, hq⟩ := hr
    have k := begun_talks h
    have e := k.berths
    have checked := testChecks_berth (s := s.begun o 0x0901 [6, nb, 0, 0]) (k := 6) (sel := 0) (k.same State.berthsOn (fun _ _ _ _ _ _ => rfl) ▸ hb)
      ((k.same (reaches · b) fun _ _ _ _ _ _ => rfl).trans hr) (e ▸ hf) (e ▸ hq) (.inr ⟨rfl, rfl, e ▸ ho, e ▸ ha, e ▸ ht⟩)
    refine ⟨_, congrArg Host.Outcome.next ((runCmd_passes h checked _).trans (goSelftest_gate ..)), ?_⟩
    obtain ⟨h1, h2, h3⟩ := tested_atBerth (s.begun o 0x0901 [6, nb, 0, 0]) o 6 b.val 0 b gateStart
    exact ⟨h2.trans k.quays, h1.trans (by rw [e]; rfl), h3.trans (by rw [k.same State.tests fun _ _ _ _ _ _ => rfl])⟩
  · subst hp
    have k := begun_talks h
    have e := k.same State.tugs fun _ _ _ _ _ _ => rfl
    have checked := (testChecks_core (s.begun o 0x0901 [1, BitVec.ofNat 8 t.val, 0, 0]) t).trans (if_neg (by rw [e, ht]; exact Bool.noConfusion))
    refine ⟨_, congrArg Host.Outcome.next ((runCmd_passes h checked _).trans (goSelftest_core ..)), (coreTest_berths ..).trans k.berths, ?_⟩
    rw [← e]
    rfl
  · subst hp
    have e := (begun_talks h).same State.tugs fun _ _ _ _ _ _ => rfl
    exact ⟨_, congrArg Host.Outcome.next (runCmd_fails h ((testChecks_core _ t).trans (if_pos (by rw [e, ht]))) _), rfl⟩
  · subst hp
    refine ⟨_, congrArg Host.Outcome.next (runCmd_passes h (fenceChecks ((begun_talks h).service hb)) _), ?_⟩
    have e (n : Byte) (w : State) : ({ w with later := w.later ++ [.svcFence (leAt [0, n, 0, 0] 0 1) (leAt [0, n, 0, 0] 1 1) o] } : State) =
      { w with later := w.later ++ [.svcFence 0 n.toNat o] } := rfl
    rw [e, berth_toNat]
  · subst hp
    have k := begun_talks h
    have e := k.berths
    refine ⟨_, congrArg Host.Outcome.next ((runCmd_passes h (unfenceChecks (k.same State.berthsOn (fun _ _ _ _ _ _ => rfl) ▸ hb)) _).trans (goUnfence_berth ..)), ?_⟩
    exact unfence_serves (e ▸ hf) (e ▸ hy) o
  · subst hp
    have k := begun_talks h
    have e := k.berths
    have f := k.quays
    refine ⟨_, congrArg Host.Outcome.next ((runCmd_passes h (unfenceChecks (k.same State.berthsOn (fun _ _ _ _ _ _ => rfl) ▸ hb)) _).trans (goUnfence_berth ..)), ?_⟩
    refine (unfence_allowed (e ▸ hf) (f ▸ hu) (f ▸ hl) (f ▸ hr) o).trans (if_pos ?_)
    rw [k.same freeTug fun _ _ _ _ _ _ => rfl, ht]
    rfl
  · subst hp
    have k := begun_talks h
    have e := k.berths
    have f := k.quays
    refine ⟨_, congrArg Host.Outcome.next ((runCmd_passes h (unfenceChecks (k.same State.berthsOn (fun _ _ _ _ _ _ => rfl) ▸ hb)) _).trans (goUnfence_berth ..)), ?_⟩
    have hi := (congrArg Option.isNone (k.same freeTug fun _ _ _ _ _ _ => rfl)).trans (Option.isNone_eq_false_iff.mpr ht)
    obtain ⟨g1, g2⟩ := unfence_opens (e ▸ hf) (f ▸ hu) (f ▸ hl) (f ▸ hr) hi o
    exact ⟨g1, g2.trans k.mem⟩
  · subst hp
    have k := begun_talks h
    have checked := remapChecks (k.service hb) ((k.same (isReleased · b) fun _ _ _ _ _ _ => rfl).trans hr) (k.berths ▸ hi)
    refine ⟨_, congrArg Host.Outcome.next ((runCmd_passes h checked _).trans (goRemap_any ..)), if_pos ?_⟩
    rw [k.same freeTug fun _ _ _ _ _ _ => rfl, ht]
    rfl
  · subst hp
    have k := begun_talks h
    have checked := remapChecks (k.service hb) ((k.same (isReleased · b) fun _ _ _ _ _ _ => rfl).trans hr) (k.berths ▸ hi)
    refine ⟨_, congrArg Host.Outcome.next ((runCmd_passes h checked _).trans (goRemap_any ..)), if_neg ?_⟩
    rw [k.same freeTug fun _ _ _ _ _ _ => rfl, Option.isNone_eq_false_iff.mpr ht]
    exact Bool.noConfusion
  · subst hp
    exact ⟨_, congrArg Host.Outcome.next (runCmd_passes h rfl _), rfl, length_healthBody _⟩
  · have hp : p = leBytes 4 (windowAddr b 0) ++ [1, 0, 0, 0] := hp
    subst hp
    have k := begun_talks h
    have hq := leAt_address (windowAddr_word b (by decide : 0 < 0x1000)) [1, 0, 0, 0]
    have checked := view_passes (st := .badLength) (st' := .notPermitted) rfl hq rfl rfl (viewError_open (k.service hb) ((k.same (reaches · b) fun _ _ _ _ _ _ => rfl).trans hr) (by decide) (by decide))
      (decide_eq_false (Nat.not_le.mpr ((k.same debugLevel fun _ _ _ _ _ _ => rfl).trans_lt hd)))
    refine ⟨_, congrArg Host.Outcome.next ((runCmd_passes h checked _).trans (goPeek_first o hq rfl)), ?_⟩
    obtain ⟨pp, -⟩ := respond_keeps ((s.begun o 0x0B01 (leBytes 4 (windowAddr b 0) ++ [1, 0, 0, 0])).movedOn 1) o 0x0B01 .ok
      ([0, 0, 0, 0] ++ leBytes 4 ((s.begun o 0x0B01 (leBytes 4 (windowAddr b 0) ++ [1, 0, 0, 0])).berths[b].winRead
        ((s.begun o 0x0B01 (leBytes 4 (windowAddr b 0) ++ [1, 0, 0, 0])).env b) 0).toNat)
    refine ⟨⟨pp.berths.trans k.berths, pp.quays.trans k.quays, pp.tugs.trans (k.same State.tugs fun _ _ _ _ _ _ => rfl)⟩, pp.mem.trans k.mem, ?_⟩
    rw [movedOn, k.same State.freeCtr fun _ _ _ _ _ _ => rfl, k.same (fun w => w.berths[b].winRead (w.env b) 0) fun _ _ _ _ _ _ => rfl]
  · have hp : p = leBytes 4 (windowAddr b 0x21C) ++ [1, 0, 0, 0] := hp.trans (congrArg (leBytes 4 · ++ _) (windowAddr_comm b 0x21C))
    subst hp
    have k := begun_talks h
    have hq := leAt_address (windowAddr_word b (by decide : 0x21C < 0x1000)) [1, 0, 0, 0]
    have checked := view_passes (st := .badLength) (st' := .notPermitted) rfl hq rfl rfl (viewError_open (k.service hb) ((k.same (reaches · b) fun _ _ _ _ _ _ => rfl).trans hr) (by decide) (by decide))
      (decide_eq_false (Nat.not_le.mpr ((k.same debugLevel fun _ _ _ _ _ _ => rfl).trans_lt hd)))
    obtain ⟨l, e⟩ := goPeek_rxData o hq rfl (windowAddr_fifo b) (windowBerth_addr b (by decide))
      ((congrArg (fun (l : Vector Berth 48) => l[b].mon.parked) k.berths).trans hm)
    refine ⟨_, congrArg Host.Outcome.next ((runCmd_passes h checked _).trans e), ?_⟩
    generalize s.begun o 0x0B01 (leBytes 4 (windowAddr b 0x21C) ++ [1, 0, 0, 0]) = w at k
    obtain ⟨h1, h2, h3⟩ := fifo_taken w b o l
    exact ⟨h1.trans (by rw [k.berths]), h2.trans k.mem, h3.trans (by rw [k.same State.freeCtr fun _ _ _ _ _ _ => rfl])⟩
  · subst hp
    exact ⟨_, congrArg Host.Outcome.next (runCmd_fails h (view_misses rfl rfl rfl (viewError_odd _)) _), rfl⟩
  · subst hp
    have e := (begun_talks h).same debugLevel fun _ _ _ _ _ _ => rfl
    exact ⟨_, congrArg Host.Outcome.next (runCmd_fails h (view_denied rfl rfl rfl rfl (viewError_hold _) (decide_eq_true (e ▸ hd))) _), rfl⟩
  · subst hp
    have k := begun_talks h
    have checked := pokeChecks_hold ((k.same debugLevel fun _ _ _ _ _ _ => rfl).trans hd)
    refine ⟨_, congrArg Host.Outcome.next ((runCmd_passes h checked _).trans (goPoke_hold ..)), ?_⟩
    generalize s.begun o 0x0B02 (leBytes 4 0x280000 ++ [1, 0, 0, 0, 5, 6, 7, 8]) = w at k
    obtain ⟨⟨h1, h2, h3⟩, h4, h5⟩ := poked_hold w o a
    exact ⟨⟨h1.trans k.berths, h2.trans k.quays, h3.trans (k.same State.tugs fun _ _ _ _ _ _ => rfl)⟩, h4, fun h => (h5 h).trans (congrArg (Memory.read · a) k.mem)⟩
  · subst hp
    exact ⟨_, congrArg Host.Outcome.next (runCmd_fails h (view_misses rfl rfl rfl (viewError_odd _)) _), rfl⟩
  · subst hp
    have e := (begun_talks h).same debugLevel fun _ _ _ _ _ _ => rfl
    exact ⟨_, congrArg Host.Outcome.next (runCmd_fails h (view_denied rfl rfl rfl rfl (viewError_hold _)
      (Bool.or_eq_true_iff.mpr (.inl (decide_eq_true (e ▸ hd))))) _), rfl⟩
  · have hp : p = leBytes 4 (windowAddr b 0x20) ++ [1, 0, 0, 0, 5, 6, 7, 8] := hp.trans (congrArg (leBytes 4 · ++ _) (windowAddr_comm b 0x20))
    subst hp
    have k := begun_talks h
    have checked := pokeChecks_commit (k.service hb) ((k.same (reaches · b) fun _ _ _ _ _ _ => rfl).trans hr) ((k.same (hasTug · b) fun _ _ _ _ _ _ => rfl).trans ht)
    exact ⟨_, congrArg Host.Outcome.next (runCmd_fails h checked _), rfl⟩
end Sys2Proof.Machine

end
